-- ==== Sys2Proof/Word.lean ====
section
/-! DEFINITION. The word types of the LM9 model and its sparse tables. -/

namespace Sys2Proof

/-- A byte (R10). -/
abbrev Byte := BitVec 8
/-- A halfword. -/
abbrev Half := BitVec 16
/-- A 32-bit word: integer registers, control registers, device registers (R28, R31). -/
abbrev Word := BitVec 32
/-- A 64-bit word. -/
abbrev DWord := BitVec 64
/-- The width of a decimal register (R79). -/
abbrev QWord := BitVec 128
/-- A 5-bit integer register code (R31). -/
abbrev Reg := BitVec 5
/-- A decimal register number (R79). -/
abbrev DReg := BitVec 5
/-- A predicate number (R30). -/
abbrev Pred := BitVec 4
/-- The 22-bit payload of a LIMM syllable (R34). -/
abbrev Limm := BitVec 22

/-- A sparse table: (key, value) pairs with keys rising. -/
abbrev Tab (α : Type) := List (Nat × α)

end Sys2Proof
end

