-- ==== Sys2Proof/Syntax.lean ====
section
/-! DEFINITION. The commands the LM9 model takes: one constructor per row of spec/opcode_table.json. -/

namespace Sys2Proof

/-- A core number, C000 to C127 (R4). -/
abbrev CoreNo := BitVec 7
/-- A bay number (R184). -/
abbrev BayNo := BitVec 2
/-- A PCIe function: 0 the physical function, 1 to 63 the virtual ones (R279). -/
abbrev FnNo := BitVec 6

/-- Where a syllable runs: core and bay, its position in the bundle, and its guard (R30, R35). -/
structure Syl where
  core : CoreNo := 0
  bay : BayNo := 0
  pos : BitVec 3 := 0
  g : Pred := 0
  n : Bool := false
  deriving DecidableEq, Repr

/-- The control origins of Table 7.13 (R249). -/
inductive Origin where
  | host | firm | pupor
  deriving DecidableEq, Repr

/-- Who performs a register access: a bay at its current level, a host function, Pupor, or a writer without an origin (R249). -/
inductive Agent where
  | bay (core : CoreNo) (bay : BayNo)
  | host (fn : FnNo)
  | pupor
  | other
  deriving DecidableEq, Repr

/-- What went wrong outside while a descriptor moved its data (10, R321, R329): nothing, or the kind of fault met. -/
inductive DmaFault where
  | none
  | bus (kind : BitVec 4) (addr : DWord)
  deriving DecidableEq, Repr

/-- Where a bundle is fetched, and whether a register the bundle reads fails its check (R29, Table 6.11). -/
structure FetchAt where
  core : CoreNo := 0
  chk : Bool := false
  deriving DecidableEq, Repr

/-- The source register of an MTC to TLOCK, and whether a fabric error meets the walk of its lock (R238). -/
structure LockReg where
  reg : Reg := 0
  fab : Bool := false
  deriving DecidableEq, Repr

/-- Which bytes a register access names: the address of its first byte and how many there are (R280, R406). -/
structure RegAccess where
  addr : BitVec 28 := 0
  size : BitVec 4 := 4
  deriving DecidableEq, Repr

/-- One report of an event that reaches the recorder: its source, its kind and the DETAIL its log record would carry (R353, R361). -/
structure Report where
  source : BitVec 16 := 0
  kind : BitVec 8 := 0
  detail : List (BitVec 8) := []
  deriving DecidableEq, Repr

/-- What an event brings beside its source and kind: its log record's DETAIL, and the other reports of the same Pupor cycle (R355, R361). -/
structure EventData where
  bytes : List (BitVec 8) := []
  others : List Report := []
  deriving DecidableEq, Repr

/-- The commands: one constructor per row of the opcode table. -/
inductive Instr where
  /-- BUNDLE_FETCH, R29. -/
  | bundleFetch (core : FetchAt)
  /-- ADD, R46. -/
  | add (y : Syl) (d : Reg) (a : Reg) (b : Reg)
  /-- SUB, R46. -/
  | sub (y : Syl) (d : Reg) (a : Reg) (b : Reg)
  /-- ADDV, R46. -/
  | addv (y : Syl) (d : Reg) (a : Reg) (b : Reg)
  /-- SUBV, R46. -/
  | subv (y : Syl) (d : Reg) (a : Reg) (b : Reg)
  /-- AND, R46. -/
  | andd (y : Syl) (d : Reg) (a : Reg) (b : Reg)
  /-- OR, R46. -/
  | orr (y : Syl) (d : Reg) (a : Reg) (b : Reg)
  /-- XOR, R46. -/
  | xor (y : Syl) (d : Reg) (a : Reg) (b : Reg)
  /-- ANDN, R46. -/
  | andn (y : Syl) (d : Reg) (a : Reg) (b : Reg)
  /-- SHL, R48. -/
  | shl (y : Syl) (d : Reg) (a : Reg) (b : Reg)
  /-- SHR, R48. -/
  | shr (y : Syl) (d : Reg) (a : Reg) (b : Reg)
  /-- SAR, R48. -/
  | sar (y : Syl) (d : Reg) (a : Reg) (b : Reg)
  /-- ROL, R48. -/
  | rol (y : Syl) (d : Reg) (a : Reg) (b : Reg)
  /-- MIN, R46. -/
  | min (y : Syl) (d : Reg) (a : Reg) (b : Reg)
  /-- MAX, R46. -/
  | max (y : Syl) (d : Reg) (a : Reg) (b : Reg)
  /-- MINU, R46. -/
  | minu (y : Syl) (d : Reg) (a : Reg) (b : Reg)
  /-- MAXU, R46. -/
  | maxu (y : Syl) (d : Reg) (a : Reg) (b : Reg)
  /-- NEG, R55. -/
  | neg (y : Syl) (d : Reg) (a : Reg)
  /-- ABS, R55. -/
  | abs (y : Syl) (d : Reg) (a : Reg)
  /-- CLZ, R46. -/
  | clz (y : Syl) (d : Reg) (a : Reg)
  /-- POPC, R46. -/
  | popc (y : Syl) (d : Reg) (a : Reg)
  /-- SEXTB, R46. -/
  | sextb (y : Syl) (d : Reg) (a : Reg)
  /-- SEXTH, R46. -/
  | sexth (y : Syl) (d : Reg) (a : Reg)
  /-- ZEXTB, R46. -/
  | zextb (y : Syl) (d : Reg) (a : Reg)
  /-- ZEXTH, R46. -/
  | zexth (y : Syl) (d : Reg) (a : Reg)
  /-- BSWAP, R46. -/
  | bswap (y : Syl) (d : Reg) (a : Reg)
  /-- ADDI, R47. -/
  | addi (y : Syl) (d : Reg) (a : Reg) (imm : BitVec 10) (p : Option Limm)
  /-- ANDI, R47. -/
  | andi (y : Syl) (d : Reg) (a : Reg) (imm : BitVec 10) (p : Option Limm)
  /-- ORI, R47. -/
  | ori (y : Syl) (d : Reg) (a : Reg) (imm : BitVec 10) (p : Option Limm)
  /-- XORI, R47. -/
  | xori (y : Syl) (d : Reg) (a : Reg) (imm : BitVec 10) (p : Option Limm)
  /-- SHLI, R48. -/
  | shli (y : Syl) (d : Reg) (a : Reg) (count : BitVec 6)
  /-- SHRI, R48. -/
  | shri (y : Syl) (d : Reg) (a : Reg) (count : BitVec 6)
  /-- SARI, R48. -/
  | sari (y : Syl) (d : Reg) (a : Reg) (count : BitVec 6)
  /-- ROLI, R48. -/
  | roli (y : Syl) (d : Reg) (a : Reg) (count : BitVec 6)
  /-- CMP, R49. -/
  | cmp (y : Syl) (qt : Pred) (a : Reg) (b : Reg) (cond : BitVec 3) (mode : BitVec 2)
  /-- CMPI, R49. -/
  | cmpi (y : Syl) (qt : Pred) (a : Reg) (cond : BitVec 3) (mode : BitVec 2) (imm : BitVec 6) (p : Option Limm)
  /-- PAND, R50. -/
  | pand (y : Syl) (qd : Pred) (qa : Pred) (qb : Pred)
  /-- POR, R50. -/
  | por (y : Syl) (qd : Pred) (qa : Pred) (qb : Pred)
  /-- PXOR, R50. -/
  | pxor (y : Syl) (qd : Pred) (qa : Pred) (qb : Pred)
  /-- PANDN, R50. -/
  | pandn (y : Syl) (qd : Pred) (qa : Pred) (qb : Pred)
  /-- PNOT, R50. -/
  | pnot (y : Syl) (qd : Pred) (qa : Pred)
  /-- MOVS, R52. -/
  | movs (y : Syl) (r : Reg) (code : BitVec 5)
  /-- MOVF, R52. -/
  | movf (y : Syl) (r : Reg) (code : BitVec 5)
  /-- SEL, R51. -/
  | sel (y : Syl) (d : Reg) (a : Reg) (b : Reg) (qs : Pred)
  /-- LDB, R58. -/
  | ldb (y : Syl) (d : Reg) (a : Reg) (am : BitVec 2) (low : BitVec 8) (p : Option Limm)
  /-- LDBU, R58. -/
  | ldbu (y : Syl) (d : Reg) (a : Reg) (am : BitVec 2) (low : BitVec 8) (p : Option Limm)
  /-- LDH, R58. -/
  | ldh (y : Syl) (d : Reg) (a : Reg) (am : BitVec 2) (low : BitVec 8) (p : Option Limm)
  /-- LDHU, R58. -/
  | ldhu (y : Syl) (d : Reg) (a : Reg) (am : BitVec 2) (low : BitVec 8) (p : Option Limm)
  /-- LDW, R58. -/
  | ldw (y : Syl) (d : Reg) (a : Reg) (am : BitVec 2) (low : BitVec 8) (p : Option Limm)
  /-- STB, R58. -/
  | stb (y : Syl) (d : Reg) (a : Reg) (am : BitVec 2) (low : BitVec 8) (p : Option Limm)
  /-- STH, R58. -/
  | sth (y : Syl) (d : Reg) (a : Reg) (am : BitVec 2) (low : BitVec 8) (p : Option Limm)
  /-- STW, R58. -/
  | stw (y : Syl) (d : Reg) (a : Reg) (am : BitVec 2) (low : BitVec 8) (p : Option Limm)
  /-- SWAPW, R61. -/
  | swapw (y : Syl) (d : Reg) (a : Reg) (b : Reg)
  /-- CASW, R61. -/
  | casw (y : Syl) (d : Reg) (a : Reg) (b : Reg)
  /-- FADDW, R61. -/
  | faddw (y : Syl) (d : Reg) (a : Reg) (b : Reg)
  /-- FANDW, R61. -/
  | fandw (y : Syl) (d : Reg) (a : Reg) (b : Reg)
  /-- FORW, R61. -/
  | forw (y : Syl) (d : Reg) (a : Reg) (b : Reg)
  /-- MUL, R56. -/
  | mul (y : Syl) (d : Reg) (a : Reg) (b : Reg)
  /-- MULH, R56. -/
  | mulh (y : Syl) (d : Reg) (a : Reg) (b : Reg)
  /-- MULHU, R56. -/
  | mulhu (y : Syl) (d : Reg) (a : Reg) (b : Reg)
  /-- MULV, R56. -/
  | mulv (y : Syl) (d : Reg) (a : Reg) (b : Reg)
  /-- DIV, R57. -/
  | div (y : Syl) (d : Reg) (a : Reg) (b : Reg)
  /-- DIVU, R57. -/
  | divu (y : Syl) (d : Reg) (a : Reg) (b : Reg)
  /-- REM, R57. -/
  | rem (y : Syl) (d : Reg) (a : Reg) (b : Reg)
  /-- REMU, R57. -/
  | remu (y : Syl) (d : Reg) (a : Reg) (b : Reg)
  /-- BR, R62. -/
  | br (y : Syl) (disp : BitVec 20)
  /-- CALL, R62. -/
  | call (y : Syl) (disp : BitVec 19)
  /-- CALL_W, R62. -/
  | callW (y : Syl) (disp : BitVec 19)
  /-- BRI, R62. -/
  | bri (y : Syl) (a : Reg)
  /-- CALLI, R62. -/
  | calli (y : Syl) (a : Reg)
  /-- CALLI_W, R62. -/
  | calliW (y : Syl) (a : Reg)
  /-- RET, R62. -/
  | ret (y : Syl)
  /-- RET_W, R62. -/
  | retW (y : Syl)
  /-- RETL, R62. -/
  | retl (y : Syl)
  /-- DB, R66. -/
  | db (y : Syl) (c : Reg) (disp : BitVec 15)
  /-- DBLC, R66. -/
  | dblc (y : Syl) (disp : BitVec 20)
  /-- REP, R70. -/
  | rep (y : Syl) (cr : Reg) (i : Bool) (imm : BitVec 8)
  /-- MFC, R208. -/
  | mfc (y : Syl) (r : Reg) (cnum : BitVec 6)
  /-- MTC, R208. -/
  | mtc (y : Syl) (r : Reg) (cnum : BitVec 6)
  /-- MTC_STATUS, R205. -/
  | mtcStatus (y : Syl) (r : Reg)
  /-- MTC_TSBP, R195. -/
  | mtcTsbp (y : Syl) (r : Reg)
  /-- MTC_ASTB, R228. -/
  | mtcAstb (y : Syl) (r : Reg)
  /-- MTC_ASTAG, R228. -/
  | mtcAstag (y : Syl) (r : Reg) (m : Bool)
  /-- MTC_KMASK, R245. -/
  | mtcKmask (y : Syl) (r : Reg)
  /-- MTC_KPV, R246. -/
  | mtcKpv (y : Syl) (r : Reg)
  /-- MFC_KPV, R246. -/
  | mfcKpv (y : Syl) (r : Reg)
  /-- MTC_TLOCK, R238. -/
  | mtcTlock (y : Syl) (r : LockReg)
  /-- MTC_WINCTL, R187. -/
  | mtcWinctl (y : Syl) (r : Reg)
  /-- MTC_DECCTL, R86. -/
  | mtcDecctl (y : Syl) (r : Reg)
  /-- MFC_ETIME_L, R172. -/
  | mfcEtimeL (y : Syl) (r : Reg)
  /-- FENCE_S, R256. -/
  | fenceS (y : Syl)
  /-- SYNC_I, R259. -/
  | syncI (y : Syl)
  /-- IFLUSH, R259. -/
  | iflush (y : Syl) (a : Reg)
  /-- SYNC_T, R240. -/
  | syncT (y : Syl)
  /-- TLBI_VA, R239. -/
  | tlbiVa (y : Syl) (r : Reg) (a : Reg) (g : Bool)
  /-- TLBI_TAG, R239. -/
  | tlbiTag (y : Syl) (a : Reg) (g : Bool)
  /-- TLBI_ALL, R239. -/
  | tlbiAll (y : Syl) (g : Bool)
  /-- TLBI_ALLK, R239. -/
  | tlbiAllk (y : Syl) (g : Bool)
  /-- TLB_INVALIDATION_COMPLETE, R240. -/
  | tlbInvalidationComplete (core : CoreNo) (bay : BayNo) (target : CoreNo)
  /-- BRK, R74. -/
  | brk (y : Syl)
  /-- MISS_DATA_RETURN, R265. -/
  | missDataReturn (core : CoreNo) (bay : BayNo)
  /-- PAGE_WALK, R232. -/
  | pageWalk (core : CoreNo) (bay : BayNo) (fab : Bool)
  /-- STORE_BUFFER_DRAIN, R268. -/
  | storeBufferDrain (core : CoreNo) (fab : Bool)
  /-- DADD, R101. -/
  | dadd (y : Syl) (d : DReg) (a : DReg) (b : DReg)
  /-- DSUB, R101. -/
  | dsub (y : Syl) (d : DReg) (a : DReg) (b : DReg)
  /-- DMUL, R101. -/
  | dmul (y : Syl) (d : DReg) (a : DReg) (b : DReg)
  /-- DDIV, R101. -/
  | ddiv (y : Syl) (d : DReg) (a : DReg) (b : DReg)
  /-- DQUA, R101. -/
  | dqua (y : Syl) (d : DReg) (a : DReg) (b : DReg)
  /-- DRNI, R101. -/
  | drni (y : Syl) (d : DReg) (a : DReg)
  /-- DNEG, R101. -/
  | dneg (y : Syl) (d : DReg) (a : DReg)
  /-- DABS, R101. -/
  | dabs (y : Syl) (d : DReg) (a : DReg)
  /-- DCPS, R101. -/
  | dcps (y : Syl) (d : DReg) (a : DReg) (b : DReg)
  /-- DADD_X, R101. -/
  | daddX (y : Syl) (d : DReg) (a : DReg) (b : DReg)
  /-- DSUB_X, R101. -/
  | dsubX (y : Syl) (d : DReg) (a : DReg) (b : DReg)
  /-- DMUL_X, R105. -/
  | dmulX (y : Syl) (d : DReg) (a : DReg) (b : DReg)
  /-- DDIV_X, R101. -/
  | ddivX (y : Syl) (d : DReg) (a : DReg) (b : DReg)
  /-- DQUA_X, R101. -/
  | dquaX (y : Syl) (d : DReg) (a : DReg) (b : DReg)
  /-- DRNI_X, R101. -/
  | drniX (y : Syl) (d : DReg) (a : DReg)
  /-- DNEG_X, R101. -/
  | dnegX (y : Syl) (d : DReg) (a : DReg)
  /-- DABS_X, R101. -/
  | dabsX (y : Syl) (d : DReg) (a : DReg)
  /-- DCPS_X, R101. -/
  | dcpsX (y : Syl) (d : DReg) (a : DReg) (b : DReg)
  /-- CVT_X, R101. -/
  | cvtX (y : Syl) (d : DReg) (a : DReg)
  /-- CVT_D, R101. -/
  | cvtD (y : Syl) (d : DReg) (a : DReg)
  /-- CVID, R101. -/
  | cvid (y : Syl) (d : DReg) (a : Reg)
  /-- CVDI, R102. -/
  | cvdi (y : Syl) (d : Reg) (a : DReg)
  /-- CVPD, R101. -/
  | cvpd (y : Syl) (d : DReg) (a : DReg) (n : BitVec 5)
  /-- CVPX, R101. -/
  | cvpx (y : Syl) (d : DReg) (a : DReg) (n : BitVec 5)
  /-- CVDP, R102. -/
  | cvdp (y : Syl) (d : DReg) (a : DReg) (n : BitVec 5)
  /-- CVXP, R102. -/
  | cvxp (y : Syl) (d : DReg) (a : DReg) (n : BitVec 5)
  /-- PADD, R103. -/
  | padd (y : Syl) (d : DReg) (a : DReg) (b : DReg)
  /-- PSUB, R103. -/
  | psub (y : Syl) (d : DReg) (a : DReg) (b : DReg)
  /-- PSHL, R103. -/
  | pshl (y : Syl) (d : DReg) (a : DReg) (n : BitVec 5)
  /-- PSHR, R103. -/
  | pshr (y : Syl) (d : DReg) (a : DReg) (n : BitVec 5)
  /-- PCHK, R103. -/
  | pchk (y : Syl) (d : DReg) (a : DReg)
  /-- DCMP, R104. -/
  | dcmp (y : Syl) (qt : Pred) (s : Bool) (a : DReg) (b : DReg) (cond : BitVec 3) (w : Bool)
  /-- PCMP, R104. -/
  | pcmp (y : Syl) (qt : Pred) (a : DReg) (b : DReg) (cond : BitVec 3)
  /-- LDD, R106. -/
  | ldd (y : Syl) (d : DReg) (a : Reg) (disp : BitVec 6) (p : Option Limm)
  /-- LDD_X, R106. -/
  | lddX (y : Syl) (d : DReg) (a : Reg) (disp : BitVec 6) (p : Option Limm)
  /-- STD, R106. -/
  | std (y : Syl) (d : DReg) (a : Reg) (disp : BitVec 6) (p : Option Limm)
  /-- STD_X, R106. -/
  | stdX (y : Syl) (d : DReg) (a : Reg) (disp : BitVec 6) (p : Option Limm)
  /-- LDP, R106. -/
  | ldp (y : Syl) (d : DReg) (a : Reg) (len : BitVec 5)
  /-- STP, R107. -/
  | stp (y : Syl) (d : DReg) (a : Reg) (len : BitVec 5)
  /-- LDZ, R107. -/
  | ldz (y : Syl) (d : DReg) (a : Reg) (len : BitVec 5)
  /-- STZ, R107. -/
  | stz (y : Syl) (d : DReg) (a : Reg) (len : BitVec 5)
  /-- MACS_D, R110. -/
  | macsD (y : Syl) (k : DReg) (a : Reg) (b : Reg) (c : Reg)
  /-- MACU_D, R110. -/
  | macuD (y : Syl) (k : DReg) (a : Reg) (b : Reg) (c : Reg)
  /-- MACS_B, R110. -/
  | macsB (y : Syl) (k : DReg) (a : Reg) (b : Reg) (c : Reg)
  /-- MACU_B, R110. -/
  | macuB (y : Syl) (k : DReg) (a : Reg) (b : Reg) (c : Reg)
  /-- STREAM_ELEMENT, R111. -/
  | streamElement (core : CoreNo) (bay : BayNo)
  /-- MVS, R122. -/
  | mvs (y : Syl) (a : Reg)
  /-- TRS, R122. -/
  | trs (y : Syl) (a : Reg)
  /-- CMS, R122. -/
  | cms (y : Syl) (d : Reg) (a : Reg) (qt : Pred)
  /-- SCN, R122. -/
  | scn (y : Syl) (d : Reg) (a : Reg) (qt : Pred)
  /-- SCNE, R122. -/
  | scne (y : Syl) (d : Reg) (a : Reg) (qt : Pred)
  /-- EDIT, R126. -/
  | edit (y : Syl) (d : Reg) (a : Reg) (qt : Pred)
  /-- STRING_STEP, R129. -/
  | stringStep (core : CoreNo) (bay : BayNo) (chk : Bool)
  /-- EDIT_STEP, R125. -/
  | editStep (core : CoreNo) (bay : BayNo) (chk : Bool)
  /-- JAPP, R153. -/
  | japp (y : Syl) (d : Reg) (a : Reg) (b : Reg)
  /-- JWAIT, R155. -/
  | jwait (y : Syl) (a : Reg) (b : Reg)
  /-- JDUR, R152. -/
  | jdur (y : Syl) (d : Reg) (b : Reg)
  /-- JREL, R156. -/
  | jrel (y : Syl) (a : Reg) (b : Reg)
  /-- JOURNAL_QUEUE_SPACE, R158. -/
  | journalQueueSpace
  /-- RECORD_DURABLE, R159. -/
  | recordDurable (stream : BitVec 6)
  /-- JS_CTL_WRITE, R149. -/
  | jsCtlWrite (who : Agent) (stream : BitVec 6) (value : Word)
  /-- JS_CTL_REOPEN, R180. -/
  | jsCtlReopen (who : Agent) (stream : BitVec 6)
  /-- DIGEST_SEAL, R176. -/
  | digestSeal (stream : BitVec 6)
  /-- DIGEST_COMPARE, R178. -/
  | digestCompare (stream : BitVec 6) (bridge : Bool) (origin : BitVec 4)
  /-- DIGEST_WAIT_EXPIRY, R179. -/
  | digestWaitExpiry (stream : BitVec 6)
  /-- TICK_IN, R167. -/
  | tickIn (epochIn : Bool)
  /-- EPOCH_SOURCE_LOSS, R169. -/
  | epochSourceLoss (altLive : Bool)
  /-- EPCTL_WRITE, R171. -/
  | epctlWrite (who : Agent) (value : Word)
  /-- ES_CTL_WRITE, R174. -/
  | esCtlWrite (who : Agent) (slot : BitVec 8) (value : Word)
  /-- EVENT_SLOT_FIRE, R173. -/
  | eventSlotFire
  /-- POWER_FAIL, R164. -/
  | powerFail
  /-- POWER_FAIL_SEQUENCE_END, R164. -/
  | powerFailSequenceEnd
  /-- RECOVERY_SCAN_END, R166. -/
  | recoveryScanEnd
  /-- TEVICT, R196. -/
  | tevict (y : Syl) (bay : BayNo)
  /-- TEVICT_COMPLETE, R196. -/
  | tevictComplete (core : CoreNo) (bay : BayNo) (fab : Bool)
  /-- TLOAD, R198. -/
  | tload (y : Syl) (bay : BayNo) (a : Reg)
  /-- TLOAD_COMPLETE, R198. -/
  | tloadComplete (core : CoreNo) (bay : BayNo) (fab : Bool)
  /-- WAIT, R203. -/
  | waitt (y : Syl)
  /-- YIELD, R203. -/
  | yield (y : Syl)
  /-- SIGNAL, R204. -/
  | signal (y : Syl) (a : Reg) (imm : BitVec 8)
  /-- SCALL, R213. -/
  | scall (y : Syl) (n : BitVec 8)
  /-- FRET, R213. -/
  | fret (y : Syl)
  /-- GCALL, R214. -/
  | gcall (y : Syl) (n : BitVec 8)
  /-- GRET, R215. -/
  | gret (y : Syl)
  /-- SRET, R211. -/
  | sret (y : Syl)
  /-- MRET, R211. -/
  | mret (y : Syl)
  /-- EXCEPTION_ENTRY, R210. -/
  | exceptionEntry (core : CoreNo) (bay : BayNo) (fab : Bool)
  /-- WINDOW_SPILL, R189. -/
  | windowSpill (core : CoreNo) (bay : BayNo) (fab : Bool)
  /-- WINDOW_FILL, R189. -/
  | windowFill (core : CoreNo) (bay : BayNo) (fab : Bool)
  /-- SCHEDULER_SELECT, R199. -/
  | schedulerSelect (core : CoreNo)
  /-- PREEMPTION, R200. -/
  | preemption (core : CoreNo)
  /-- QUANTUM_EXPIRY, R200. -/
  | quantumExpiry (core : CoreNo)
  /-- AUTOMATIC_LOAD, R202. -/
  | automaticLoad (core : CoreNo)
  /-- MIRROR_STAGE, R250. -/
  | mirrorStage (who : Agent) (id : Word) (value : Word)
  /-- MCS_COUNTERSIGN, R252. -/
  | mcsCountersign (org : Origin) (slot : BitVec 4) (ticket : Half)
  /-- MCS_REJECT, R252. -/
  | mcsReject (org : Origin) (slot : BitVec 4) (ticket : Half)
  /-- MCS_GROUP_COUNTERSIGN, R252. -/
  | mcsGroupCountersign (org : Origin)
  /-- STAGE_EXPIRY, R251. -/
  | stageExpiry (slot : BitVec 4)
  /-- COMMITTED_VALUE_APPLIED, R253. -/
  | committedValueApplied
  /-- FACC_WRITE, R24. -/
  | faccWrite (fn : FnNo) (n : BitVec 2) (value : DWord)
  /-- FEAT_CTL_CLOSE, R25. -/
  | featCtlClose (fn : FnNo)
  /-- EPR_EL_READ, R282. -/
  | eprElRead (fn : FnNo)
  /-- MWIN_DATA_WRITE, R285. -/
  | mwinDataWrite (fn : FnNo) (value : Word)
  /-- VFQ_WRITE, R286. -/
  | vfqWrite (who : FnNo) (fn : FnNo) (cq : Bool) (value : Word)
  /-- VF_ENABLE, R286. -/
  | vfEnable (value : Bool)
  /-- QUEUE_REG_WRITE, R287. -/
  | queueRegWrite (fn : FnNo) (off : BitVec 16) (value : Word)
  /-- SQ_ENABLE, R288. -/
  | sqEnable (fn : FnNo) (q : BitVec 8)
  /-- SQ_DISABLE, R302. -/
  | sqDisable (fn : FnNo) (q : BitVec 8)
  /-- CQ_ENABLE, R288. -/
  | cqEnable (fn : FnNo) (q : BitVec 8)
  /-- CQ_DISABLE, R289. -/
  | cqDisable (fn : FnNo) (q : BitVec 8)
  /-- SQ_TAIL_DOORBELL, R293. -/
  | sqTailDoorbell (fn : FnNo) (q : BitVec 8) (value : Word)
  /-- CQ_HEAD_DOORBELL, R293. -/
  | cqHeadDoorbell (fn : FnNo) (q : BitVec 8) (value : Word)
  /-- SUBMISSION_FETCH, R295. -/
  | submissionFetch (entry : Option (List Byte))
  /-- POST, R296. -/
  | post (fn : FnNo) (q : BitVec 8)
  /-- MARK, R299. -/
  | mark (fn : FnNo) (q : BitVec 8)
  /-- MARK_COMPLETE, R299. -/
  | markComplete (fn : FnNo) (q : BitVec 8)
  /-- NOP, R291. -/
  | nop (fn : FnNo) (q : BitVec 8)
  /-- JSTAT, R291. -/
  | jstat (fn : FnNo) (q : BitVec 8)
  /-- QSTAT, R291. -/
  | qstat (fn : FnNo) (q : BitVec 8)
  /-- MSG, R291. -/
  | msg (fn : FnNo) (q : BitVec 8)
  /-- RREAD, R364. -/
  | rread (fn : FnNo) (q : BitVec 8)
  /-- RSNAP, R364. -/
  | rsnap (fn : FnNo) (q : BitVec 8)
  /-- RCLR, R364. -/
  | rclr (fn : FnNo) (q : BitVec 8)
  /-- IN_RING_CONFIG_WRITE, R415. -/
  | inRingConfigWrite (who : Agent) (ring : BitVec 7) (ctl : Bool) (value : Word)
  /-- IN_CPL_WRITE, R297. -/
  | inCplWrite (who : Agent) (ring : BitVec 7) (value : Word)
  /-- IN_HEAD_WRITE, R298. -/
  | inHeadWrite (who : Agent) (ring : BitVec 7) (value : Word)
  /-- CQ_MOD_TIMER_EXPIRY, R300. -/
  | cqModTimerExpiry (fn : FnNo) (q : BitVec 8)
  /-- FUNCTION_LEVEL_RESET_VF, R303. -/
  | functionLevelResetVf (fn : FnNo)
  /-- FUNCTION_LEVEL_RESET_PF, R304. -/
  | functionLevelResetPf
  /-- DMA_TAIL_DOORBELL, R308. -/
  | dmaTailDoorbell (who : Agent) (e : BitVec 2) (c : BitVec 4) (value : Word)
  /-- DMA_CHEAD_WRITE, R310. -/
  | dmaCheadWrite (who : Agent) (e : BitVec 2) (c : BitVec 4) (value : Word)
  /-- DMA_RING_CONFIG_WRITE, R311. -/
  | dmaRingConfigWrite (who : Agent) (e : BitVec 2) (c : BitVec 4) (off : BitVec 8) (value : Word)
  /-- DMA_CHANNEL_ENABLE, R326. -/
  | dmaChannelEnable (who : Agent) (e : BitVec 2) (c : BitVec 4)
  /-- DMA_STOP_REQUEST, R328. -/
  | dmaStopRequest (who : Agent) (e : BitVec 2) (c : BitVec 4)
  /-- CH_AUTH_WRITE, R306. -/
  | chAuthWrite (who : Agent) (e : BitVec 2) (c : BitVec 4) (value : Word)
  /-- CH_TRIG_WRITE, R325. -/
  | chTrigWrite (who : Agent) (e : BitVec 2) (c : BitVec 4) (value : Word)
  /-- CH_SHCTL_ARM, R326. -/
  | chShctlArm (who : Agent) (e : BitVec 2) (c : BitVec 4)
  /-- SHADOW_SWAP, R326, with the write of a shadow register or of ARM that the engine accepts in the same cycle, if there is one: who writes, the register's offset and the value (R327). -/
  | shadowSwap (e : BitVec 2) (c : BitVec 4) (late : Option (Agent × BitVec 8 × Word))
  /-- DESCRIPTOR_START, R325. -/
  | descriptorStart (e : BitVec 2)
  /-- DMA_NOP, R312. -/
  | dmaNop (e : BitVec 2) (c : BitVec 4) (hostData : List Byte) (fault : DmaFault)
  /-- COPY, R312. -/
  | copy (e : BitVec 2) (c : BitVec 4) (hostData : List Byte) (fault : DmaFault)
  /-- FILL, R312. -/
  | fill (e : BitVec 2) (c : BitVec 4) (hostData : List Byte) (fault : DmaFault)
  /-- CONVERT, R316. -/
  | convert (e : BitVec 2) (c : BitVec 4) (hostData : List Byte) (fault : DmaFault)
  /-- PRISM, R319. -/
  | prism (e : BitVec 2) (c : BitVec 4) (hostData : List Byte) (fault : DmaFault)
  /-- PRISMR, R319. -/
  | prismr (e : BitVec 2) (c : BitVec 4) (hostData : List Byte) (fault : DmaFault)
  /-- JEXPORT, R320. -/
  | jexport (e : BitVec 2) (c : BitVec 4) (hostData : List Byte) (fault : DmaFault)
  /-- DMA_COMPLETION_RECORD, R322. -/
  | dmaCompletionRecord (e : BitVec 2) (c : BitVec 4)
  /-- DMA_BUS_ERROR, R329. -/
  | dmaBusError (e : BitVec 2) (kind : BitVec 4) (addr : DWord)
  /-- DE_RESTART, R330. -/
  | deRestart (who : Agent) (e : BitVec 2)
  /-- PORT_ENABLE, R334. -/
  | portEnable (who : Agent) (port : BitVec 2)
  /-- LINK_TRAINING_COMPLETE, R334. -/
  | linkTrainingComplete (port : BitVec 2) (hello : List Byte)
  /-- LINK_RETRAIN, R335. -/
  | linkRetrain (port : BitVec 2)
  /-- POSTING, R340. -/
  | posting (port : BitVec 2) (frame : List Byte)
  /-- MARK_FRAME, R168. -/
  | markFrame (port : BitVec 2) (frame : List Byte)
  /-- DIGEST, R350. -/
  | digest (port : BitVec 2) (frame : List Byte)
  /-- ACK, R339. -/
  | ack (port : BitVec 2) (frame : List Byte)
  /-- NAK, R338. -/
  | nak (port : BitVec 2) (frame : List Byte)
  /-- HELLO, R346. -/
  | hello (port : BitVec 2) (frame : List Byte)
  /-- ACK_TIMER, R337. -/
  | ackTimer (port : BitVec 2)
  /-- XM_SEND, R348. -/
  | xmSend (who : Agent) (stream : BitVec 6) (addr : DWord)
  /-- HELD_POSTING_DELIVERY, R341. -/
  | heldPostingDelivery (port : BitVec 2)
  /-- MALF_WINDOW_END, R351. -/
  | malfWindowEnd
  /-- PORT_DRAIN, R352. -/
  | portDrain (who : Agent) (port : BitVec 2)
  /-- PORT_DRAINED, R352. -/
  | portDrained (port : BitVec 2)
  /-- EVENT_RECORDED, R354, with the other reports of its Pupor cycle. -/
  | eventRecorded (source : BitVec 16) (kind : BitVec 8) (detail : EventData)
  /-- RC_CTL_SNAP, R357. -/
  | rcCtlSnap (who : Agent)
  /-- SNAPSHOT_PERIOD_EXPIRY, R357. -/
  | snapshotPeriodExpiry
  /-- SNAPSHOT_WRITE_END, R357. -/
  | snapshotWriteEnd
  /-- MEASUREMENT_SAMPLE, R356. -/
  | measurementSample (ch : BitVec 5) (value : Word)
  /-- RC_CTL_WRITE, R366. -/
  | rcCtlWrite (who : Agent) (value : Word)
  /-- RECORDER_CLEAR, R365. -/
  | recorderClear (who : Agent) (value : Word)
  /-- RECORDER_CLEAR_END, R365. -/
  | recorderClearEnd
  /-- OPT_SAVE, R359. -/
  | optSave
  /-- RC_OPT_L_READ, R359. -/
  | rcOptLRead (who : Agent)
  /-- DRAIN, R380. -/
  | drain (who : Agent) (dom : BitVec 7)
  /-- DRAIN_COMPLETE, R380. -/
  | drainComplete (dom : BitVec 7)
  /-- DRAIN_TIMEOUT, R380. -/
  | drainTimeout (dom : BitVec 7)
  /-- CANCEL, R379. -/
  | cancel (who : Agent) (dom : BitVec 7)
  /-- TEST, R380. -/
  | test (who : Agent) (dom : BitVec 7)
  /-- SELF_TEST_END, R380. -/
  | selfTestEnd (dom : BitVec 7) (pass : Bool)
  /-- REPATCH, R381. -/
  | repatch (who : Agent) (dom : BitVec 7)
  /-- REPATCH_END, R381. -/
  | repatchEnd (dom : BitVec 7)
  /-- OFF, R379. -/
  | offf (who : Agent) (dom : BitVec 7)
  /-- ON, R379. -/
  | onn (who : Agent) (dom : BitVec 7)
  /-- POWER_ON_END, R382. -/
  | powerOnEnd (dom : BitVec 7)
  /-- RETURN, R380. -/
  | returnn (who : Agent) (dom : BitVec 7)
  /-- RETURN_END, R380. -/
  | returnEnd (dom : BitVec 7)
  /-- RECOVER, R383. -/
  | recover (who : Agent) (core : BitVec 7)
  /-- LOCKUP_AUTO_RECOVER, R383. -/
  | lockupAutoRecover (core : CoreNo)
  /-- POWER_ON_RESET, R372. -/
  | powerOnReset
  /-- DEVICE_RESET, R373. -/
  | deviceReset
  /-- STARTUP, R374. -/
  | startup
  /-- BOOT_DONE, R376. -/
  | bootDone
  /-- BOOT_TIMEOUT, R376. -/
  | bootTimeout
  /-- MEMIL_WRITE, R369. -/
  | memilWrite (who : Agent) (value : Word)
  /-- IMG_OPEN, R410. -/
  | imgOpen (who : Agent) (value : Word)
  /-- IMG_DATA_WRITE, R410. -/
  | imgDataWrite (who : Agent) (value : Word)
  /-- IMG_CLOSE, R378. -/
  | imgClose (who : Agent)
  /-- IMG_ABANDON, R410. -/
  | imgAbandon (who : Agent)
  /-- STATUS, R386. -/
  | status (tag : Byte) (args : List Byte)
  /-- RREC, R386. -/
  | rrec (tag : Byte) (args : List Byte)
  /-- PDREQ, R386. -/
  | pdreq (tag : Byte) (args : List Byte)
  /-- PDSTAT, R386. -/
  | pdstat (tag : Byte) (args : List Byte)
  /-- LKREC, R386. -/
  | lkrec (tag : Byte) (args : List Byte)
  /-- STAGE, R386. -/
  | stage (tag : Byte) (args : List Byte)
  /-- CSIGN, R386. -/
  | csign (tag : Byte) (args : List Byte)
  /-- RUNEXT, R386. -/
  | runext (tag : Byte) (args : List Byte)
  /-- IMGOPEN, R386. -/
  | imgopen (tag : Byte) (args : List Byte)
  /-- IMGDATA, R386. -/
  | imgdata (tag : Byte) (args : List Byte)
  /-- IMGCLOSE, R386. -/
  | imgclose (tag : Byte) (args : List Byte)
  /-- SMBUS_RCLR, R386. -/
  | smbusRclr (tag : Byte) (args : List Byte)
  /-- DEVRST, R386. -/
  | devrst (tag : Byte) (args : List Byte)
  /-- SMBUS_TIMEOUT, R400. -/
  | smbusTimeout
  /-- PUPOR_LD_IMM, R384. -/
  | puporLdImm (i : Byte)
  /-- PUPOR_LD_ABS, R384. -/
  | puporLdAbs (a : Half)
  /-- PUPOR_LD_J, R384. -/
  | puporLdJ (disp : Byte)
  /-- PUPOR_LD_K, R384. -/
  | puporLdK
  /-- PUPOR_ST_ABS, R384. -/
  | puporStAbs (a : Half)
  /-- PUPOR_ST_J, R384. -/
  | puporStJ (disp : Byte)
  /-- PUPOR_ST_K, R384. -/
  | puporStK
  /-- PUPOR_LDJ_IMM, R384. -/
  | puporLdjImm (a : Half)
  /-- PUPOR_LDK_IMM, R384. -/
  | puporLdkImm (a : Half)
  /-- PUPOR_LDJ_ABS, R384. -/
  | puporLdjAbs (a : Half)
  /-- PUPOR_STJ, R384. -/
  | puporStj (a : Half)
  /-- PUPOR_SWJK, R384. -/
  | puporSwjk
  /-- PUPOR_ADJ, R384. -/
  | puporAdj
  /-- PUPOR_MOV_CNT_ACC, R384. -/
  | puporMovCntAcc
  /-- PUPOR_MOV_ACC_CNT, R384. -/
  | puporMovAccCnt
  /-- PUPOR_ADD_IMM, R384. -/
  | puporAddImm (i : Byte)
  /-- PUPOR_ADD_ABS, R384. -/
  | puporAddAbs (a : Half)
  /-- PUPOR_ADDC, R384. -/
  | puporAddc (a : Half)
  /-- PUPOR_SUB_IMM, R384. -/
  | puporSubImm (i : Byte)
  /-- PUPOR_SUB_ABS, R384. -/
  | puporSubAbs (a : Half)
  /-- PUPOR_SUBC, R384. -/
  | puporSubc (a : Half)
  /-- PUPOR_AND, R384. -/
  | puporAnd (i : Byte)
  /-- PUPOR_IOR, R384. -/
  | puporIor (i : Byte)
  /-- PUPOR_XOR, R384. -/
  | puporXor (i : Byte)
  /-- PUPOR_CMP_IMM, R384. -/
  | puporCmpImm (i : Byte)
  /-- PUPOR_CMP_ABS, R384. -/
  | puporCmpAbs (a : Half)
  /-- PUPOR_SHL, R384. -/
  | puporShl
  /-- PUPOR_SHR, R384. -/
  | puporShr
  /-- PUPOR_INC, R384. -/
  | puporInc
  /-- PUPOR_DEC, R384. -/
  | puporDec
  /-- PUPOR_JMP, R384. -/
  | puporJmp (a : Half)
  /-- PUPOR_CALL, R384. -/
  | puporCall (a : Half)
  /-- PUPOR_RET, R384. -/
  | puporRet
  /-- PUPOR_JZ, R384. -/
  | puporJz (r : Byte)
  /-- PUPOR_JNZ, R384. -/
  | puporJnz (r : Byte)
  /-- PUPOR_JC, R384. -/
  | puporJc (r : Byte)
  /-- PUPOR_JNC, R384. -/
  | puporJnc (r : Byte)
  /-- PUPOR_JS, R384. -/
  | puporJs (r : Byte)
  /-- PUPOR_LOOP, R384. -/
  | puporLoop (r : Byte)
  /-- PUPOR_PUSH, R384. -/
  | puporPush
  /-- PUPOR_POP, R384. -/
  | puporPop
  /-- PUPOR_IN, R384. -/
  | puporIn (p : Byte)
  /-- PUPOR_OUT, R384. -/
  | puporOut (p : Byte)
  /-- PUPOR_DEVICE_READ, R385. -/
  | puporDeviceRead
  /-- PUPOR_DEVICE_WRITE, R385. -/
  | puporDeviceWrite
  /-- PUPOR_DEVICE_ACCESS_END, R385. -/
  | puporDeviceAccessEnd (err : Bool)
  /-- PUPOR_SYS_WAIT, R384. -/
  | puporSysWait (i : Byte)
  /-- PUPOR_SYS_WAIT_END, R384. -/
  | puporSysWaitEnd
  /-- PUPOR_IDLE, R384. -/
  | puporIdle
  /-- PUPOR_IDLE_WAKE, R384. -/
  | puporIdleWake
  /-- PUPOR_STOP, R384. -/
  | puporStop
  /-- PUPOR_NOP, R384. -/
  | puporNop
  /-- EXTENSION_INSTRUCTION_LIMIT, R385. -/
  | extensionInstructionLimit
  /-- THERMTRIP, R396. -/
  | thermtrip (sensor : BitVec 4) (value : Word)
  /-- RAIL_EXCURSION, R393. -/
  | railExcursion (rail : Byte)
  /-- VSET_STEP, R392. -/
  | vsetStep (up : Bool) (acked : Bool)
  /-- AVS_RETRY, R392. -/
  | avsRetry (acked : Bool)
  /-- REFCLK_LOSS, R401. -/
  | refclkLoss
  /-- DDR_REFRESH, R276. -/
  | ddrRefresh (ch : BitVec 4) (rank : BitVec 2)
  /-- DDR_ZQ_CALIBRATION, R276. -/
  | ddrZqCalibration (ch : BitVec 4)
  /-- DDR_PHY_TRACKING, R276. -/
  | ddrPhyTracking (ch : BitVec 4)
  /-- LOAM_SCRUB, R276. -/
  | loamScrub (bank : BitVec 3) (word : BitVec 21) (err : BitVec 2)
  /-- REGISTER_WRITE, R406. -/
  | registerWrite (who : Agent) (addr : RegAccess) (value : Word)
  /-- READ_CLEAR_REGISTER, R11. -/
  | readClearRegister (who : Agent) (addr : RegAccess)
  /-- VDD_AON_REMOVED, R370. -/
  | vddAonRemoved
  /-- LOG_RECORD_DURABLE, R360. -/
  | logRecordDurable
  /-- IMAGE_CLOSE_CHECKS_END, R378. -/
  | imageCloseChecksEnd
  /-- CORE_RELEASE, R374. -/
  | coreRelease
  /-- RESERVED_TYPE_FRAME, R338. -/
  | reservedTypeFrame (port : BitVec 2) (frame : List Byte)
  /-- PUPOR_RESERVED_OPCODE, R385. -/
  | puporReservedOpcode (op : Byte)
  /-- MAILBOX_BADREQ, R386. -/
  | mailboxBadreq (tag : Byte) (opcode : Byte)
  /-- MAILBOX_RESPONSE_READ, R386. -/
  | mailboxResponseRead
  /-- PD_REQ_MALFORMED, R379. -/
  | pdReqMalformed (who : Agent) (value : Word)
  /-- MSIX_UNMASK, R300. -/
  | msixUnmask (fn : FnNo) (vec : BitVec 7)
  deriving DecidableEq, Repr

end Sys2Proof
end

