-- ==== Sys2Proof/Decode.lean ====
section
/-! DEFINITION. The command a word spells by the bits of the opcode table: no row of it gives any (log entry 25). -/

namespace Sys2Proof

/-- spec/opcode_table.json gives no row bits or fields, so no word spells a command. -/
def decodeTableWord (_nbits _w : Nat) : Option Instr := none

end Sys2Proof
end

