-- ==== Sys2Proof/Config.lean ====
section
/-! DEFINITION. What an implementation of the LM9 fixes and the values its manual leaves open: opaque, so that a proof holds whatever they are. -/

namespace Sys2Proof

/-- A record of a microcode patch image (Table 4.12). -/
inductive PatchRec where
  /-- Kind 0x01, a dispatch override. -/
  | dispatch (index : BitVec 10) (entry : BitVec 16)
  /-- Kind 0x02, a patch RAM microword. -/
  | microword (index : BitVec 10) (word : BitVec 24)
  /-- Kind 0x03, a match entry. -/
  | matchRom (rom : BitVec 13) (index : BitVec 10)
  /-- Kind 0x04, a patch RAM nano-word. -/
  | nanoword (index : BitVec 7) (word : BitVec 160)
  /-- Kind 0x05, the patch level and the ROM revision required. -/
  | level (level : BitVec 16) (romrev : BitVec 8)
  deriving DecidableEq, Repr

end Sys2Proof

namespace Sys2Proof.Config

/-- Byte of undefined DDR contents, by generation (one per loss of contents) and address. DESIGN CHOICE, log entry 9. -/
opaque ddrByte : Nat → Nat → Byte
/-- Whether a read in a latency shadow returns the new value, by the free counter and the register (R40). Log entry 5. -/
opaque shadowNew : Nat → Nat → Bool
/-- Whether PWRGOOD is high at a DEVICE_RESET, by the free counter (R370, R373). Log entry 62. -/
opaque pwrgood : Nat → Bool
/-- How a DDR access is served, by the free counter and the line: 0 in L1, 1 in an L2, 2 from DDR (Table 8.2). Log entry 10. -/
opaque ddrPlace : Nat → Nat → Nat
/-- Whether an unlocked TLB or AST-cache entry is evicted when another is installed, by the free counter and its position (R237, R241). Log entry 15. -/
opaque tlbEvict : Nat → Nat → Bool
/-- Whether an instruction-cache line is evicted when another is filled, by the free counter and the line (R259). Log entry 15. -/
opaque lineEvict : Nat → Nat → Bool
/-- Whether a fetch between IFLUSH and SYNC.I still sees the old line, by the free counter and the line (R259). Log entry 15. -/
opaque fetchOld : Nat → Nat → Bool
/-- Whether an image's signature verifies under the Gartebex key (R377). Log entry 12. -/
opaque sigOk : List Byte → Bool
/-- Whether an image's body decrypts with a matching tag under the family key (R377). Log entry 12. -/
opaque tagOk : List Byte → Bool
/-- The patch image a device is shipped with, in bank A (R378). Log entry 12. -/
opaque shippedPatch : List Byte
/-- The firmware image a device is shipped with, in bank A (R378). Log entry 12. -/
opaque shippedFirmware : List Byte
/-- The plain body of an image (R377). Log entry 12. -/
opaque decryptBody : List Byte → List Byte
/-- The records of a patch image's plain body, whose byte layout the manual does not give (Table 4.12). Log entry 73. -/
opaque patchRecords : List Byte → List PatchRec
/-- The ROM default image of the dispatch table, by index (Table 4.8). Log entry 73. -/
opaque romDispatch : Nat → BitVec 16
/-- A fixed microword by its address, nano-word address below 0x400, CSEL and NEXT; and what a patch RAM word that no image loaded, or an address without a word, reads as (Table 4.8). Log entry 73. -/
opaque romMicro : Nat → BitVec 10 × BitVec 3 × BitVec 10
/-- A fixed nano-word by its address, and what a nano-word patch RAM word that no image loaded reads as (Table 4.8). Log entry 73. -/
opaque romNano : Nat → BitVec 160
/-- Whether a device store that has left the store buffer reaches its block before the next entry leaves, by the free counter (R268). Log entry 10. -/
opaque devFirst : Nat → Bool
/-- Which of several bays that never ran the scheduler takes first, and other ties the manual leaves, by the free counter. Log entry 16. -/
opaque tie : Nat → Nat

/-- The array number AUX holds for cause 0x15, which the manual does not map to arrays, by the address (Table 6.6). Log entry 17. -/
opaque arrayNo : Nat → Nat
/-- The bay, as 4 x core + bay, that an uncorrectable error not tied to a bundle is reported to, which the manual does not name, by the free counter (R221). Log entry 83. -/
opaque checkBay : Nat → Nat
/-- The detail of that asynchronous cause 0x15, which the manual does not state, by the free counter. Log entry 83. -/
opaque checkDetail : Nat → Nat
/-- Reason field of a data bus error, cause 0x14, which the manual does not state, by the address. Log entry 17. -/
opaque busDetail : Nat → Nat
/-- Where a store or an atomic to DDR, or a directory wait, makes a fence long: by the free counter (R270). Log entry 10. -/
opaque fenceLong : Nat → Bool
/-- Byte left at the destination of a descriptor that an engine stop cut off, by the free counter and the address (R329). Log entry 5. -/
opaque dmaByte : Nat → Nat → Byte
/-- The first failing array or lane of a failed self-test, by the free counter (PD_TRES.ELEM). Log entry 5. -/
opaque testElem : Nat → BitVec 16
/-- What training finds on a memory channel: DIMMs, speed code, GiB, by the free counter and the channel (R412). Log entry 9. -/
opaque dimms : Nat → Nat → Nat × Nat × Nat

/-- Contents of the Pupor ROM, which the manual does not give (R384). Log entry 24. -/
opaque romByte : Nat → Byte

end Sys2Proof.Config
end

