-- ==== Sys2Proof/Machine/Bits.lean ====
section
/-! DEFINITION. Bit fields, sign extension, byte order and the operations on sparse tables. -/

namespace Sys2Proof

/-- Bits `[hi:lo]` of a number. -/
def bits (x : Nat) (hi lo : Nat) : Nat := (x >>> lo) % 2 ^ (hi + 1 - lo)

/-- Bit `n` of a number, as a truth value. -/
def bit (x : Nat) (n : Nat) : Bool := x.testBit n

/-- 1 for true, 0 for false. -/
def b2n (b : Bool) : Nat := if b then 1 else 0

/-- Bits `[hi:lo]` of a number replaced by `v`. -/
def setBits (x : Nat) (hi lo v : Nat) : Nat :=
  let m := 2 ^ (hi + 1 - lo)
  (x >>> (hi + 1)) * 2 ^ (hi + 1) + (v % m) * 2 ^ lo + x % 2 ^ lo

/-- The value of the low `w` bits of `x` read as two's complement. -/
def sextI (w : Nat) (x : Nat) : Int :=
  let y := x % 2 ^ w
  if y < 2 ^ (w - 1) then (y : Int) else (y : Int) - (2 ^ w : Nat)

/-- The low `w` bits of `x` sign-extended to a 32-bit word. -/
def sextW (w : Nat) (x : Nat) : Word := BitVec.ofInt 32 (sextI w x)

/-- The little-endian bytes of `x`, `n` of them (R10). -/
def toLe : Nat → Nat → List Byte
  | 0, _ => []
  | n + 1, x => BitVec.ofNat 8 x :: toLe n (x / 256)

/-- The number a little-endian byte list holds (R10). -/
def fromLe : List Byte → Nat
  | [] => 0
  | b :: bs => b.toNat + 256 * fromLe bs

/-- The big-endian bytes of `x`, `n` of them. -/
def toBe (n x : Nat) : List Byte := (toLe n x).reverse

/-- The number a big-endian byte list holds. -/
def fromBe (bs : List Byte) : Nat := fromLe bs.reverse

/-- `n` little-endian bytes of a list at an offset, as a number; bytes past the end read 0. -/
def leAt (bs : List Byte) (off n : Nat) : Nat := fromLe ((bs.drop off).take n)

/-- The byte of a list at an offset; 0 past the end. -/
def byteAt (bs : List Byte) (off : Nat) : Byte := (bs[off]?).getD 0

/-- A list cut or padded with zero bytes to `n` bytes. -/
def padTo (n : Nat) (bs : List Byte) : List Byte := bs.take n ++ List.replicate (n - bs.length) 0

/-- A byte list with the bytes from `off` replaced. -/
def patch (bs : List Byte) (off : Nat) (new : List Byte) : List Byte :=
  bs.take off ++ new ++ bs.drop (off + new.length)

/-- The value a table holds at a key, if it lists one. -/
def Tab.find {α : Type} : Tab α → Nat → Option α
  | [], _ => none
  | (j, v) :: t, k => if j = k then some v else Tab.find t k

/-- The value a table holds at a key, or a default. -/
def Tab.get {α : Type} (t : Tab α) (k : Nat) (d : α) : α := (Tab.find t k).getD d

/-- The table with one key set; keys stay in rising order. -/
def Tab.set {α : Type} : Tab α → Nat → α → Tab α
  | [], k, v => [(k, v)]
  | (j, w) :: t, k, v =>
    if k < j then (k, v) :: (j, w) :: t
    else if k = j then (k, v) :: t
    else (j, w) :: Tab.set t k v

/-- The table without a key. -/
def Tab.erase {α : Type} (t : Tab α) (k : Nat) : Tab α := t.filter (fun e => e.1 != k)

/-- The position of the first element that satisfies `p`. -/
def findIdx {α : Type} (p : α → Bool) (l : List α) : Option Nat := l.findIdx? p

/-- The numbers `lo`, `lo+1`, … , `n` of them. -/
def rangeFrom (lo n : Nat) : List Nat := (List.range n).map (lo + ·)

/-- A wrapping counter of `w` bits plus `n`. -/
def addMod (w : Nat) (x n : Nat) : Nat := (x + n) % 2 ^ w

end Sys2Proof
end

