-- ==== Sys2Proof/Machine/Crc.lean ====
section
/-! DEFINITION. CRC-32C (R151) and SHA-256 (R175, FIPS 180-4). -/

namespace Sys2Proof

/-- One reflected CRC-32C bit step. -/
def crcBit (c : Nat) : Nat := if c % 2 = 1 then (c / 2) ^^^ 0x82F63B78 else c / 2

/-- CRC register after one byte. -/
def crcByte (c : Nat) (b : Byte) : Nat :=
  crcBit (crcBit (crcBit (crcBit (crcBit (crcBit (crcBit (crcBit (c ^^^ b.toNat))))))))

/-- CRC-32C: reflected, initial value and final exclusive OR of all ones (R151). -/
def crc32c (bs : List Byte) : Word := BitVec.ofNat 32 ((bs.foldl crcByte 0xFFFFFFFF) ^^^ 0xFFFFFFFF)

/-- The greatest `r` below `2^bits` with `r ^ k ≤ n`, one bit of `r` at a time from the top, above
the bits already found. -/
def rootBelow (k n : Nat) : Nat → Nat → Nat
  | 0, found => found
  | bits + 1, found =>
    rootBelow k n bits (if (found + 2 ^ bits) ^ k ≤ n then found + 2 ^ bits else found)

/-- The first 32 bits of the fractional part of the `k`-th root of `p`: where FIPS 180-4 takes the
constants of SHA-256 from (R175). -/
def rootFraction (k p : Nat) : Nat := rootBelow k (p * 2 ^ (32 * k)) 38 0 % 2 ^ 32

/-- The first 64 primes: what is below 312 and has no divisor from 2 to 17 but itself. -/
def shaPrimes : List Nat :=
  (List.range 312).filter (fun n => decide (2 ≤ n) && (List.range 18).all (fun d => decide (d < 2) || decide (n ≤ d) || decide (n % d ≠ 0)))

/-- The round constants of SHA-256: from the cube roots of the first 64 primes. -/
def shaKeys : List Nat := shaPrimes.map (rootFraction 3)

/-- The eight working words. -/
structure ShaState where
  a : Word
  b : Word
  c : Word
  d : Word
  e : Word
  f : Word
  g : Word
  h : Word
  deriving DecidableEq, Repr

/-- The working word that starts from the `n`-th prime's square root. -/
def shaStart (n : Nat) : Word := BitVec.ofNat 32 (rootFraction 2 (shaPrimes.getD n 0))

/-- The words SHA-256 starts from: from the square roots of the first eight primes. -/
def ShaState.init : ShaState :=
  { a := shaStart 0, b := shaStart 1, c := shaStart 2, d := shaStart 3,
    e := shaStart 4, f := shaStart 5, g := shaStart 6, h := shaStart 7 }

/-- One round with its constant and message word. -/
def shaRound (s : ShaState) (k w : Word) : ShaState :=
  let s1 := s.e.rotateRight 6 ^^^ s.e.rotateRight 11 ^^^ s.e.rotateRight 25
  let ch := (s.e &&& s.f) ^^^ (~~~ s.e &&& s.g)
  let t1 := s.h + s1 + ch + k + w
  let s0 := s.a.rotateRight 2 ^^^ s.a.rotateRight 13 ^^^ s.a.rotateRight 22
  let mj := (s.a &&& s.b) ^^^ (s.a &&& s.c) ^^^ (s.b &&& s.c)
  { a := t1 + (s0 + mj), b := s.a, c := s.b, d := s.c, e := s.d + t1, f := s.e, g := s.f, h := s.g }

/-- The rounds, over a sliding window of 16 message words. -/
def shaRounds : List Nat → List Word → ShaState → ShaState
  | [], _, s => s
  | k :: ks, w, s =>
    let w0 := w.headD 0
    let w1 := (w[1]?).getD 0
    let w9 := (w[9]?).getD 0
    let w14 := (w[14]?).getD 0
    let x := (w14.rotateRight 17 ^^^ w14.rotateRight 19 ^^^ (w14 >>> 10)) + w9 + (w1.rotateRight 7 ^^^ w1.rotateRight 18 ^^^ (w1 >>> 3)) + w0
    shaRounds ks (w.drop 1 ++ [x]) (shaRound s (BitVec.ofNat 32 k) w0)

/-- The 16 big-endian words of a block. -/
def shaWords (block : List Byte) : List Word :=
  (List.range 16).map (fun i => BitVec.ofNat 32 (fromBe ((block.drop (4 * i)).take 4)))

/-- One block. -/
def shaBlock (s : ShaState) (block : List Byte) : ShaState :=
  let t := shaRounds shaKeys (shaWords block) s
  { a := s.a + t.a, b := s.b + t.b, c := s.c + t.c, d := s.d + t.d, e := s.e + t.e, f := s.f + t.f, g := s.g + t.g, h := s.h + t.h }

/-- All blocks of a padded message, `n` of them at most. -/
def shaBlocks : Nat → List Byte → ShaState → ShaState
  | 0, _, s => s
  | n + 1, m, s => if m.isEmpty then s else shaBlocks n (m.drop 64) (shaBlock s (m.take 64))

/-- The padding of FIPS 180-4. -/
def shaPad (m : List Byte) : List Byte :=
  m ++ [0x80] ++ List.replicate ((119 - m.length % 64) % 64) 0 ++ toBe 8 (8 * m.length)

/-- SHA-256 of a message, 32 bytes. -/
def sha256 (m : List Byte) : List Byte :=
  let p := shaPad m
  let s := shaBlocks (p.length / 64) p ShaState.init
  toBe 4 s.a.toNat ++ toBe 4 s.b.toNat ++ toBe 4 s.c.toNat ++ toBe 4 s.d.toNat ++
  toBe 4 s.e.toNat ++ toBe 4 s.f.toNat ++ toBe 4 s.g.toNat ++ toBe 4 s.h.toNat

end Sys2Proof
end

