-- ==== Sys2Proof/Machine/State.lean ====
section
/-! DEFINITION. The state of the LM9: every register, queue, counter, mode and pin the spec gives it, as plain data.
Generated register by register from the spec; INVENTORY.md lists the same fields with their rules and reset values. -/

namespace Sys2Proof.Machine

/-- Why a step stops with a fault. No command of the LM9 does: an access the spec refuses is answered as the spec says. -/
inductive Fault where
  /-- Raised by no meaning: the type needs an inhabitant only so that a fault can be written down. Safe. -/
  | unused
  deriving DecidableEq, Repr

/-- Why a step refuses a command. -/
inductive Refusal where
  /-- A command whose arm of exec has no meaning yet, by its mnemonic. Safe: nothing can be proved of it. -/
  | notModelled (mnemonic : String)
  deriving DecidableEq, Repr

/-- A destination in flight, as the physical register named at issue (R185): integer registers are numbered
0-7 x0-x7, 8 + 16k + j register w(8 + j) of ring slot k, 168-175 the M bank's x0-x7, 176-199 its w0-w23. -/
inductive Dest where
  | none
  | ir (n : Nat)
  | d (n : Nat)
  | q (m : Bool) (n : Nat)
  | lc (m : Bool)
  | lk (m : Bool)
  | asr
  | decctl
  deriving DecidableEq, Repr

/-- The kind of an access, coded as detail [9:8] of R236. -/
inductive AccKind where
  | act | load | store | fetch
  deriving DecidableEq, Repr

/-- What a syllable does when its bundle takes effect, beside landing results, stores and branches. -/
inductive Act where
  | fence | syncI | syncT | tlbiVa | tlbiTag | tlbiAll | tlbiAllk | kpv | tlock
  | scall | gcall | sret | mret | fret | gret | wait | yield | signal | tevict | tload | etime
  deriving DecidableEq, Repr

/-- An effect of a syllable, applied when its whole bundle has executed without an exception (R37, R44). -/
inductive Eff where
  /-- A result that lands `lat` bundles later (R39). -/
  | land (dest : Dest) (val : Nat) (lat : Nat)
  /-- A store that enters the store buffer, with the free counter at its translation (R240, R268). -/
  | store (pa : Nat) (bytes : List Byte) (dev : Bool) (born : Nat)
  /-- An atomic operation: function code, B, D as read, destination (R61). -/
  | atomic (pa : Nat) (op : Nat) (b : Word) (cmp : Word) (dest : Dest)
  /-- A taken branch (R62). -/
  | goto (pc : Word)
  /-- A device-register load: offset, destination (R227). -/
  | devLoad (off : Nat) (dest : Dest)
  /-- A miss that freezes the bay or switches it out (R264). -/
  | miss (long : Bool)
  | rsPush (v : Word)
  | rsPop
  | advance
  | retreat
  /-- An MTC (R208). -/
  | mtc (cnum : Nat) (v : Word)
  | iflush (line : Option Nat)
  | japp (stream : Nat) (record : List Byte) (dest : Dest)
  | jrel (stream : Nat) (seq : Nat)
  | act (k : Act) (x y z : Nat)
  deriving DecidableEq, Repr

/-- The states a bay can be in (Table 6.2). -/
inductive BayState where
  | empty | ready | running | frozen | miss | waiting | moving | locked
  deriving DecidableEq, Repr

/-- What a bay that does not issue waits for. -/
inductive Wait where
  | none
  /-- The data of a miss (R265). -/
  | data
  /-- A page walk for an address (R232). -/
  | walk (va : Nat) (acc : AccKind) (form : Bool) (size : Nat)
  /-- An entry of the store buffer (R269), or the drain of entries an access must follow (R227). -/
  | storeBuffer
  /-- The spill and fill engine (R190). -/
  | window
  | fence
  | syncT
  | jwait (stream : Nat) (seq : Nat)
  | jqueue
  /-- WAIT: the address of the bundle that holds it (R196, R203). -/
  | event (pc : Nat)
  | tevict (bay : Nat)
  | tload (bay : Nat)
  /-- An eviction of this bay, asked for by a bay (R196). -/
  | evicting (asker : Nat)
  /-- A load of this bay from a block, asked for by a bay or by the task table's entry (R198, R202). -/
  | loading (asker : Option Nat) (block : Nat) (entry : Nat)
  deriving DecidableEq, Repr

/-- The microcoded and stream instructions. -/
inductive ProgKind where
  | mvs | trs | cms | scn | scne | edit | macsD | macuD | macsB | macuB
  deriving DecidableEq, Repr

/-- How far start-up has come (R374, R376). -/
inductive BootStage where
  | off | scanning | training | firmware | finished
  deriving DecidableEq, Repr

/-- What the device sends on PCIe: a memory write under a function's requester ID (R307), an MSI-X message, or the data of a register read (R278, R280, R300). -/
inductive PcieOut where
  | write (fn : Nat) (addr : Nat) (bytes : List Byte)
  | msix (fn : Nat) (vec : Nat) (addr : DWord) (data : Word)
  | rdata (fn : Nat) (v : Word)
  deriving DecidableEq, Repr

/-- A return stack: 16 entries, a 4-bit top pointer and the depth (R64). -/
structure RetStack where
  /-- RS entries (02_bundles_and_integer_instructions.md R64). -/
  ents : Tab Word := []
  /-- RS top pointer (02_bundles_and_integer_instructions.md R64). -/
  top : Nat := 0
  /-- RSCTL.DEPTH (02_bundles_and_integer_instructions.md R64). -/
  depth : Nat := 0
  deriving DecidableEq, Repr

/-- A gate frame (Table 6.8). -/
structure GateFrame where
  /-- gate frame return address (06_contexts_windows_and_exceptions.md R214). -/
  ret : Word := 0
  /-- gate frame KMASK (06_contexts_windows_and_exceptions.md R214). -/
  kmask : Word := 0
  /-- gate frame gate number (06_contexts_windows_and_exceptions.md R214). -/
  gate : Nat := 0
  /-- gate frame caller's PL (06_contexts_windows_and_exceptions.md R214). -/
  pl : Nat := 0
  deriving DecidableEq, Repr

/-- A result in flight (R39-R41): where it lands, its value, the producer latency and the bundles issued since. -/
structure Flight where
  /-- in-flight destination (02_bundles_and_integer_instructions.md R39). -/
  dest : Dest := .none
  /-- in-flight value (02_bundles_and_integer_instructions.md R39). -/
  val : QWord := 0
  /-- in-flight latency (02_bundles_and_integer_instructions.md R39). -/
  lat : Nat := 1
  /-- in-flight distance (02_bundles_and_integer_instructions.md R39). -/
  dist : Nat := 0
  deriving DecidableEq, Repr

/-- A synchronous exception that a step has decided and EXCEPTION_ENTRY has not yet taken (R212). -/
structure Exc where
  /-- pending exception cause (06_contexts_windows_and_exceptions.md R210). -/
  cause : Nat := 0
  /-- pending exception detail (02_bundles_and_integer_instructions.md R76). -/
  detail : Word := 0
  /-- pending exception FADDR (06_contexts_windows_and_exceptions.md R209). -/
  faddr : Word := 0
  /-- pending exception AUX (06_contexts_windows_and_exceptions.md R209). -/
  aux : Word := 0
  /-- pending exception EPC (06_contexts_windows_and_exceptions.md R209). -/
  pc : Word := 0
  /-- pending exception REPC (02_bundles_and_integer_instructions.md R72). -/
  repc : Word := 0
  deriving DecidableEq, Repr

/-- The bundle in issue: its address and length, the syllables still to execute, those executed, and the effects and exceptions they have shown (R37, R44, R77). -/
structure Bundle where
  /-- bundle address (02_bundles_and_integer_instructions.md R28). -/
  pc : Word := 0
  /-- bundle length (02_bundles_and_integer_instructions.md R28). -/
  len : Nat := 1
  /-- syllables not yet executed (02_bundles_and_integer_instructions.md R28). -/
  todo : List Instr := []
  /-- syllables accepted without a fetch (log entry 6) (log entry 6). -/
  free : Nat := 0
  /-- effects of the executed syllables (02_bundles_and_integer_instructions.md R37). -/
  effs : List Eff := []
  /-- exceptions met: position, exception (02_bundles_and_integer_instructions.md R77). -/
  excs : List (Nat × Exc) := []
  /-- iterations of the repeat left (02_bundles_and_integer_instructions.md R70). -/
  rep : Option Nat := none
  /-- every syllable of the bundle (02_bundles_and_integer_instructions.md R28). -/
  all : List Instr := []
  deriving DecidableEq, Repr

/-- A string descriptor as read (Table 4.2). -/
structure Desc where
  /-- SRC (04_string_edit_and_microcode.md R120). -/
  src : Word := 0
  /-- DST (04_string_edit_and_microcode.md R120). -/
  dst : Word := 0
  /-- LEN (04_string_edit_and_microcode.md R120). -/
  len : Word := 0
  /-- DLEN (04_string_edit_and_microcode.md R120). -/
  dlen : Word := 0
  /-- AUX (04_string_edit_and_microcode.md R120). -/
  aux : Word := 0
  /-- PARAM (04_string_edit_and_microcode.md R120). -/
  param : Word := 0
  deriving DecidableEq, Repr

/-- A string, edit or stream instruction under way inside its bundle (R123, R132, R110). -/
structure Prog where
  /-- operation under way (04_string_edit_and_microcode.md R118). -/
  kind : ProgKind := .mvs
  /-- its syllable (04_string_edit_and_microcode.md R118). -/
  syl : Syl := {}
  /-- D (or dK of a stream) (04_string_edit_and_microcode.md R118). -/
  rd : BitVec 5 := 0
  /-- A (04_string_edit_and_microcode.md R118). -/
  ra : BitVec 5 := 0
  /-- B of a stream (03_decimal_arithmetic.md R109). -/
  rb : BitVec 5 := 0
  /-- C of a stream (03_decimal_arithmetic.md R109). -/
  rc : BitVec 5 := 0
  /-- qT (04_string_edit_and_microcode.md R118). -/
  qt : BitVec 4 := 0
  /-- descriptor (04_string_edit_and_microcode.md R121). -/
  desc : Desc := {}
  /-- table load done (04_string_edit_and_microcode.md R129). -/
  tableRead : Bool := false
  /-- bytes left of a chunk that a wait holds; 0 at a step boundary (04_string_edit_and_microcode.md R129). -/
  left : Nat := 0
  /-- microword address the sequencer goes on from; none for a hardwired operation (04_string_edit_and_microcode.md R137). -/
  mwa : Option Nat := none
  deriving DecidableEq, Repr

/-- One bay: a complete task state and its M bank (R184, R191), and what the model keeps to sequence it. -/
structure Bay where
  /-- BAYSTATE of the bay (06_contexts_windows_and_exceptions.md R199). -/
  st : BayState := .empty
  /-- what a FROZEN, MISS or WAITING bay waits for (06_contexts_windows_and_exceptions.md R199). -/
  wait : Wait := .none
  /-- address of the next bundle (PC) (06_contexts_windows_and_exceptions.md R196). -/
  pc : Word := 0
  /-- integer registers: x1-x7, 10 window slots of 16, M-bank x1-x7 and w0-w23 (06_contexts_windows_and_exceptions.md R184). -/
  ir : Tab Word := []
  /-- q1-q15 (PREDS) (02_bundles_and_integer_instructions.md R38). -/
  q : BitVec 16 := 0
  /-- M-bank q1-q15 (06_contexts_windows_and_exceptions.md R191). -/
  mq : BitVec 16 := 0
  /-- LC (02_bundles_and_integer_instructions.md R52). -/
  lc : Word := 0
  /-- M-bank LC (06_contexts_windows_and_exceptions.md R191). -/
  mlc : Word := 0
  /-- LK (02_bundles_and_integer_instructions.md R52). -/
  lk : Word := 0
  /-- M-bank LK (06_contexts_windows_and_exceptions.md R191). -/
  mlk : Word := 0
  /-- RS (02_bundles_and_integer_instructions.md R64). -/
  rs : RetStack := {}
  /-- M-bank return stack (06_contexts_windows_and_exceptions.md R191). -/
  mrs : RetStack := {}
  /-- d0-d31 (03_decimal_arithmetic.md R79). -/
  d : Tab QWord := []
  /-- ASR (c12) (02_bundles_and_integer_instructions.md R53). -/
  asr : Word := 0
  /-- RSCTL.TRAP (c13) (02_bundles_and_integer_instructions.md R65). -/
  trap : Bool := false
  /-- REPC (c14) (02_bundles_and_integer_instructions.md R73). -/
  repc : Word := 0
  /-- DECCTL (c15) (03_decimal_arithmetic.md R84). -/
  decctl : Word := 0x00080000
  /-- SP_SRC (c16) (04_string_edit_and_microcode.md R128). -/
  spSrc : Word := 0
  /-- SP_DST (c17) (04_string_edit_and_microcode.md R128). -/
  spDst : Word := 0
  /-- SP_CNT (c18) (04_string_edit_and_microcode.md R128). -/
  spCnt : Word := 0
  /-- SP_STATE (c19) (04_string_edit_and_microcode.md R128). -/
  spState : Word := 0
  /-- STATUS (c0) (06_contexts_windows_and_exceptions.md R205). -/
  status : Word := 0
  /-- CAUSE, S bank (c1) (06_contexts_windows_and_exceptions.md R208). -/
  causeS : Word := 0
  /-- CAUSE, M bank (c1) (06_contexts_windows_and_exceptions.md R208). -/
  causeM : Word := 0
  /-- EPC, S bank (c2) (06_contexts_windows_and_exceptions.md R209). -/
  epcS : Word := 0
  /-- EPC, M bank (c2) (06_contexts_windows_and_exceptions.md R209). -/
  epcM : Word := 0
  /-- FADDR, S bank (c10) (06_contexts_windows_and_exceptions.md R209). -/
  faddrS : Word := 0
  /-- FADDR, M bank (c10) (06_contexts_windows_and_exceptions.md R209). -/
  faddrM : Word := 0
  /-- TSBP (c3) (06_contexts_windows_and_exceptions.md R195). -/
  tsbp : Word := 0
  /-- KMASK (c4) (07_translation_keys_and_ordering.md R245). -/
  kmask : Word := 0xFFFFFFFF
  /-- ASTAG (c5) (07_translation_keys_and_ordering.md R228). -/
  astag : Word := 0
  /-- DIRTY (c6) (06_contexts_windows_and_exceptions.md R193). -/
  dirty : Word := 0
  /-- WINCTL.SF (c7) (06_contexts_windows_and_exceptions.md R186). -/
  sf : Bool := false
  /-- WINCTL.MDEPTH (06_contexts_windows_and_exceptions.md R186). -/
  mdepth : Nat := 0
  /-- WINCTL.CAP (06_contexts_windows_and_exceptions.md R187). -/
  cap : Nat := 32
  /-- WINCTL.RES (06_contexts_windows_and_exceptions.md R186). -/
  res : Nat := 2
  /-- WINCTL.CWP (06_contexts_windows_and_exceptions.md R186). -/
  cwp : Nat := 1
  /-- reason the spill and fill engine stopped (Table 6.11) (06_contexts_windows_and_exceptions.md R210). -/
  sfWhy : Nat := 0
  /-- EVEC_S (c8) (06_contexts_windows_and_exceptions.md R206). -/
  evecS : Word := 0
  /-- LK_S (c11) (06_contexts_windows_and_exceptions.md R213). -/
  lkS : Word := 0
  /-- PEND (c24) (06_contexts_windows_and_exceptions.md R201). -/
  pend : Word := 0
  /-- pending-event details, one per PEND bit (06_contexts_windows_and_exceptions.md R201). -/
  pendDet : Tab (BitVec 16) := []
  /-- BAYCTL (c25) (06_contexts_windows_and_exceptions.md R200). -/
  bayctl : Word := 0
  /-- MROUTE_L (c27) (06_contexts_windows_and_exceptions.md R206). -/
  mrouteL : Word := 0x00204000
  /-- MROUTE_H (c28) (06_contexts_windows_and_exceptions.md R206). -/
  mrouteH : Word := 0
  /-- SSCRATCH (c29) (06_contexts_windows_and_exceptions.md R208). -/
  sscratch : Word := 0
  /-- MSCRATCH (c30) (06_contexts_windows_and_exceptions.md R208). -/
  mscratch : Word := 0
  /-- SE0-SE15 (c32-c47) (06_contexts_windows_and_exceptions.md R213). -/
  se : Tab Word := []
  /-- MASTAG (c49) (07_translation_keys_and_ordering.md R228). -/
  mastag : Word := 0
  /-- ETIME_H latch (c22) (05_strelsia_journal_and_epochs.md R172). -/
  etH : Word := 0
  /-- ETIME_T latch (c23) (05_strelsia_journal_and_epochs.md R172). -/
  etT : Word := 0
  /-- gate frames and GDEPTH, innermost last (06_contexts_windows_and_exceptions.md R214). -/
  gates : List GateFrame := []
  /-- results in flight, oldest first (02_bundles_and_integer_instructions.md R40). -/
  flight : List Flight := []
  /-- bundle in issue (02_bundles_and_integer_instructions.md R28). -/
  bundle : Option Bundle := none
  /-- string, edit or stream instruction under way (04_string_edit_and_microcode.md R132). -/
  prog : Option Prog := none
  /-- synchronous exception decided, entry not yet made (06_contexts_windows_and_exceptions.md R212). -/
  exc : Option Exc := none
  /-- next bundle is the first after an exception return (02_bundles_and_integer_instructions.md R73). -/
  afterRet : Bool := false
  /-- bundles since the last divide-class syllable (02_bundles_and_integer_instructions.md R45). -/
  sinceDiv : Option Nat := none
  /-- bundles since the last decimal divide, and its latency (03_decimal_arithmetic.md R105). -/
  sinceDdiv : Option (Nat × Nat) := none
  /-- bundles since the last DMUL.X (03_decimal_arithmetic.md R105). -/
  sinceDmulx : Option Nat := none
  /-- bundles issued since selection (quantum) (06_contexts_windows_and_exceptions.md R200). -/
  issued : Nat := 0
  /-- order of last selection (06_contexts_windows_and_exceptions.md R199). -/
  lastRun : Nat := 0
  /-- fault a page walk has met, for the access that asked: address, cause, reason (07_translation_keys_and_ordering.md R232). -/
  walkFault : Option (Nat × Nat × Nat) := none
  /-- the data of a miss is still to come for a bay that also waits for something else (08_execution_timing.md R265). -/
  dataDue : Bool := false
  /-- state and wait a bay being evicted had, kept for an eviction that fails (06_contexts_windows_and_exceptions.md R196). -/
  held : Option (BayState × Wait) := none
  deriving DecidableEq, Repr

/-- A translation (R237). -/
structure TlbE where
  /-- TLB entry tag (07_translation_keys_and_ordering.md R237). -/
  tag : Nat := 0
  /-- TLB entry virtual page base (07_translation_keys_and_ordering.md R237). -/
  va : Nat := 0
  /-- TLB entry page size (07_translation_keys_and_ordering.md R237). -/
  size : Nat := 4096
  /-- TLB entry physical base (07_translation_keys_and_ordering.md R237). -/
  pa : Nat := 0
  /-- TLB entry UC,SZ,D,A,G,U,X,W,R,V (07_translation_keys_and_ordering.md R237). -/
  perm : BitVec 11 := 0
  /-- address of the entry the walk read (07_translation_keys_and_ordering.md R233). -/
  pte : Nat := 0
  deriving DecidableEq, Repr

/-- A store-buffer entry (R268). -/
structure SbE where
  /-- store-buffer entry bay (08_execution_timing.md R268). -/
  bay : Nat := 0
  /-- store-buffer entry address (08_execution_timing.md R268). -/
  pa : Nat := 0
  /-- store-buffer entry bytes (08_execution_timing.md R268). -/
  data : List Byte := []
  /-- store-buffer entry is a device-register store (08_execution_timing.md R268). -/
  dev : Bool := false
  /-- level that issued it (07_translation_keys_and_ordering.md R226). -/
  lvl : Nat := 0
  /-- the free counter when it was translated (log entry 5) (07_translation_keys_and_ordering.md R240). -/
  born : Nat := 0
  deriving DecidableEq, Repr

/-- One core: four bays and what they share (R184, R237, R268). -/
structure Core where
  /-- bays 0-3 (06_contexts_windows_and_exceptions.md R184). -/
  bays : Tab Bay := []
  /-- core released to fetch (13_power_reset_boot_and_repair.md R374). -/
  up : Bool := false
  /-- SCHCTL (06_contexts_windows_and_exceptions.md R200). -/
  schctl : Word := 0
  /-- TTBP (06_contexts_windows_and_exceptions.md R202). -/
  ttbp : Word := 0
  /-- EVDROP (06_contexts_windows_and_exceptions.md R204). -/
  evdrop : Word := 0
  /-- RSTWHY (13_power_reset_boot_and_repair.md R375). -/
  rstwhy : Word := 0
  /-- MCREV.LEVEL (c20) (04_string_edit_and_microcode.md R143). -/
  patchLevel : BitVec 16 := 0
  /-- MCREV.PV (04_string_edit_and_microcode.md R143). -/
  patchPv : Bool := false
  /-- dispatch table: entries that differ from the ROM default image (04_string_edit_and_microcode.md R141, Table 4.8). -/
  disp : Tab (BitVec 16) := []
  /-- microword patch RAM, by index 0-1023 (04_string_edit_and_microcode.md R138, Table 4.8). -/
  patchRam : Tab (BitVec 24) := []
  /-- enabled match entries: ROM microword address, patch RAM index (04_string_edit_and_microcode.md R138, Table 4.8). -/
  matches_ : List (Nat × Nat) := []
  /-- nano-word patch RAM, by index 0-127 (04_string_edit_and_microcode.md R137, Table 4.8). -/
  nanoRam : Tab (BitVec 160) := []
  /-- ASTB (c48) (07_translation_keys_and_ordering.md R228). -/
  astb : Word := 0
  /-- TLOCK (c50) (07_translation_keys_and_ordering.md R238). -/
  tlock : Word := 0
  /-- KPA (c51) (07_translation_keys_and_ordering.md R246). -/
  kpa : Word := 0
  /-- ITLB entries that are not locked (07_translation_keys_and_ordering.md R237). -/
  itlb : List TlbE := []
  /-- DTLB entries that are not locked (07_translation_keys_and_ordering.md R237). -/
  dtlb : List TlbE := []
  /-- second-level TLB (07_translation_keys_and_ordering.md R237). -/
  tlb2 : List TlbE := []
  /-- DTLB lockable entries 0-7 that are locked (07_translation_keys_and_ordering.md R238). -/
  lockD : Tab (Option TlbE) := []
  /-- ITLB lockable entries 0-7 that are locked (07_translation_keys_and_ordering.md R238). -/
  lockI : Tab (Option TlbE) := []
  /-- AST cache (07_translation_keys_and_ordering.md R237). -/
  ast : List (Nat × DWord) := []
  /-- L1 instruction cache: 32-byte blocks by number (07_translation_keys_and_ordering.md R259). -/
  icache : List (Nat × List Byte) := []
  /-- blocks flushed by a bay whose SYNC.I has not come: bay, block (07_translation_keys_and_ordering.md R259). -/
  iflushed : List (Nat × Nat) := []
  /-- store buffer, oldest first (08_execution_timing.md R268). -/
  sb : List SbE := []
  /-- device-register stores that have left the store buffer and not yet reached their block, oldest first (08_execution_timing.md R268). -/
  devOut : List SbE := []
  /-- invalidations not complete: bay, target core, the free counter at the invalidation (07_translation_keys_and_ordering.md R240). -/
  invs : List (Nat × Nat × Nat) := []
  /-- OPT of the lockups of this core within the last second (13_power_reset_boot_and_repair.md R383). -/
  locks : List Nat := []
  /-- selection order counter (06_contexts_windows_and_exceptions.md R199). -/
  tick : Nat := 0
  deriving DecidableEq, Repr

/-- A segment in a stream chain (R413). -/
structure Seg where
  /-- segment index (05_strelsia_journal_and_epochs.md R162). -/
  idx : Nat := 0
  /-- segment SERIAL (05_strelsia_journal_and_epochs.md R413). -/
  serial : DWord := 0
  /-- segment FIRST JSEQ (05_strelsia_journal_and_epochs.md R413). -/
  first : DWord := 0
  /-- record slots filled (05_strelsia_journal_and_epochs.md R156). -/
  used : Nat := 0
  deriving DecidableEq, Repr

/-- A record accepted and not yet durable (R158). -/
structure QRec where
  /-- queued record stream (05_strelsia_journal_and_epochs.md R158). -/
  stream : Nat := 0
  /-- queued record JSEQ (05_strelsia_journal_and_epochs.md R158). -/
  jseq : DWord := 0
  /-- queued record slot address (05_strelsia_journal_and_epochs.md R158). -/
  addr : Nat := 0
  /-- queued record bytes (05_strelsia_journal_and_epochs.md R158). -/
  data : List Byte := []
  /-- segment header the record needs (05_strelsia_journal_and_epochs.md R413). -/
  hdr : List Byte := []
  /-- appending core and bay (4 x core + bay) (05_strelsia_journal_and_epochs.md R159). -/
  site : Nat := 0
  deriving DecidableEq, Repr

/-- A digest waiting to be sealed, or sealed and awaiting partners (R176, R178). -/
structure Seal where
  /-- seal epoch (05_strelsia_journal_and_epochs.md R176). -/
  epoch : Nat := 0
  /-- close kind (05_strelsia_journal_and_epochs.md R175). -/
  close : Nat := 1
  /-- record count (05_strelsia_journal_and_epochs.md R175). -/
  count : Nat := 0
  /-- digest message before the trailer (05_strelsia_journal_and_epochs.md R175). -/
  msg : List Byte := []
  /-- sealed digest (05_strelsia_journal_and_epochs.md R176). -/
  digest : List Byte := []
  /-- sealing has finished (05_strelsia_journal_and_epochs.md R176). -/
  done : Bool := false
  /-- ring members still awaited (SMAP DMASK at the seal) (05_strelsia_journal_and_epochs.md R178). -/
  wantA : BitVec 16 := 0
  /-- bridge members still awaited (SMAPB DMASK) (05_strelsia_journal_and_epochs.md R178). -/
  wantB : BitVec 16 := 0
  /-- SMAP DMASK at the seal (05_strelsia_journal_and_epochs.md R178). -/
  maskA : BitVec 16 := 0
  /-- SMAPB DMASK at the seal (05_strelsia_journal_and_epochs.md R178). -/
  maskB : BitVec 16 := 0
  /-- counter updates left of the digest wait (05_strelsia_journal_and_epochs.md R179). -/
  left : Nat := 0
  deriving DecidableEq, Repr

/-- A partner digest held for comparison (R178). -/
structure PDig where
  /-- held digest epoch (05_strelsia_journal_and_epochs.md R178). -/
  epoch : Nat := 0
  /-- held digest came on the bridge ring (11_derrik_links.md R350). -/
  bridge : Bool := false
  /-- held digest origin (11_derrik_links.md R350). -/
  origin : Nat := 0
  /-- held digest close kind (05_strelsia_journal_and_epochs.md R178). -/
  close : Nat := 0
  /-- held digest record count (05_strelsia_journal_and_epochs.md R178). -/
  count : Nat := 0
  /-- held digest (05_strelsia_journal_and_epochs.md R178). -/
  digest : List Byte := []
  deriving DecidableEq, Repr

/-- One journal stream (R148-R152, R176). -/
structure Stream where
  /-- JS_CTL.EN (05_strelsia_journal_and_epochs.md R149). -/
  en : Bool := false
  /-- JS_CTL.QUOTA (05_strelsia_journal_and_epochs.md R149). -/
  quota : Nat := 15
  /-- JS_CTL.LOW (05_strelsia_journal_and_epochs.md R149). -/
  low : Nat := 2
  /-- QUOTA or LOW was written while the stream was disabled and takes effect at the next enabling write (01_ledger_processor_at_a_glance.md R23). -/
  wrote : Bool := false
  /-- STATE recovering (05_strelsia_journal_and_epochs.md R166). -/
  recovering : Bool := true
  /-- STATE stopped (05_strelsia_journal_and_epochs.md R179). -/
  stopped : Bool := false
  /-- JS_STAT.WHY (05_strelsia_journal_and_epochs.md R180). -/
  why : Nat := 0
  /-- JS_STAT.LOWS (05_strelsia_journal_and_epochs.md R414). -/
  lows : Bool := false
  /-- segment chain, oldest first (05_strelsia_journal_and_epochs.md R162). -/
  segs : List Seg := []
  /-- last segment SERIAL (05_strelsia_journal_and_epochs.md R413). -/
  serial : DWord := 0
  /-- next JSEQ (05_strelsia_journal_and_epochs.md R151). -/
  next : DWord := 1
  /-- JS_DUR (05_strelsia_journal_and_epochs.md R152). -/
  dur : DWord := 0
  /-- JS_REL (05_strelsia_journal_and_epochs.md R156). -/
  rel : DWord := 0
  /-- last stamp (epoch, seq): JS_LAST (05_strelsia_journal_and_epochs.md R153). -/
  last : Option (Nat × Nat) := none
  /-- stamp of the last durable record (continuation record) (05_strelsia_journal_and_epochs.md R166). -/
  lastDur : Option (Nat × Nat) := none
  /-- JS_DIG0-7 (05_strelsia_journal_and_epochs.md R176). -/
  dig : List Byte := []
  /-- JS_DEP (05_strelsia_journal_and_epochs.md R176). -/
  dep : Nat := 0
  /-- epoch whose digest is open (05_strelsia_journal_and_epochs.md R176). -/
  open_ : Option Nat := none
  /-- digest message of the open epoch (05_strelsia_journal_and_epochs.md R175). -/
  dmsg : List Byte := []
  /-- records in the open epoch (05_strelsia_journal_and_epochs.md R175). -/
  dcount : Nat := 0
  /-- digests waiting to be sealed or compared (05_strelsia_journal_and_epochs.md R178). -/
  seals : List Seal := []
  /-- partner digests held (05_strelsia_journal_and_epochs.md R178). -/
  held : List PDig := []
  /-- latest epoch sealed (05_strelsia_journal_and_epochs.md R178). -/
  lastSealed : Option Nat := none
  deriving DecidableEq, Repr

/-- The Strelsia journal (R146-R163). -/
structure Journal where
  /-- streams 0-63 (05_strelsia_journal_and_epochs.md R148). -/
  streams : Tab Stream := []
  /-- journal write queue, oldest first (05_strelsia_journal_and_epochs.md R158). -/
  queue : List QRec := []
  /-- appends held for queue space, oldest first (05_strelsia_journal_and_epochs.md R158). -/
  heldq : List QRec := []
  /-- segment allocation counts (05_strelsia_journal_and_epochs.md R162). -/
  alloc : Tab Nat := []
  /-- segments that belong to a stream (05_strelsia_journal_and_epochs.md R162). -/
  used : Tab Bool := []
  /-- most recently allocated segment (05_strelsia_journal_and_epochs.md R162). -/
  lastAlloc : Nat := 1011
  /-- JWEAR_BYTES (05_strelsia_journal_and_epochs.md R163). -/
  wear : DWord := 0
  /-- recovery scan running (05_strelsia_journal_and_epochs.md R166). -/
  scanning : Bool := false
  deriving DecidableEq, Repr

/-- A comparator slot (R173). -/
structure EvSlot where
  /-- ES_EPL, ES_EPH (05_strelsia_journal_and_epochs.md R173). -/
  epoch : Nat := 0
  /-- ES_TK (05_strelsia_journal_and_epochs.md R173). -/
  tick : Nat := 0
  /-- ES_CTL (05_strelsia_journal_and_epochs.md R174). -/
  ctl : Word := 0
  deriving DecidableEq, Repr

/-- The epoch block (R167-R174). -/
structure Epoch where
  /-- EPCTL (05_strelsia_journal_and_epochs.md R171). -/
  ctl : Word := 0x0E010000
  /-- EPCTL ALT, XCHK, FWD written and waiting for the next counter update (05_strelsia_journal_and_epochs.md R171). -/
  nxt : Word := 0x0E010000
  /-- EPSTAT (05_strelsia_journal_and_epochs.md R169). -/
  stat : Word := 0x70000000
  /-- EPLOAD_L, EPLOAD_H (05_strelsia_journal_and_epochs.md R171). -/
  load : Nat := 0
  /-- EPNOTE (05_strelsia_journal_and_epochs.md R171). -/
  note : Word := 0
  /-- EPLOSS (05_strelsia_journal_and_epochs.md R169). -/
  loss : Word := 10000
  /-- EPBADMARK (05_strelsia_journal_and_epochs.md R168). -/
  bad : Word := 0
  /-- epoch counter (05_strelsia_journal_and_epochs.md R167). -/
  epoch : Nat := 0
  /-- tick counter (05_strelsia_journal_and_epochs.md R167). -/
  tick : Nat := 0
  /-- last sample of EPOCH_IN (05_strelsia_journal_and_epochs.md R167). -/
  prevIn : Bool := false
  /-- counter updates so far (05_strelsia_journal_and_epochs.md R179). -/
  updates : Nat := 0
  /-- comparator slots 0-255 (05_strelsia_journal_and_epochs.md R173). -/
  slots : Tab EvSlot := []
  /-- slots that have reached their target and not yet fired (05_strelsia_journal_and_epochs.md R173). -/
  due : List Nat := []
  /-- digest waits run out and not yet ended: stream, epoch (05_strelsia_journal_and_epochs.md R179). -/
  waits : List (Nat × Nat) := []
  deriving DecidableEq, Repr

/-- A staging slot (Table 7.14). -/
structure StageSlot where
  /-- MS_CTL.STATE (07_translation_keys_and_ordering.md R250). -/
  st : Nat := 0
  /-- MS_ID (07_translation_keys_and_ordering.md R250). -/
  id : Word := 0
  /-- MS_VAL (07_translation_keys_and_ordering.md R250). -/
  val : Word := 0
  /-- MS_CTL.ORG (07_translation_keys_and_ordering.md R250). -/
  org : Nat := 0
  /-- MS_CTL.TICKET (07_translation_keys_and_ordering.md R250). -/
  ticket : Nat := 0
  /-- MS_AGE (07_translation_keys_and_ordering.md R251). -/
  age : Nat := 0
  /-- MTIMEOUT as it stood at the stage (07_translation_keys_and_ordering.md R251). -/
  limit : Nat := 1000
  deriving DecidableEq, Repr

/-- The countersign bank of one origin (Table 7.15). -/
structure OrgBank where
  /-- MCS_VAL (07_translation_keys_and_ordering.md R252). -/
  val : Word := 0
  /-- MCS_MASK (07_translation_keys_and_ordering.md R252). -/
  mask : BitVec 16 := 0
  /-- MCS_RES (07_translation_keys_and_ordering.md R252). -/
  res : Nat := 0
  /-- MLAST (07_translation_keys_and_ordering.md R250). -/
  last : Word := 0
  deriving DecidableEq, Repr

/-- The protection block and the Mirror values (R242-R254). -/
structure Mirror where
  /-- MCTL.ARMED (07_translation_keys_and_ordering.md R254). -/
  armed : Bool := false
  /-- MSUM.NEW (07_translation_keys_and_ordering.md R251). -/
  new : Bool := false
  /-- MSUM.EXP (07_translation_keys_and_ordering.md R251). -/
  exp : Bool := false
  /-- MSUM.FULL (07_translation_keys_and_ordering.md R251). -/
  full : Bool := false
  /-- MREFUSE (07_translation_keys_and_ordering.md R249). -/
  refuse : Word := 0
  /-- committed values of the Mirror registers, by MS_ID: MTIMEOUT, CPOL, KTCTL, KTLIM, PATCHEN, the 2,048 gate words, EVEC_M of each bay (c9), JOWN of each stream, RG_CFG, SMAP, SMAPB (07_translation_keys_and_ordering.md R248). -/
  vals : Tab Word := []
  /-- the same Mirror registers as in force (EVEC_M: 0x0004_0000 + ENTRY set by start-up) (07_translation_keys_and_ordering.md R253). -/
  regs : Tab Word := []
  /-- locations whose committed value has not reached its register (07_translation_keys_and_ordering.md R253). -/
  applyQ : List Word := []
  /-- staging slots 0-15 (07_translation_keys_and_ordering.md R250). -/
  slots : Tab StageSlot := []
  /-- ticket counter (07_translation_keys_and_ordering.md R250). -/
  ticket : Nat := 0
  /-- countersign banks of HOST, FIRM, PUPOR (07_translation_keys_and_ordering.md R252). -/
  banks : Tab OrgBank := []
  /-- kept Mirror values in Pupor persistent state (07_translation_keys_and_ordering.md R248). -/
  kept : Tab Word := []
  deriving DecidableEq, Repr

/-- A completion entry waiting to be written (R292). -/
structure CplE where
  /-- waiting completion RESULT0 (09_host_interface_and_queues.md R292). -/
  r0 : Word := 0
  /-- waiting completion RESULT1 (09_host_interface_and_queues.md R292). -/
  r1 : Word := 0
  /-- waiting completion SQID (09_host_interface_and_queues.md R292). -/
  sq : Nat := 0
  /-- waiting completion SQHD (none: HEAD when written) (09_host_interface_and_queues.md R292). -/
  hd : Option Nat := none
  /-- waiting completion CID (09_host_interface_and_queues.md R292). -/
  cid : Nat := 0
  /-- waiting completion SC (09_host_interface_and_queues.md R292). -/
  sc : Nat := 0
  /-- intake ring and slot it answers (09_host_interface_and_queues.md R297). -/
  slot : Option (Nat × Nat) := none
  /-- the entry answers a POST, which a MARK of the queue waits for (09_host_interface_and_queues.md R299). -/
  post : Bool := false
  deriving DecidableEq, Repr

/-- A submission entry fetched and checked, waiting for its command to act (R295). -/
structure SubE where
  /-- fetched entry bytes (09_host_interface_and_queues.md R290). -/
  data : List Byte := []
  /-- fetched entry index (09_host_interface_and_queues.md R295). -/
  idx : Nat := 0
  /-- fetched entry: KIND of its queue when it was fetched (09_host_interface_and_queues.md R290). -/
  kind : Bool := false
  /-- fetched entry: TARGET of its queue when it was fetched (09_host_interface_and_queues.md R291). -/
  target : Nat := 0
  /-- HEAD is past the fetched entry already: its queue was disabled while it was in hand (09_host_interface_and_queues.md R302). -/
  past : Bool := false
  deriving DecidableEq, Repr

/-- A submission queue (Table 9.5). -/
structure Sq where
  /-- SQ_BASE (09_host_interface_and_queues.md R287). -/
  base : DWord := 0
  /-- SQ_CTL.EN (09_host_interface_and_queues.md R288). -/
  en : Bool := false
  /-- SQ_CTL.KIND (09_host_interface_and_queues.md R287). -/
  kind : Bool := false
  /-- SQ_CTL.TARGET (09_host_interface_and_queues.md R287). -/
  target : Nat := 0
  /-- SQ_CTL.CQ (09_host_interface_and_queues.md R287). -/
  cq : Nat := 0
  /-- SQ_CTL.BURST (09_host_interface_and_queues.md R287). -/
  burst : Nat := 7
  /-- SQ_SIZE (09_host_interface_and_queues.md R287). -/
  size : Nat := 255
  /-- SQ_STAT.ERR (09_host_interface_and_queues.md R301). -/
  err : Bool := false
  /-- stopped by a host read error until EN is cleared (09_host_interface_and_queues.md R301). -/
  halt : Bool := false
  /-- SQ_STAT.HEAD (09_host_interface_and_queues.md R295). -/
  head : Nat := 0
  /-- SQ_TAIL (09_host_interface_and_queues.md R293). -/
  tail : Nat := 0
  /-- expected pass parity (09_host_interface_and_queues.md R288). -/
  par : Bool := true
  /-- entry fetched and waiting (09_host_interface_and_queues.md R295). -/
  cur : Option SubE := none
  /-- POSTs of the queue whose completion is not yet written or dropped (09_host_interface_and_queues.md R299). -/
  open_ : Nat := 0
  /-- MARK or RCLR waiting for its completion: CID, SQHD (09_host_interface_and_queues.md R299). -/
  mark : Option (Nat × Nat) := none
  /-- entries consumed (QSTAT) (09_host_interface_and_queues.md R291). -/
  consumed : Word := 0
  /-- error completions (QSTAT) (09_host_interface_and_queues.md R291). -/
  errs : Word := 0
  deriving DecidableEq, Repr

/-- A completion queue (Table 9.5). -/
structure Cq where
  /-- CQ_BASE (09_host_interface_and_queues.md R287). -/
  base : DWord := 0
  /-- CQ_CTL.EN (09_host_interface_and_queues.md R288). -/
  en : Bool := false
  /-- CQ_CTL.VEC (09_host_interface_and_queues.md R287). -/
  vec : Nat := 1
  /-- CQ_CTL.IEN (09_host_interface_and_queues.md R287). -/
  ien : Bool := true
  /-- CQ_SIZE (09_host_interface_and_queues.md R287). -/
  size : Nat := 255
  /-- CQ_MOD (09_host_interface_and_queues.md R300). -/
  mod_ : Word := 0
  /-- CQ_MOD in force (09_host_interface_and_queues.md R287). -/
  modW : Word := 0
  /-- CQ_STAT.ERR (09_host_interface_and_queues.md R292). -/
  err : Bool := false
  /-- CQ_STAT.TAIL (09_host_interface_and_queues.md R292). -/
  tail : Nat := 0
  /-- CQ_HEAD (09_host_interface_and_queues.md R293). -/
  head : Nat := 0
  /-- completion phase (09_host_interface_and_queues.md R292). -/
  phase : Bool := true
  /-- completion entries held, oldest first (09_host_interface_and_queues.md R292). -/
  wait : List CplE := []
  /-- entries written since the last message (09_host_interface_and_queues.md R300). -/
  since : Nat := 0
  deriving DecidableEq, Repr

/-- An MSI-X table entry (PCIe). -/
structure Msix where
  /-- MSI-X address (09_host_interface_and_queues.md R300). -/
  addr : DWord := 0
  /-- MSI-X data (09_host_interface_and_queues.md R300). -/
  data : Word := 0
  /-- MSI-X vector mask (09_host_interface_and_queues.md R300). -/
  mask : Bool := true
  /-- MSI-X pending bit (09_host_interface_and_queues.md R300). -/
  pend : Bool := false
  deriving DecidableEq, Repr

/-- A PCIe function (Tables 9.2, 15.11). -/
structure Fn where
  /-- FACC0-FACC3 (01_ledger_processor_at_a_glance.md R24). -/
  facc : Tab DWord := []
  /-- FEAT_CTL.CLOSED (09_host_interface_and_queues.md R281). -/
  closed : Bool := false
  /-- FSTAT (09_host_interface_and_queues.md R283). -/
  fstat : Word := 2
  /-- DBERR (09_host_interface_and_queues.md R294). -/
  dberr : Word := 0
  /-- DESCERR (09_host_interface_and_queues.md R301). -/
  descerr : Word := 0
  /-- CPLDROP (09_host_interface_and_queues.md R298). -/
  cpldrop : Word := 0
  /-- EPR_EH latch (09_host_interface_and_queues.md R282). -/
  epH : Word := 0
  /-- EPR_TK latch (09_host_interface_and_queues.md R282). -/
  epT : Word := 0
  /-- VFQ_SQ of this function (09_host_interface_and_queues.md R286). -/
  vfqSq : Word := 0
  /-- VFQ_CQ of this function (09_host_interface_and_queues.md R286). -/
  vfqCq : Word := 0
  /-- submission queues, local (09_host_interface_and_queues.md R287). -/
  sqs : Tab Sq := []
  /-- completion queues, local (09_host_interface_and_queues.md R287). -/
  cqs : Tab Cq := []
  /-- MSI-X table and pending bits (09_host_interface_and_queues.md R300). -/
  msix : Tab Msix := []
  /-- queue whose arbitration turn it is (09_host_interface_and_queues.md R295). -/
  turn : Nat := 0
  /-- entries left of the turn (09_host_interface_and_queues.md R295). -/
  left : Nat := 0
  deriving DecidableEq, Repr

/-- An intake or control ring (Table 9.10). -/
structure Ring where
  /-- IN_BASE (09_host_interface_and_queues.md R415). -/
  base : Word := 0
  /-- IN_CTL.EN (09_host_interface_and_queues.md R415). -/
  en : Bool := false
  /-- IN_CTL.SIZE (09_host_interface_and_queues.md R415). -/
  size : Nat := 255
  /-- IN_TAIL (09_host_interface_and_queues.md R296). -/
  tail : Nat := 0
  /-- IN_HEAD (09_host_interface_and_queues.md R298). -/
  head : Nat := 0
  /-- IN_HEAD value accepted and not yet reached (09_host_interface_and_queues.md R298). -/
  goal : Nat := 0
  /-- slots held (tells a full ring from an empty one) (09_host_interface_and_queues.md R296). -/
  count : Nat := 0
  /-- slots still to retire (09_host_interface_and_queues.md R298). -/
  goalN : Nat := 0
  /-- IN_STAT.CPLERR (09_host_interface_and_queues.md R297). -/
  cplerr : Bool := false
  /-- IN_STAT.HDERR (09_host_interface_and_queues.md R298). -/
  hderr : Bool := false
  /-- IN_STAT.NOOWN (11_derrik_links.md R341). -/
  noown : Bool := false
  /-- IN_OWN (09_host_interface_and_queues.md R296). -/
  own : Word := 0
  deriving DecidableEq, Repr

/-- The host interface (R277-R304). -/
structure HostIf where
  /-- functions 0-63 (09_host_interface_and_queues.md R279). -/
  fns : Tab Fn := []
  /-- stream rings 0-63, control rings 64-79 (09_host_interface_and_queues.md R296). -/
  rings : Tab Ring := []
  /-- MWIN_ADDR (09_host_interface_and_queues.md R285). -/
  mwin : Word := 0
  /-- SR-IOV VF Enable (09_host_interface_and_queues.md R286). -/
  vfEn : Bool := false
  /-- function whose arbitration turn it is (09_host_interface_and_queues.md R295). -/
  turn : Nat := 0
  /-- PCIe writes and messages sent, oldest first (09_host_interface_and_queues.md R278). -/
  out : List PcieOut := []
  deriving DecidableEq, Repr

/-- The descriptor in progress on a DMA channel (R312). -/
structure Dcur where
  /-- descriptor bytes (10_dma_engines_and_prism_mode.md R312). -/
  data : List Byte := []
  /-- descriptor index (10_dma_engines_and_prism_mode.md R311). -/
  idx : Nat := 0
  /-- its data is still to be moved (10_dma_engines_and_prism_mode.md R313). -/
  run : Bool := true
  /-- its status so far (10_dma_engines_and_prism_mode.md R321). -/
  status : Nat := 0
  /-- BADDESC reason (10_dma_engines_and_prism_mode.md R313). -/
  reason : Nat := 0
  /-- COUNT (10_dma_engines_and_prism_mode.md R321). -/
  count : Nat := 0
  /-- FLUSHED and SUB (10_dma_engines_and_prism_mode.md R323). -/
  flags : Nat := 0
  /-- DFLAGS (10_dma_engines_and_prism_mode.md R316). -/
  dflags : Nat := 0
  /-- field table as read (10_dma_engines_and_prism_mode.md R318). -/
  fields : List (List Byte) := []
  /-- CH_CCNT after the descriptor (10_dma_engines_and_prism_mode.md R321). -/
  ccnt : Word := 0
  /-- a DBRANGE or STALE answer (10_dma_engines_and_prism_mode.md R311). -/
  answer : Bool := false
  deriving DecidableEq, Repr

/-- A DMA channel (Table 10.8). -/
structure Chan where
  /-- CH_CTL.EN (10_dma_engines_and_prism_mode.md R328). -/
  en : Bool := false
  /-- CH_STAT.STATE (10_dma_engines_and_prism_mode.md R328). -/
  state : Nat := 0
  /-- CH_STAT.LAST (10_dma_engines_and_prism_mode.md R321). -/
  lastSt : Nat := 0
  /-- CH_STAT.HEAD (10_dma_engines_and_prism_mode.md R308). -/
  head : Nat := 0
  /-- CH_RBASE (10_dma_engines_and_prism_mode.md R311). -/
  rbase : Nat := 0
  /-- CH_RSIZE (10_dma_engines_and_prism_mode.md R311). -/
  rsize : Nat := 255
  /-- CH_TAIL (10_dma_engines_and_prism_mode.md R308). -/
  tail : Nat := 0
  /-- CH_CBASE (10_dma_engines_and_prism_mode.md R310). -/
  cbase : Nat := 0
  /-- CH_CBASE_H.HOST (10_dma_engines_and_prism_mode.md R310). -/
  chost : Bool := false
  /-- CH_CSIZE (10_dma_engines_and_prism_mode.md R310). -/
  csize : Nat := 255
  /-- CH_CHEAD (10_dma_engines_and_prism_mode.md R310). -/
  chead : Nat := 0
  /-- CH_CTAIL (10_dma_engines_and_prism_mode.md R310). -/
  ctail : Nat := 0
  /-- completion records not yet consumed (10_dma_engines_and_prism_mode.md R310). -/
  cn : Nat := 0
  /-- CH_CCNT (10_dma_engines_and_prism_mode.md R321). -/
  ccnt : Word := 0
  /-- CH_AUTH (10_dma_engines_and_prism_mode.md R306). -/
  auth : Word := 0
  /-- CH_TRIG (10_dma_engines_and_prism_mode.md R325). -/
  trig : Nat := 0
  /-- CH_PACE (shadow) (10_dma_engines_and_prism_mode.md R325). -/
  pace : Word := 0
  /-- CH_KMASK (shadow) (10_dma_engines_and_prism_mode.md R247). -/
  kmask : Word := 0
  /-- CH_NOTE (shadow) (10_dma_engines_and_prism_mode.md R324). -/
  note : Word := 0
  /-- CH_SHCTL.ARM (10_dma_engines_and_prism_mode.md R326). -/
  arm : Bool := false
  /-- CH_SHCTL.SHADOW_LATE (10_dma_engines_and_prism_mode.md R327). -/
  late : Bool := false
  /-- CH_APACE (10_dma_engines_and_prism_mode.md R326). -/
  apace : Word := 0
  /-- CH_AKMASK (10_dma_engines_and_prism_mode.md R326). -/
  akmask : Word := 0
  /-- CH_ANOTE (10_dma_engines_and_prism_mode.md R326). -/
  anote : Word := 0
  /-- expected descriptor parity (10_dma_engines_and_prism_mode.md R309). -/
  par : Bool := true
  /-- completion phase (10_dma_engines_and_prism_mode.md R310). -/
  phase : Bool := true
  /-- descriptor in progress and answers waiting, oldest first (10_dma_engines_and_prism_mode.md R305). -/
  cur : List Dcur := []
  /-- counter updates when the last descriptor started (10_dma_engines_and_prism_mode.md R325). -/
  startUpd : Option Nat := none
  deriving DecidableEq, Repr

/-- A DMA engine (R331). -/
structure Engine where
  /-- DE_CTL.STOPPED (10_dma_engines_and_prism_mode.md R329). -/
  stopped : Bool := false
  /-- DE_ERR (10_dma_engines_and_prism_mode.md R329). -/
  err : Nat := 0
  /-- DE_ERRA (10_dma_engines_and_prism_mode.md R331). -/
  erra : DWord := 0
  /-- DE_REFUSE (10_dma_engines_and_prism_mode.md R306). -/
  refuse : Word := 0
  /-- DE_DBERR (10_dma_engines_and_prism_mode.md R308). -/
  dberr : Word := 0
  /-- channels 0-15 (10_dma_engines_and_prism_mode.md R305). -/
  chans : Tab Chan := []
  /-- channel whose turn it is (10_dma_engines_and_prism_mode.md R305). -/
  turn : Nat := 0
  deriving DecidableEq, Repr

/-- A Derrik frame (Table 11.2). -/
structure Frame where
  /-- frame TYPE (11_derrik_links.md R336). -/
  type : Nat := 0
  /-- frame VL (11_derrik_links.md R336). -/
  vl : Nat := 0
  /-- frame LSEQ (11_derrik_links.md R337). -/
  lseq : Nat := 0
  /-- frame RINGID (11_derrik_links.md R336). -/
  ring : Nat := 0
  /-- frame ORIGIN (11_derrik_links.md R336). -/
  origin : Nat := 0
  /-- frame HOPS (11_derrik_links.md R336). -/
  hops : Nat := 0
  /-- frame STREAM (11_derrik_links.md R336). -/
  stream : Nat := 0
  /-- frame payload (11_derrik_links.md R336). -/
  payload : List Byte := []
  /-- frame END 0x5A (11_derrik_links.md R343). -/
  stomp : Bool := false
  /-- port whose receive buffer still holds the frame (11_derrik_links.md R339). -/
  feeder : Option Nat := none
  deriving DecidableEq, Repr

/-- A Derrik port (R333-R352). -/
structure Port where
  /-- DL_CTL.EN (11_derrik_links.md R334). -/
  en : Bool := false
  /-- DL_CTL.DRAIN (11_derrik_links.md R352). -/
  drain : Bool := false
  /-- DL_CTL.CUT (11_derrik_links.md R342). -/
  cut : Bool := true
  /-- DL_CTL.LOOP (11_derrik_links.md R352). -/
  loop : Bool := false
  /-- DL_STAT.STATE (11_derrik_links.md R334). -/
  state : Nat := 0
  /-- DL_STAT.PEER (11_derrik_links.md R346). -/
  peer : Bool := false
  /-- DL_STAT.RETRAINED (11_derrik_links.md R335). -/
  retrained : Bool := false
  /-- DL_STAT.REFUSED (11_derrik_links.md R352). -/
  refused : Bool := false
  /-- DL_STAT.PEERID (11_derrik_links.md R346). -/
  peerId : Nat := 0
  /-- DL_MALF (11_derrik_links.md R351). -/
  malf : Nat := 0
  /-- DL_NAKTX (11_derrik_links.md R351). -/
  naktx : Word := 0
  /-- DL_NAKRX (11_derrik_links.md R351). -/
  nakrx : Word := 0
  /-- DL_LASTNAK (11_derrik_links.md R338). -/
  lastNak : Word := 0
  /-- DL_GAP (11_derrik_links.md R338). -/
  gap : Word := 0
  /-- DL_STOMP (11_derrik_links.md R343). -/
  stomps : Word := 0
  /-- DL_RETRAIN (11_derrik_links.md R335). -/
  retrains : Word := 0
  /-- DL_FECC (11_derrik_links.md R333). -/
  fecc : Word := 0
  /-- DL_FECU (11_derrik_links.md R333). -/
  fecu : Word := 0
  /-- DL_RXHOLD (11_derrik_links.md R339). -/
  rxhold : Word := 0
  /-- LSEQ expected next (11_derrik_links.md R337). -/
  rxNext : Nat := 0
  /-- discarding until the expected LSEQ comes (11_derrik_links.md R338). -/
  resend : Bool := false
  /-- a 0x0A NAK was sent for the present gap (11_derrik_links.md R338). -/
  gapNak : Bool := false
  /-- LSEQ of the next sequenced frame (11_derrik_links.md R337). -/
  txNext : Nat := 0
  /-- retry buffer, oldest first (11_derrik_links.md R337). -/
  retry : List Frame := []
  /-- frames waiting to be sent, oldest first (11_derrik_links.md R335). -/
  txq : List Frame := []
  /-- VL0 credits held (11_derrik_links.md R339). -/
  txCr0 : Nat := 4096
  /-- VL1 credits held (11_derrik_links.md R339). -/
  txCr1 : Nat := 512
  /-- CR0 last received (11_derrik_links.md R339). -/
  seen0 : Word := 0
  /-- CR1 last received (11_derrik_links.md R339). -/
  seen1 : Word := 0
  /-- VL0 receive units in use (11_derrik_links.md R339). -/
  used0 : Nat := 0
  /-- VL1 receive units in use (11_derrik_links.md R339). -/
  used1 : Nat := 0
  /-- CR0 sent: VL0 units freed (11_derrik_links.md R339). -/
  freed0 : Word := 0
  /-- CR1 sent: VL1 units freed (11_derrik_links.md R339). -/
  freed1 : Word := 0
  /-- POSTINGs held in the receive buffer, oldest first, with their slot (11_derrik_links.md R339). -/
  hold : List (Frame × Nat) := []
  /-- last HELLO received (11_derrik_links.md R347). -/
  lastHello : Option (List Byte) := none
  /-- last LSEQ accepted in order (11_derrik_links.md R337). -/
  lastRx : Option Nat := none
  /-- LSEQ of a resend that waits for PEER (11_derrik_links.md R347). -/
  nak0b : Option Nat := none
  /-- LSEQs of refused frames ahead of the expected one, consumed already (11_derrik_links.md R338). -/
  consumed : List Nat := []
  /-- port whose resend the next LSEQ is kept for, after a stomped copy (11_derrik_links.md R343). -/
  stomped : Option Nat := none
  /-- counter updates at the start of the window of DL_MALF (11_derrik_links.md R351). -/
  malfFrom : Nat := 0
  /-- a HELLO came since that NAK (11_derrik_links.md R347). -/
  helloSince : Bool := false
  /-- frames sent on the wire, oldest first (11_derrik_links.md R336). -/
  wire : List Frame := []
  deriving DecidableEq, Repr

/-- The Derrik block (R333-R352). -/
structure Derrik where
  /-- ports DL0-DL3 (11_derrik_links.md R333). -/
  ports : Tab Port := []
  /-- DL_DEVID (11_derrik_links.md R345). -/
  devid : Word := 0
  /-- XM_CNT (11_derrik_links.md R348). -/
  xmCnt : Tab Word := []
  /-- XM_REFUSE (11_derrik_links.md R348). -/
  xmRefuse : Word := 0
  deriving DecidableEq, Repr

/-- An event-table entry (Table 12.2). -/
structure EvEntry where
  /-- event SOURCE (12_event_recorder.md R354). -/
  source : Nat := 0
  /-- event KIND (12_event_recorder.md R354). -/
  kind : Nat := 0
  /-- event SEV (12_event_recorder.md R353). -/
  sev : Nat := 0
  /-- event LOGGED (12_event_recorder.md R360). -/
  logged : Bool := false
  /-- event NOTIFIED (12_event_recorder.md R363). -/
  notified : Bool := false
  /-- event COUNT (12_event_recorder.md R354). -/
  count : Nat := 0
  /-- event FIRST (12_event_recorder.md R354). -/
  first : Word := 0
  /-- event LAST (12_event_recorder.md R354). -/
  last : Word := 0
  deriving DecidableEq, Repr

/-- A measurement block (R356). -/
structure Meas where
  /-- sample count (12_event_recorder.md R356). -/
  n : Nat := 0
  /-- MIN (12_event_recorder.md R356). -/
  min : Word := 0x7FFFFFFF
  /-- MAX (12_event_recorder.md R356). -/
  max : Word := 0x80000000
  /-- LO in force (12_event_recorder.md R366). -/
  lo : Word := 0
  /-- WIDTH in force (12_event_recorder.md R366). -/
  width : Word := 0
  /-- bins 0-15 (12_event_recorder.md R356). -/
  bins : Tab Nat := []
  deriving DecidableEq, Repr

/-- An accumulator buffer (R354). -/
structure AccBuf where
  /-- event table (12_event_recorder.md R354). -/
  events : List EvEntry := []
  /-- overflow counters per class (12_event_recorder.md R354). -/
  ovf : Tab Nat := []
  /-- measurement blocks 0-31 (12_event_recorder.md R356). -/
  meas : Tab Meas := []
  deriving DecidableEq, Repr

/-- A log record queued in PD_AON (R360). -/
structure LogRec where
  /-- queued log OPT (12_event_recorder.md R360). -/
  opt : Nat := 0
  /-- queued log EPOCH (12_event_recorder.md R360). -/
  epoch : Nat := 0
  /-- queued log TICK (12_event_recorder.md R360). -/
  tick : Nat := 0
  /-- queued log SEV (12_event_recorder.md R360). -/
  sev : Nat := 0
  /-- queued log SOURCE (12_event_recorder.md R360). -/
  source : Nat := 0
  /-- queued log KIND (12_event_recorder.md R360). -/
  kind : Nat := 0
  /-- queued log COUNT (12_event_recorder.md R360). -/
  count : Nat := 0
  /-- queued log DETAIL (12_event_recorder.md R361). -/
  detail : List Byte := []
  deriving DecidableEq, Repr

/-- The event recorder (R353-R366). -/
structure Recorder where
  /-- RC_CTL (12_event_recorder.md R366). -/
  ctl : Word := 0x0A000E10
  /-- RC_STAT.BUF (12_event_recorder.md R357). -/
  buf : Bool := false
  /-- RC_STAT.WRITING (12_event_recorder.md R357). -/
  writing : Bool := false
  /-- RC_STAT.PENDING (12_event_recorder.md R357). -/
  pending : Bool := false
  /-- RC_STAT.NOTE (12_event_recorder.md R363). -/
  noted : Bool := false
  /-- RC_NOTE (12_event_recorder.md R363). -/
  note : Word := 0
  /-- RC_LOST (12_event_recorder.md R360). -/
  lost : Word := 0
  /-- RC_SKIP (12_event_recorder.md R357). -/
  skip : Word := 0
  /-- RC_SUPP (12_event_recorder.md R363). -/
  supp : Word := 0
  /-- RC_PCC (12_event_recorder.md R359). -/
  pcc : Nat := 0
  /-- OPT (12_event_recorder.md R359). -/
  opt : Nat := 0
  /-- RC_OPT_H latch (12_event_recorder.md R359). -/
  optH : Word := 0
  /-- OPT in persistent state (12_event_recorder.md R359). -/
  optSaved : Nat := 0
  /-- RC_LSER (12_event_recorder.md R361). -/
  lser : Nat := 0
  /-- RC_FSER (64-bit frame serial) (12_event_recorder.md R358). -/
  fser : Nat := 0
  /-- RC_THR1-RC_THR11 (12_event_recorder.md R363). -/
  thr : Tab Nat := []
  /-- RC_MLO0-31 (12_event_recorder.md R366). -/
  mlo : Tab Word := []
  /-- RC_MW0-31 (12_event_recorder.md R366). -/
  mw : Tab Word := []
  /-- accumulator buffer A (12_event_recorder.md R354). -/
  a : AccBuf := {}
  /-- accumulator buffer B (12_event_recorder.md R354). -/
  b : AccBuf := {}
  /-- log records queued (12_event_recorder.md R360). -/
  logq : List LogRec := []
  /-- sources notified, with the counter update of the notification (12_event_recorder.md R363). -/
  rate : List (Nat × Nat) := []
  /-- frame being written (12_event_recorder.md R357). -/
  frame : List Byte := []
  /-- trigger of a pending request (12_event_recorder.md R357). -/
  trigger : Nat := 0
  /-- OPT at the previous seal or at power-on (12_event_recorder.md R358). -/
  prevSeal : Nat := 0
  /-- clears in progress: bits and clearer (12_event_recorder.md R365). -/
  clearing : List (Nat × Nat) := []
  /-- seal requested during a clear (12_event_recorder.md R365). -/
  sealWait : Option Nat := none
  deriving DecidableEq, Repr

/-- A lockup record (Table 6.5). -/
structure LkRec where
  /-- LK_REC0.V (13_power_reset_boot_and_repair.md R383). -/
  v : Bool := false
  /-- LK_REC0.FAIL (06_contexts_windows_and_exceptions.md R216). -/
  fail : Nat := 0
  /-- LK_REC0.LEVEL (06_contexts_windows_and_exceptions.md R216). -/
  level : Nat := 0
  /-- LK_REC0.BAY (06_contexts_windows_and_exceptions.md R216). -/
  bay : Nat := 0
  /-- LK_REC1 (CAUSE) (06_contexts_windows_and_exceptions.md R216). -/
  cause : Word := 0
  /-- LK_REC2 (EPC) (06_contexts_windows_and_exceptions.md R216). -/
  epc : Word := 0
  /-- LK_REC3 (TSBP) (06_contexts_windows_and_exceptions.md R216). -/
  tsbp : Word := 0
  /-- Loam bank of the failed frame write (13_power_reset_boot_and_repair.md R383). -/
  bank : Nat := 0
  deriving DecidableEq, Repr

/-- An image bank or extension slot (R378). -/
structure Image where
  /-- image bytes (13_power_reset_boot_and_repair.md R378). -/
  data : List Byte := []
  /-- image bank marked valid (13_power_reset_boot_and_repair.md R378). -/
  valid : Bool := false
  deriving DecidableEq, Repr

/-- An image being written (R378, R410). -/
structure Upload where
  /-- open image KIND (15_register_summary.md R410). -/
  kind : Nat := 1
  /-- open image bank or slot (15_register_summary.md R410). -/
  slot : Nat := 0
  /-- bytes received (15_register_summary.md R410). -/
  data : List Byte := []
  /-- bytes went beyond the slot size (15_register_summary.md R410). -/
  ovr : Bool := false
  deriving DecidableEq, Repr

/-- A power domain (PD_STATE). -/
structure Dom where
  /-- PD_STATE.STATE (13_power_reset_boot_and_repair.md R368). -/
  state : Nat := 0
  /-- PD_STATE.LAST (13_power_reset_boot_and_repair.md R379). -/
  last : Nat := 0
  deriving DecidableEq, Repr

/-- The power block (R367-R383). -/
structure Power where
  /-- PD_STATE of domains 0-95 (13_power_reset_boot_and_repair.md R368). -/
  doms : Tab Dom := []
  /-- PD_RES (13_power_reset_boot_and_repair.md R379). -/
  res : Word := 0
  /-- repair request in progress: ACT, domain (13_power_reset_boot_and_repair.md R379). -/
  req : Option (Nat × Nat) := none
  /-- PD_NOTE (13_power_reset_boot_and_repair.md R379). -/
  note : Word := 0
  /-- PD_TRES (13_power_reset_boot_and_repair.md R380). -/
  tres : Word := 0
  /-- BOOT (13_power_reset_boot_and_repair.md R376). -/
  boot : Word := 0
  /-- start-up step reached (13_power_reset_boot_and_repair.md R374). -/
  stage : BootStage := .off
  /-- DEVID.PART fuses (13_power_reset_boot_and_repair.md R374). -/
  part : Nat := 1
  /-- core pairs fused off (00_scope.md R3). -/
  fused : BitVec 64 := 0
  /-- DEVID (13_power_reset_boot_and_repair.md R374). -/
  devid : Word := 0
  /-- CPRES0-3 (13_power_reset_boot_and_repair.md R374). -/
  cpres : BitVec 128 := 0
  /-- MEMIL (13_power_reset_boot_and_repair.md R369). -/
  memil : Word := 0
  /-- image open through IMG_CTL (15_register_summary.md R410). -/
  img : Option Upload := none
  /-- IMG_STAT.BUSY (15_register_summary.md R410). -/
  imgBusy : Bool := false
  /-- IMG_STAT.RESULT (15_register_summary.md R410). -/
  imgRes : Nat := 0
  /-- image whose close checks run (13_power_reset_boot_and_repair.md R378). -/
  imgClose : Option Upload := none
  /-- that image was opened by the mailbox (13_power_reset_boot_and_repair.md R378). -/
  imgMbox : Bool := false
  /-- image open through the mailbox (13_power_reset_boot_and_repair.md R378). -/
  mimg : Option Upload := none
  /-- image banks: 0,1 patch A,B; 2,3 firmware A,B; 8-13 extension slots (13_power_reset_boot_and_repair.md R378). -/
  banks : Tab Image := []
  /-- firmware bank in use (13_power_reset_boot_and_repair.md R378). -/
  fwBank : Option Nat := none
  /-- patch bank in use (13_power_reset_boot_and_repair.md R378). -/
  ptBank : Option Nat := none
  /-- LK_CTL (13_power_reset_boot_and_repair.md R383). -/
  lkctl : Word := 0x80000000
  /-- LK_SEL (13_power_reset_boot_and_repair.md R383). -/
  lksel : Nat := 0
  /-- lockup records of cores 0-127 (13_power_reset_boot_and_repair.md R383). -/
  lkrec : Tab LkRec := []
  /-- core-pair bays waiting to leave M level (4 x core + bay) (13_power_reset_boot_and_repair.md R380). -/
  draining : List Nat := []
  /-- Loam banks fenced by a drain (13_power_reset_boot_and_repair.md R380). -/
  fenced : BitVec 8 := 0
  /-- patch level the pair under test held (13_power_reset_boot_and_repair.md R382). -/
  testLevel : Option (Nat × Bool) := none
  /-- power failure registered (05_strelsia_journal_and_epochs.md R164). -/
  pfail : Bool := false
  /-- power-fail sequence ended (05_strelsia_journal_and_epochs.md R164). -/
  pfDone : Bool := false
  /-- device reset waiting for the power-fail sequence (13_power_reset_boot_and_repair.md R373). -/
  rstWant : Bool := false
  /-- the start-up to come is the first since power-on (12_event_recorder.md R359). -/
  fromPower : Bool := true
  /-- power state: 0 OFF, 1 STANDBY, 2 RUN (13_power_reset_boot_and_repair.md R370). -/
  pstate : Nat := 1
  /-- THERMTRIP_N driven low (14_pins_package_and_electrical.md R396). -/
  thermtrip : Bool := false
  /-- start-up waits for every reading sensor below 95 C (after THERMTRIP) (14_pins_package_and_electrical.md R396). -/
  hotWait : Bool := false
  /-- CORE_LOCK_N driven low (06_contexts_windows_and_exceptions.md R217). -/
  corelock : Bool := false
  /-- sensors that recorded a warning and have not fallen below 95 C (14_pins_package_and_electrical.md R395). -/
  hot : Tab Bool := []
  /-- last sensor readings (14_pins_package_and_electrical.md R395). -/
  temp : Tab Int := []
  /-- VSET in mV (14_pins_package_and_electrical.md R392). -/
  vset : Nat := 950
  /-- AVSBus transactions unacknowledged in succession (14_pins_package_and_electrical.md R392). -/
  avsFail : Nat := 0
  /-- background stall windows met: kind, unit (08_execution_timing.md R276). -/
  stalls : List (Nat × Nat) := []
  deriving DecidableEq, Repr

/-- A memory channel (MC_STAT and counters). -/
structure MemCh where
  /-- MC_STAT.UP (15_register_summary.md R412). -/
  up : Bool := false
  /-- MC_STAT.DPC (15_register_summary.md R412). -/
  dpc : Nat := 0
  /-- MC_STAT.SPEED (15_register_summary.md R412). -/
  speed : Nat := 0
  /-- MC_STAT.GIB (15_register_summary.md R412). -/
  gib : Nat := 0
  /-- MC_ECCC (15_register_summary.md R412). -/
  eccc : Word := 0
  /-- MC_ECCU (15_register_summary.md R412). -/
  eccu : Word := 0
  /-- MC_FAILA (15_register_summary.md R412). -/
  faila : DWord := 0
  deriving DecidableEq, Repr

/-- The memory block (R408, R412). -/
structure MemBlk where
  /-- DDRCAP (15_register_summary.md R408). -/
  cap : Word := 0
  /-- channels MC0-MC11 (15_register_summary.md R412). -/
  chans : Tab MemCh := []
  deriving DecidableEq, Repr

/-- The SMBus mailbox (R386). -/
structure Mbox where
  /-- mailbox state: 0 idle, 1 busy, 2 response ready (13_power_reset_boot_and_repair.md R386). -/
  state : Nat := 0
  /-- response (13_power_reset_boot_and_repair.md R386). -/
  resp : List Byte := []
  /-- TAG of the request served (13_power_reset_boot_and_repair.md R386). -/
  tag : Nat := 0
  /-- opcode of the request served (13_power_reset_boot_and_repair.md R386). -/
  op : Nat := 0
  deriving DecidableEq, Repr

/-- The Pupor controller (R384, R385). -/
structure Pupor where
  /-- ACC (13_power_reset_boot_and_repair.md R384). -/
  acc : Byte := 0
  /-- CNT (13_power_reset_boot_and_repair.md R384). -/
  cnt : Byte := 0
  /-- J (13_power_reset_boot_and_repair.md R384). -/
  j : BitVec 16 := 0
  /-- K (13_power_reset_boot_and_repair.md R384). -/
  k : BitVec 16 := 0
  /-- STK (13_power_reset_boot_and_repair.md R384). -/
  stk : BitVec 16 := 0
  /-- PC (13_power_reset_boot_and_repair.md R384). -/
  pc : BitVec 16 := 0
  /-- CY (13_power_reset_boot_and_repair.md R384). -/
  cy : Bool := false
  /-- ZF (13_power_reset_boot_and_repair.md R384). -/
  zf : Bool := false
  /-- SF (13_power_reset_boot_and_repair.md R384). -/
  sf : Bool := false
  /-- VF (13_power_reset_boot_and_repair.md R384). -/
  vf : Bool := false
  /-- RAM 0xC000-0xFFFF (13_power_reset_boot_and_repair.md R384). -/
  ram : Tab Byte := []
  /-- DA0-DA5 (13_power_reset_boot_and_repair.md R385). -/
  da : Tab Byte := []
  /-- DD0-DD3 (13_power_reset_boot_and_repair.md R385). -/
  dd : Tab Byte := []
  /-- DCTL BUSY (13_power_reset_boot_and_repair.md R385). -/
  busy : Bool := false
  /-- DCTL REFUSED (13_power_reset_boot_and_repair.md R385). -/
  refused : Bool := false
  /-- DCTL ERR (13_power_reset_boot_and_repair.md R385). -/
  err : Bool := false
  /-- device access in progress: whether a write, address, data (13_power_reset_boot_and_repair.md R385). -/
  dacc : Option (Bool × Nat × Nat) := none
  /-- ARG0-ARG15 (13_power_reset_boot_and_repair.md R385). -/
  args : Tab Byte := []
  /-- RES0-RES15 (13_power_reset_boot_and_repair.md R385). -/
  res : Tab Byte := []
  /-- MS latch (13_power_reset_boot_and_repair.md R385). -/
  ms : Word := 0
  /-- site extension running, by slot (13_power_reset_boot_and_repair.md R384). -/
  run : Option Nat := none
  /-- the run answers a mailbox request (13_power_reset_boot_and_repair.md R386). -/
  byMbox : Bool := false
  /-- 0 running, 1 SYS wait, 2 IDLE (13_power_reset_boot_and_repair.md R384). -/
  waiting : Nat := 0
  /-- instructions executed in the run (13_power_reset_boot_and_repair.md R385). -/
  count : Nat := 0
  /-- last run was aborted (13_power_reset_boot_and_repair.md R385). -/
  aborted : Bool := false
  /-- SMBus mailbox (13_power_reset_boot_and_repair.md R386). -/
  mbox : Mbox := {}
  deriving DecidableEq, Repr

/-- The LM9, whole, but for the queue of commands. -/
structure Dev where
  /-- cores C000-C127 (06_contexts_windows_and_exceptions.md R184). -/
  cores : Tab Core := []
  /-- Loam, journal array and DDR bytes (07_translation_keys_and_ordering.md R223). -/
  mem : List Host.Cell := []
  /-- generation of the undefined DDR contents (model field) (log entry 9). -/
  ddrGen : Nat := 0
  /-- 64-bit words of Loam, DDR or the journal that hold an uncorrectable error (06_contexts_windows_and_exceptions.md R221). -/
  poison : List Nat := []
  /-- journal (05_strelsia_journal_and_epochs.md R146). -/
  jr : Journal := {}
  /-- epoch block (05_strelsia_journal_and_epochs.md R167). -/
  ep : Epoch := {}
  /-- protection block (07_translation_keys_and_ordering.md R248). -/
  mi : Mirror := {}
  /-- host interface (09_host_interface_and_queues.md R277). -/
  host : HostIf := {}
  /-- engines DE0-DE3 (10_dma_engines_and_prism_mode.md R305). -/
  dma : Tab Engine := []
  /-- Derrik block (11_derrik_links.md R333). -/
  dl : Derrik := {}
  /-- recorder (12_event_recorder.md R354). -/
  rc : Recorder := {}
  /-- power block (13_power_reset_boot_and_repair.md R367). -/
  pw : Power := {}
  /-- memory block (15_register_summary.md R408). -/
  mc : MemBlk := {}
  /-- Pupor (13_power_reset_boot_and_repair.md R384). -/
  pu : Pupor := {}
  /-- counter that indexes the free values (model field) (log entry 5). -/
  free : Nat := 0
  deriving DecidableEq, Repr

/-- The LM9 and the queue of commands that wait. -/
structure State where
  /-- queue of commands waiting, first in first out (log entry 2). -/
  pending : List Instr := []
  /-- the LM9 (00_scope.md R1). -/
  dev : Dev := {}
  deriving DecidableEq, Repr

/-- The bay as it is after core reset: bay `b` of core `n` (R195, R205; STATUS of bay 0, its release at R374). -/
def Bay.reset (n b : Nat) : Bay :=
  { tsbp := BitVec.ofNat 32 ((n / 16) * 0x1000000 + 0x1000 * (4 * (n % 16) + b))
    status := if b = 0 then 0x0000000F else 0 }

/-- The machine right after power-on reset, in STANDBY: nothing started, every queue empty, the shipped images in banks A (R370, R372, R378). -/
def State.reset : State :=
  { dev := { pw := { banks := [(0, { data := Config.shippedPatch, valid := true }), (2, { data := Config.shippedFirmware, valid := true })] } } }

end Sys2Proof.Machine
end

