-- ==== Sys2Proof/Machine/Ops.lean ====
section
/-! DEFINITION. The named operations over memory, cores, bays and events that the meanings share. -/

namespace Sys2Proof.Machine

/-! ## Memory as a canonical list of cells -/

/-- The byte a cell list holds at an address, or the byte an unlisted address reads as. -/
def Memory.read (dflt : Nat → Byte) : List Host.Cell → Nat → Byte
  | [], a => dflt a
  | (b, v) :: m, a => if b = a then v else Memory.read dflt m a

/-- The cell list with one address set; cells stay in rising order and none equals what it would read unlisted. -/
def Memory.write (dflt : Nat → Byte) : List Host.Cell → Nat → Byte → List Host.Cell
  | [], a, v => if v = dflt a then [] else [(a, v)]
  | (b, w) :: m, a, v =>
    if a < b then (if v = dflt a then (b, w) :: m else (a, v) :: (b, w) :: m)
    else if a = b then (if v = dflt a then m else (a, v) :: m)
    else (b, w) :: Memory.write dflt m a v

/-- Consecutive bytes from an address. -/
def Memory.readN (dflt : Nat → Byte) (m : List Host.Cell) : Nat → Nat → List Byte
  | 0, _ => []
  | n + 1, a => Memory.read dflt m a :: Memory.readN dflt m n (a + 1)

/-- Consecutive bytes written from an address. -/
def Memory.writeN (dflt : Nat → Byte) : List Host.Cell → Nat → List Byte → List Host.Cell
  | m, _, [] => m
  | m, a, v :: vs => Memory.writeN dflt (Memory.write dflt m a v) (a + 1) vs

/-- Whether addresses rise strictly from above `lo`, and no cell equals what it would read unlisted. -/
def Memory.wfFrom (dflt : Nat → Byte) : Option Nat → List Host.Cell → Bool
  | _, [] => true
  | lo, (a, v) :: m => (match lo with | none => true | some b => decide (b < a)) && decide (v ≠ dflt a) && Memory.wfFrom dflt (some a) m

/-- The canonical form of a cell list. -/
def Memory.wf (dflt : Nat → Byte) (m : List Host.Cell) : Bool := Memory.wfFrom dflt none m

/-! ## Physical addresses (R223, R224) -/

/-- The regions of Table 7.1. -/
inductive Region where
  | loam | journal | devreg | ddr | hole
  deriving DecidableEq, Repr

/-- Base of DDR. -/
def ddrBase : Nat := 0x100000000
/-- Base of the journal array. -/
def journalBase : Nat := 0x08000000
/-- Base of the device registers. -/
def devBase : Nat := 0x10000000

/-- The region of a physical address; DDR at or above the installed capacity is a hole (R224, R408). -/
def Dev.region (d : Dev) (pa : Nat) : Region :=
  if pa < 0x08000000 then .loam
  else if pa < 0x0C000000 then .journal
  else if pa < 0x10000000 then .hole
  else if pa < 0x20000000 then .devreg
  else if pa < ddrBase then .hole
  else if pa < ddrBase + bits d.mc.cap.toNat 15 0 * 2 ^ 30 ∧ pa < 0x30100000000 then .ddr
  else .hole

/-- What an unlisted address reads as: zero in Loam and the journal array, a free byte in DDR. -/
def Dev.dflt (d : Dev) (a : Nat) : Byte :=
  if a < ddrBase then 0 else Config.ddrByte d.ddrGen a

/-- The byte at a physical address. -/
def Dev.byte (d : Dev) (a : Nat) : Byte := Memory.read d.dflt d.mem a
/-- `n` bytes at a physical address. -/
def Dev.bytes (d : Dev) (a n : Nat) : List Byte := Memory.readN d.dflt d.mem n a
/-- The little-endian number of `n` bytes at a physical address. -/
def Dev.num (d : Dev) (a n : Nat) : Nat := fromLe (d.bytes a n)

/-- Whether a range holds a word with an uncorrectable error. -/
def Dev.poisoned (d : Dev) (a n : Nat) : Bool := d.poison.any (fun w => w < a + n && a < w + 8)

/-- Bytes stored at a physical address; a 64-bit word wholly rewritten loses its error. -/
def Dev.put (d : Dev) (a : Nat) (bs : List Byte) : Dev :=
  { d with
    mem := Memory.writeN d.dflt d.mem a bs
    poison := d.poison.filter (fun w => !(a ≤ w && w + 8 ≤ a + bs.length)) }

/-! ## Domains, cores and bays -/

/-- The state code of a power domain (Table 13.2). -/
def Dev.domState (d : Dev) (n : Nat) : Nat :=
  if n < 64 ∧ d.pw.fused.getLsbD n then 0xF else (Tab.get d.pw.doms n {}).state

/-- Whether a Loam bank serves accesses: its domain is ON and it is not fenced. -/
def Dev.bankUp (d : Dev) (k : Nat) : Bool := d.domState (72 + k) == 1 && !d.pw.fenced.getLsbD k

/-- The memory channel of a DDR address (R409). -/
def Dev.channelOf (d : Dev) (pa : Nat) : Nat :=
  let o := pa - ddrBase
  let q := o / 256
  let k := bits d.mc.cap.toNat 15 0 * 2 ^ 30 / 12
  match bits d.pw.memil.toNat 1 0 with
  | 0 => q % 12
  | 1 => 4 * (o / (4 * k)) + q % 4
  | _ => 2 * (o / (2 * k)) + q % 2

/-- Whether a domain is powered: not OFF, ABSENT or POWERING. -/
def Dev.powered (d : Dev) (n : Nat) : Bool := let s := d.domState n; s != 0 && s != 0xF && s != 7
/-- The group of memory pairs a pair drains with (Table 13.11). -/
def Dev.pairGroup (d : Dev) (n : Nat) : List Nat := if bits d.pw.memil.toNat 1 0 = 1 then [n - n % 2, n - n % 2 + 1] else [n]
/-- Whether the storage behind a physical address serves accesses (Table 13.11). -/
def Dev.servedAt (d : Dev) (pa : Nat) : Bool :=
  match d.region pa with
  | .loam => d.bankUp (pa / 0x1000000)
  | .ddr => (d.pairGroup (80 + d.channelOf pa / 2)).all (fun k => d.domState k == 1)
  | _ => true

/-- A core. -/
def Dev.core (d : Dev) (n : Nat) : Core := (Tab.find d.cores n).getD {}
/-- The machine with a core replaced. -/
def Dev.setCore (d : Dev) (n : Nat) (c : Core) : Dev := { d with cores := Tab.set d.cores n c }
/-- A bay of a core. -/
def Core.bay (c : Core) (n b : Nat) : Bay := (Tab.find c.bays b).getD (Bay.reset n b)
/-- A core with a bay replaced. -/
def Core.setBay (c : Core) (b : Nat) (x : Bay) : Core := { c with bays := Tab.set c.bays b x }
/-- A bay. -/
def Dev.bay (d : Dev) (n b : Nat) : Bay := (d.core n).bay n b
/-- The machine with a bay replaced. -/
def Dev.setBay (d : Dev) (n b : Nat) (x : Bay) : Dev := d.setCore n ((d.core n).setBay b x)
/-- The machine with a bay changed. -/
def Dev.modBay (d : Dev) (n b : Nat) (f : Bay → Bay) : Dev := d.setBay n b (f (d.bay n b))
/-- The machine with a core changed. -/
def Dev.modCore (d : Dev) (n : Nat) (f : Core → Core) : Dev := d.setCore n (f (d.core n))

/-- The privilege level of a bay: 0 U, 1 S, 3 M (R205). -/
def Bay.level (x : Bay) : Nat := bits x.status.toNat 1 0
/-- Whether the M bank is in use. -/
def Bay.mbank (x : Bay) : Bool := x.level == 3
/-- The priority of a bay (BAYCTL.PRI). -/
def Bay.pri (x : Bay) : Nat := bits x.bayctl.toNat 1 0

/-- A 32-bit counter plus `n`, saturating. -/
def satAdd (x : Word) (n : Nat) : Word := BitVec.ofNat 32 (min (x.toNat + n) 0xFFFFFFFF)

/-! ## Recorder (12_event_recorder.md) -/

/-- The severity of a kind of a class (Table 12.1). -/
def sevOf (cls kind : Nat) : Nat :=
  match cls with
  | 1 => match kind with | 3 => 1 | 0x11 => 0 | _ => 3
  | 2 => if kind = 1 then 1 else 3
  | 3 => if kind = 2 then 3 else 1
  | 4 => match kind with | 2 => 3 | 4 => 2 | _ => 1
  | 5 => match kind with | 1 => 1 | 0x21 => 1 | 0x22 => 1 | _ => 2
  | 6 => match kind with | 1 => 0 | 2 => 0 | 3 => 2 | 0x10 => 1 | _ => 3
  | 7 => 2
  | 8 => match kind with | 1 => 1 | 2 => 3 | 4 => 3 | _ => 2
  | 9 => if kind = 4 then 0 else 2
  | 0xA => if kind = 1 then 2 else 3
  | _ => if kind = 1 then 3 else 0

/-- The default LO and WIDTH of a measurement channel (Table 12.3). -/
def measDefault (ch : Nat) : Nat × Nat :=
  if ch < 9 then (320, 32)
  else if ch < 17 then (880, 10)
  else match ch with
    | 17 => (0, 50)
    | 18 => (0, 150)
    | n => if n < 25 then (0, 50) else if n < 29 then (0, 64) else (0, 0)

/-- A fresh accumulator buffer, with the LO and WIDTH in force (R356, R366). -/
def Recorder.fresh (r : Recorder) : AccBuf :=
  { events := [], ovf := [],
    meas := (List.range 32).map (fun ch =>
      (ch, { lo := Tab.get r.mlo ch (BitVec.ofNat 32 (measDefault ch).1), width := Tab.get r.mw ch (BitVec.ofNat 32 (measDefault ch).2) })) }

/-- The active buffer. -/
def Recorder.active (r : Recorder) : AccBuf := if r.buf then r.b else r.a
/-- The recorder with its active buffer replaced. -/
def Recorder.setActive (r : Recorder) (x : AccBuf) : Recorder := if r.buf then { r with b := x } else { r with a := x }

/-- The entry of a key in an event table, by position. -/
def eventIdx (es : List EvEntry) (source kind : Nat) : Option Nat :=
  es.findIdx? (fun e => e.source == source && e.kind == kind)

/-- A list with one position replaced. -/
def setAt {α : Type} (l : List α) (i : Nat) (x : α) : List α := l.set i x

/-- The stamps of a log record taken now. -/
def Dev.logRec (d : Dev) (sev source kind count : Nat) (detail : List Byte) : LogRec :=
  { opt := d.rc.opt, epoch := d.ep.epoch, tick := d.ep.tick, sev := sev, source := source, kind := kind, count := count, detail := padTo 16 detail }

/-- The entries of a key in the active buffer changed. -/
def Recorder.mapEntry (r : Recorder) (source kind : Nat) (f : EvEntry → EvEntry) : Recorder :=
  let a := r.active
  r.setActive { a with events := a.events.map (fun e => if e.source == source && e.kind == kind then f e else e) }
/-- A log record queued behind the others, or at the head, where it takes the last one's place in a full queue; its entry is LOGGED. One that would overflow the queue is counted and not written (R360, R362). -/
def Recorder.queueLog (r : Recorder) (first : Bool) (x : LogRec) : Recorder :=
  let r1 := r.mapEntry x.source x.kind (fun e => { e with logged := true })
  if first then { r1 with logq := x :: r.logq.take 63, lost := if r.logq.length < 64 then r.lost else satAdd r.lost 1 }
  else if r.logq.length < 64 then { r1 with logq := r.logq ++ [x] }
  else { r with lost := satAdd r.lost 1 }

/-- One event counted in the active buffer (R354). Its entry comes back; none where the table is full. -/
def Dev.tally (d : Dev) (source kind : Nat) : Dev × Option EvEntry :=
  let r := d.rc
  let a := r.active
  let opt32 := BitVec.ofNat 32 r.opt
  match eventIdx a.events source kind with
  | none =>
    if a.events.length ≥ 512 then
      let cls := source / 0x1000
      ({ d with rc := r.setActive { a with ovf := Tab.set a.ovf cls (min (Tab.get a.ovf cls 0 + 1) 0xFFFFFFFF) } }, none)
    else
      let e : EvEntry := { source := source, kind := kind, sev := sevOf (source / 0x1000) kind, count := 1, first := opt32, last := opt32 }
      ({ d with rc := r.setActive { a with events := a.events ++ [e] } }, some e)
  | some i =>
    let e0 := (a.events[i]?).getD {}
    let e : EvEntry := { e0 with count := min (e0.count + 1) 0xFFFFFFFF, last := opt32 }
    ({ d with rc := r.setActive { a with events := setAt a.events i e } }, some e)
/-- The log record of an event that has just been counted, with its entry's COUNT (1 where the full table has no entry for it; log entry 79). -/
def Dev.logEvent (d : Dev) (first : Bool) (source kind : Nat) (e : Option EvEntry) (detail : List Byte) : Dev :=
  { d with rc := d.rc.queueLog first (d.logRec (sevOf (source / 0x1000) kind) source kind (e.elim 1 (fun x => x.count)) detail) }
/-- One event counted; where its key was new and its severity reaches LOGSEV, its log record (R354, R360). -/
def Dev.countEvent (d : Dev) (source kind : Nat) (detail : List Byte) : Dev × Option EvEntry :=
  let new := (eventIdx d.rc.active.events source kind).isNone
  match d.tally source kind with
  | (d1, e) => (if new && decide (sevOf (source / 0x1000) kind ≥ bits d.rc.ctl.toNat 27 26) then d1.logEvent false source kind e detail else d1, e)

/-- The RC_THR of a class (reset 1). -/
def Recorder.threshold (r : Recorder) (cls : Nat) : Nat := Tab.get r.thr cls 1

/-- Whether an entry's count makes it a notification candidate (R363). -/
def Recorder.candidate (r : Recorder) (e : EvEntry) : Bool :=
  e.count % r.threshold (e.source / 0x1000) == 0 && decide (e.sev ≥ bits r.ctl.toNat 25 24)

/-- Whether a source was notified within the last 1,024 counter updates (R363). -/
def Dev.inRateWindow (d : Dev) (source : Nat) : Bool :=
  d.rc.rate.any (fun p => p.1 == source && d.ep.updates < p.2 + 1024)

/-- The entry of a key marked NOTIFIED, NOTE set and the rate window started. -/
def Dev.markNotified (d : Dev) (source kind : Nat) : Dev :=
  let r := d.rc
  let a := r.active
  let es := a.events.map (fun e => if e.source == source && e.kind == kind then { e with notified := true } else e)
  { d with rc := { r.setActive { a with events := es } with
      noted := true
      rate := (source, d.ep.updates) :: r.rate.filter (fun p => p.1 != source) } }

/-! ## Asynchronous events at bays (R197, R201, R204, R217) -/

/-- The PEND bit of an asynchronous cause. -/
def pendBit (cause : Nat) : Nat :=
  match cause with
  | 0x15 => 8
  | 0x14 => 9
  | c => c - 0x20

/-- PEND with one more event of a cause, and the details kept (R201). -/
def Bay.pendEvent (x : Bay) (cause detail : Nat) : Bay :=
  let n := pendBit cause
  if x.pend.getLsbD n then { x with pend := x.pend ||| BitVec.ofNat 32 (2 ^ (16 + n)) }
  else { x with pend := x.pend ||| BitVec.ofNat 32 (2 ^ n), pendDet := Tab.set x.pendDet n (BitVec.ofNat 16 detail) }

/-- A bay whose wait has ended: it runs on after a freeze and is READY after a switch; where the data of a miss is still to come, it waits for that (R264, R265). -/
def Bay.resume (x : Bay) : Bay :=
  if x.dataDue then { x with st := if x.st = .frozen then .frozen else .miss, wait := .data, dataDue := false }
  else { x with st := if x.st = .frozen then .running else .ready, wait := .none }
/-- The bay after an event: WAITING in WAIT or JWAIT becomes READY; the JWAIT bundle issues again (R155, R201). -/
def Bay.wake (x : Bay) : Bay :=
  if x.st = .waiting then
    match x.wait with
    | .event _ => x.resume
    | .jwait _ _ => { x with bundle := none }.resume
    | _ => x
  else x

/-- Whether a bay takes events: it is not EMPTY, not LOCKED and not being loaded. -/
def Bay.takesEvents (x : Bay) : Bool :=
  match x.st with
  | .empty => false
  | .locked => false
  | .moving => match x.wait with
    | .evicting _ => true
    | _ => false
  | _ => true

/-- An event delivered at a bay, or dropped and counted in its core's EVDROP, as every event is while the core's pair is not ON (R380); true where it was dropped. -/
def Dev.deliver (d : Dev) (n b cause detail : Nat) : Dev × Bool :=
  let x := d.bay n b
  if (d.core n).up && d.domState (n / 2) == 1 && x.takesEvents then (d.setBay n b (x.pendEvent cause detail).wake, false)
  else (d.modCore n (fun c => { c with evdrop := satAdd c.evdrop 1 }), true)

/-- DETAIL of a core event: a CAUSE word and a fault address. -/
def coreDetail (cause faddr : Nat) : List Byte := toLe 4 cause ++ toLe 4 faddr
/-- The notification of a candidate, unless its source was notified within the last 1,024 counter updates; `rec` records the loss of a cause 0x25 that finds no bay (R363). -/
def Dev.notify (d : Dev) (source kind : Nat) (lose : Dev → Nat → List Byte → Dev) : Dev :=
  if d.inRateWindow source then { d with rc := { d.rc with supp := satAdd d.rc.supp 1 } }
  else
    let d1 := d.markNotified source kind
    let nt := d1.rc.note.toNat
    if bit nt 31 then
      match d1.deliver (bits nt 8 2) (bits nt 1 0) 0x25 source with
      | (d2, true) => lose d2 (0x1000 + bits nt 8 2) (coreDetail (2 ^ 31 + 0x25 * 65536 + source) 0)
      | (d2, false) => d2
    else d1
/-- The notification an event that has just been counted calls for, if any (R363). -/
def Dev.notifyEvent (d : Dev) (source kind : Nat) (e : Option EvEntry) (lose : Dev → Nat → List Byte → Dev) : Dev :=
  match e with
  | none => d
  | some x => if d.rc.candidate x then d.notify source kind lose else d
/-- One event recorded: counted, logged and notified. A dropped notification is recorded in its turn; its source is then inside the rate window, so that `k` = 2 further events are the most there can be (R354, R360, R363). -/
def Dev.recordUpTo : Nat → Dev → Nat → Nat → List Byte → Dev
  | 0, d, source, kind, detail => (d.countEvent source kind detail).1
  | k + 1, d, source, kind, detail => match d.countEvent source kind detail with
    | (d1, e) => d1.notifyEvent source kind e (fun f s bs => Dev.recordUpTo k f s 0x11 bs)
/-- One event recorded, and its notification at the bay RC_NOTE names (R354, R360, R363). -/
def Dev.record (d : Dev) (source kind : Nat) (detail : List Byte) : Dev := Dev.recordUpTo 3 d source kind detail
/-- An event counted and notified whose log record is written whatever LOGSEV is: at once, or ahead of those that wait (R362, R365). -/
def Dev.recordLogged (d : Dev) (first : Bool) (source kind : Nat) (detail : List Byte) : Dev :=
  match d.tally source kind with
  | (d1, e) => (d1.logEvent first source kind e detail).notifyEvent source kind e (fun f s bs => Dev.recordUpTo 2 f s 0x11 bs)

/-- An asynchronous event raised at a bay; a dropped one is counted and recorded (R197, R204, R217). -/
def Dev.raise (d : Dev) (n b cause detail : Nat) : Dev :=
  match d.deliver n b cause detail with
  | (d1, false) => d1
  | (d1, true) => d1.record (0x1000 + n) 0x11 (coreDetail (2 ^ 31 + cause * 65536 + detail % 65536) 0)

/-- An event raised at the bay a note register names, [31] V, [8:2] CORE, [1:0] BAY; nothing where V = 0. -/
def Dev.raiseNote (d : Dev) (note : Word) (cause detail : Nat) : Dev :=
  if bit note.toNat 31 then d.raise (bits note.toNat 8 2) (bits note.toNat 1 0) cause detail else d

/-- The free counter, advanced: the next free value differs from the last. -/
def Dev.tickFree (d : Dev) : Dev := { d with free := d.free + 1 }

/-- A corrected (kind 1) or uncorrectable (kind 2) word of a memory channel counted in MC_ECCC, or in MC_ECCU and MC_FAILA. -/
def Dev.countEcc (d : Dev) (c kind pa : Nat) : Dev :=
  let m := Tab.get d.mc.chans c {}
  let n := if kind = 1 then { m with eccc := satAdd m.eccc 1 } else if kind = 2 then { m with eccu := satAdd m.eccu 1, faila := BitVec.ofNat 64 pa } else m
  { d with mc := { d.mc with chans := Tab.set d.mc.chans c n } }

/-- An uncorrectable error recorded under the unit that holds the address (R353). -/
def Dev.recordBadData (d : Dev) (pa : Nat) : Dev :=
  match d.region pa with
  | .loam => d.record (0x3000 + pa / 0x1000000) 0x02 (toLe 8 pa)
  | .ddr => (d.countEcc (d.channelOf pa) 2 pa).record (0x4000 + d.channelOf pa) 0x02 (toLe 8 pa)
  | _ => d.record 0x8040 0x02 (toLe 8 pa)

/-! ## The machine inside State -/

/-- A change of the machine, the queue kept. In the power state OFF nothing runs (R370), and after the power-fail sequence nothing until a reset (R164). -/
def State.run (s : State) (f : Dev → Dev) : State := if s.dev.pw.pstate = 0 ∨ s.dev.pw.pfDone then s else { s with dev := f s.dev }
/-- A change that also a machine at the end of its power-fail sequence takes: a device reset (R164, R373). -/
def State.reached (s : State) (f : Dev → Dev) : State := if s.dev.pw.pstate = 0 then s else { s with dev := f s.dev }
/-- A change of the machine that VDD_AON brings about, whatever the power state. -/
def State.always (s : State) (f : Dev → Dev) : State := { s with dev := f s.dev }

end Sys2Proof.Machine
end

