-- ==== Sys2Proof/Machine/RegMap.lean ====
section
/-! DEFINITION. Which device-register offsets exist in which block, at which levels a core reaches them, and which are Mirror registers (R226, R405, Table 7.12). -/

namespace Sys2Proof.Machine

/-- The blocks of Table 15.1, by offset in the device-register region. -/
inductive Blk where
  | core (n : Nat) | mem | host | engine (e : Nat) | derrik | epoch | recorder | power | journal | prot | none
  deriving DecidableEq, Repr

/-- The block and the offset in it (Table 15.1). -/
def blkOf (off : Nat) : Blk × Nat :=
  let o := off % 0x10000
  if off < 0x00800000 then (.core (off / 0x10000), o)
  else match off / 0x10000 with
    | 0x0800 => (.mem, o)
    | 0x0900 => (.host, o)
    | 0x0A00 => (.engine 0, o)
    | 0x0A01 => (.engine 1, o)
    | 0x0A02 => (.engine 2, o)
    | 0x0A03 => (.engine 3, o)
    | 0x0B00 => (.derrik, o)
    | 0x0C00 => (.epoch, o)
    | 0x0D00 => (.recorder, o)
    | 0x0D01 => (.power, o)
    | 0x0E00 => (.journal, o)
    | 0x0F00 => (.prot, o)
    | _ => (.none, o)

/-- Whether an offset of the journal or Derrik block is a Mirror register (Table 7.12). -/
def mirrorOutside (b : Blk) (o : Nat) : Bool :=
  match b with
  | .journal => decide (0x1000 ≤ o) && decide (o < 0x3000) && o % 0x80 == 0
  | .derrik => (decide (0x1000 ≤ o) && decide (o < 0x1040) && o % 0x10 == 0) || (decide (0x2000 ≤ o) && decide (o < 0x2200))
  | _ => false

/-- Whether a core may read or write a register at S level; every register is open at M level (R226). RC_CLR and CH_AUTH answer for themselves. -/
def regAtS (b : Blk) (o : Nat) (store : Bool) : Bool :=
  match b with
  | .core _ => !(o == 0x400 || o == 0x404)
  | .epoch => o != 0
  | .derrik => o != 0x800
  | .power => !store && !(o == 0 || o == 0x80 || o == 0x84 || o == 0x200)
  | .prot => false
  | _ => true

/-- The reason of cause 0x06 that a device-register access by a core meets, for an access of the right form (Table 7.7, check 3). -/
def regRefusal (off : Nat) (store : Bool) (lvl : Nat) : Option Nat :=
  let (b, o) := blkOf off
  if lvl = 3 then none
  else if b = .prot then some 0x13
  else if store && mirrorOutside b o then some 0x18
  else if lvl = 0 then some 0x19
  else if regAtS b o store then none else some 0x19

end Sys2Proof.Machine
end

