-- ==== Sys2Proof/Machine/Translate.lean ====
section
/-! DEFINITION. Translation, walks, access checks and custody keys (R228 to R246), and data reads through the store buffer (R257). -/

namespace Sys2Proof.Machine

/-! ## Mirror registers in force (Table 7.12), named by MS_ID -/

/-- MCTL. -/
def midMCTL : Nat := 0x0F000000
/-- CPOL. -/
def midCPOL : Nat := 0x0F000010
/-- KTCTL. -/
def midKTCTL : Nat := 0x0F000014
/-- KTLIM. -/
def midKTLIM : Nat := 0x0F000018
/-- PATCHEN. -/
def midPATCHEN : Nat := 0x0F000020
/-- Word `w` of gate `g`. -/
def midGate (g w : Nat) : Nat := 0x0F004000 + 0x20 * g + 4 * w
/-- EVEC_M of a bay. -/
def midEVECM (n b : Nat) : Nat := 0x40000000 + 4 * n + b
/-- JOWN of a stream. -/
def midJOWN (s : Nat) : Nat := 0x0E001000 + 0x80 * s
/-- RG_CFG of a ring slot. -/
def midRGCFG (k : Nat) : Nat := 0x0B001000 + 0x10 * k
/-- SMAP of a stream. -/
def midSMAP (s : Nat) : Nat := 0x0B002000 + 8 * s
/-- SMAPB of a stream. -/
def midSMAPB (s : Nat) : Nat := 0x0B002004 + 8 * s

/-- The value of a Mirror register before anything was committed: the defaults of a first start. -/
def mirrorDefault (id : Nat) : Word :=
  if id = midMCTL then 1000
  else if id = midCPOL then 0xFFFFFFFF
  else if id = midPATCHEN then 0xC0000000
  else if midRGCFG 0 ≤ id ∧ id ≤ midRGCFG 3 then 0x3F000000
  else 0

/-- The committed value of a Mirror register: what a read returns (R248). -/
def Dev.committed (d : Dev) (id : Nat) : Word := Tab.get d.mi.vals id (mirrorDefault id)
/-- The value of a Mirror register in force (R253). -/
def Dev.inForce (d : Dev) (id : Nat) : Word := Tab.get d.mi.regs id (mirrorDefault id)

/-! ## Custody keys (R242, R243) -/

/-- KTCTL.EN. -/
def Dev.keysOn (d : Dev) : Bool := bit (d.inForce midKTCTL).toNat 31
/-- The key-table base. -/
def Dev.keyBase (d : Dev) : Nat := bits (d.inForce midKTCTL).toNat 26 20 * 2 ^ 20
/-- KTLIM.GRANULES. -/
def Dev.keyLimit (d : Dev) : Nat := bits (d.inForce midKTLIM).toNat 25 0
/-- Whether a range touches the key-table region while keys are on. -/
def Dev.inKeyTable (d : Dev) (pa n : Nat) : Bool :=
  d.keysOn && decide (pa < d.keyBase + 0x800 + d.keyLimit) && decide (d.keyBase < pa + n)
/-- The address of the key byte of a granule of Loam or DDR; none where the granule has no key. -/
def Dev.keyAddr (d : Dev) (pa : Nat) : Option Nat :=
  if pa < 0x08000000 then some (d.keyBase + pa / 0x10000)
  else
    let g := (pa - ddrBase) / 0x10000
    if g < d.keyLimit then some (d.keyBase + 0x800 + g) else none

/-- The reason of cause 0x07 an access meets under a mask, with keys on (R243). -/
def Dev.keyRefusal (d : Dev) (mask : Word) (store : Bool) (pa : Nat) : Option Nat :=
  match d.keyAddr pa with
  | none => some 4
  | some a =>
    let k := (d.byte a).toNat
    if !mask.getLsbD (k % 32) then some 1
    else if !store && bit k 6 then some 2
    else if store && bit k 5 then some 3
    else none

/-! ## Checks that follow translation (Table 7.7) -/

/-- The first check of Table 7.7, orders 3 to 6, that an access fails: its cause and reason. `form` tells an aligned word LDW or STW. -/
def Dev.checkAccess (d : Dev) (lvl : Nat) (mask : Word) (k : AccKind) (form : Bool) (perm : BitVec 11) (pa size : Nat) : Option (Nat × Nat) :=
  let store := decide (k = .store)
  let rg := d.region pa
  if rg = .hole ∨ d.region (pa + size - 1) = .hole then some (0x06, 0x15)
  else if d.inKeyTable pa size then some (0x06, 0x14)
  else if rg = .devreg ∧ ¬ form then some (0x06, 0x12)
  else match (if rg = .devreg then regRefusal (pa - devBase) store lvl else none) with
  | some r => some (0x06, r)
  | none =>
    if k = .fetch ∧ rg = .journal then some (0x06, 0x17)
    else if store ∧ rg = .journal then some (0x16, 0x0C)
    else if lvl = 0 ∧ !perm.getLsbD 4 then some (0x06, 0x04)
    else if lvl = 1 ∧ k = .fetch ∧ perm.getLsbD 4 then some (0x06, 0x05)
    else if k = .load ∧ !perm.getLsbD 1 then some (0x06, 0x01)
    else if store ∧ !perm.getLsbD 2 then some (0x06, 0x02)
    else if k = .fetch ∧ !perm.getLsbD 3 then some (0x06, 0x03)
    else if d.keysOn ∧ lvl ≠ 3 ∧ (rg = .loam ∨ rg = .ddr) then (d.keyRefusal mask store pa).map (fun r => (0x07, r))
    else none

/-! ## The walk (R232 to R234) -/

/-- A 64-bit walk read, or its fault (R234). -/
def Dev.walkRead (d : Dev) (fab : Bool) (pa : Nat) : Except (Nat × Nat) Nat :=
  match d.region pa with
  | .devreg => .error (0x09, 1)
  | .journal => .error (0x09, 2)
  | .hole => .error (0x09, 3)
  | _ =>
    if d.inKeyTable pa 8 then .error (0x09, 2)
    else if !d.servedAt pa then .error (0x08, 2)
    else if fab then .error (0x08, 3)
    else if d.poisoned pa 8 then .error (0x08, 1)
    else .ok (d.num pa 8)

/-- What a walk finds: the entry, its address, the page size and the AST entry it used. -/
structure WalkHit where
  pte : Nat
  addr : Nat
  size : Nat
  ast : Nat
  deriving DecidableEq, Repr

/-- Whether a page entry's reserved bits and W without R break Table 7.4 or 7.5 (R229). -/
def pageBad (e : Nat) : Bool := bits e 55 46 != 0 || bit e 11 || (bit e 2 && !bit e 1)

/-- The walk up to the page entry (R232). -/
def Dev.walk (d : Dev) (n tag va : Nat) (fab : Bool) : Except (Nat × Nat) WalkHit := do
  let c := d.core n
  let a ← match c.ast.find? (fun p => p.1 == tag) with
    | some p => pure p.2.toNat
    | none => d.walkRead fab (c.astb.toNat + 8 * tag)
  if !bit a 0 then throw (0x05, 1)
  if bits a 12 1 != 0 || bits a 63 46 != 0 then throw (0x05, 4)
  let ra := bits a 45 13 * 0x2000 + 8 * bits va 31 22
  let e ← d.walkRead fab ra
  if !bit e 0 then throw (0x05, 2)
  match bits e 9 8 with
  | 0 =>
    if bits e 55 46 != 0 || bit e 11 || bit e 12 then throw (0x05, 4)
    let p := bits e 45 12 * 0x1000 + 8 * bits va 21 12
    let l ← d.walkRead fab p
    if !bit l 0 then throw (0x05, 3)
    match bits l 9 8 with
    | 0 => if pageBad l then throw (0x05, 4) else pure { pte := l, addr := p, size := 0x1000, ast := a }
    | 1 => if pageBad l || bits l 15 12 != 0 then throw (0x05, 4) else pure { pte := l, addr := p, size := 0x10000, ast := a }
    | _ => throw (0x05, 4)
  | 3 => if pageBad e || bits e 21 12 != 0 then throw (0x05, 4) else pure { pte := e, addr := ra, size := 0x400000, ast := a }
  | _ => throw (0x05, 4)

/-- The addresses a walk reads as far as its reads succeed: the AST entry unless it is cached, the root entry, the leaf entry (R232). -/
def Dev.walkReads (d : Dev) (n tag va : Nat) : List Nat :=
  let c := d.core n
  let at_ := c.astb.toNat + 8 * tag
  let cached := (c.ast.find? (fun p => p.1 == tag)).map (fun p => p.2.toNat)
  let a := cached.getD (d.num at_ 8)
  let ra := bits a 45 13 * 0x2000 + 8 * bits va 31 22
  let e := d.num ra 8
  (if cached.isSome then [] else [at_]) ++ (if bit a 0 then [ra] ++ (if bit e 0 && bits e 9 8 == 0 then [bits e 45 12 * 0x1000 + 8 * bits va 21 12] else []) else [])
/-- Whether a walk is long: one of its reads is of DDR and misses the L2 (R267). -/
def Dev.walkLong (d : Dev) (n tag va : Nat) : Bool := (d.walkReads n tag va).any (fun a => d.region a == .ddr && Config.ddrPlace d.free (a / 64) % 3 == 2)
/-- The translation of a page entry (R237). -/
def WalkHit.entry (h : WalkHit) (tag va : Nat) : TlbE :=
  { tag := tag, va := va - va % h.size, size := h.size, pa := bits h.pte 45 12 * 0x1000, perm := BitVec.ofNat 11 h.pte, pte := h.addr }

/-- The physical address of a virtual one through an entry. -/
def TlbE.physical (e : TlbE) (va : Nat) : Nat := e.pa + (va - e.va)

/-! ## TLBs (R237, R238) -/

/-- Whether an entry translates an address of a space; G entries match every tag. -/
def TlbE.covers (e : TlbE) (tag va : Nat) : Bool :=
  decide (e.va ≤ va) && decide (va < e.va + e.size) && (e.perm.getLsbD 5 || e.tag == tag)

/-- The locked entries of a side. -/
def Core.locked (c : Core) (fetch : Bool) : Tab (Option TlbE) := if fetch then c.lockI else c.lockD

/-- The unlocked entries of a side's first-level TLB. -/
def Core.firstTlb (c : Core) (fetch : Bool) : List TlbE := if fetch then c.itlb else c.dtlb
/-- How many unlocked entries a side holds at most: ITLB 32, DTLB 64, less those locked (R237). -/
def Core.firstRoom (c : Core) (fetch : Bool) : Nat := (if fetch then 32 else 64) - (c.locked fetch).length

/-- The entry that translates an address: locked entries of the side, its other entries, then the second level (R237). -/
def Core.tlbFind (c : Core) (fetch : Bool) (tag va : Nat) : Option TlbE :=
  match ((c.locked fetch).filterMap (fun p => p.2)).find? (fun e => e.covers tag va) with
  | some e => some e
  | none => (c.firstTlb fetch ++ c.tlb2).find? (fun e => e.covers tag va)

/-- A list without the entries the free choice evicts, counted from position `i`. -/
def evictFrom (free : Nat) : Nat → List TlbE → List TlbE
  | _, [] => []
  | i, e :: es => if i ≠ 0 && Config.tlbEvict free i then evictFrom free (i + 1) es else e :: evictFrom free (i + 1) es

/-- An entry put at the head of a TLB of `room` entries; the free choice evicts others, and what does not fit leaves. -/
def putTlb (free start room : Nat) (tag va : Nat) (e : TlbE) (l : List TlbE) : List TlbE :=
  (e :: evictFrom free start (l.filter (fun x => !x.covers tag va))).take room
/-- A core with an unlocked entry put into a side's first-level TLB and into the second level. -/
def Core.cacheTlb (c : Core) (free : Nat) (fetch : Bool) (tag va : Nat) (e : TlbE) : Core :=
  let f := putTlb free 0 (c.firstRoom fetch) tag va e (c.firstTlb fetch)
  let c1 := if fetch then { c with itlb := f } else { c with dtlb := f }
  { c1 with tlb2 := putTlb free 1025 1024 tag va e c1.tlb2 }
/-- A translation installed: a locked entry for the address is updated in place, otherwise the new entry leads the unlocked ones of its side and of the second level (R237, R238). -/
def Core.install (c : Core) (free : Nat) (fetch : Bool) (tag va : Nat) (e : TlbE) : Core :=
  let hit := fun (p : Nat × Option TlbE) => match p.2 with | some x => x.covers tag va | none => false
  if (c.locked fetch).any hit then
    let upd := (c.locked fetch).map (fun p => if hit p then (p.1, some e) else p)
    if fetch then { c with lockI := upd } else { c with lockD := upd }
  else c.cacheTlb free fetch tag va e

/-- The AST cache after a walk read an entry. -/
def Core.cacheAst (c : Core) (tag ast : Nat) : Core :=
  if c.ast.any (fun p => p.1 == tag) then c else { c with ast := (tag, BitVec.ofNat 64 ast) :: c.ast.take 15 }

/-- The address space of a level (R232). -/
def Bay.tag (x : Bay) (lvl : Nat) : Nat := (if lvl = 3 then x.mastag else x.astag).toNat % 4096

/-- What an access meets: a physical address, a walk to be made, or a fault. -/
inductive Xl where
  | ok (pa : Nat)
  | walk (va : Nat)
  | fault (cause reason : Nat) (va : Nat)
  deriving DecidableEq, Repr

/-- One half of an access: `size` bytes that lie in one line (R232, R233, R235). -/
def Dev.accessHalf (d : Dev) (n b lvl : Nat) (k : AccKind) (form : Bool) (va size : Nat) : Xl :=
  let x := d.bay n b
  let miss := match x.walkFault with
    | some (v, c, r) => if v = va then .fault c r va else .walk va
    | none => .walk va
  match (d.core n).tlbFind (decide (k = .fetch)) (x.tag lvl) va with
  | none => miss
  | some e =>
    if k = .store ∧ !e.perm.getLsbD 7 then miss
    else match d.checkAccess lvl x.kmask k form e.perm (e.physical va) size with
      | some (c, r) => .fault c r va
      | none => .ok (e.physical va)

/-- Bytes of an access that lie in its first 64-byte line. -/
def firstHalf (va size : Nat) : Nat := min size (64 - va % 64)

/-- A whole access: one or two halves, each with its physical address and length (R60). The lower half's fault comes first. -/
def Dev.access (d : Dev) (n b lvl : Nat) (k : AccKind) (form : Bool) (va size : Nat) : Except Xl (List (Nat × Nat)) :=
  let s1 := firstHalf va size
  let f := form && decide (s1 = size) && va % 4 == 0
  match d.accessHalf n b lvl k f va s1 with
  | .ok pa =>
    if s1 = size then .ok [(pa, size)]
    else match d.accessHalf n b lvl k f ((va + s1) % 2 ^ 32) (size - s1) with
      | .ok pb => .ok [(pa, s1), (pb, size - s1)]
      | r => .error r
  | r => .error r

/-- A bay whose walk is made goes on: at once after a freeze, READY where the long walk switched it out (R267). -/
def Bay.walked (x : Bay) : Bay := { x with st := if x.st = .miss then .ready else .running, wait := .none }
/-- The walk a bay waits for, made: the checks, the compare-and-swap of A and D, the installed translation, or the fault kept for the access (R232). -/
def Dev.pageWalk (d : Dev) (n b va : Nat) (k : AccKind) (form : Bool) (size : Nat) (fab : Bool) : Dev :=
  let x := d.bay n b
  let lvl := x.level
  let tag := x.tag lvl
  let fail := fun (c r : Nat) => d.setBay n b { x.walked with walkFault := some (va, c, r) }
  match d.walk n tag va fab with
  | .error (c, r) => fail c r
  | .ok h =>
    let pte1 := setBits h.pte 6 6 1
    let pte2 := if k = .store then setBits pte1 7 7 1 else pte1
    let e := { h with pte := pte2 }.entry tag va
    match d.checkAccess lvl x.kmask k form e.perm (e.physical va) size with
    | some (c, r) => fail c r
    | none =>
      let d1 := if pte2 = h.pte then d else d.put h.addr (toLe 8 pte2)
      let d2 := d1.modCore n (fun c => (c.cacheAst tag h.ast).install d.free (decide (k = .fetch)) tag va e)
      (d2.modBay n b (fun y => { y.walked with walkFault := none })).tickFree

/-- A translation made without setting A and D, for the gate probe, TLOCK and IFLUSH (R214, R232, R238, R259): the entry or the fault. -/
def Dev.probe (d : Dev) (n b lvl va : Nat) (fetch : Bool) : Except (Nat × Nat) TlbE :=
  let tag := (d.bay n b).tag lvl
  match (d.core n).tlbFind fetch tag va with
  | some e => .ok e
  | none => match d.walk n tag va false with
    | .error f => .error f
    | .ok h => .ok (h.entry tag va)

/-! ## Data through the store buffer (R257) -/

/-- Bytes read at an address with one buffered store laid over them. -/
def overlay1 (pa : Nat) (bs : List Byte) (e : SbE) : List Byte :=
  bs.mapIdx (fun i v => if e.pa ≤ pa + i ∧ pa + i < e.pa + e.data.length then byteAt e.data (pa + i - e.pa) else v)

/-- What a core reads at a physical address: memory with its store buffer laid over it, oldest first. -/
def Dev.loadBytes (d : Dev) (n pa len : Nat) : List Byte :=
  ((d.core n).sb.filter (fun e => !e.dev)).foldl (overlay1 pa) (d.bytes pa len)

/-- What a core reads over the halves of an access. -/
def Dev.loadHalves (d : Dev) (n : Nat) (hs : List (Nat × Nat)) : List Byte :=
  hs.flatMap (fun h => d.loadBytes n h.1 h.2)

end Sys2Proof.Machine
end

