-- ==== Sys2Proof/Machine/DerrikOps.lean ====
section
/-! DEFINITION. Derrik ports, ring slots, frames and their sending (R333 to R350). -/

namespace Sys2Proof.Machine

/-- A port. -/
def Dev.port (d : Dev) (p : Nat) : Port := Tab.get d.dl.ports p {}
/-- The machine with a port replaced. -/
def Dev.setPort (d : Dev) (p : Nat) (x : Port) : Dev := { d with dl := { d.dl with ports := Tab.set d.dl.ports p x } }

/-! ## Ring slots (R345) -/

/-- A ring slot's fields, from RG_CFG in force. -/
structure Slot where
  v : Bool
  ring : Bool
  upp : Nat
  dnp : Nat
  nmem : Nat
  member : Nat
  ringId : Nat
  deriving DecidableEq, Repr

/-- RG_CFG read as a slot. -/
def slotOf (w : Word) : Slot :=
  { v := bit w.toNat 31, ring := bit w.toNat 30, upp := bits w.toNat 29 27, dnp := bits w.toNat 26 24, nmem := bits w.toNat 23 20, member := bits w.toNat 19 16, ringId := bits w.toNat 15 0 }
/-- Ring slot `k`. -/
def Dev.slot (d : Dev) (k : Nat) : Slot := slotOf (d.inForce (midRGCFG k))
/-- The valid ring slot that names a port. -/
def Dev.slotNaming (d : Dev) (p : Nat) : Option Nat :=
  (List.range 4).find? (fun k => (d.slot k).v && ((d.slot k).upp == p || (d.slot k).dnp == p))
/-- SMAP of a stream in force. -/
def Dev.smap (d : Dev) (s : Nat) : Nat := (d.inForce (midSMAP s)).toNat
/-- SMAPB of a stream in force. -/
def Dev.smapb (d : Dev) (s : Nat) : Nat := (d.inForce (midSMAPB s)).toNat

/-! ## Frames (Tables 11.2 to 11.4) -/

/-- Whether a TYPE is sequenced. -/
def seqType (t : Nat) : Bool := t == 1 || t == 2 || t == 3
/-- Whether a TYPE travels on the ring. -/
def ringType (t : Nat) : Bool := t == 1 || t == 3

/-- The header bytes of a frame. -/
def Frame.header (f : Frame) : List Byte :=
  toLe 1 f.type ++ toLe 1 f.vl ++ toLe 2 f.lseq ++ toLe 2 f.payload.length ++ toLe 2 f.ring ++ toLe 1 f.origin ++ toLe 1 f.hops ++ toLe 1 f.stream ++ toLe 5 0
/-- The bytes of a frame on the wire. -/
def Frame.bytes (f : Frame) : List Byte :=
  let body := f.header ++ f.payload
  body ++ toLe 4 (crc32c body).toNat ++ [if f.stomp then 0x5A else 0] ++ toLe 11 0
/-- The 16-byte units of a frame. -/
def Frame.units (f : Frame) : Nat := (32 + f.payload.length) / 16
/-- A frame's fields, read from its bytes. -/
def frameOf (bs : List Byte) : Frame :=
  { type := leAt bs 0 1, vl := leAt bs 1 1, lseq := leAt bs 2 2, ring := leAt bs 6 2, origin := leAt bs 8 1, hops := leAt bs 9 1, stream := leAt bs 10 1,
    payload := (bs.drop 16).take (bs.length - 32), stomp := byteAt bs (bs.length - 11 - 1) == 0x5A }

/-! ## Sending -/

/-- Units a lane of a port holds credit for. -/
def Port.credit (x : Port) (vl : Nat) : Nat := if vl = 0 then x.txCr0 else x.txCr1
/-- The bytes of a retry buffer. -/
def Port.retryBytes (x : Port) : Nat := (x.retry.map (fun f => 32 + f.payload.length)).sum
/-- Whether a port carries a frame now: UP, credits, room in the retry buffer, no LSEQ kept for a resend, and PEER for a ring frame (R334, R337, R339, R343, R347). -/
def Port.canSend (x : Port) (f : Frame) : Bool :=
  x.state == 3 && (!ringType f.type || x.peer) &&
  (!seqType f.type || (x.stomped.isNone && decide (f.units ≤ x.credit f.vl) && decide (x.retry.length < 2048) && decide (x.retryBytes + 32 + f.payload.length ≤ 131072)))

/-- A frame put on the wire; a sequenced one takes the next LSEQ and stays in the retry buffer. -/
def Port.emit (x : Port) (f : Frame) : Port :=
  if seqType f.type then
    let g := { f with lseq := x.txNext, feeder := none }
    { x with
      wire := x.wire ++ [g]
      retry := x.retry ++ [g]
      txNext := (x.txNext + 1) % 4096
      txCr0 := if f.vl = 0 then x.txCr0 - f.units else x.txCr0
      txCr1 := if f.vl = 0 then x.txCr1 else x.txCr1 - f.units }
  else { x with wire := x.wire ++ [f] }

/-- Units of a port's receive buffer freed (R339). -/
def Port.free (x : Port) (vl units : Nat) : Port :=
  if vl = 0 then { x with used0 := x.used0 - units, freed0 := x.freed0 + BitVec.ofNat 32 units }
  else { x with used1 := x.used1 - units, freed1 := x.freed1 + BitVec.ofNat 32 units }

/-- The receive-buffer units that a frame holds, if it holds any, freed (R339). -/
def Dev.freeFrame (d : Dev) (f : Frame) : Dev :=
  match f.feeder with
  | some q => d.setPort q ((d.port q).free f.vl f.units)
  | none => d

/-- The queue of a port sent as far as it can be: a lane whose head must wait waits, except that marks pass ring frames held for PEER (R339, R347).
The port, what stays queued, and the frames sent. -/
def pumpList : Port → List Frame → Bool → Bool → Port × List Frame × List Frame
  | x, [], _, _ => (x, [], [])
  | x, f :: fs, b0, b1 =>
    let blocked := if f.vl = 0 then b0 else b1
    if !blocked && x.canSend f then
      let (y, rest, sent) := pumpList (x.emit f) fs b0 b1
      (y, rest, f :: sent)
    else
      let held := ringType f.type && !x.peer
      let (y, rest, sent) := pumpList x fs (b0 || (f.vl == 0 && !held) || (f.vl == 0 && held)) (b1 || (f.vl != 0 && !held))
      (y, f :: rest, sent)

/-- A port sends what it can, and the receive buffers that fed the sent frames are freed (R339). Nothing leaves after a power failure (R164). -/
def Dev.pump (d : Dev) (p : Nat) : Dev :=
  if d.pw.pfail then d
  else
    let x := d.port p
    let (y, rest, sent) := pumpList x x.txq false false
    let d1 := d.setPort p { y with txq := rest }
    sent.foldl (fun (e : Dev) f => e.freeFrame f) d1

/-- A frame queued on a port and sent as far as the port can. -/
def Dev.queueFrame (d : Dev) (p : Nat) (f : Frame) : Dev :=
  let x := d.port p
  (d.setPort p { x with txq := x.txq ++ [f] }).pump p

/-- A ring frame that arrived on port `p` sent on: ahead of everything where the port keeps the LSEQ of its stomped copy for it, else behind what waits (R343). -/
def Dev.forward (d : Dev) (p q : Nat) (f : Frame) : Dev :=
  let x := d.port q
  if x.stomped = some p then (d.setPort q { x with stomped := none, txq := f :: x.txq }).pump q else d.queueFrame q f
/-- The ports that kept an LSEQ for a resend on port `p` keep it no longer. -/
def Dev.unstomp (d : Dev) (p : Nat) : Dev :=
  (List.range 4).foldl (fun (e : Dev) q => if (e.port q).stomped = some p then (e.setPort q { e.port q with stomped := none }).pump q else e) d

/-- An unsequenced frame sent at once on a port that is UP, in HELLO or DRAINING. -/
def Dev.sendControl (d : Dev) (p : Nat) (f : Frame) : Dev :=
  let x := d.port p
  if d.pw.pfail ∨ ¬ (x.state = 2 ∨ x.state = 3 ∨ x.state = 4) then d else d.setPort p { x with wire := x.wire ++ [f] }

/-- The payload of a port's HELLO (Table 11.4, R346). -/
def Dev.helloPayload (d : Dev) (p : Nat) : List Byte :=
  let x := d.port p
  let (mem, rid, topo) := match d.slotNaming p with
    | some k => let s := d.slot k; (s.member, s.ringId, b2n s.ring * 16 + s.nmem)
    | none => (0xFF, 0, 0)
  toLe 2 d.dl.devid.toNat ++ toLe 1 p ++ toLe 1 mem ++ toLe 2 rid ++ toLe 1 topo ++ toLe 1 0 ++ toLe 2 x.rxNext ++ toLe 6 0

/-- A HELLO sent (R346, R347). -/
def Dev.sendHello (d : Dev) (p : Nat) : Dev := d.sendControl p { type := 0x12, payload := d.helloPayload p }

/-- An ACK sent (R337, R339). -/
def Dev.sendAck (d : Dev) (p : Nat) : Dev :=
  let x := d.port p
  d.sendControl p { type := 0x10, payload := toLe 2 ((x.rxNext + 4095) % 4096) ++ toLe 2 0 ++ toLe 4 x.freed0.toNat ++ toLe 4 x.freed1.toNat ++ toLe 4 0 }

/-- A NAK sent, counted and kept as the last one (R338, R351). -/
def Dev.sendNak (d : Dev) (p seq reason : Nat) : Dev :=
  let d1 := d.sendControl p { type := 0x11, payload := toLe 2 seq ++ toLe 1 reason ++ toLe 13 0 }
  let x := d1.port p
  d1.setPort p { x with naktx := satAdd x.naktx 1, lastNak := BitVec.ofNat 32 (reason * 2 ^ 24 + seq) }

/-- Epoch marks with the counters, on every port of EPCTL.FWD (R168). -/
def Dev.sendMarks (d : Dev) : Dev :=
  let fwd := bits d.ep.ctl.toNat 23 20
  (List.range 4).foldl (fun (e : Dev) p =>
    if bit fwd p then
      e.queueFrame p { type := 2, vl := 1, payload := toLe 6 e.ep.epoch ++ toLe 2 0 ++ toLe 3 e.ep.tick ++ toLe 5 0 }
    else e) d

/-- A frame through the ports of a ring slot that are named (a port code of 7 names none). -/
def Dev.queueOn (d : Dev) (ports : List Nat) (f : Frame) : Dev :=
  ports.foldl (fun (e : Dev) p => if p < 4 then e.queueFrame p f else e) d

/-- The digest frame of a sealed digest, through both ports of one ring slot (R178, R350). -/
def Dev.sendDigestOn (d : Dev) (k s : Nat) (z : Seal) : Dev :=
  let t := d.slot k
  if !t.v then d else
  d.queueOn [t.upp, t.dnp] { type := 3, vl := 1, ring := t.ringId, origin := t.member, hops := t.nmem, stream := s, payload := toLe 6 z.epoch ++ toLe 1 z.close ++ toLe 1 0 ++ toLe 8 z.count ++ z.digest }

/-- Whether a partner's HELLO agrees with the ring slot that names the port (R346). That the partner's port is named as the opposite kind no field of a HELLO tells; it is taken as said by the member number (log entry 85). -/
def Dev.peerOk (d : Dev) (p : Nat) (h : List Byte) : Bool :=
  match d.slotNaming p with
  | none => false
  | some k =>
    let s := d.slot k
    let n := s.nmem + 1
    let viaDn := s.dnp == p
    let mem := leAt h 3 1
    let want := if viaDn then s.member + 1 else s.member + n - 1
    let memOk := if s.ring then mem == want % n else (if viaDn then mem == s.member + 1 else mem + 1 == s.member)
    leAt h 4 2 == s.ringId && leAt h 6 1 == b2n s.ring * 16 + s.nmem && memOk

end Sys2Proof.Machine
end

