-- ==== Sys2Proof/Machine/HostOps.lean ====
section
/-! DEFINITION. What the host interface's commands share: functions, messages, completion queues and intake rings (R279 to R300). -/

namespace Sys2Proof.Machine

/-- The owner of a stream in force. -/
def Dev.owner (d : Dev) (s : Nat) : Option (Nat × Nat) :=
  let w := (d.inForce (midJOWN s)).toNat
  if bit w 31 then some (bits w 8 2, bits w 1 0) else none

/-! ## Who reaches the device registers -/

/-- Whether a writer or reader reaches a device register: a bay at its level, the PF in the protection block with HOSTORG, Pupor (R226, R285, R385, R405). -/
def Dev.allowed (d : Dev) (who : Agent) (off : Nat) (store : Bool) : Bool :=
  match who with
  | .bay c b => (regRefusal off store (d.bay c.toNat b.toNat).level).isNone
  | .host f =>
    let x := (Tab.find d.host.fns 0).getD {}
    f == 0 && x.closed && (Tab.get x.facc 0 0).getLsbD 8 && (blkOf off).1 == .prot
  | .pupor => true
  | .other => false

/-! ## Functions -/

/-- A function after its reset (Tables 9.2 and 9.5, R286). -/
def Fn.reset (f : Nat) : Fn := if f = 0 then { vfqSq := 0x00100000, vfqCq := 0x00100000 } else {}
/-- A function. -/
def Dev.fn (d : Dev) (f : Nat) : Fn := (Tab.find d.host.fns f).getD (Fn.reset f)
/-- The machine with a function replaced. -/
def Dev.setFn (d : Dev) (f : Nat) (x : Fn) : Dev := { d with host := { d.host with fns := Tab.set d.host.fns f x } }
/-- Whether a function is there: the PF, or a VF while VF Enable is 1. -/
def Dev.fnUp (d : Dev) (f : Nat) : Bool := f == 0 || d.host.vfEn
/-- Whether a function has a feature in its accepted set, which the close fixes (R25, R26). -/
def Fn.has (x : Fn) (n : Nat) : Bool := x.closed && (Tab.get x.facc 0 0).getLsbD n
/-- FEATn of a function (R27, R281). -/
def Dev.feat (d : Dev) (f n : Nat) : DWord :=
  if n ≠ 0 then 0
  else if f = 0 then (if d.pw.stage = .finished && !bit d.pw.boot.toNat 30 then 0xFFFF else 0)
  else if (d.fn 0).closed then Tab.get (d.fn 0).facc 0 0 &&& 0xFCFF else 0

/-- An MSI-X message sent, or its pending bit set while the vector is masked (R300). -/
def Dev.message (d : Dev) (f v : Nat) : Dev :=
  let x := d.fn f
  let m := Tab.get x.msix v {}
  if m.mask then d.setFn f { x with msix := Tab.set x.msix v { m with pend := true } }
  else { d with host := { d.host with out := d.host.out ++ [.msix f v m.addr m.data] } }

/-- A bit of FSTAT set; vector 0 is sent when MIRROR becomes 1, and with ERRINT when an error bit becomes 1 (R283, R284); EARLY comes before the close, so ERRINT counts there as FACC0 holds it (log 90). -/
def Dev.flag (d : Dev) (f n : Nat) : Dev :=
  let x := d.fn f
  if x.fstat.getLsbD n then d
  else
    let d1 := d.setFn f { x with fstat := x.fstat ||| BitVec.ofNat 32 (2 ^ n) }
    if n = 0 || (n != 1 && (Tab.get x.facc 0 0).getLsbD 11) then d1.message f 0 else d1
/-- FSTAT.CFGERR set. -/
def Dev.cfgErr (d : Dev) (f : Nat) : Dev := d.flag f 3
/-- A doorbell violation counted and flagged (R294). -/
def Dev.dbErr (d : Dev) (f n : Nat) : Dev :=
  let x := d.fn f
  ((d.setFn f { x with dberr := satAdd x.dberr 1 }).flag f n).record (0x6000 + f) 0x02 []
/-- A completion dropped. -/
def Dev.cplDrop (d : Dev) (f : Nat) : Dev :=
  let x := d.fn f
  d.setFn f { x with cpldrop := satAdd x.cpldrop 1 }

/-- First global queue and count of a function's queues of a kind (R286). -/
def Dev.qRange (d : Dev) (f : Nat) (cq : Bool) : Nat × Nat :=
  let w := (if cq then (d.fn f).vfqCq else (d.fn f).vfqSq).toNat
  if bit w 31 || (f != 0 && !(d.host.vfEn && (d.fn 0).has 9)) then (0, 0) else (bits w 9 0, bits w 24 16)

/-- A local submission queue. -/
def Fn.sq (x : Fn) (q : Nat) : Sq := (Tab.find x.sqs q).getD { target := q % 64, cq := q }
/-- A local completion queue. -/
def Fn.cq (x : Fn) (q : Nat) : Cq := Tab.get x.cqs q {}
/-- The machine with a submission queue replaced. -/
def Dev.setSq (d : Dev) (f q : Nat) (y : Sq) : Dev := let x := d.fn f; d.setFn f { x with sqs := Tab.set x.sqs q y }
/-- The machine with a completion queue replaced. -/
def Dev.setCq (d : Dev) (f q : Nat) (y : Cq) : Dev := let x := d.fn f; d.setFn f { x with cqs := Tab.set x.cqs q y }

/-! ## Intake rings (Table 9.10, Table 9.11); rings 64 to 79 are the control rings -/

/-- A ring. -/
def Dev.ring (d : Dev) (r : Nat) : Ring := Tab.get d.host.rings r {}
/-- The machine with a ring replaced. -/
def Dev.setRing (d : Dev) (r : Nat) (x : Ring) : Dev := { d with host := { d.host with rings := Tab.set d.host.rings r x } }
/-- The address of a slot. -/
def Dev.slotAddr (d : Dev) (r i : Nat) : Nat := (d.ring r).base.toNat + (if r < 64 then 512 else 128) * i
/-- The address of a slot's intake header. -/
def Dev.slotHdr (d : Dev) (r i : Nat) : Nat := d.slotAddr r i + (if r < 64 then 256 else 64)
/-- The FLAGS byte of a slot's header: [0] DONE, [1] CQW, [2] FRESET. -/
def Dev.slotFlags (d : Dev) (r i : Nat) : Nat := (d.byte (d.slotHdr r i + 6)).toNat
/-- Flag bits set in a slot's header. -/
def Dev.markSlot (d : Dev) (r i v : Nat) : Dev :=
  d.put (d.slotHdr r i + 6) [BitVec.ofNat 8 (d.slotFlags r i ||| v)]
/-- Whether a ring has no free slot. -/
def Ring.full (x : Ring) : Bool := x.count == x.size + 1

/-- An entry delivered to a ring: the slot written, the tail moved, and the event at the owner; NOOWN where a port's posting finds no owner (R296, R341). -/
def Dev.fillSlot (d : Dev) (r : Nat) (entry : List Byte) (src f sq cid : Nat) : Dev :=
  let x := d.ring r
  let body := padTo (if r < 64 then 256 else 64) entry
  let d1 := d.put (d.slotAddr r x.tail) (body ++ toLe 1 src ++ toLe 1 f ++ toLe 2 sq ++ toLe 2 cid ++ toLe 1 0 ++ toLe 25 0)
  let y := { x with tail := (x.tail + 1) % (x.size + 1), count := x.count + 1 }
  if r < 64 then
    match d1.owner r with
    | some (n, b) => (d1.setRing r y).raise n b 0x20 (0x1000 + r)
    | none => d1.setRing r { y with noown := y.noown || src != 1 }
  else
    let o := x.own.toNat
    if bit o 31 then (d1.setRing r y).raise (bits o 8 2) (bits o 1 0) 0x20 (0x2000 + (r - 64)) else d1.setRing r y

/-! ## Completions (R292, R299, R300, R302) -/

/-- Whether a completion queue has no free slot. -/
def Cq.full (q : Cq) : Bool := (q.tail + 1) % (q.size + 1) == q.head

/-- A POST of a submission queue answered. -/
def Dev.closePost (d : Dev) (f sq : Nat) : Dev :=
  let y := (d.fn f).sq sq
  d.setSq f sq { y with open_ := y.open_ - 1 }
/-- A completion entry written or dropped: the POST it answers is open no longer (R299). -/
def Dev.closeFor (d : Dev) (f : Nat) (e : CplE) : Dev := if e.post then d.closePost f e.sq else d

/-- A completion entry written in slot TAIL, CQW set in its intake slot, and the message when one is due. -/
def Dev.writeCpl (d : Dev) (f c : Nat) (e : CplE) : Dev :=
  let x := d.fn f
  let q := x.cq c
  let hd := e.hd.getD (x.sq e.sq).head
  let bytes := toLe 4 e.r0.toNat ++ toLe 4 e.r1.toNat ++ toLe 2 hd ++ toLe 2 e.sq ++ toLe 2 e.cid ++ toLe 2 (e.sc * 256 + b2n q.phase)
  let t := (q.tail + 1) % (q.size + 1)
  let cnt := bits q.mod_.toNat 15 0
  let send := q.ien && (e.sc != 0 || cnt ≤ 1 || q.since + 1 ≥ cnt)
  let q1 := { q with
    tail := t
    phase := if t = 0 then !q.phase else q.phase
    err := q.err || e.sc != 0
    modW := q.mod_
    since := if send then 0 else q.since + 1 }
  let d1 := d.setCq f c q1
  let d2 : Dev := { d1 with host := { d1.host with out := d1.host.out ++ [.write f (q.base.toNat + 16 * q.tail) bytes] } }
  let y := (d2.fn f).sq e.sq
  let d3 := if e.sc != 0 && e.sq < 256 then d2.setSq f e.sq { y with errs := y.errs + 1 } else d2
  let d4 : Dev := match e.slot with | some (r, i) => d3.markSlot r i 2 | none => d3
  if send then (d4.closeFor f e).message f q.vec else d4.closeFor f e

/-- A completion entry that is due: discarded for a disabled queue, held behind others or for room, or written (R292, R299, R302). -/
def Dev.complete (d : Dev) (f c : Nat) (e : CplE) : Dev :=
  let q := (d.fn f).cq c
  if !q.en then
    let d1 : Dev := match e.slot with | some (r, i) => d.markSlot r i 2 | none => d
    if e.sc = 0x08 then d1.closeFor f e else (d1.closeFor f e).cplDrop f
  else if !q.wait.isEmpty || q.full then d.setCq f c { q with wait := q.wait ++ [e] }
  else d.writeCpl f c e

/-- The answer of the device to the entry a queue just consumed (R295); SQHD is HEAD when the completion is written, but an ABORTED one names the slot after its entry (R302). A POST stays open until its answer is written or dropped (R299). -/
def Dev.answer (d : Dev) (f q cid sc : Nat) (r0 r1 : Word) (post : Bool := false) : Dev :=
  let y := (d.fn f).sq q
  (if post then d.setSq f q { y with open_ := y.open_ + 1 } else d).complete f y.cq
    { r0 := r0, r1 := r1, sq := q, hd := if sc = 0x06 then some y.head else none, cid := cid, sc := sc, post := post }

/-- One slot of a ring retired (R298); nothing where the move has ended or must wait. -/
def Dev.retireOne (d : Dev) (r : Nat) : Dev :=
  let x := d.ring r
  let fl := d.slotFlags r x.head
  if x.goalN = 0 ∨ (bit fl 0 ∧ ¬ bit fl 1) then d
  else
    let h := d.slotHdr r x.head
    let d1 := d.setRing r { x with head := (x.head + 1) % (x.size + 1), count := x.count - 1, goalN := x.goalN - 1 }
    if d.num h 1 = 1 ∧ ¬ bit fl 0 ∧ ¬ bit fl 2 then
      let f := d.num (h + 1) 1
      let q := bits (d.num (h + 2) 2) 9 0 - (d.qRange f false).1
      let y := (d.fn f).sq q
      (d1.cplDrop f).complete f y.cq { sq := q, cid := d.num (h + 4) 2, sc := 0x08, post := decide (r < 64) }
    else d1

/-- The accepted move of IN_HEAD carried on as far as it goes. -/
def Dev.retire (d : Dev) (r : Nat) : Dev :=
  (List.range (d.ring r).goalN).foldl (fun (e : Dev) _ => e.retireOne r) d

/-- Waiting entries written, oldest first, while there is room; each retirement they let go on may add one (`fuel` bounds the slots that can fill). -/
def Dev.flushLoop (f c : Nat) : Nat → Dev → Dev
  | 0, d => d
  | fuel + 1, d =>
    let q := (d.fn f).cq c
    match q.wait with
    | [] => d
    | w :: ws =>
      if q.full then d
      else
        let d1 := (d.setCq f c { q with wait := ws }).writeCpl f c w
        Dev.flushLoop f c fuel (match w.slot with | some (r, _) => d1.retire r | none => d1)
/-- The entries that wait at a completion queue written while there is room, and the retirements they let go on (R292, R298). -/
def Dev.flushCq (d : Dev) (f c : Nat) : Dev := Dev.flushLoop f c (((d.fn f).cq c).size + 1) d

/-- The slots a ring holds, from its head. -/
def Ring.slots (x : Ring) : List Nat := (List.range x.count).map (fun i => (x.head + i) % (x.size + 1))

end Sys2Proof.Machine
end

