-- ==== Sys2Proof/Machine/Mirror.lean ====
section
/-! DEFINITION. Mirror registers: staging, countersigning and taking effect (R248 to R254), and the own rules of R244 and R345. -/

namespace Sys2Proof.Machine

/-! ## Which locations, and which values (Table 7.12, R250) -/

/-- Whether an MS_ID names a Mirror register. -/
def isMirror (id : Nat) : Bool :=
  id == midMCTL || id == midCPOL || id == midKTCTL || id == midKTLIM || id == midPATCHEN ||
  (decide (midGate 0 0 ≤ id) && decide (id < midGate 256 0) && id % 4 == 0) ||
  (decide (midEVECM 0 0 ≤ id) && decide (id < midEVECM 128 0)) ||
  (decide (midJOWN 0 ≤ id) && decide (id < midJOWN 64) && id % 0x80 == 0) ||
  (decide (midRGCFG 0 ≤ id) && decide (id < midRGCFG 4) && id % 0x10 == 0) ||
  (decide (midSMAP 0 ≤ id) && decide (id < midSMAP 64) && id % 4 == 0)

/-- Whether a port code of RG_CFG is one the table gives: 0 to 3, or 7 for none. -/
def portCode (c : Nat) : Bool := decide (c < 4) || c == 7

/-- Whether a value has no reserved bit set and keeps the range given for its register (R244, R250, R251, Table 6.7). -/
def mirrorValid (id v : Nat) : Bool :=
  if id = midMCTL then bits v 31 16 == 0 && bits v 15 0 != 0
  else if id = midCPOL then true
  else if id = midKTCTL then bits v 30 27 == 0 && bits v 19 0 == 0
  else if id = midKTLIM then decide (v ≤ 0x03000000)
  else if id = midPATCHEN then bits v 29 16 == 0
  else if midGate 0 0 ≤ id ∧ id < midGate 256 0 then
    match (id - midGate 0 0) / 4 % 8 with
    | 0 => bits v 1 0 == 0
    | 1 => !bit v 30 && bits v 25 16 == 0
    | 2 => true
    | 3 => bits v 31 20 == 0 && v % 16 == 0
    | 4 => true
    | _ => v == 0
  else if midEVECM 0 0 ≤ id ∧ id < midEVECM 128 0 then bits v 1 0 == 0
  else if midJOWN 0 ≤ id ∧ id < midJOWN 64 then bits v 30 9 == 0
  else if midRGCFG 0 ≤ id ∧ id < midRGCFG 4 then portCode (bits v 29 27) && portCode (bits v 26 24)
  else if id % 8 = 0 then !bit v 30 && bits v 23 16 == 0
  else !bit v 30 && bits v 27 16 == 0

/-- A written value without the bits the register has read only: MCTL.ARMED (R11). -/
def mirrorField (id : Nat) (v : Word) : Word := if id = midMCTL then v &&& 0x7FFFFFFF else v

/-- A Mirror register's own rule, over the committed values as they would stand with the values that commit together (R244, R345). -/
def mirrorRule (look : Nat → Word) (id v : Nat) : Bool :=
  if id = midKTCTL ∨ id = midKTLIM then
    decide (bits (look midKTCTL).toNat 26 20 * 2 ^ 20 + 0x800 + bits (look midKTLIM).toNat 25 0 ≤ 0x08000000)
  else if midRGCFG 0 ≤ id ∧ id < midRGCFG 4 then
    let s := slotOf (BitVec.ofNat 32 v)
    !s.v ||
      (!(s.ring && (s.upp == 7 || s.dnp == 7)) && !(!s.ring && s.member == 0 && s.upp != 7) &&
       !((List.range 4).any (fun k => midRGCFG k != id &&
          (let t := slotOf (look (midRGCFG k))
           t.v && ((s.upp != 7 && (t.upp == s.upp || t.dnp == s.upp)) || (s.dnp != 7 && (t.upp == s.dnp || t.dnp == s.dnp)))))) &&
       decide (s.member ≤ s.nmem) && s.ringId != 0)
  else if midSMAP 0 ≤ id ∧ id < midSMAP 64 then
    let t := slotOf (look (midRGCFG (bits v 29 28)))
    let a := (look (id - id % 8)).toNat
    let b := (look (id - id % 8 + 4)).toNat
    !bit v 31 ||
      (t.v && !(id % 8 == 0 && !t.ring && bits v 27 24 != 0) && !(bit a 31 && bit b 31 && bits a 29 28 == bits b 29 28))
  else true

/-! ## Taking effect (R253, Table 7.12) -/

/-- Whether a committed value waits for a boundary: EVEC_M, JOWN and ring membership. -/
def mirrorWaits (id : Nat) : Bool :=
  decide (midEVECM 0 0 ≤ id) || (decide (midJOWN 0 ≤ id) && decide (id < midJOWN 64)) || (decide (midRGCFG 0 ≤ id) && decide (id < midSMAP 64))
/-- Whether a value is kept across power cycles: MTIMEOUT, CPOL, PATCHEN. -/
def mirrorKept (id : Nat) : Bool := id == midMCTL || id == midCPOL || id == midPATCHEN

/-- The ring slot a port is named by, with its content. -/
def Dev.naming (d : Dev) (p : Nat) : Option (Nat × Slot) := (d.slotNaming p).map (fun k => (k, d.slot k))

/-- Values put into a table of registers. -/
def setAll (t : Tab Word) (vs : List (Nat × Word)) : Tab Word := vs.foldl (fun u p => Tab.set u p.1 p.2) t

/-- Committed values put in force. A port whose naming slot changed loses PEER and says HELLO (R347). -/
def Dev.force (d : Dev) (vs : List (Nat × Word)) : Dev :=
  let d1 := { d with mi := { d.mi with regs := setAll d.mi.regs vs } }
  (List.range 4).foldl (fun (e : Dev) p =>
    if d.naming p = d1.naming p then e else (e.setPort p { e.port p with peer := false }).sendHello p) d1

/-- Values committed at one instant. -/
def Dev.commit (d : Dev) (vs : List (Nat × Word)) : Dev :=
  let now := vs.filter (fun (p : Nat × Word) => !mirrorWaits p.1)
  let d1 := { d with mi := { d.mi with
    vals := setAll d.mi.vals vs
    kept := setAll d.mi.kept (vs.filter (fun (p : Nat × Word) => mirrorKept p.1))
    applyQ := d.mi.applyQ ++ (vs.filter (fun (p : Nat × Word) => mirrorWaits p.1)).map (fun (p : Nat × Word) => BitVec.ofNat 32 p.1) } }
  d1.force now

/-- Whether a bay has no bundle under way: none is open, or it is parked in JWAIT. -/
def Bay.quiet (x : Bay) : Bool := x.bundle.isNone || (match x.wait with | .jwait _ _ => true | _ => false)
/-- Whether a core, and one of its bays, stand at a bundle boundary. -/
def Dev.coreQuiet (d : Dev) (n b : Nat) : Bool := (d.bay n b).quiet && (List.range 4).all (fun c => (d.bay n c).st != .running || (d.bay n c).quiet)
/-- Whether a waiting value has come to its boundary: EVEC_M at its bay's, JOWN at the old owner's core's (R148, Table 7.12). -/
def Dev.boundaryCome (d : Dev) (id : Nat) : Bool :=
  if midEVECM 0 0 ≤ id then (d.bay ((id - midEVECM 0 0) / 4) (id % 4)).quiet
  else if midJOWN 0 ≤ id ∧ id < midJOWN 64 then
    match d.owner ((id - midJOWN 0) / 0x80) with
    | some (n, b) => d.coreQuiet n b
    | none => true
  else true
/-- Whether an MS_ID is of ring membership, whose waiting values come into force at one instant. -/
def isRingId (id : Nat) : Bool := decide (midRGCFG 0 ≤ id) && decide (id < midSMAP 64)
/-- Waiting values put in force and no longer waiting. -/
def Dev.applyIds (d : Dev) (p : Nat → Bool) : Dev :=
  let vs := (d.mi.applyQ.filter (fun w => p w.toNat)).map (fun w => (w.toNat, d.committed w.toNat))
  ({ d with mi := { d.mi with applyQ := d.mi.applyQ.filter (fun w => !p w.toNat) } }).force vs
/-- The oldest committed value that has come to its boundary reaches its register; ring membership does so at one instant (R253). -/
def Dev.applyCommitted (d : Dev) : Dev :=
  match d.mi.applyQ.find? (fun w => d.boundaryCome w.toNat) with
  | none => d
  | some w => d.applyIds (fun id => id == w.toNat || (isRingId w.toNat && isRingId id))

/-- The committed values with some replaced. -/
def Dev.look (d : Dev) (vs : List (Nat × Word)) (id : Nat) : Word :=
  match vs.find? (fun p => p.1 == id) with
  | some p => p.2
  | none => d.committed id

/-! ## Staging (R249, R250, R251) -/

/-- The code of an origin (Table 7.13). -/
def orgCode : Origin → Nat
  | .host => 1
  | .firm => 2
  | .pupor => 3

/-- The origin a writer acts for: the PF, a core at M level, Pupor; every other writer has none (R249). -/
def Dev.originOf (d : Dev) : Agent → Option Origin
  | .bay c b => if (d.bay c.toNat b.toNat).level = 3 then some .firm else none
  | .host fn => if fn = 0 then some .host else none
  | .pupor => some .pupor
  | .other => none

/-- The countersign bank of an origin. -/
def Dev.bank (d : Dev) (o : Origin) : OrgBank := Tab.get d.mi.banks (orgCode o) {}
/-- The machine with a bank replaced. -/
def Dev.setBank (d : Dev) (o : Origin) (x : OrgBank) : Dev := { d with mi := { d.mi with banks := Tab.set d.mi.banks (orgCode o) x } }
/-- MLAST of an origin set. -/
def Dev.setLast (d : Dev) (o : Origin) (res slot ticket : Nat) : Dev :=
  d.setBank o { d.bank o with last := BitVec.ofNat 32 (res * 2 ^ 28 + slot * 2 ^ 16 + ticket) }
/-- A staging slot. -/
def Dev.stageSlot (d : Dev) (i : Nat) : StageSlot := Tab.get d.mi.slots i {}
/-- The machine with a staging slot replaced. -/
def Dev.setStage (d : Dev) (i : Nat) (x : StageSlot) : Dev := { d with mi := { d.mi with slots := Tab.set d.mi.slots i x } }
/-- MSUM.NEW, EXP or FULL set, and the control interrupt (R251, R283). -/
def Dev.summon (d : Dev) (f : Mirror → Mirror) : Dev := ({ d with mi := f d.mi }).flag 0 0
/-- The ticket after the last one; 0 is skipped. -/
def Dev.nextTicket (d : Dev) : Nat := d.mi.ticket % 0xFFFF + 1

/-- A value staged in a slot under the next ticket. -/
def Dev.putStage (d : Dev) (o : Origin) (i id : Nat) (v : Word) (res : Nat) : Dev :=
  let t := d.nextTicket
  let d1 := d.setStage i { st := 1, id := BitVec.ofNat 32 id, val := v, org := orgCode o, ticket := t, age := 0, limit := bits (d.committed midMCTL).toNat 15 0 }
  (({ d1 with mi := { d1.mi with ticket := t } }).setLast o res i t).summon (fun m => { m with new := true })

/-- A write of a value by an origin to a Mirror register (R250). -/
def Dev.stageValue (d : Dev) (o : Origin) (id : Nat) (v : Word) : Dev :=
  if ¬ d.mi.armed ∧ o = .host then d.setLast o 7 0 0
  else if ¬ mirrorValid id v.toNat then d.setLast o 5 0 0
  else if ¬ d.mi.armed then
    if ¬ mirrorRule (d.look [(id, v)]) id v.toNat then d.setLast o 5 0 0
    else
      let d1 := d.commit [(id, v)]
      (({ d1 with mi := { d1.mi with applyQ := d.mi.applyQ } }).force [(id, v)]).setLast o 6 0 0
  else
    match (List.range 16).find? (fun i => (d.stageSlot i).st == 1 && (d.stageSlot i).id.toNat == id) with
    | some i => if (d.stageSlot i).org ≠ orgCode o then d.setLast o 3 0 0 else d.putStage o i id v 2
    | none =>
      match ((List.range 16).find? (fun i => (d.stageSlot i).st == 0)).or ((List.range 16).find? (fun i => (d.stageSlot i).st != 1)) with
      | none => (d.setLast o 4 0 0).summon (fun m => { m with full := true })
      | some i => d.putStage o i id v 1

/-- A write to a Mirror register by anyone: a writer without an origin is ignored and counted (R249). -/
def Dev.mirrorWrite (d : Dev) (who : Agent) (id : Nat) (v : Word) : Dev :=
  if ¬ isMirror id then d
  else match d.originOf who with
    | none => ({ d with mi := { d.mi with refuse := satAdd d.mi.refuse 1 } }).record 0xB000 0x02 []
    | some o => d.stageValue o id (mirrorField id v)

/-- A staged slot whose MS_AGE reaches MTIMEOUT with the millisecond that ends expires (R251). -/
def Dev.expireStage (d : Dev) (i : Nat) : Dev :=
  let s := d.stageSlot i
  if s.st = 1 ∧ s.limit ≤ s.age + 1 then ((d.setStage i { s with st := 4, age := s.limit }).summon (fun m => { m with exp := true })).record 0xB000 0x03 [BitVec.ofNat 8 i, BitVec.ofNat 8 s.org] else d
/-- A millisecond of a staged slot: it expires, or MS_AGE counts (R251). -/
def Dev.ageStage (d : Dev) (i : Nat) : Dev :=
  let s := d.stageSlot i
  if s.st ≠ 1 then d else if s.limit ≤ s.age + 1 then d.expireStage i else d.setStage i { s with age := s.age + 1 }

/-! ## Countersigning (R252) -/

/-- MCS_RES of an origin set. -/
def Dev.setRes (d : Dev) (o : Origin) (r : Nat) : Dev := d.setBank o { d.bank o with res := r }

/-- The checks countersigning and rejecting share: armed, staged, the ticket. -/
def Dev.mcsCheck (d : Dev) (i ticket : Nat) : Option Nat :=
  let s := d.stageSlot i
  if ¬ d.mi.armed then some 8
  else if s.st = 4 then some 9
  else if s.st ≠ 1 then some 3
  else if s.ticket ≠ ticket then some 4
  else none

/-- A slot countersigned. -/
def Dev.countersign (d : Dev) (o : Origin) (i ticket : Nat) : Dev :=
  let s := d.stageSlot i
  match d.mcsCheck i ticket with
  | some r => d.setRes o r
  | none =>
    if s.org = orgCode o then d.setRes o 6
    else if s.val ≠ (d.bank o).val then d.setRes o 5
    else if ¬ mirrorRule (d.look [(s.id.toNat, s.val)]) s.id.toNat s.val.toNat then d.setRes o 10
    else ((d.setStage i { s with st := 2 }).commit [(s.id.toNat, s.val)]).setRes o 1

/-- A slot rejected. -/
def Dev.rejectStage (d : Dev) (o : Origin) (i ticket : Nat) : Dev :=
  match d.mcsCheck i ticket with
  | some r => d.setRes o r
  | none => (d.setStage i { d.stageSlot i with st := 3 }).setRes o 2

/-- The group CRC: 12 bytes a slot in rising order (R252). -/
def Dev.groupCrc (d : Dev) (g : List Nat) : Word :=
  crc32c (g.flatMap (fun i => let s := d.stageSlot i; toLe 4 s.id.toNat ++ toLe 4 s.val.toNat ++ toLe 4 s.ticket))

/-- A group countersigned. -/
def Dev.countersignGroup (d : Dev) (o : Origin) : Dev :=
  let g := (List.range 16).filter (fun i => (d.bank o).mask.getLsbD i)
  let org := (d.stageSlot (g.headD 0)).org
  let vs := g.map (fun i => ((d.stageSlot i).id.toNat, (d.stageSlot i).val))
  if ¬ d.mi.armed then d.setRes o 8
  else if g = [] ∨ g.any (fun i => (d.stageSlot i).st != 1) then d.setRes o 3
  else if g.any (fun i => (d.stageSlot i).org != org) then d.setRes o 7
  else if org = orgCode o then d.setRes o 6
  else if d.groupCrc g ≠ (d.bank o).val then d.setRes o 5
  else if vs.any (fun p => !mirrorRule (d.look vs) p.1 p.2.toNat) then d.setRes o 10
  else ((g.foldl (fun (e : Dev) i => e.setStage i { e.stageSlot i with st := 2 }) d).commit vs).setRes o 1

/-- A write to MCS by an origin; ACT 0 is no act (R252). -/
def Dev.mcsWrite (d : Dev) (o : Origin) (v : Nat) : Dev :=
  match bits v 31 30 with
  | 1 => d.countersign o (bits v 19 16) (bits v 15 0)
  | 2 => d.rejectStage o (bits v 19 16) (bits v 15 0)
  | 3 => d.countersignGroup o
  | _ => d

end Sys2Proof.Machine
end

