-- ==== Sys2Proof/Machine/Operands.lean ====
section
/-! DEFINITION. Register operands, results in flight and effective addresses (R31, R39 to R41, R58, R184 to R193). -/

namespace Sys2Proof.Machine

/-- The physical integer register a 5-bit code names in a bay (R31, "The window ring", R191). -/
def Bay.phys (x : Bay) (code : Nat) : Nat :=
  if x.mbank then 168 + code
  else if code < 8 then code
  else if code < 16 then 8 + 16 * ((x.cwp + 9) % 10) + code
  else 8 + 16 * (x.cwp % 10) + (code - 16)

/-- The destination an integer register field names; x0 is no register (R31). -/
def Bay.intDest (x : Bay) (r : Reg) : Dest := if r = 0 then .none else .ir (x.phys r.toNat)

/-- The destination a predicate field names; q0 is no register (R38). -/
def Bay.predDest (x : Bay) (q : Pred) : Dest := if q = 0 then .none else .q x.mbank q.toNat

/-- The landed value of a register. -/
def Bay.landed (x : Bay) : Dest → Nat
  | .none => 0
  | .ir n => (Tab.get x.ir n 0).toNat
  | .d n => (Tab.get x.d n 0).toNat
  | .q m n => b2n ((if m then x.mq else x.q).getLsbD n)
  | .lc m => (if m then x.mlc else x.lc).toNat
  | .lk m => (if m then x.mlk else x.lk).toNat
  | .asr => x.asr.toNat
  | .decctl => x.decctl.toNat

/-- DIRTY with a bit set (R193). -/
def Bay.soil (x : Bay) (n : Nat) : Bay := { x with dirty := x.dirty ||| BitVec.ofNat 32 (2 ^ n) }

/-- A 16-bit predicate file with one bit set to a value. -/
def setPred (q : BitVec 16) (n v : Nat) : BitVec 16 := BitVec.ofNat 16 (setBits q.toNat n n v)

/-- The bay after a value lands in a register; ASR and DECCTL take flags by OR (R54, R86, R87). -/
def Bay.land (x : Bay) (t : Dest) (v : Nat) : Bay :=
  match t with
  | .none => x
  | .ir n =>
    let y := { x with ir := Tab.set x.ir n (BitVec.ofNat 32 v) }
    if n < 8 then y.soil 0 else if n < 168 then y.soil (1 + (n - 8) / 16) else y
  | .d n => { x with d := Tab.set x.d n (BitVec.ofNat 128 v) }.soil (11 + n / 8)
  | .q true n => { x with mq := setPred x.mq n v }
  | .q false n => { x with q := setPred x.q n v }.soil 15
  | .lc true => { x with mlc := BitVec.ofNat 32 v }
  | .lc false => { x with lc := BitVec.ofNat 32 v }.soil 15
  | .lk true => { x with mlk := BitVec.ofNat 32 v }
  | .lk false => { x with lk := BitVec.ofNat 32 v }.soil 15
  | .asr => { x with asr := x.asr ||| BitVec.ofNat 32 v }
  | .decctl => { x with decctl := x.decctl ||| BitVec.ofNat 32 v }

/-- One bundle of age: entries whose distance reaches their latency land, oldest first (R40, R41). -/
def Bay.age (x : Bay) : Bay :=
  let fl := x.flight.map (fun f => { f with dist := f.dist + 1 })
  let y := (fl.filter (fun f => decide (f.lat ≤ f.dist))).foldl (fun z f => z.land f.dest f.val.toNat) x
  { y with flight := fl.filter (fun f => decide (f.dist < f.lat)) }

/-- The bay aged until nothing is in flight, `n` bundles at most. -/
def Bay.ageN : Nat → Bay → Bay
  | 0, x => x
  | n + 1, x => if x.flight.isEmpty then x else Bay.ageN n x.age

/-- The bay with every result in flight landed, in landing order (R44); no latency exceeds 40. -/
def Bay.landAll (x : Bay) : Bay := Bay.ageN 41 x

/-- A number for each register, to index the free choice of a shadow read. -/
def Dest.key : Dest → Nat
  | .none => 0
  | .ir n => n
  | .d n => 256 + n
  | .q m n => 288 + 16 * b2n m + n
  | .lc m => 320 + b2n m
  | .lk m => 322 + b2n m
  | .asr => 324
  | .decctl => 325

/-- A register as a syllable reads it at issue: the landed value, or for each result in its shadow the new value if the device chooses so (R40). -/
def Bay.read (x : Bay) (free : Nat) (t : Dest) : Nat :=
  x.flight.foldl (fun v f =>
    if f.dest = t && Config.shadowNew free t.key then
      (match t with | .asr => v ||| f.val.toNat | .decctl => v ||| f.val.toNat | _ => f.val.toNat)
    else v) (x.landed t)

/-- An integer register operand; x0 reads 0 (R31). -/
def Bay.int (x : Bay) (free : Nat) (r : Reg) : Word := BitVec.ofNat 32 (if r = 0 then 0 else x.read free (.ir (x.phys r.toNat)))
/-- A decimal register operand. -/
def Bay.dec (x : Bay) (free : Nat) (r : DReg) : QWord := BitVec.ofNat 128 (x.read free (.d r.toNat))
/-- A predicate operand; q0 reads 1 (R38). -/
def Bay.pred (x : Bay) (free : Nat) (q : Pred) : Bool := if q = 0 then true else x.read free (.q x.mbank q.toNat) != 0
/-- Whether a guard holds (R35). -/
def Bay.guard (x : Bay) (free : Nat) (y : Syl) : Bool := x.pred free y.g != y.n
/-- PREDS: qn in bit n, q0 as 1 (Table 2.10). -/
def Bay.preds (x : Bay) (free : Nat) : Nat :=
  ((List.range 16).map (fun n => b2n (x.pred free (BitVec.ofNat 4 n)) * 2 ^ n)).sum

/-- The return stack in use (R191). -/
def Bay.stack (x : Bay) : RetStack := if x.mbank then x.mrs else x.rs
/-- The bay with the return stack in use replaced. -/
def Bay.setStack (x : Bay) (s : RetStack) : Bay := if x.mbank then { x with mrs := s } else { x with rs := s }.soil 15
/-- A push (R64). -/
def RetStack.push (s : RetStack) (v : Word) : RetStack :=
  { ents := Tab.set s.ents s.top v, top := (s.top + 1) % 16, depth := min (s.depth + 1) 16 }
/-- The entry a pop returns (R64). -/
def RetStack.peek (s : RetStack) : Word := Tab.get s.ents ((s.top + 15) % 16) 0
/-- A pop (R64). -/
def RetStack.pop (s : RetStack) : RetStack := { s with top := (s.top + 15) % 16, depth := s.depth - 1 }

/-- The effective address of the MEM format, access size `s` (Table 2.12). -/
def effAddr (a x : Word) (am : BitVec 2) (low : BitVec 8) (p : Option Limm) (s : Nat) : Word :=
  match am.toNat with
  | 0 => match p with
    | none => a + BitVec.ofInt 32 (sextI 8 low.toNat * s)
    | some q => a + sextW 30 (q.toNat * 256 + low.toNat)
  | 1 => a + BitVec.ofNat 32 (x.toNat * 2 ^ bits low.toNat 2 1)
  | 2 => a
  | _ => a - BitVec.ofNat 32 low.toNat

/-- The base update of the MEM format, if the mode makes one (Table 2.12, R59). -/
def baseUpdate (a : Word) (am : BitVec 2) (low : BitVec 8) : Option Word :=
  match am.toNat with
  | 2 => some (a + BitVec.ofNat 32 low.toNat)
  | 3 => some (a - BitVec.ofNat 32 low.toNat)
  | _ => none

/-- The index register of the MEM format in mode 0b01. -/
def indexReg (low : BitVec 8) : Reg := BitVec.ofNat 5 (bits low.toNat 7 3)

/-- The immediate of ADDI, ANDI, ORI and XORI (R47). -/
def immValue (imm : BitVec 10) (p : Option Limm) : Word :=
  match p with
  | none => sextW 10 imm.toNat
  | some q => BitVec.ofNat 32 (q.toNat * 1024 + imm.toNat)

/-- The immediate of CMPI (R49). -/
def immCmp (imm : BitVec 6) (p : Option Limm) : Word :=
  match p with
  | none => sextW 6 imm.toNat
  | some q => sextW 28 (q.toNat * 64 + imm.toNat)

/-- The effective address of LDD, LDD.X, STD and STD.X (R106). -/
def effAddrD (a : Word) (disp : BitVec 6) (p : Option Limm) (size : Nat) : Word :=
  match p with
  | none => a + BitVec.ofInt 32 (sextI 6 disp.toNat * size)
  | some q => a + sextW 28 (q.toNat * 64 + disp.toNat)

end Sys2Proof.Machine
end

