-- ==== Sys2Proof/Machine/Context.lean ====
section
/-! DEFINITION. Window ring, task-state blocks, the task table and core reset (R184 to R202, R375). -/

namespace Sys2Proof.Machine

/-! ## Control words -/

/-- WINCTL (R186). -/
def Bay.winctl (x : Bay) : Nat := b2n x.sf * 2 ^ 31 + x.mdepth * 2 ^ 20 + x.cap * 2 ^ 8 + x.res * 16 + x.cwp
/-- RSCTL of the return stack in use (R64). -/
def Bay.rsctl (x : Bay) : Nat := b2n x.trap * 256 + x.stack.depth
/-- LC in use. -/
def Bay.lcNow (x : Bay) : Word := if x.mbank then x.mlc else x.lc

/-! ## The window ring (R188, R189) -/

/-- The physical number of register `j` (0 to 15: w8 to w23) of window slot `k`. -/
def slotReg (k j : Nat) : Nat := 8 + 16 * k + j
/-- A window slot read as zero. -/
def Bay.zeroSlot (x : Bay) (k : Nat) : Bay :=
  { x with ir := x.ir.filter (fun p => !(decide (slotReg k 0 ≤ p.1) && decide (p.1 < slotReg k 16))) }
/-- A window advance into a free slot. -/
def Bay.advance (x : Bay) : Bay :=
  let k := (x.cwp + 1) % 10
  ({ x with cwp := k, res := x.res + 1 }.zeroSlot k).soil (1 + k)
/-- A window retreat. -/
def Bay.retreat (x : Bay) : Bay := { x with cwp := (x.cwp + 9) % 10, res := x.res - 1 }
/-- The 64 bytes of a window slot. -/
def Bay.slotBytes (x : Bay) (k : Nat) : List Byte := (List.range 16).flatMap (fun j => toLe 4 (Tab.get x.ir (slotReg k j) 0).toNat)
/-- A window slot loaded from its bytes. -/
def Bay.loadSlot (x : Bay) (k : Nat) (bs : List Byte) : Bay :=
  { x with ir := (List.range 16).foldl (fun t j => Tab.set t (slotReg k j) (BitVec.ofNat 32 (leAt bs (4 * j) 4))) x.ir }
/-- The address of a Marl entry. -/
def Bay.marl (x : Bay) (i : Nat) : Nat := x.tsbp.toNat + 0x800 + 0x40 * i
/-- Whether a range lies in one Loam bank. -/
def inBank (base a n : Nat) : Bool := a / 0x1000000 == base / 0x1000000 && (a + n - 1) / 0x1000000 == base / 0x1000000
/-- The spill and fill engine stopped for a reason of Table 6.11. -/
def Bay.engineStop (x : Bay) (why : Nat) : Bay := { x with sf := true, sfWhy := why }
/-- A bay frozen on its window looks again. -/
def Bay.unfreezeWindow (x : Bay) : Bay := if x.st = .frozen ∧ x.wait = .window then { x with st := .running, wait := .none } else x
/-- Whether a bay holds a task. -/
def Bay.loaded (x : Bay) : Bool :=
  match x.st with
  | .empty => false
  | .locked => false
  | .moving => match x.wait with
    | .evicting _ => true
    | _ => false
  | _ => true

/-- One spill of a bay (R189). -/
def Dev.spill (d : Dev) (n b : Nat) (fab : Bool) : Dev :=
  let x := d.bay n b
  let a := x.marl x.mdepth
  if ¬ x.loaded ∨ x.sf ∨ x.res ≤ 8 then d.setBay n b x.unfreezeWindow
  else if x.mdepth = x.cap then d.setBay n b (x.engineStop 1).unfreezeWindow
  else if ¬ inBank x.tsbp.toNat a 64 then d.setBay n b (x.engineStop 2).unfreezeWindow
  else if fab ∨ ¬ d.servedAt a then d.setBay n b (x.engineStop 4).unfreezeWindow
  else (d.put a (x.slotBytes ((x.cwp + 11 - x.res) % 10))).setBay n b { x with mdepth := x.mdepth + 1, res := x.res - 1 }.unfreezeWindow

/-- One fill of a bay (R189). -/
def Dev.fill (d : Dev) (n b : Nat) (fab : Bool) : Dev :=
  let x := d.bay n b
  let a := x.marl (x.mdepth - 1)
  let k := (x.cwp + 10 - x.res) % 10
  if ¬ x.loaded ∨ x.sf ∨ 3 ≤ x.res ∨ x.mdepth = 0 then d.setBay n b x.unfreezeWindow
  else if ¬ inBank x.tsbp.toNat a 64 then d.setBay n b (x.engineStop 2).unfreezeWindow
  else if fab ∨ ¬ d.servedAt a then d.setBay n b (x.engineStop 4).unfreezeWindow
  else if d.poisoned a 64 then (d.recordBadData a).setBay n b (x.engineStop 3).unfreezeWindow
  else d.setBay n b (({ x with mdepth := x.mdepth - 1, res := x.res + 1 }.loadSlot k (d.bytes a 64)).soil (1 + k)).unfreezeWindow

/-! ## Task-state blocks (Table 6.1, R194 to R198) -/

/-- The PEND bits in the order their details are saved. -/
def pendOrder : List Nat := [0, 1, 2, 3, 4, 5, 8, 9]
/-- Whether window slot `k` is resident. -/
def Bay.resident (x : Bay) (k : Nat) : Bool := decide ((x.cwp + 10 - k) % 10 < x.res)
/-- The bay as it stood before an eviction that has begun. -/
def Bay.unheld (x : Bay) : Bay := match x.held with | some (s, w) => { x with st := s, wait := w, held := none } | none => x
/-- The bay that keeps its task because the eviction failed: it goes on as it was, READY where it ran, and awake where an event came meanwhile; a JWAIT bundle issues again (R155, R196, R201). -/
def Bay.kept (x : Bay) : Bay :=
  let y := x.unheld
  let z := if y.st = .running then { y with st := .ready } else y
  match z.wait with
  | .jwait _ _ => z.wake
  | _ => if bits z.pend.toNat 9 0 = 0 then z else z.wake
/-- The bundle a bay would issue next. -/
def Bay.resumePc (x : Bay) : Word :=
  match x.wait with
  | .event p => BitVec.ofNat 32 p
  | _ => x.pc
/-- Whether a string or stream instruction stands between steps: not inside a chunk that a wait holds (R129). -/
def Bay.betweenSteps (x : Bay) : Bool := match x.prog with | some p => p.left == 0 | none => false
/-- Whether a bay stands at a bundle or step boundary: no bundle is open, a string or stream instruction stands between steps, or the bay is parked in JWAIT. -/
def Bay.atBoundary (x : Bay) : Bool :=
  match x.bundle with
  | none => true
  | some _ => x.betweenSteps || (match x.wait with | .jwait _ _ => true | _ => false)
/-- Whether a bay stands where its task can leave it: at a boundary, no miss outstanding, no exception waiting (R196). -/
def Bay.canLeave (x : Bay) : Bool := x.atBoundary && x.exc.isNone && x.st != .miss && x.st != .frozen && x.st != .moving && !x.dataDue && x.loaded

/-- The bytes of a group, by its DIRTY bit. -/
def Bay.groupBytes (x : Bay) (g : Nat) : List Byte :=
  if g = 0 then toLe 4 0 ++ (rangeFrom 1 7).flatMap (fun i => toLe 4 (Tab.get x.ir i 0).toNat)
  else if g ≤ 10 then x.slotBytes (g - 1)
  else if g ≤ 14 then (List.range 8).flatMap (fun i => toLe 16 (Tab.get x.d (8 * (g - 11) + i) 0).toNat)
  else if g = 15 then toLe 4 (setBits x.q.toNat 0 0 1) ++ toLe 4 x.lc.toNat ++ toLe 4 x.lk.toNat ++ toLe 4 x.rs.top ++ (List.range 16).flatMap (fun i => toLe 4 (Tab.get x.rs.ents i 0).toNat) ++ toLe 48 0
  else toLe 4 x.spSrc.toNat ++ toLe 4 x.spDst.toNat ++ toLe 4 x.spCnt.toNat ++ toLe 4 x.spState.toNat ++ toLe 16 0
/-- The offset of a group in the block. -/
def groupOff (g : Nat) : Nat :=
  if g = 0 then 0x100 else if g ≤ 10 then 0x200 + 0x40 * (g - 1) else if g ≤ 14 then 0x500 + 0x80 * (g - 11) else if g = 15 then 0x140 else 0x120

/-- The header of the block, 0x080 to 0x0FF, but for VALID. -/
def Bay.header (x : Bay) (valid : Nat) : List Byte :=
  let w := fun (v : Word) => toLe 4 v.toNat
  toLe 4 valid ++ w x.resumePc ++ w x.status ++ toLe 4 x.winctl ++ w x.astag ++ w x.kmask ++ w x.asr ++ w x.decctl ++ toLe 4 (b2n x.trap * 256 + x.rs.depth) ++ w x.repc ++ w x.lkS
    ++ w x.bayctl ++ w x.pend ++ toLe 4 x.gates.length ++ w x.sscratch ++ w x.evecS ++ pendOrder.flatMap (fun n => toLe 2 (Tab.get x.pendDet n 0).toNat) ++ toLe 48 0
/-- The 16 bytes of a gate frame (Table 6.8). -/
def GateFrame.bytes (g : GateFrame) : List Byte := toLe 4 g.ret.toNat ++ toLe 4 g.kmask.toNat ++ toLe 4 (g.gate * 256 + g.pl) ++ toLe 4 0

/-- The bay once its task has left it. -/
def Bay.emptied (x : Bay) : Bay := { x with st := .empty, wait := .none, held := none, dataDue := false, bundle := none, prog := none, flight := [], exc := none, walkFault := none, dirty := 0, gates := [], pend := 0, pendDet := [] }

/-- Word +4 of a task-table entry. -/
def Core.ttEntry (c : Core) (i : Nat) : Nat := c.ttbp.toNat + 16 * i
/-- A field word of a task-table entry changed. -/
def Dev.setTask (d : Dev) (n i : Nat) (f : Nat → Nat) : Dev :=
  let a := (d.core n).ttEntry i + 4
  if d.region a = .loam ∧ d.servedAt a then d.put a (toLe 4 (f (d.num a 4))) else d

/-- OPF of a microcoded instruction (Table 4.1); none for a stream. -/
def ProgKind.opf : ProgKind → Option Nat
  | .mvs => some 0
  | .trs => some 1
  | .cms => some 2
  | .scn => some 3
  | .scne => some 4
  | .edit => some 16
  | _ => none
/-- The bay with its string, edit or stream instruction stopped at a boundary: V and OPF name it for the resume, and the other fields stand for EDIT and are zero for the others (R112, R129, Table 4.6). -/
def Bay.stopProg (x : Bay) : Bay :=
  match x.prog with
  | none => x
  | some p =>
    let y := { x with prog := none, bundle := none }
    match p.kind.opf with
    | some o =>
      let kept := if p.kind = ProgKind.edit then x.spState.toNat else 0
      { y with spState := BitVec.ofNat 32 (setBits (setBits kept 30 26 o) 31 31 1) }.soil 16
    | none => y

/-- A task written to its block; none where the block cannot be reached (R196). RES of its task-table entry clears. `redy` sets RDY again (R380). -/
def Dev.evictTask (d : Dev) (n b : Nat) (fab redy : Bool) : Option Dev :=
  let x := (d.bay n b).unheld.stopProg.landAll
  let t := x.tsbp.toNat
  if fab ∨ ¬ d.servedAt t ∨ d.region t ≠ .loam then none
  else
    let gs := (List.range 17).filter (fun g => x.dirty.getLsbD g && (g = 0 || 10 < g || x.resident (g - 1)))
    let valid := gs.foldl (fun v g => setBits v g g 1) (d.num (t + 0x80) 4 % 0x20000)
    let d1 := gs.foldl (fun (e : Dev) g => e.put (t + groupOff g) (x.groupBytes g)) d
    let d2 := d1.put (t + 0x1C0) ((List.range 16).flatMap (fun i => toLe 4 (Tab.get x.se i 0).toNat))
    let d3 := (x.gates.zipIdx).foldl (fun (e : Dev) p => e.put (t + 0x480 + 0x10 * p.2) p.1.bytes) d2
    let d4 := (d3.put (t + 0x80) (x.header valid)).setBay n b x.emptied
    let c := x.bayctl.toNat
    some (if bit c 14 then d4.setTask n (bits c 13 8) (fun w => setBits (if redy then setBits w 30 30 1 else w) 29 29 0) else d4)

/-- Whether a block's image is inconsistent (R198). -/
def imageBad (bs : List Byte) : Bool :=
  let w := fun (o : Nat) => leAt bs o 4
  let st := w 0x88
  let wc := w 0x8C
  let gd := bits (w 0xB4) 3 0
  decide (2 ≤ bits st 1 0) || bits st 7 6 == 2 || decide (bits wc 7 4 < 2) || decide (10 < bits wc 7 4) || decide (9 < bits wc 3 0) ||
  decide (bits wc 18 8 < bits wc 30 20) || decide (8 < gd) || (List.range gd).any (fun i => bits (w (0x480 + 0x10 * i + 8)) 1 0 == 2)

/-- The gate frames of an image. -/
def imageGates (bs : List Byte) : List GateFrame :=
  (List.range (Nat.min 8 (bits (leAt bs 0xB4 4) 3 0))).map (fun i =>
    let o := 0x480 + 0x10 * i
    { ret := BitVec.ofNat 32 (leAt bs o 4), kmask := BitVec.ofNat 32 (leAt bs (o + 4) 4), gate := leAt bs (o + 9) 1, pl := leAt bs (o + 8) 1 % 4 })

/-- The KADD fields of the gates named in a list of open frames, with CPOL: what an S-level mask is ANDed with (R245). -/
def Dev.maskLimit (d : Dev) (gs : List GateFrame) : Word :=
  gs.foldl (fun m g => m ||| d.inForce (midGate g.gate 4)) (d.inForce midCPOL)

/-- The bits of CAUSE that are not reserved (R207). -/
def causeBits : Word := 0xF0FFFFFF
/-- A bay loaded from a block's image: reserved bits load as zero, the low bits of the PC among them, and the spacing counters stay the bay's (R12, R45, R198, R245; DESIGN CHOICE, log entry 26). Why an engine that the image says has stopped did so is not in the block, and loads as 0 (DESIGN CHOICE, log entry 75). The next bundle is none after an exception return (R73, R130). -/
def Dev.imageBay (d : Dev) (n b a : Nat) (bs : List Byte) (limit : Bool) (table : Option Nat) : Bay :=
  let x := d.bay n b
  let w := fun (o : Nat) => BitVec.ofNat 32 (leAt bs o 4)
  let wc := leAt bs 0x8C 4
  let valid := leAt bs 0x80 4
  let gs := imageGates bs
  let p := d.maskLimit gs
  let cut := fun (m : Word) => if limit then m &&& p else m
  let v := fun (g : Nat) => bit valid g
  let q := fun (o : Nat) => if v 15 then leAt bs (0x140 + o) 4 else 0
  let s := fun (o : Nat) => if v 16 then w (0x120 + o) else 0
  let y : Bay := { x with
    st := .ready, wait := .none, bundle := none, prog := none, flight := [], exc := none, walkFault := none, dataDue := false, held := none, afterRet := false
    issued := 0
    pc := w 0x84 &&& 0xFFFFFFFC, status := w 0x88 &&& 0xE7, tsbp := BitVec.ofNat 32 a, astag := w 0x90 &&& 0xFFF, kmask := cut (w 0x94), asr := w 0x98 &&& 3, decctl := w 0x9C &&& 0xFF1FF03F, trap := bit (leAt bs 0xA0 4) 8
    repc := w 0xA4 &&& 0x800000FF, lkS := w 0xA8, bayctl := BitVec.ofNat 32 (match table with | some i => setBits (setBits (leAt bs 0xAC 4) 13 8 i) 14 14 1 | none => setBits (leAt bs 0xAC 4) 14 8 0) &&& 0x7F03
    pend := w 0xB0 &&& 0x03FF033F, gates := gs.map (fun g => { g with kmask := cut g.kmask }), sscratch := w 0xB8, evecS := w 0xBC &&& 0xFFFFFFFC
    pendDet := (pendOrder.zipIdx).map (fun p => (p.1, BitVec.ofNat 16 (leAt bs (0xC0 + 2 * p.2) 2)))
    sf := bit wc 31, mdepth := bits wc 30 20, cap := bits wc 18 8, res := bits wc 7 4, cwp := bits wc 3 0, sfWhy := 0
    dirty := 0
    spSrc := s 0, spDst := s 4, spCnt := s 8, spState := s 12 &&& 0xFFF00CFF
    q := BitVec.ofNat 16 (q 0), lc := BitVec.ofNat 32 (q 4), lk := BitVec.ofNat 32 (q 8)
    rs := { ents := if v 15 then (List.range 16).map (fun i => (i, w (0x150 + 4 * i))) else [], top := q 12 % 16, depth := Nat.min 16 (bits (leAt bs 0xA0 4) 4 0) }
    se := (List.range 16).map (fun i => (i, w (0x1C0 + 4 * i) &&& 0xFFFFFFFD))
    causeS := w 0x08 &&& causeBits, epcS := w 0x00 &&& 0xFFFFFFFC, faddrS := w 0x0C, causeM := w 0x48 &&& causeBits, epcM := w 0x40 &&& 0xFFFFFFFC, faddrM := w 0x4C
    d := (List.range 32).filterMap (fun i => if v (11 + i / 8) then some (i, BitVec.ofNat 128 (leAt bs (0x500 + 16 * i) 16)) else none)
    ir := x.ir.filter (fun p => decide (168 ≤ p.1)) }
  let y1 := if v 0 then { y with ir := (rangeFrom 1 7).foldl (fun t i => Tab.set t i (w (0x100 + 4 * i))) y.ir } else y
  (List.range 10).foldl (fun (z : Bay) k => if v (1 + k) && y.resident k then z.loadSlot k ((bs.drop (0x200 + 0x40 * k)).take 64) else z) y1

/-- A block loaded into a bay: the cause and reason of a refusal, or the machine (R198). `limit` where the loader runs at S level. -/
def Dev.loadTask (d : Dev) (n b a : Nat) (limit fab : Bool) (table : Option Nat) : Except (Nat × Nat) Dev :=
  if a % 0x1000 ≠ 0 ∨ 0x08000000 ≤ a then .error (0x06, 0x10)
  else if fab ∨ ¬ d.servedAt a then .error (0x14, Config.busDetail a)
  else if d.poisoned a 0x700 then .error (0x15, 3)
  else
    let bs := d.bytes a 0x700
    if imageBad bs then .error (0x02, 0x0D) else .ok (d.setBay n b (d.imageBay n b a bs limit table))

/-! ## The task table (R202) -/

/-- The entry the scheduler loads next: V and RDY set, RES clear, highest PRI, lowest index. -/
def Dev.nextTask (d : Dev) (n : Nat) : Option Nat :=
  let c := d.core n
  let k := bits c.schctl.toNat 29 24 + 1
  let w := fun (i : Nat) => d.num (c.ttEntry i + 4) 4
  if ¬ bit c.schctl.toNat 31 ∨ ¬ d.servedAt c.ttbp.toNat then none
  else
    let ok := (List.range k).filter (fun i => bit (w i) 31 && bit (w i) 30 && !bit (w i) 29)
    ok.find? (fun i => ok.all (fun j => decide (bits (w j) 1 0 ≤ bits (w i) 1 0)))

/-- The load count of an entry, one more. -/
def Dev.countLoad (d : Dev) (n i : Nat) : Dev :=
  let a := (d.core n).ttEntry i + 8
  d.put a (toLe 4 (Nat.min (d.num a 4 + 1) 0xFFFFFFFF))

/-! ## Core reset (R195, R375) -/

/-- The locked page core reset installs: global, 4 MiB, virtual 0 to physical 0, R, W, X, A and D. -/
def lockedPage : TlbE := { tag := 0, va := 0, size := 0x400000, pa := 0, perm := 0x0EF }
/-- A bay after core reset. EVEC_M stays a Mirror register: bay 0 fetches there. -/
def Dev.freshBay (d : Dev) (n b : Nat) : Bay :=
  if b = 0 then { Bay.reset n b with st := .ready, pc := d.inForce (midEVECM n 0) } else Bay.reset n b
/-- A core reset of one core with its reason; the micro-store stays (R375, Table 13.5). -/
def Dev.resetCore (d : Dev) (n why : Nat) : Dev :=
  let c := d.core n
  d.setCore n { bays := (List.range 4).map (fun b => (b, d.freshBay n b)), up := c.up, rstwhy := BitVec.ofNat 32 why
                patchLevel := c.patchLevel, patchPv := c.patchPv, disp := c.disp, patchRam := c.patchRam, matches_ := c.matches_, nanoRam := c.nanoRam
                lockD := [(0, some lockedPage)], lockI := [(0, some lockedPage)], locks := c.locks }
/-- The locked state of a core. -/
def Dev.coreLocked (d : Dev) (n : Nat) : Bool := (d.bay n 0).st == .locked
/-- CORE_LOCK_N: driven while a core is locked (R217). -/
def Dev.driveLock (d : Dev) : Dev := { d with pw := { d.pw with corelock := (List.range 128).any d.coreLocked } }

end Sys2Proof.Machine
end

