-- ==== Sys2Proof/Machine/RecorderOps.lean ====
section
/-! DEFINITION. Snapshots, frames, log slots and clearing of the event recorder (R354 to R365). -/

namespace Sys2Proof.Machine

/-- Base of the log area. -/
def logBase : Nat := 0x0BF40000
/-- Base of the snapshot area. -/
def frameBase : Nat := 0x0BF80000

/-- Bytes of the journal array, Loam or DDR made to read as unlisted: zero in the array and in Loam. -/
def Dev.clearRange (d : Dev) (a n : Nat) : Dev :=
  { d with mem := d.mem.filter (fun c => !(decide (a ≤ c.1) && decide (c.1 < a + n)))
           poison := d.poison.filter (fun w => !(decide (a ≤ w) && decide (w < a + n))) }

/-- A measurement block of a buffer, as it stands before its first sample if it has none. -/
def AccBuf.block (a : AccBuf) (ch : Nat) : Meas :=
  (Tab.find a.meas ch).getD { lo := BitVec.ofNat 32 (measDefault ch).1, width := BitVec.ofNat 32 (measDefault ch).2 }

/-- The bin of a sample (R356). -/
def binOf (m : Meas) (x : Int) : Nat :=
  let w := Nat.max 1 m.width.toNat
  if x < m.lo.toInt then 0 else Nat.min 15 ((x - m.lo.toInt).toNat / w)

/-- A sample taken into a block; counts saturate (R354, R356). -/
def Meas.sample (m : Meas) (v : Word) : Meas :=
  let b := binOf m v.toInt
  { m with
    n := Nat.min (m.n + 1) 0xFFFFFFFF
    min := if v.slt m.min then v else m.min
    max := if m.max.slt v then v else m.max
    bins := Tab.set m.bins b (Nat.min (Tab.get m.bins b 0 + 1) 0xFFFFFFFF) }

/-- The unit code of a channel (Table 12.3). -/
def unitOf (ch : Nat) : Nat :=
  if ch < 9 then 1 else if ch < 17 then 2 else if ch = 17 then 3 else if ch < 25 then 4 else if ch < 29 then 5 else 0

/-- The 128 bytes of a measurement block (R356). -/
def measBytes (ch : Nat) (m : Meas) : List Byte :=
  toLe 2 ch ++ toLe 1 (unitOf ch) ++ toLe 1 0 ++ toLe 4 m.n ++ toLe 4 m.min.toNat ++ toLe 4 m.max.toNat ++ toLe 4 m.lo.toNat ++ toLe 4 m.width.toNat ++ toLe 8 0
    ++ (List.range 16).flatMap (fun i => toLe 4 (Tab.get m.bins i 0)) ++ toLe 32 0

/-- The 16 bytes of an event-table entry (Table 12.2). -/
def eventBytes (e : EvEntry) : List Byte :=
  toLe 2 e.source ++ toLe 1 e.kind ++ toLe 1 (e.sev + 4 * b2n e.logged + 8 * b2n e.notified) ++ toLe 4 e.count ++ toLe 4 e.first.toNat ++ toLe 4 e.last.toNat

/-- The frame of the active buffer, sealed now under a serial (Table 12.4). -/
def Dev.frameBytes (d : Dev) (trigger serial : Nat) : List Byte :=
  let r := d.rc
  let a := r.active
  let body :=
    [0x4C, 0x4D, 0x52, 0x43] ++ toLe 2 1 ++ toLe 1 trigger ++ toLe 1 0 ++ toLe 8 serial ++ toLe 4 r.pcc ++ toLe 4 0 ++ toLe 8 r.opt ++ toLe 8 r.prevSeal
      ++ toLe 6 d.ep.epoch ++ toLe 2 0 ++ toLe 3 d.ep.tick ++ toLe 1 0 ++ toLe 2 a.events.length ++ toLe 2 0
      ++ (List.range 11).flatMap (fun c => toLe 4 (Tab.get a.ovf (c + 1) 0)) ++ toLe 4 0 ++ toLe 152 0
      ++ (List.range 32).flatMap (fun ch => measBytes ch (a.block ch))
      ++ padTo 8192 (a.events.flatMap eventBytes) ++ toLe 3836 0
  body ++ toLe 4 (crc32c body).toNat

/-- The active buffer sealed: the other becomes active, empty, with the LO and WIDTH now in force (R357, R366). -/
def Dev.seal (d : Dev) (trigger : Nat) : Dev :=
  let r := d.rc
  let fr := d.frameBytes trigger (r.fser + 1)
  let r1 := { r with buf := !r.buf, writing := true, frame := fr, fser := r.fser + 1, prevSeal := r.opt }
  { d with rc := r1.setActive r.fresh }

/-- A snapshot request (R357, R365). -/
def Dev.snap (d : Dev) (trigger : Nat) : Dev :=
  let r := d.rc
  if r.clearing ≠ [] ∧ ¬ r.writing then
    (match r.sealWait with
     | none => { d with rc := { r with sealWait := some trigger } }
     | some _ => { d with rc := { r with skip := satAdd r.skip 1 } })
  else if r.writing then
    if r.pending then { d with rc := { r with skip := satAdd r.skip 1 } } else { d with rc := { r with pending := true, trigger := trigger } }
  else d.seal trigger

/-- The frame serial of a frame slot; 0 for an empty one or one whose CRC fails (R358). -/
def Dev.frameSerial (d : Dev) (i : Nat) : Nat :=
  let a := frameBase + 0x4000 * i
  let n := d.num (a + 8) 8
  if n = 0 then 0
  else
    let bs := d.bytes a 0x3FFC
    if (crc32c bs).toNat = d.num (a + 0x3FFC) 4 then n else 0

/-- The slot of a list with the least key; the first among equals. -/
def leastIdx (ks : List Nat) : Nat :=
  ((ks.zipIdx).foldl (fun (b : Option (Nat × Nat)) p => match b with
    | none => some p
    | some q => if p.1 < q.1 then some p else some q) none).elim 0 (fun p => p.2)

/-- The end of a frame write: the frame in its slot, the sealed buffer cleared, and a waiting request served (R357, R358). -/
def Dev.frameDone (d : Dev) : Dev :=
  let r := d.rc
  if ¬ r.writing then d
  else
    let i := leastIdx ((List.range 16).map d.frameSerial)
    let d1 := d.put (frameBase + 0x4000 * i) r.frame
    let r1 := { d1.rc with writing := false, frame := [] }
    let r2 := if r1.buf then { r1 with a := {} } else { r1 with b := {} }
    let d2 := { d1 with rc := { r2 with pending := false } }
    if r.pending then (if r.clearing ≠ [] then { d2 with rc := { d2.rc with sealWait := some r.trigger } } else d2.seal r.trigger) else d2

/-- The 64 bytes of a log record under a serial (Table 12.5). -/
def Dev.logBytes (d : Dev) (x : LogRec) (serial : Nat) : List Byte :=
  let body := toLe 8 serial ++ toLe 8 x.opt ++ toLe 6 x.epoch ++ toLe 2 0 ++ toLe 3 x.tick ++ toLe 1 x.sev ++ toLe 2 x.source ++ toLe 1 x.kind ++ toLe 1 0
    ++ toLe 4 d.rc.pcc ++ toLe 4 x.count ++ padTo 16 x.detail ++ toLe 4 0
  body ++ toLe 4 (crc32c body).toNat

/-- Whether a log slot is empty (R361). -/
def Dev.logEmpty (d : Dev) (i : Nat) : Bool :=
  let a := logBase + 64 * i
  d.num a 8 == 0 || (crc32c (d.bytes a 60)).toNat != d.num (a + 60) 4

/-- The slot a new log record of a severity goes into, if any (R361). -/
def Dev.logSlot (d : Dev) (sev : Nat) : Option Nat :=
  match (List.range 4096).find? d.logEmpty with
  | some i => some i
  | none =>
    let sevs := (List.range 4096).map (fun i => d.num (logBase + 64 * i + 27) 1 % 4)
    let lo := sevs.foldl Nat.min 3
    if lo ≤ sev then
      some (leastIdx ((List.range 4096).map (fun i => if d.num (logBase + 64 * i + 27) 1 % 4 = lo then d.num (logBase + 64 * i) 8 else 2 ^ 64)))
    else none

/-- The oldest queued log record made durable, or lost where no slot admits it (R360, R361). -/
def Dev.logDurable (d : Dev) : Dev :=
  match d.rc.logq with
  | [] => d
  | x :: q =>
    let d1 := { d with rc := { d.rc with logq := q } }
    match d1.logSlot x.sev with
    | none => { d1 with rc := { d1.rc with lost := satAdd d1.rc.lost 1 } }
    | some i =>
      let s := d1.rc.lser + 1
      { d1.put (logBase + 64 * i) (d1.logBytes x s) with rc := { d1.rc with lser := s } }

/-- A buffer emptied, its LO and WIDTH kept. -/
def AccBuf.emptied (a : AccBuf) : AccBuf := { meas := a.meas.map (fun p => (p.1, { lo := p.2.lo, width := p.2.width })) }

/-- A clear begun: both accumulator buffers and the rate windows at once, log slots and frames zeroed, with a frame whose write is under way (R365). -/
def Dev.clearRecorder (d : Dev) (sel clearer : Nat) : Dev :=
  let r := d.rc
  let r1 := if bit sel 0 then { r with a := r.a.emptied, b := r.b.emptied, rate := [] } else r
  let r2 := if bit sel 2 then { r1 with frame := [] } else r1
  let d1 := { d with rc := { r2 with clearing := r2.clearing ++ [(bits sel 2 0, clearer)] } }
  let d2 := if bit sel 1 then d1.clearRange logBase 0x40000 else d1
  if bit sel 2 then d2.clearRange frameBase 0x40000 else d2

/-- The end of the oldest clear: its log record, and a waiting seal after the last (R365). -/
def Dev.clearDone (d : Dev) : Dev :=
  match d.rc.clearing with
  | [] => d
  | (sel, who) :: rest =>
    let d1 := ({ d with rc := { d.rc with clearing := rest } }).recordLogged false 0xB000 0x04 (toLe 1 sel ++ toLe 1 who)
    match d1.rc.sealWait, rest with
    | some t, [] => ({ d1 with rc := { d1.rc with sealWait := none } }).snap t
    | _, _ => d1

end Sys2Proof.Machine
end

