-- ==== Sys2Proof/Machine/EpochOps.lean ====
section
/-! DEFINITION. The epoch and tick counters and the comparator slots (R167 to R174). -/

namespace Sys2Proof.Machine

/-- The source the counters follow: 0 pins, 1 to 4 DL0 to DL3, 7 none (EPSTAT.CUR). -/
def Epoch.cur (e : Epoch) : Nat := bits e.stat.toNat 30 28
/-- EPSTAT with a bit set. -/
def Epoch.mark (e : Epoch) (n : Nat) : Epoch := { e with stat := e.stat ||| BitVec.ofNat 32 (2 ^ n) }
/-- EPSTAT with LIVE set to a value. -/
def Epoch.live (e : Epoch) (v : Bool) : Epoch := { e with stat := BitVec.ofNat 32 (setBits e.stat.toNat 31 31 (b2n v)) }
/-- EPSTAT with CUR set. -/
def Epoch.follow (e : Epoch) (src : Nat) : Epoch := { e with stat := BitVec.ofNat 32 (setBits e.stat.toNat 30 28 src) }
/-- Whether the counters run. -/
def Epoch.on (e : Epoch) : Bool := bit e.ctl.toNat 31
/-- A comparator slot. -/
def Dev.evSlot (d : Dev) (n : Nat) : EvSlot := Tab.get d.ep.slots n {}
/-- Whether (epoch, tick) `(a, b)` reaches or passes `(c, t)`. -/
def reaches (a b c t : Nat) : Bool := decide (c < a) || (c == a && decide (t ≤ b))

/-- A list of slot numbers with one more, in order of target and then of number (R173). -/
def Dev.insertDue (d : Dev) (n : Nat) : List Nat → List Nat
  | [] => [n]
  | m :: ms =>
    let x := d.evSlot n
    let y := d.evSlot m
    if (x.epoch, x.tick, n) = (y.epoch, y.tick, m) then m :: ms
    else if reaches y.epoch y.tick x.epoch x.tick ∧ ¬ (x.epoch = y.epoch ∧ x.tick = y.tick ∧ m < n) then n :: m :: ms
    else m :: d.insertDue n ms

/-- Armed slots whose target the counters have reached join those that are to fire (R173). -/
def Dev.collectDue (d : Dev) : Dev :=
  d.ep.slots.foldl (fun (e : Dev) p =>
    if bit p.2.ctl.toNat 31 && reaches e.ep.epoch e.ep.tick p.2.epoch p.2.tick && !e.ep.due.contains p.1 then
      { e with ep := { e.ep with due := e.insertDue p.1 e.ep.due } }
    else e) d

/-- The digest waits with one counter update less; those that have run out queue their expiry (R179). -/
def Dev.countWaits (d : Dev) : Dev :=
  let out := d.jr.streams.flatMap (fun p => (p.2.seals.filter (fun z => z.done && z.left == 1)).map (fun z => (p.1, z.epoch)))
  { d with
    jr := { d.jr with streams := d.jr.streams.map (fun p => (p.1, { p.2 with seals := p.2.seals.map (fun z => if z.done then { z with left := z.left - 1 } else z) })) }
    ep := { d.ep with waits := d.ep.waits ++ out } }

/-- A counter update: the new pair, the waiting control fields, LIVE, due slots, digest waits and the marks sent (R168, R171, R173, R179). -/
def Dev.epochUpdate (d : Dev) (e t : Nat) : Dev :=
  let x := d.ep
  let ctl := BitVec.ofNat 32 (setBits x.ctl.toNat 27 20 (bits x.nxt.toNat 27 20))
  let d1 := { d with ep := { (x.live true) with epoch := e, tick := t, updates := x.updates + 1, ctl := ctl } }
  d1.collectDue.countWaits.sendMarks

/-- Cause 0x22 of the epoch block, at the bay EPNOTE names, with its record (R169, R170, R181). -/
def Dev.epochEvent (d : Dev) (kind : Nat) : Dev :=
  (d.record 0x9000 kind []).raiseNote d.ep.note 0x22 (kind * 0x1000)

/-- A rising edge of TICK_IN with EPOCH_IN sampled (R167). -/
def Dev.tickIn (d : Dev) (inp : Bool) : Dev :=
  let x := d.ep
  let d1 := { d with ep := { x with prevIn := inp } }
  if ¬ x.on ∨ x.cur ≠ 0 then d1
  else if inp ∧ ¬ x.prevIn then
    if x.epoch = 0xFFFFFFFFFFFF then { d1 with ep := d1.ep.mark 23 } else d1.epochUpdate (x.epoch + 1) 0
  else if x.tick = 0xFFFFFF then { d1 with ep := d1.ep.mark 24 }
  else d1.epochUpdate x.epoch (x.tick + 1)

/-- Whether two pairs are no more than one tick apart (R170). -/
def nearTicks (a b c t : Nat) : Bool :=
  (a == c && (b == t || b + 1 == t || t + 1 == b)) || (a + 1 == c && t == 0) || (c + 1 == a && b == 0)

/-- An epoch mark that arrived on a port (R168, R170). -/
def Dev.epochMark (d : Dev) (p e t : Nat) : Dev :=
  let x := d.ep
  if x.on && x.cur == p + 1 then
    if reaches e t x.epoch x.tick ∧ ¬ (e = x.epoch ∧ t = x.tick) then d.epochUpdate e t
    else ({ d with ep := { x with bad := satAdd x.bad 1 } }).record 0x9000 0x04 []
  else if x.on && bit x.ctl.toNat 24 && bit x.ctl.toNat (20 + p) && !nearTicks x.epoch x.tick e t then
    ({ d with ep := x.mark 25 }).epochEvent 0x3
  else d

/-- A channel's trigger token, whatever its state; an engine without power has none (R325, R331). -/
def Dev.addToken (d : Dev) (e c : Nat) : Dev :=
  let g := Tab.get d.dma e {}
  let x := Tab.get g.chans c {}
  if ¬ d.powered (91 + e) then d
  else { d with dma := Tab.set d.dma e { g with chans := Tab.set g.chans c { x with trig := Nat.min (x.trig + 1) 255 } } }

/-- The first due slot fires (R173, R174). A bay timer's detail is the lowest-numbered slot at that bay among those that have fired and those that the same update makes fire. -/
def Dev.fireSlot (d : Dev) : Dev :=
  match d.ep.due with
  | [] => d
  | n :: q =>
    let x := d.evSlot n
    let d0 := { d with ep := { d.ep with due := q } }
    let w := x.ctl.toNat
    if ¬ bit w 31 then d0
    else
      let y := { x with ctl := BitVec.ofNat 32 (setBits w 31 30 1) }
      let d1 := { d0 with ep := { d0.ep with slots := Tab.set d0.ep.slots n y } }
      let t := bits w 8 0
      match bits w 29 28 with
      | 0 =>
        let low := (List.range 256).find? (fun k => let z := (d1.evSlot k).ctl.toNat; (bit z 30 || (bit z 31 && q.contains k)) && bits z 29 28 == 0 && bits z 8 0 == t)
        d1.raise (bits t 8 2) (bits t 1 0) 0x23 (low.getD n)
      | 1 => d1.addToken (bits t 5 4) (bits t 3 0)
      | 2 => d1.snap 1
      | _ => d1

/-- The fields of an EPCTL write as they are stored, EN apart: DIGWAIT at least 2, reserved bits 0 (R171). -/
def epctlFields (v : Nat) : Nat := setBits (setBits (setBits v 31 31 0) 19 12 (Nat.max 2 (bits v 19 12))) 11 0 0
/-- EPCTL.EN set: the counters follow SRC, and with the pins start at (EPLOAD, 0) (R167). Slots whose target that pair has reached join those that are to fire, but no mark is sent and no update is counted (DESIGN CHOICE, log entry 78). -/
def Dev.epochEnable (d : Dev) : Dev :=
  let x := d.ep
  let w := x.nxt ||| 0x80000000
  let src := bits w.toNat 30 28
  let y := ({ x with ctl := w, nxt := w }).follow src
  if src = 0 then ({ d with ep := { y with epoch := x.load, tick := 0 } }).collectDue else { d with ep := y }
/-- A write to EPCTL: one that changes EN changes no parameter (R22, R171; DEDUCED, log entry 76). A write of SRC while EN = 1 takes effect at once, of ALT, XCHK and FWD at the next update; where SRC is written as it stands, the counters go on following the source they follow, also after a switch to ALT (DESIGN CHOICE, log entry 78). -/
def Dev.writeEpctl (d : Dev) (v : Nat) : Dev :=
  let x := d.ep
  let w := epctlFields v
  if bit v 31 != x.on then
    if bit v 31 then d.epochEnable
    else { d with ep := (({ x with ctl := x.nxt &&& 0x7FFFFFFF, nxt := x.nxt &&& 0x7FFFFFFF }).follow 7).live false }
  else if ¬ x.on then { d with ep := { x with ctl := BitVec.ofNat 32 w, nxt := BitVec.ofNat 32 w } }
  else
    let nxt := 0x80000000 + w
    let held := setBits nxt 27 20 (bits x.ctl.toNat 27 20)
    let y := { x with ctl := BitVec.ofNat 32 held, nxt := BitVec.ofNat 32 nxt }
    { d with ep := if bits w 30 28 = bits x.ctl.toNat 30 28 then y else y.follow (bits w 30 28) }

/-- EPCTL as it reads: the values written (R171). -/
def Epoch.ctlRead (e : Epoch) : Word := e.nxt

end Sys2Proof.Machine
end

