-- ==== Sys2Proof/Machine/JournalOps.lean ====
section
/-! DEFINITION. Streams, segments, appends, durability, digests and recovery of the Strelsia journal (R146 to R180, R413, R414). -/

namespace Sys2Proof.Machine

/-- A stream. -/
def Dev.stream (d : Dev) (s : Nat) : Stream := Tab.get d.jr.streams s {}
/-- The machine with a stream replaced. -/
def Dev.setStream (d : Dev) (s : Nat) (x : Stream) : Dev := { d with jr := { d.jr with streams := Tab.set d.jr.streams s x } }
/-- STATE of a stream: 0 disabled, 1 open, 2 stopped, 3 recovering (R149). -/
def Dev.streamState (d : Dev) (s : Nat) : Nat :=
  let x := d.stream s
  if x.recovering then 3 else if x.stopped then 2 else if x.en && (d.owner s).isSome then 1 else 0

/-! ## Segments (R162, R413, R414) -/

/-- Segments in the append area. -/
def segCount : Nat := 1012
/-- Free segments (JFREE). -/
def Dev.jfree (d : Dev) : Nat := segCount - (d.jr.used.filter (fun p => p.2)).length
/-- Whether a segment is free. -/
def Dev.segFree (d : Dev) (i : Nat) : Bool := !Tab.get d.jr.used i false
/-- Allocation count of a segment. -/
def Dev.segUses (d : Dev) (i : Nat) : Nat := Tab.get d.jr.alloc i 0
/-- The segment the next allocation takes, if any is free (R162). -/
def Dev.nextSeg (d : Dev) : Option Nat :=
  let free := ((List.range segCount).map (fun i => (d.jr.lastAlloc + 1 + i) % segCount)).filter d.segFree
  let least := (free.map d.segUses).foldl Nat.min (2 ^ 64)
  free.find? (fun i => decide (d.segUses i ≤ least + 65536))
/-- Address of a slot of a segment. -/
def segAddr (i slot : Nat) : Nat := journalBase + 0x10000 * i + 128 * slot
/-- The header of a segment (Table 5.11). -/
def segHeader (first serial s : Nat) : List Byte :=
  let body := toLe 8 first ++ toLe 8 serial ++ toLe 1 s ++ toLe 107 0
  body ++ toLe 4 (crc32c body).toNat

/-- Detail of a digest event: the stream and the epoch. -/
def digestDetail (s e : Nat) : List Byte := toLe 2 s ++ toLe 6 e

/-- The low-space condition evaluated (R414). -/
def Dev.evalLow (d : Dev) (s : Nat) : Dev :=
  let x := d.stream s
  if decide (x.quota < x.low + x.segs.length) || decide (d.jfree < x.low) then
    if x.lows then d
    else
      let d1 := (d.setStream s { x with lows := true }).record (0x8000 + s) 0x06 []
      match d1.owner s with
      | some (n, b) => d1.raise n b 0x22 (0x6000 + s)
      | none => d1
  else d

/-- Whether an append to a stream finds a slot (R153). -/
def Dev.hasSlot (d : Dev) (s : Nat) : Bool :=
  let x := d.stream s
  match x.segs.getLast? with
  | some g => decide (g.used < 511) || (decide (x.segs.length < x.quota) && d.nextSeg.isSome)
  | none => decide (x.segs.length < x.quota) && d.nextSeg.isSome

/-- A slot taken for the next record of a stream: its address, and the header of a segment allocated for it. -/
def Dev.takeSlot (d : Dev) (s : Nat) : Dev × Nat × List Byte :=
  let x := d.stream s
  let alloc := fun (_ : Unit) =>
    match d.nextSeg with
    | none => (d, 0, [])
    | some i =>
      let g : Seg := { idx := i, serial := x.serial + 1, first := x.next, used := 1 }
      let d1 := d.clearRange (segAddr i 0) 0x10000
      let d2 := { d1 with jr := { d1.jr with alloc := Tab.set d1.jr.alloc i (d1.segUses i + 1), used := Tab.set d1.jr.used i true, lastAlloc := i } }
      ((d2.setStream s { x with segs := x.segs ++ [g], serial := x.serial + 1 }).evalLow s, segAddr i 1, segHeader x.next.toNat (x.serial + 1).toNat s)
  match x.segs.getLast? with
  | some g =>
    if g.used < 511 then
      (d.setStream s { x with segs := x.segs.dropLast ++ [{ g with used := g.used + 1 }] }, segAddr g.idx (g.used + 1), [])
    else alloc ()
  | none => alloc ()

/-! ## Appends and durability (R150, R153, R158, R159) -/

/-- Stamp epoch of a record. -/
def recEpoch (r : List Byte) : Nat := leAt r 8 6
/-- KIND of a record. -/
def recKind (r : List Byte) : Nat := leAt r 15 1
/-- Stamp sequence of a record. -/
def recSeq (r : List Byte) : Nat := leAt r 16 4
/-- A record with the device's fields: JSEQ, STREAM and CRC (Table 5.2). -/
def recordOf (src : List Byte) (jseq s : Nat) : List Byte :=
  let body := toLe 8 jseq ++ (src.drop 8).take 6 ++ toLe 1 s ++ (src.drop 15).take 109
  body ++ toLe 4 (crc32c body).toNat

/-- An append accepted: slot, JSEQ and last stamp settled; into the write queue, or held for room, also behind a held record of its own stream (R153, R158, R159). True where it is held. -/
def Dev.append (d : Dev) (s : Nat) (src : List Byte) (site : Nat) : Dev × Bool :=
  let (d1, addr, hdr) := d.takeSlot s
  let x := d1.stream s
  let q : QRec := { stream := s, jseq := x.next, addr := addr, data := recordOf src x.next.toNat s, hdr := hdr, site := site }
  let d2 := d1.setStream s { x with next := x.next + 1, last := some (recEpoch src, recSeq src) }
  if d2.jr.queue.length < 512 ∧ d2.jr.heldq.all (fun h => h.stream != s) then ({ d2 with jr := { d2.jr with queue := d2.jr.queue ++ [q] } }, false)
  else ({ d2 with jr := { d2.jr with heldq := d2.jr.heldq ++ [q] } }, true)

/-- A record taken into the digest of its epoch; an epoch it ends waits to be sealed (R175, R176). -/
def Stream.digestIn (x : Stream) (r : List Byte) : Stream :=
  let e := recEpoch r
  let x1 : Stream := match x.open_ with
    | some e0 => if e0 < e then { x with open_ := none, seals := x.seals ++ [{ epoch := e0, close := 2, count := x.dcount, msg := x.dmsg }] } else x
    | none => x
  let x2 : Stream := match x1.open_ with
    | some _ => { x1 with dmsg := x1.dmsg ++ (r.drop 8).take 116, dcount := x1.dcount + 1 }
    | none => { x1 with open_ := some e, dmsg := (r.drop 8).take 116, dcount := 1 }
  if recKind r = 0x7F then { x2 with open_ := none, seals := x2.seals ++ [{ epoch := e, close := 1, count := x2.dcount, msg := x2.dmsg }], dmsg := [], dcount := 0 }
  else x2

/-- A queued record made durable (R159, R163, R413). JWEAR_BYTES counts it now, and not when it entered the write queue (DESIGN CHOICE, log entry 77). -/
def Dev.durable (d : Dev) (q : QRec) : Dev :=
  let d1 := if q.hdr = [] then d else d.put (q.addr - q.addr % 0x10000) q.hdr
  let d2 := d1.put q.addr q.data
  let x := (d2.stream q.stream).digestIn q.data
  let d3 := d2.setStream q.stream { x with dur := q.jseq, lastDur := some (recEpoch q.data, recSeq q.data) }
  { d3 with jr := { d3.jr with wear := d3.jr.wear + (if q.hdr = [] then 128 else 256) } }

/-- A stream's oldest queued record, and the queue without it. -/
def takeQueued (s : Nat) : List QRec → Option (QRec × List QRec)
  | [] => none
  | q :: qs => if q.stream = s then some (q, qs) else (takeQueued s qs).map (fun p => (p.1, q :: p.2))

/-! ## Release (R156) -/

/-- Records released up to a JSEQ: full segments whose records are all released return to the pool. -/
def Dev.release (d : Dev) (s : Nat) (n : DWord) : Dev :=
  let x := d.stream s
  let gone := fun (g : Seg) => g.used == 511 && decide (g.first.toNat + 510 ≤ n.toNat)
  let out := (x.segs.filter gone).map (fun g => g.idx)
  let d1 := d.setStream s { x with rel := n, segs := x.segs.filter (fun g => !gone g) }
  { d1 with jr := { d1.jr with used := d1.jr.used.map (fun p => if out.contains p.1 then (p.1, false) else p) } }

/-- The JSEQ a 32-bit operand names: within 2^31 of the durable sequence (R152). -/
def seqNear (dur : DWord) (v : Word) : Int :=
  (dur.toNat : Int) + sextI 32 ((v.toNat + 2 ^ 32 - dur.toNat % 2 ^ 32) % 2 ^ 32)

/-! ## Checks of a journal operation (R153) -/

/-- The check of stream and owner: the reason of cause 0x16 met first. -/
def Dev.journalCheck (d : Dev) (n b : Nat) (bv : Word) : Option Nat :=
  if bits bv.toNat 31 6 ≠ 0 then some 1
  else if d.owner bv.toNat ≠ some (n, b) then some 2
  else match d.streamState bv.toNat with
    | 1 => none
    | 2 => some 4
    | _ => some 3

/-- Whether a DPD decimal128 is an infinity or a NaN: its combination field begins 1111. -/
def deltaSpecial (v : Nat) : Bool := bits v 126 123 == 15

/-- Whether a record's kind, reserved bytes, sequence, account and delta agree (R153). -/
def recordWhole (r : List Byte) : Bool :=
  let k := recKind r
  decide (1 ≤ k) && decide (k ≤ 0x7F) && leAt r 20 4 == 0 && ((k == 0x7F) == (recSeq r == 0xFFFFFFFF)) &&
  (k != 0x7F || (leAt r 24 16 == 0 && leAt r 40 16 == 0x22080000000000000000000000000000))

/-- The check of a record: the reason of cause 0x16 met first. -/
def Dev.recordCheck (d : Dev) (s : Nat) (r : List Byte) : Option Nat :=
  if ¬ recordWhole r then some 6
  else if deltaSpecial (leAt r 40 16) then some 7
  else if (match (d.stream s).last with | some (e, q) => reaches e q (recEpoch r) (recSeq r) | none => false) then some 8
  else if recEpoch r > d.ep.epoch + 1 then some 9
  else if ¬ d.hasSlot s then some 10
  else none

/-! ## Digests (R175 to R180) -/

/-- The trailer of a digest message (Table 5.7). -/
def digestTrailer (s : Nat) (z : Seal) : List Byte :=
  [0x4C, 0x4D, 0x44, 0x47] ++ toLe 2 1 ++ toLe 1 s ++ toLe 1 z.close ++ toLe 6 z.epoch ++ toLe 2 0 ++ toLe 8 z.count ++ toLe 40 0

/-- The members whose digests are awaited on one ring: DMASK of a valid map, without the device's own bit. -/
def Dev.dmask (d : Dev) (w : Nat) : BitVec 16 :=
  if bit w 31 then BitVec.ofNat 16 (bits w 15 0) &&& ~~~(BitVec.ofNat 16 (2 ^ (d.slot (bits w 29 28)).member)) else 0

/-- Whether a seal still awaits a member. -/
def Seal.wants (z : Seal) (bridge : Bool) (origin : Nat) : Bool := (if bridge then z.wantB else z.wantA).getLsbD origin
/-- A stream's first digest that waits to be sealed, sealed now: JS_DIG, JS_DEP, the masks, the wait, the frames (R176, R178, R179, R350). -/
def Dev.sealDigest (d : Dev) (s : Nat) : Dev :=
  let x := d.stream s
  match x.seals.find? (fun z => !z.done) with
  | none => d
  | some z =>
    let a := d.dmask (d.smap s)
    let b := d.dmask (d.smapb s)
    let y : Seal := { z with digest := sha256 (z.msg ++ digestTrailer s z), msg := [], done := true, wantA := a, wantB := b, maskA := a, maskB := b, left := bits d.ep.ctl.toNat 19 12 }
    let kept := x.held.filter (fun h => decide (y.epoch < h.epoch) || x.seals.any (fun w => w.done && w.epoch == h.epoch && w.wants h.bridge h.origin) || (h.epoch == y.epoch && (if h.bridge then b else a).getLsbD h.origin))
    let seals := x.seals.map (fun w => if w = z then y else w)
    let d1 := d.setStream s { x with seals := seals, dig := y.digest, dep := y.epoch, lastSealed := some y.epoch, held := kept }
    let d2 := if bit (d1.smap s) 31 then d1.sendDigestOn (bits (d1.smap s) 29 28) s y else d1
    if bit (d2.smapb s) 31 then d2.sendDigestOn (bits (d2.smapb s) 29 28) s y else d2

/-- A stream stopped, or found wrong again while stopped (R179). -/
def Dev.stopStream (d : Dev) (s kind e : Nat) : Dev :=
  let x := d.stream s
  let d1 := if x.stopped then d else d.setStream s { x with stopped := true, why := kind - 3 }
  let d2 := d1.record (0x8000 + s) kind (digestDetail s e)
  match d2.owner s with
  | some (n, b) => d2.raise n b 0x22 (kind * 0x1000 + s)
  | none => d2

/-- The bit of a member cleared in the masks a seal still awaits. -/
def Seal.got (z : Seal) (bridge : Bool) (origin : Nat) : Seal :=
  let m := ~~~(BitVec.ofNat 16 (2 ^ origin))
  if bridge then { z with wantB := z.wantB &&& m } else { z with wantA := z.wantA &&& m }

/-- A held partner digest compared with the device's own (R178, R179). -/
def Dev.compareDigest (d : Dev) (s : Nat) (bridge : Bool) (origin : Nat) : Dev :=
  let x := d.stream s
  match x.held.find? (fun h => h.bridge == bridge && h.origin == origin && x.seals.any (fun z => z.done && z.epoch == h.epoch && z.wants bridge origin)) with
  | none => d
  | some h =>
    match x.seals.find? (fun z => z.done && z.epoch == h.epoch) with
    | none => d
    | some z =>
      let same := z.digest = h.digest ∧ z.count = h.count ∧ z.close = h.close
      let d1 := d.setStream s { x with held := x.held.erase h, seals := x.seals.map (fun w => if w = z then z.got bridge origin else w) }
      if same then d1 else d1.stopStream s 4 z.epoch

/-- A digest wait that ran out: each awaited digest that has not arrived stops the stream (R179). -/
def Dev.waitOut (d : Dev) (s : Nat) : Dev :=
  match d.ep.waits.find? (fun p => p.1 == s) with
  | none => d
  | some p =>
    let x := d.stream s
    let d0 := { d with ep := { d.ep with waits := d.ep.waits.erase p } }
    match x.seals.find? (fun z => z.done && z.epoch == p.2) with
    | none => d0
    | some z =>
      let lost := ((List.range 16).map (fun m => (false, m)) ++ (List.range 16).map (fun m => (true, m))).filter (fun q =>
        z.wants q.1 q.2 && !x.held.any (fun h => h.epoch == z.epoch && h.bridge == q.1 && h.origin == q.2))
      let y := lost.foldl (fun (w : Seal) q => w.got q.1 q.2) z
      let d1 := d0.setStream s { x with seals := x.seals.map (fun w => if w = z then y else w) }
      lost.foldl (fun (e : Dev) _ => e.stopStream s 5 z.epoch) d1

/-- A partner's digest that arrived: kept until the device has sealed that epoch, then only where it is still awaited (R178, R350). -/
def Dev.takeDigest (d : Dev) (s : Nat) (h : PDig) : Dev :=
  let x := d.stream s
  let open_ := match x.lastSealed with
    | none => true
    | some e => decide (e < h.epoch)
  let again := x.held.any (fun g => g.epoch == h.epoch && g.bridge == h.bridge && g.origin == h.origin)
  let awaited := x.seals.any (fun z => z.done && z.epoch == h.epoch && z.wants h.bridge h.origin)
  if !again && (open_ || awaited) then d.setStream s { x with held := x.held ++ [h] } else d

/-! ## Writes to JS_CTL (R149, R180, R414) -/

/-- A stopped stream reopened: only digests of epochs that seal from now on are compared (R180). -/
def Stream.reopen (x : Stream) : Stream :=
  { x with stopped := false, seals := x.seals.filter (fun z => !z.done), held := x.held.filter (fun h => match x.lastSealed with | none => true | some e => decide (e < h.epoch)) }
/-- REOPEN written as 1, where the stream has stopped. -/
def Dev.reopenStream (d : Dev) (s : Nat) : Dev :=
  let x := d.stream s
  if x.stopped then
    let d1 := d.setStream s x.reopen
    { d1 with ep := { d1.ep with waits := d1.ep.waits.filter (fun p => p.1 != s) } }
  else d
/-- A write to JS_CTL: one that changes EN changes no parameter (R22, R149; DEDUCED, log entry 76); QUOTA and LOW written while EN = 0 take effect, and low space is evaluated, at the next enabling write, while the stream is open at its next allocation, and otherwise at once (R23, R414). -/
def Dev.writeJsCtl (d : Dev) (s v : Nat) : Dev :=
  let x := d.stream s
  let d1 :=
    if bit v 31 != x.en then
      let e := d.setStream s { x with en := bit v 31, wrote := x.wrote && !bit v 31 }
      if bit v 31 && x.wrote then e.evalLow s else e
    else
      let open_ := d.streamState s == 1
      let e := d.setStream s { x with quota := Nat.min 1012 (Nat.max 1 (bits v 25 16)), low := bits v 9 0, wrote := x.wrote || !x.en }
      if x.en && !open_ then e.evalLow s else e
  if bit v 30 then d1.reopenStream s else d1

/-! ## Recovery (R166, R177) -/

/-- Records of a segment that pass their CRC and continue the run, from slot `k` on. -/
def Dev.scanSlots (d : Dev) (i first : Nat) : Nat → Nat → List (List Byte)
  | 0, _ => []
  | n + 1, k =>
    let r := d.bytes (segAddr i (k + 1)) 128
    if leAt r 0 8 = first + k ∧ leAt r 124 4 = (crc32c (r.take 124)).toNat then r :: d.scanSlots i first n (k + 1) else []

/-- The durable records of a chain: the run ends in the first segment that does not fill. -/
def Dev.scanChain (d : Dev) : List Seg → List (Seg × List (List Byte))
  | [] => []
  | g :: gs =>
    let rs := d.scanSlots g.idx g.first.toNat 511 0
    (g, rs) :: (if rs.length = 511 then d.scanChain gs else [])

/-- A stream as the scan finds it: segments without a durable record are free again, slots past the run read zero. -/
def Dev.recoverStream (d : Dev) (s : Nat) : Dev :=
  let x := d.stream s
  let run := (d.scanChain x.segs).filter (fun p => p.2 != [])
  let recs := run.flatMap (fun p => p.2)
  let segs := run.map (fun p => { p.1 with used := p.2.length })
  let freed := (x.segs.filter (fun g => !segs.any (fun h => h.idx == g.idx))).map (fun g => g.idx)
  let dur : DWord := match recs.getLast? with
    | some r => BitVec.ofNat 64 (leAt r 0 8)
    | none => x.rel
  let whole := dur == x.dur
  let last := if whole then x.lastDur else match recs.getLast? with
    | some r => some (recEpoch r, recSeq r)
    | none => x.lastDur
  let closed := match last with
    | some (_, q) => q == 0xFFFFFFFF
    | none => true
  let ofLast := recs.filter (fun r => some (recEpoch r) == last.map (fun p => p.1))
  let y := { x with
    recovering := false, stopped := false, segs := segs, next := dur + 1, dur := dur, last := last, lastDur := last, dig := [], dep := 0
    seals := [], held := []
    open_ := if closed then none else last.map (fun p => p.1)
    dmsg := if closed then [] else if whole then x.dmsg else ofLast.flatMap (fun r => (r.drop 8).take 116)
    dcount := if closed then 0 else if whole then x.dcount else ofLast.length
    lastSealed := last.bind (fun p => if closed then some p.1 else if p.1 = 0 then none else some (p.1 - 1)) }
  let d1 := segs.foldl (fun (e : Dev) g => e.clearRange (segAddr g.idx (g.used + 1)) (128 * (511 - g.used))) d
  let d2 := freed.foldl (fun (e : Dev) i => e.clearRange (segAddr i 0) 0x10000) d1
  ({ d2 with jr := { d2.jr with used := freed.foldl (fun t i => Tab.set t i false) d2.jr.used } }).setStream s y

/-- Every stream recovered; queued records that never became durable are gone. -/
def Dev.recoverAll (d : Dev) : Dev :=
  let d1 := { d with jr := { d.jr with queue := [], heldq := [], scanning := false } }
  let d2 := (List.range 64).foldl (fun (e : Dev) s => e.recoverStream s) d1
  { d2 with ep := { d2.ep with waits := [] } }

end Sys2Proof.Machine
end

