-- ==== Sys2Proof/Machine/Derrik.lean ====
section
/-! DEFINITION. The commands of the Derrik ports: training, frames received, originations, held postings and draining (R334 to R352). -/

namespace Sys2Proof.Machine

/-! ## The checks of Table 11.5 -/

/-- The VL and PLEN of a TYPE; none for a reserved one (Table 11.3). -/
def typeShape (t : Nat) : Option (Nat × Nat) :=
  match t with
  | 1 => some (0, 256)
  | 2 => some (1, 16)
  | 3 => some (1, 48)
  | 0x10 => some (0, 16)
  | 0x11 => some (0, 16)
  | 0x12 => some (0, 16)
  | _ => none

/-- Whether the header is whole, with a good CRC and END (check 0x01). -/
def frameIntact (bs : List Byte) : Bool :=
  let n := bs.length - 16
  decide (32 ≤ bs.length) && leAt bs n 4 == (crc32c (bs.take n)).toNat && leAt bs (n + 4) 1 == 0

/-- Whether every reserved field of header, trailer and payload is zero (check 0x04). -/
def reservedZero (bs : List Byte) : Bool :=
  let t := leAt bs 0 1
  let n := bs.length - 16
  leAt bs 1 1 / 2 == 0 && bits (leAt bs 2 2) 15 12 == 0 && (seqType t || leAt bs 2 2 == 0) &&
  (ringType t || (leAt bs 6 2 == 0 && leAt bs 8 3 == 0)) && leAt bs 8 1 / 16 == 0 && leAt bs 10 1 / 64 == 0 &&
  leAt bs 11 5 == 0 && leAt bs (n + 5) 11 == 0 &&
  (match t with
   | 1 => leAt bs (16 + 4) 4 == 0 && leAt bs (16 + 20) 4 == 0
   | 2 => leAt bs (16 + 6) 2 == 0 && leAt bs (16 + 11) 5 == 0
   | 3 => leAt bs (16 + 7) 1 == 0
   | 0x10 => leAt bs (16 + 2) 2 == 0 && leAt bs (16 + 12) 4 == 0
   | 0x11 => leAt bs (16 + 3) 13 == 0
   | _ => leAt bs (16 + 6) 1 / 32 == 0 && leAt bs (16 + 7) 1 == 0 && leAt bs (16 + 10) 6 == 0)

/-- Whether a payload is a posting of a stream (check 0x09). -/
def postingOk (s : Nat) (pl : List Byte) : Bool := leAt pl 0 1 == 1 && leAt pl 1 1 / 2 == 0 && leAt pl 14 1 == s

/-- The first header check a frame fails, 0x02 to 0x07 (Table 11.5). -/
def Dev.headerFault (d : Dev) (p : Nat) (bs : List Byte) : Option Nat :=
  let t := leAt bs 0 1
  match typeShape t with
  | none => some 2
  | some (vl, pl) =>
    if leAt bs 1 1 % 2 ≠ vl ∨ leAt bs 4 2 ≠ pl ∨ bs.length ≠ pl + 32 then some 3
    else if ¬ reservedZero bs then some 4
    else if ¬ ringType t then none
    else match d.slotNaming p with
      | none => some 5
      | some k =>
        let s := d.slot k
        let m := d.smap (leAt bs 10 1)
        if leAt bs 6 2 ≠ s.ringId then some 5
        else if leAt bs 8 1 > s.nmem ∨ leAt bs 8 1 = s.member ∨ leAt bs 9 1 = 0 then some 6
        else if t = 1 ∧ bit m 31 ∧ bits m 29 28 ≠ k then some 7
        else none

/-- The first check a frame fails (Table 11.5). -/
def Dev.frameFault (d : Dev) (p : Nat) (bs : List Byte) : Option Nat :=
  let x := d.port p
  let f := frameOf bs
  if ¬ frameIntact bs then some 1
  else match d.headerFault p bs with
    | some r => some r
    | none =>
      if ¬ seqType f.type then none
      else if f.units + (if f.vl = 0 then x.used0 else x.used1) > (if f.vl = 0 then 4096 else 512) then some 8
      else if f.type = 1 ∧ ¬ postingOk f.stream f.payload then some 9
      else if ringType f.type ∧ ¬ x.peer then some 0xB
      else if f.lseq ≠ x.rxNext then some 0xA
      else none

/-- Whether a reason asks for a resend. -/
def resendReason (r : Nat) : Bool := r == 1 || r == 8 || r == 0xB || r == 0xA

/-! ## Retraining and malformed frames (R335, R351) -/

/-- A port retrains itself, keeping its sequence state and retry buffer (R335). -/
def Dev.retrain (d : Dev) (p : Nat) : Dev :=
  let x := d.port p
  if x.state ≠ 3 then d
  else (d.setPort p { x with state := 1, peer := false, retrained := true, retrains := satAdd x.retrains 1 }).record (0x5000 + p) 0x20 []

/-- A malformed frame counted; the 65th of a window retrains the port (R351). -/
def Dev.countMalformed (d : Dev) (p : Nat) : Dev :=
  let x := d.port p
  if x.malf ≥ 64 then (d.setPort p { x with malf := 0, malfFrom := d.ep.updates }).retrain p else d.setPort p { x with malf := x.malf + 1 }

/-- The expected LSEQ moved past those that were consumed out of order. -/
def Port.skip : Nat → Port → Port
  | 0, x => x
  | k + 1, x => if x.consumed.contains x.rxNext then Port.skip k { x with consumed := x.consumed.erase x.rxNext, rxNext := (x.rxNext + 1) % 4096 } else x
/-- An LSEQ consumed: the expected one, or one ahead of it, which is passed over when its turn comes (R338). -/
def Port.consume (x : Port) (lseq : Nat) : Port :=
  if lseq = x.rxNext then Port.skip x.consumed.length { x with rxNext := (lseq + 1) % 4096, lastRx := some lseq, resend := false }
  else if (lseq + 4096 - x.rxNext) % 4096 < 2048 ∧ ¬ x.consumed.contains lseq then { x with consumed := lseq :: x.consumed }
  else x

/-- A frame that fails a check: its NAK, its count, its record, and the LSEQ consumed or awaited again (R338, R351). -/
def Dev.refuseFrame (d : Dev) (p : Nat) (f : Frame) (reason : Nat) (sequenced : Bool) : Dev :=
  let x := d.port p
  let d1 :=
    if ¬ sequenced then d
    else if resendReason reason then
      (d.setPort p { x with resend := true, gap := if reason = 0xA then satAdd x.gap 1 else x.gap }).sendNak p x.rxNext reason
    else
      let y := x.consume (f.lseq % 4096)
      let z := if f.vl % 2 = 0 then { y with freed0 := y.freed0 + BitVec.ofNat 32 f.units } else { y with freed1 := y.freed1 + BitVec.ofNat 32 f.units }
      (d.setPort p z).sendNak p f.lseq reason
  if reason = 0xA ∨ reason = 0xB then d1
  else (d1.record (0x5000 + p) reason (toLe 1 reason ++ toLe 2 f.lseq)).countMalformed p

/-! ## Postings received (R339 to R342, R349) -/

/-- The port of a slot on the side opposite a port; 7 where it has none. -/
def Slot.opposite (s : Slot) (p : Nat) : Nat := if s.dnp = p then s.upp else s.dnp

/-- The copy of a ring frame that goes on along the ring, if it goes on (R340, R350). -/
def Slot.onward (s : Slot) (p : Nat) (f : Frame) : Option (Nat × Frame) :=
  if f.hops ≤ 1 ∨ s.opposite p ≥ 4 then none else some (s.opposite p, { f with hops := f.hops - 1, lseq := 0, feeder := none })

/-- The copy of a posting a bridge originates into its bridge ring (R349). -/
def Dev.bridged (d : Dev) (f : Frame) : Option (Nat × Frame) :=
  let w := d.smapb f.stream
  let t := d.slot (bits w 29 28)
  if bit w 31 && t.v && decide (t.dnp < 4) then some (t.dnp, { f with ring := t.ringId, origin := t.member, hops := t.nmem, lseq := 0, feeder := none }) else none

/-- Whether a posting can be delivered now: its stream's ring is enabled and has a free slot. -/
def Dev.ringReady (d : Dev) (s : Nat) : Bool := (d.ring s).en && !(d.ring s).full

/-- A posting that was accepted, taken up: forwarded and bridged, then delivered or held at the head of the buffer (R339 to R341). -/
def Dev.takePosting (d : Dev) (p k : Nat) (f : Frame) : Dev :=
  let mapped := bit (d.smap f.stream) 31
  let ready := !mapped || d.ringReady f.stream
  let on := (d.slot k).onward p f
  let d1 := match on with
    | some (q, g) => d.forward p q { g with feeder := if ready then f.feeder else none }
    | none => d
  let d2 := match d1.bridged f with
    | some (q, g) => d1.forward p q g
    | none => d1
  if !ready then
    let x := d2.port p
    d2.setPort p { x with hold := (f, k) :: x.hold, rxhold := satAdd x.rxhold 1 }
  else
    let d3 := if mapped then d2.fillSlot f.stream f.payload (2 + p) 0 0 0 else d2
    if on.isSome then d3 else d3.freeFrame f

/-- A list with the first occurrence of an element replaced. -/
def replaceFirst {α : Type} [DecidableEq α] (a b : α) : List α → List α
  | [] => []
  | x :: xs => if x = a then b :: xs else x :: replaceFirst a b xs

/-- The units of a delivered posting freed, or left to its onward copy while that is still queued (R339). -/
def Dev.freeHeld (d : Dev) (p k : Nat) (f : Frame) : Dev :=
  match (d.slot k).onward p f with
  | none => d.freeFrame f
  | some (q, g) =>
    let y := d.port q
    if y.txq.contains g then d.setPort q { y with txq := replaceFirst g { g with feeder := f.feeder } y.txq }
    else d.freeFrame f

/-- Postings that waited behind a held one, taken up in order until one is held itself (R339). -/
def resumeHold (p : Nat) : List (Frame × Nat) → Dev → Dev
  | [], d => d
  | (f, k) :: rest, d =>
    let d1 := d.takePosting p k f
    if (d1.port p).hold.isEmpty then resumeHold p rest d1
    else d1.setPort p { d1.port p with hold := (d1.port p).hold ++ rest }

/-- The posting at the head of a receive buffer delivered, and those behind it taken up (R339, R341). -/
def Dev.deliverHeld (d : Dev) (p : Nat) : Dev :=
  let x := d.port p
  match x.hold with
  | [] => d
  | (f, k) :: rest =>
    if ¬ d.ringReady f.stream then d
    else resumeHold p rest (((d.setPort p { x with hold := [] }).fillSlot f.stream f.payload (2 + p) 0 0 0).freeHeld p k f)

/-! ## Frames received -/

/-- Whether a port takes frames: UP, or DRAINING. -/
def Port.listens (x : Port) : Bool := x.state == 3 || x.state == 4

/-- The copy of a frame that an idle egress port had begun to send, ended stomped; where a resend is to come, its LSEQ is kept for it (R342, R343). -/
def Dev.stompCopy (d : Dev) (p : Nat) (again : Bool) : Option (Nat × Frame) → Dev
  | none => d
  | some (q, g) =>
    let y := d.port q
    if y.txq.isEmpty && y.canSend g && y.nak0b.isNone && !d.pw.pfail then
      d.setPort q { y with wire := y.wire ++ [{ g with lseq := y.txNext, stomp := true }], stomped := if again then some p else none }
    else d
/-- The stomped copies of a frame whose header had passed its checks, so that forwarding and bridging by cut-through had begun, and which then failed: on its CRC (R343), or on a later check (DESIGN CHOICE, log entry 84). -/
def Dev.stompOnward (d : Dev) (p : Nat) (bs : List Byte) (reason : Nat) : Dev :=
  let f := frameOf bs
  match d.slotNaming p with
  | none => d
  | some k =>
    if (d.port p).cut && ringType f.type && (d.headerFault p bs).isNone && (f.type != 1 || (d.port p).hold.isEmpty) then
      (d.stompCopy p (resendReason reason) ((d.slot k).onward p f)).stompCopy p (resendReason reason) (if f.type = 1 then d.bridged f else none)
    else d

/-- A frame that arrived, checked and answered, then taken up by its kind (R337, R338, R343). -/
def Dev.receive (d : Dev) (p : Nat) (bs : List Byte) (take : Dev → Frame → Dev) : Dev :=
  let x := d.port p
  let f := frameOf bs
  let sequenced := seqType f.type || (typeShape f.type).isNone
  if ¬ x.listens then d
  else if leAt bs (bs.length - 12) 1 = 0x5A then
    (d.setPort p { x with stomps := satAdd x.stomps 1 }).record (0x5000 + p) 0x21 []
  else if sequenced ∧ x.resend ∧ f.lseq ≠ x.rxNext then d
  else match d.frameFault p bs with
    | some r => (if sequenced then d.stompOnward p bs r else d).refuseFrame p f r sequenced
    | none =>
      if ¬ sequenced then take d f
      else
        let y := x.consume f.lseq
        let z := if f.vl = 0 then { y with used0 := y.used0 + f.units } else { y with used1 := y.used1 + f.units }
        ((take (d.setPort p z) { f with feeder := some p }).unstomp p).sendAck p

/-- A POSTING taken up: behind a held one it waits (R339). -/
def Dev.onPosting (d : Dev) (p : Nat) (f : Frame) : Dev :=
  match d.slotNaming p with
  | none => d
  | some k =>
    let x := d.port p
    if x.hold.isEmpty then d.takePosting p k f else d.setPort p { x with hold := x.hold ++ [(f, k)] }

/-- A MARK taken up (R168, R170). -/
def Dev.onMark (d : Dev) (p : Nat) (f : Frame) : Dev :=
  (d.freeFrame f).epochMark p (leAt f.payload 0 6) (leAt f.payload 8 3)

/-- A DIGEST taken up: kept or ignored, and forwarded (R178, R350). -/
def Dev.onDigest (d : Dev) (p : Nat) (f : Frame) : Dev :=
  match d.slotNaming p with
  | none => d
  | some k =>
    let a := d.smap f.stream
    let b := d.smapb f.stream
    let pl := f.payload
    let h : PDig := { epoch := leAt pl 0 6, origin := f.origin, close := leAt pl 6 1, count := leAt pl 8 8, digest := (pl.drop 16).take 32 }
    let d1 :=
      if bit a 31 && bits a 29 28 == k then d.takeDigest f.stream h
      else if bit b 31 && bits b 29 28 == k then d.takeDigest f.stream { h with bridge := true }
      else d
    match (d1.slot k).onward p f with
    | some (q, g) => d1.forward p q { g with feeder := f.feeder }
    | none => d1.freeFrame f

/-- Credits of a lane after an ACK: those returned, capped at the lane's size; whether the cap was met (R339, Table 11.8). -/
def creditUp (have_ : Nat) (seen new : Word) (cap : Nat) : Nat × Bool :=
  let n := have_ + (new - seen).toNat
  if n > cap then (cap, true) else (n, false)

/-- An ACK taken up: frames it covers leave the retry buffer, and credits return (R337, R339). -/
def Dev.onAck (d : Dev) (p : Nat) (f : Frame) : Dev :=
  let x := d.port p
  let pl := f.payload
  let c0 := BitVec.ofNat 32 (leAt pl 4 4)
  let c1 := BitVec.ofNat 32 (leAt pl 8 4)
  let (n0, e0) := creditUp x.txCr0 x.seen0 c0 4096
  let (n1, e1) := creditUp x.txCr1 x.seen1 c1 512
  let retry := x.retry.filter (fun g => decide (2048 ≤ (leAt pl 0 2 + 4096 - g.lseq) % 4096))
  let d1 := d.setPort p { x with retry := retry, txCr0 := n0, txCr1 := n1, seen0 := c0, seen1 := c1 }
  (if e0 || e1 then d1.countMalformed p else d1).pump p

/-- The frames of the retry buffer from a sequence number on, sent again; where PEER = 0, from the first ring frame on they wait for it (R338, R347). -/
def Dev.resendFrom (d : Dev) (p seq : Nat) : Dev :=
  let x := d.port p
  match x.retry.findIdx? (fun g => g.lseq == seq) with
  | some i =>
    let now := (x.retry.drop i).takeWhile (fun g => x.peer || !ringType g.type)
    if x.state = 3 ∧ ¬ d.pw.pfail then
      match (x.retry.drop i).drop now.length with
      | [] => d.setPort p { x with wire := x.wire ++ now }
      | g :: _ => d.setPort p { x with wire := x.wire ++ now, nak0b := some g.lseq, helloSince := true }
    else d
  | none => d

/-- A resend that waited for PEER and a HELLO, made when both have come (R347). -/
def Dev.resendHeld (d : Dev) (p : Nat) : Dev :=
  let x := d.port p
  match x.nak0b with
  | some q => if x.peer && x.helloSince then (d.setPort p { x with nak0b := none }).resendFrom p q else d
  | none => d

/-- A NAK taken up (R338, R347, Table 11.8). -/
def Dev.onNak (d : Dev) (p : Nat) (f : Frame) : Dev :=
  let x := d.port p
  let d1 := d.setPort p { x with nakrx := satAdd x.nakrx 1 }
  let seq := leAt f.payload 0 2
  let why := leAt f.payload 2 1
  if ¬ x.retry.any (fun g => g.lseq == seq) then d1
  else if why = 0xB then d1.setPort p { d1.port p with nak0b := some seq, helloSince := false }
  else if why = 1 ∨ why = 8 ∨ why = 0xA then d1.resendFrom p seq
  else if 2 ≤ why ∧ why ≤ 9 then (d1.setPort p { d1.port p with retry := x.retry.filter (fun g => g.lseq != seq) }).pump p
  else d1

/-- What a HELLO says of the partner, taken in (R346). -/
def Dev.noteHello (d : Dev) (p : Nat) (h : List Byte) : Dev :=
  d.setPort p { d.port p with lastHello := some h, peerId := leAt h 0 2, peer := d.peerOk p h, helloSince := true }

/-- A HELLO taken up while the port is UP: answered when it differs from the last, PEER evaluated again (R346, R347). -/
def Dev.onHello (d : Dev) (p : Nat) (f : Frame) : Dev :=
  let again := (d.port p).lastHello = some f.payload
  let d1 := d.noteHello p f.payload
  ((if again then d1 else d1.sendHello p).resendHeld p).pump p

/-! ## Training, draining and originations -/

/-- A port with its credits as training leaves both sides (R339). -/
def Port.fullCredit (x : Port) : Port := { x with txCr0 := 4096, txCr1 := 512, seen0 := 0, seen1 := 0, used0 := 0, used1 := 0, freed0 := 0, freed1 := 0 }
/-- A port with its link's sequence state as training starts it; postings it holds stay (R337, R339). -/
def Port.fresh (x : Port) : Port :=
  { x.fullCredit with rxNext := 0, resend := false, gapNak := false, txNext := 0, retry := [], lastHello := none, lastRx := none, nak0b := none, consumed := [], stomped := none, helloSince := false }
/-- The frames that came in on a port before a training hold no units of its receive buffer any longer: it starts whole (R339). -/
def Dev.unfeed (d : Dev) (p : Nat) : Dev :=
  let drop := fun (f : Frame) => if f.feeder = some p then { f with feeder := none } else f
  (List.range 4).foldl (fun (e : Dev) q => e.setPort q { e.port q with txq := (e.port q).txq.map drop, hold := (e.port q).hold.map (fun h => (drop h.1, h.2)) }) d

/-- EN = 1 written to a port whose domain is powered; one that is OFF or DRAINED, with DRAIN 0, trains (R334, R352, R406). -/
def Dev.enablePort (d : Dev) (p : Nat) : Dev :=
  let x := d.port p
  if ¬ d.powered (86 + p) then d
  else if (x.state = 0 ∨ x.state = 5) ∧ ¬ x.drain then ((d.setPort p { x.fresh with en := true, state := 1, peer := false }).unfeed p).unstomp p
  else d.setPort p { x with en := true }

/-- The partner's HELLO at the end of training: the port is UP, credits start again, and unacknowledged frames go out from the number it names (R334, R335, R339). -/
def Dev.trained (d : Dev) (p : Nat) (bs : List Byte) : Dev :=
  let x := d.port p
  if ¬ (x.state = 1 ∨ x.state = 2) then d
  else
    let d1 := (d.setPort p { x with state := 2 }).sendHello p
    if (d.frameFault p bs).isSome ∨ (frameOf bs).type ≠ 0x12 then d1
    else
      let h := (frameOf bs).payload
      let seq := leAt h 8 2
      let keep := match x.retry.findIdx? (fun g => g.lseq == seq) with
        | some i => x.retry.drop i
        | none => if seq = x.txNext then [] else x.retry
      let lane := fun (v : Nat) => ((keep.filter (fun g => g.vl == v)).map Frame.units).sum
      let y := { (d1.port p).fullCredit with
        state := 3, resend := false, gapNak := false, retry := keep, txCr0 := 4096 - lane 0, txCr1 := 512 - lane 1, nak0b := none }
      let d2 := ((d1.setPort p y).unfeed p).noteHello p h
      (match keep with
        | [] => d2
        | g :: _ => d2.resendFrom p g.lseq).pump p

/-- DRAIN = 1 written to a port: refused while a valid ring slot names it (R352). -/
def Dev.drainPort (d : Dev) (p : Nat) : Dev :=
  let x := d.port p
  if ¬ d.powered (86 + p) then d
  else if (d.slotNaming p).isSome then d.setPort p { x with refused := true }
  else d.setPort p { x with drain := true, state := if x.state = 5 then 5 else 4, peer := false }

/-- The end of a drain: what remains unacknowledged is discarded (R352). -/
def Dev.drainedPort (d : Dev) (p : Nat) : Dev :=
  let x := d.port p
  if x.state ≠ 4 then d
  else
    let d1 := (d.setPort p { x with state := 5, retry := [], txq := [] }).unstomp p
    x.txq.foldl (fun (e : Dev) f => e.freeFrame f) d1

/-- A write to DL_CTL (R334, R352). -/
def Dev.writeDlCtl (d : Dev) (p v : Nat) : Dev :=
  let x := d.port p
  let d1 := d.setPort p { x with cut := bit v 29 }
  let d2 := if bit v 28 = x.loop then d1
    else if x.state = 5 then d1.setPort p { d1.port p with loop := bit v 28 }
    else d1.setPort p { d1.port p with refused := true }
  let d3 := if bit v 30 && !x.drain then d2.drainPort p
    else if !bit v 30 && x.drain then d2.setPort p { d2.port p with drain := false } else d2
  if bit v 31 then d3.enablePort p
  else (d3.setPort p { d3.port p with en := false, state := if (d3.port p).drain then (d3.port p).state else 0, peer := false }).unstomp p

/-- The store of a bay to XM_SEND (R348). -/
def Dev.xmSend (d : Dev) (who : Agent) (s v : Nat) : Dev :=
  let w := d.smap s
  let t := d.slot (bits w 29 28)
  let owns := match who, d.owner s with
    | .bay c b, some (n, k) => c.toNat == n && b.toNat == k
    | _, _ => false
  let buf := d.bytes v 256
  let queued := ((d.port t.dnp).txq.filter (fun f => f.type == 1 && f.origin == t.member && f.ring == t.ringId)).length
  let refuse := { d with dl := { d.dl with xmRefuse := satAdd d.dl.xmRefuse 1 } }
  if ¬ (owns && bit w 31 && t.v && bits w 27 24 == t.member && decide (t.dnp < 4) && v % 256 == 0 && decide (v < 0x08000000)) then refuse
  else if ¬ (postingOk s buf && leAt buf 4 4 == 0 && leAt buf 20 4 == 0) ∨ queued ≥ 256 then refuse
  else
    let d1 := { d with dl := { d.dl with xmCnt := Tab.set d.dl.xmCnt s (Tab.get d.dl.xmCnt s 0 + 1) } }
    d1.queueFrame t.dnp { type := 1, vl := 0, ring := t.ringId, origin := t.member, hops := t.nmem, stream := s, payload := buf }

/-! ## Meanings -/

/-- Whether a port's registers answer: its domain is ON. -/
def Dev.portOn (d : Dev) (p : Nat) : Bool := d.domState (86 + p) == 1

/-- PORT_ENABLE. -/
def execPortEnable (who : Agent) (p : BitVec 2) (s : State) : Host.Outcome State Fault Refusal :=
  .next (s.run (fun d => if d.allowed who (0x0B000000 + 0x100 * p.toNat) true then d.enablePort p.toNat else d))
/-- LINK_TRAINING_COMPLETE: `hello` is the partner's HELLO frame. -/
def execLinkTrainingComplete (p : BitVec 2) (hello : List Byte) (s : State) : Host.Outcome State Fault Refusal :=
  .next (s.run (fun d => d.trained p.toNat hello))
/-- LINK_RETRAIN. -/
def execLinkRetrain (p : BitVec 2) (s : State) : Host.Outcome State Fault Refusal := .next (s.run (fun d => d.retrain p.toNat))
/-- What a frame of some TYPE does, taken up by its kind; a command whose frame has another TYPE does nothing. -/
def Dev.frameIn (d : Dev) (p : Nat) (bs : List Byte) (t : Nat) (take : Dev → Frame → Dev) : Dev :=
  if leAt bs 0 1 = t then d.receive p bs take else d
/-- POSTING. -/
def execPosting (p : BitVec 2) (frame : List Byte) (s : State) : Host.Outcome State Fault Refusal :=
  .next (s.run (fun d => d.frameIn p.toNat frame 1 (fun e f => e.onPosting p.toNat f)))
/-- MARK_FRAME. -/
def execMarkFrame (p : BitVec 2) (frame : List Byte) (s : State) : Host.Outcome State Fault Refusal :=
  .next (s.run (fun d => d.frameIn p.toNat frame 2 (fun e f => e.onMark p.toNat f)))
/-- DIGEST. -/
def execDigest (p : BitVec 2) (frame : List Byte) (s : State) : Host.Outcome State Fault Refusal :=
  .next (s.run (fun d => d.frameIn p.toNat frame 3 (fun e f => e.onDigest p.toNat f)))
/-- ACK. -/
def execAck (p : BitVec 2) (frame : List Byte) (s : State) : Host.Outcome State Fault Refusal :=
  .next (s.run (fun d => d.frameIn p.toNat frame 0x10 (fun e f => e.onAck p.toNat f)))
/-- NAK. -/
def execNak (p : BitVec 2) (frame : List Byte) (s : State) : Host.Outcome State Fault Refusal :=
  .next (s.run (fun d => d.frameIn p.toNat frame 0x11 (fun e f => e.onNak p.toNat f)))
/-- HELLO, outside training. -/
def execHello (p : BitVec 2) (frame : List Byte) (s : State) : Host.Outcome State Fault Refusal :=
  .next (s.run (fun d => d.frameIn p.toNat frame 0x12 (fun e f => e.onHello p.toNat f)))
/-- RESERVED_TYPE_FRAME. -/
def execReservedTypeFrame (p : BitVec 2) (frame : List Byte) (s : State) : Host.Outcome State Fault Refusal :=
  .next (s.run (fun d => if (typeShape (leAt frame 0 1)).isNone then d.receive p.toNat frame (fun e _ => e) else d))
/-- ACK_TIMER. -/
def execAckTimer (p : BitVec 2) (s : State) : Host.Outcome State Fault Refusal := .next (s.run (fun d => d.sendAck p.toNat))
/-- XM_SEND. -/
def execXmSend (who : Agent) (stream : BitVec 6) (addr : DWord) (s : State) : Host.Outcome State Fault Refusal :=
  .next (s.run (fun d => if d.allowed who (0x0B003000 + 4 * stream.toNat) true then d.xmSend who stream.toNat addr.toNat else d))
/-- HELD_POSTING_DELIVERY. -/
def execHeldPostingDelivery (p : BitVec 2) (s : State) : Host.Outcome State Fault Refusal := .next (s.run (fun d => d.deliverHeld p.toNat))
/-- The window of a port that 2^20 counter updates have ended starts anew; while the epoch source is lost no update comes and none ends (R351). -/
def Dev.malfWindow (d : Dev) (p : Nat) : Dev :=
  let x := d.port p
  if x.malfFrom + 0x100000 ≤ d.ep.updates then d.setPort p { x with malf := 0, malfFrom := d.ep.updates } else d
/-- MALF_WINDOW_END. -/
def execMalfWindowEnd (s : State) : Host.Outcome State Fault Refusal :=
  .next (s.run (fun d => (List.range 4).foldl (fun (e : Dev) p => e.malfWindow p) d))
/-- PORT_DRAIN. -/
def execPortDrain (who : Agent) (p : BitVec 2) (s : State) : Host.Outcome State Fault Refusal :=
  .next (s.run (fun d => if d.allowed who (0x0B000000 + 0x100 * p.toNat) true then d.drainPort p.toNat else d))
/-- PORT_DRAINED. -/
def execPortDrained (p : BitVec 2) (s : State) : Host.Outcome State Fault Refusal := .next (s.run (fun d => d.drainedPort p.toNat))

end Sys2Proof.Machine
end

