-- ==== Sys2Proof/Machine/Dpd.lean ====
section
/-! DEFINITION. Decimal formats, DPD declets, rounding and packed BCD (03_decimal_arithmetic.md, R79 to R94). -/

namespace Sys2Proof

/-- The two decimal interchange formats (R79). -/
inductive DFmt where
  | d64 | d128
  deriving DecidableEq, Repr

/-- Precision p (R79). -/
def DFmt.p : DFmt → Nat | .d64 => 16 | .d128 => 34
/-- Largest exponent of an integer coefficient, Eqmax (R79). -/
def DFmt.eqmax : DFmt → Int | .d64 => 369 | .d128 => 6111
/-- Etiny (R79). -/
def DFmt.etiny : DFmt → Int | .d64 => -398 | .d128 => -6176
/-- emin, 1 - emax (R79). -/
def DFmt.emin : DFmt → Int | .d64 => -383 | .d128 => -6143
/-- Number of declets in the trailing significand. -/
def DFmt.declets : DFmt → Nat | .d64 => 5 | .d128 => 11
/-- Width of the exponent continuation. -/
def DFmt.ecw : DFmt → Nat | .d64 => 8 | .d128 => 12
/-- Position of the sign bit. -/
def DFmt.signBit : DFmt → Nat | .d64 => 63 | .d128 => 127

/-- A decimal datum: finite (sign, coefficient, exponent), infinity, or NaN (sign, signalling, payload). -/
inductive DVal where
  | fin (s : Bool) (c : Nat) (e : Int)
  | inf (s : Bool)
  | nan (s : Bool) (sig : Bool) (payload : Nat)
  deriving DecidableEq, Repr

/-- The value of a 10-bit declet; the non-canonical ones have the value IEEE 754-2008 gives them (R94). -/
def decodeDeclet (x : Nat) : Nat :=
  let b := fun n => b2n (bit x n)
  let hi := 4 * b 9 + 2 * b 8 + b 7
  let mid := 4 * b 6 + 2 * b 5 + b 4
  let lo := 4 * b 2 + 2 * b 1 + b 0
  if !bit x 3 then 100 * hi + 10 * mid + lo
  else match bits x 2 1 with
    | 0 => 100 * hi + 10 * mid + (8 + b 0)
    | 1 => 100 * hi + 10 * (8 + b 4) + (4 * b 6 + 2 * b 5 + b 0)
    | 2 => 100 * (8 + b 7) + 10 * mid + (4 * b 9 + 2 * b 8 + b 0)
    | _ => match bits x 6 5 with
      | 0 => 100 * (8 + b 7) + 10 * (8 + b 4) + (4 * b 9 + 2 * b 8 + b 0)
      | 1 => 100 * (8 + b 7) + 10 * (4 * b 9 + 2 * b 8 + b 4) + (8 + b 0)
      | 2 => 100 * hi + 10 * (8 + b 4) + (8 + b 0)
      | _ => 100 * (8 + b 7) + 10 * (8 + b 4) + (8 + b 0)

/-- The canonical declet of 0 to 999. -/
def encodeDeclet (n : Nat) : Nat :=
  let d1 := n / 100 % 10
  let d2 := n / 10 % 10
  let d3 := n % 10
  let s1 := d1 % 2
  let s2 := d2 % 2
  let s3 := d3 % 2
  let pack := fun (top : Nat) (m7 : Nat) (m4 : Nat) (lo4 : Nat) => top * 256 + m7 * 128 + m4 * 16 + lo4
  match decide (d1 ≥ 8), decide (d2 ≥ 8), decide (d3 ≥ 8) with
  | false, false, false => d1 * 128 + d2 * 16 + d3
  | false, false, true => d1 * 128 + d2 * 16 + 8 + s3
  | false, true, false => d1 * 128 + (d3 / 2) * 32 + s2 * 16 + 10 + s3
  | true, false, false => pack (d3 / 2) s1 d2 (12 + s3)
  | true, true, false => pack (d3 / 2) s1 s2 (14 + s3)
  | true, false, true => pack (d2 / 2) s1 (2 + s2) (14 + s3)
  | false, true, true => d1 * 128 + 64 + s2 * 16 + 14 + s3
  | true, true, true => pack 0 s1 (6 + s2) (14 + s3)

/-- The number `n` declets hold. -/
def decodeDeclets : Nat → Nat → Nat
  | 0, _ => 0
  | n + 1, x => decodeDeclet (x % 1024) + 1000 * decodeDeclets n (x / 1024)

/-- `n` canonical declets of a number. -/
def encodeDeclets : Nat → Nat → Nat
  | 0, _ => 0
  | n + 1, x => encodeDeclet (x % 1000) + 1024 * encodeDeclets n (x / 1000)

/-- The datum that the bits of an operand hold (R79, R94). -/
def DFmt.decode (f : DFmt) (x : Nat) : DVal :=
  let s := bit x f.signBit
  let g := bits x (f.signBit - 1) (f.signBit - 5)
  let t := 10 * f.declets
  let trail := decodeDeclets f.declets (x % 2 ^ t)
  let ec := bits x (t + f.ecw - 1) t
  if g = 31 then .nan s (bit x (f.signBit - 6)) trail
  else if g = 30 then .inf s
  else
    let lead := if g ≥ 24 then 8 + g % 2 else g % 8
    let top := if g ≥ 24 then g / 2 % 4 else g / 8
    .fin s (lead * 1000 ^ f.declets + trail) ((top * 2 ^ f.ecw + ec : Nat) + f.etiny)

/-- The canonical encoding of a datum (R80, R94). -/
def DFmt.encode (f : DFmt) (v : DVal) : Nat :=
  let t := 10 * f.declets
  match v with
  | .nan s sig pl => b2n s * 2 ^ f.signBit + 31 * 2 ^ (f.signBit - 5) + b2n sig * 2 ^ (f.signBit - 6) + encodeDeclets f.declets pl
  | .inf s => b2n s * 2 ^ f.signBit + 30 * 2 ^ (f.signBit - 5)
  | .fin s c e =>
    let be := (e - f.etiny).toNat
    let top := be / 2 ^ f.ecw
    let lead := c / 1000 ^ f.declets
    let g := if lead ≥ 8 then 24 + top * 2 + lead % 2 else top * 8 + lead
    b2n s * 2 ^ f.signBit + g * 2 ^ (f.signBit - 5) + (be % 2 ^ f.ecw) * 2 ^ t + encodeDeclets f.declets c

/-- The largest finite magnitude, Max (R80). -/
def DFmt.largest (f : DFmt) (s : Bool) : DVal := .fin s (10 ^ f.p - 1) f.eqmax

/-- The default quiet NaN (R80). -/
def DVal.qnan : DVal := .nan false false 0
/-- The data-invalid quiet NaN, payload 1 (R80). -/
def DVal.dataNan : DVal := .nan false false 1

/-- The flags of DECCTL [5:0] that an operation sets (R84). -/
structure DFlags where
  df : Bool := false
  vf : Bool := false
  zf : Bool := false
  of : Bool := false
  uf : Bool := false
  inx : Bool := false
  deriving DecidableEq, Repr

/-- The flags as DECCTL [5:0]. -/
def DFlags.toWord (f : DFlags) : Word :=
  BitVec.ofNat 32 (32 * b2n f.df + 16 * b2n f.vf + 8 * b2n f.zf + 4 * b2n f.of + 2 * b2n f.uf + b2n f.inx)

/-- Both sets of flags. -/
def DFlags.or (a b : DFlags) : DFlags :=
  { df := a.df || b.df, vf := a.vf || b.vf, zf := a.zf || b.zf, of := a.of || b.of, uf := a.uf || b.uf, inx := a.inx || b.inx }

/-- Decimal digits of a number below 10^fuel; 0 has none. -/
def digitsFuel : Nat → Nat → Nat
  | 0, _ => 0
  | fuel + 1, n => if n = 0 then 0 else 1 + digitsFuel fuel (n / 10)

/-- The number of decimal digits of a number. -/
def digits (n : Nat) : Nat := digitsFuel (n.log2 + 1) n

/-- Table 3.2: whether the magnitude `q` with the discarded part `r` of `10^k` is incremented (R85). -/
def roundUp (rm : Nat) (s : Bool) (q r k : Nat) : Bool :=
  let unit := 10 ^ k
  match rm with
  | 0 => 2 * r > unit || (2 * r == unit && q % 2 == 1)
  | 1 => 2 * r ≥ unit
  | 2 => 2 * r > unit
  | 3 => false
  | 4 => r != 0
  | 5 => r != 0 && !s
  | 6 => r != 0 && s
  | _ => r != 0 && (q % 10 == 0 || q % 10 == 5)

/-- `c` without its last `k` digits, rounded, and whether anything was lost. -/
def dropDigits (rm : Nat) (s : Bool) (c k : Nat) : Nat × Bool :=
  if k = 0 then (c, false) else
  let q := c / 10 ^ k
  let r := c % 10 ^ k
  (if roundUp rm s q r k then q + 1 else q, r != 0)

/-- Table 3.4: the result of an overflow (R91). -/
def DFmt.overflow (f : DFmt) (rm : Nat) (s : Bool) : DVal :=
  let toMax := match rm with
    | 3 => true
    | 7 => true
    | 5 => s
    | 6 => !s
    | _ => false
  if toMax then f.largest s else .inf s

/-- One rounding step from an exact finite result (R89). -/
def DFmt.round (f : DFmt) (rm : Nat) (s : Bool) (c : Nat) (e : Int) : DVal × DFlags :=
  if c = 0 then (.fin s 0 (max f.etiny (min e f.eqmax)), {})
  else
    let tiny : Bool := decide ((digits c : Int) + e ≤ f.emin)
    let k := (max (max ((digits c : Int) - f.p) (f.etiny - e)) 0).toNat
    let (c1, inexact) := dropDigits rm s c k
    let e1 := e + k
    let (c2, e2) := if digits c1 > f.p then (c1 / 10, e1 + 1) else (c1, e1)
    if e2 > f.eqmax then
      let up := (e2 - f.eqmax).toNat
      if c2 = 0 ∨ digits c2 + up ≤ f.p then
        (.fin s (c2 * 10 ^ up) f.eqmax, { uf := tiny && inexact, inx := inexact })
      else (f.overflow rm s, { of := true, inx := true })
    else (.fin s c2 e2, { uf := tiny && inexact, inx := inexact })

/-- The result of NaN operands, in the order A, B (R93); none where neither is a NaN. -/
def nanOf (a b : DVal) : Option (DVal × DFlags) :=
  match a, b with
  | .nan s true p, _ => some (.nan s false p, { vf := true })
  | _, .nan s true p => some (.nan s false p, { vf := true })
  | .nan s false p, _ => some (.nan s false p, {})
  | _, .nan s false p => some (.nan s false p, {})
  | _, _ => none

/-- Every other invalid operation (R93, item 3). -/
def invalidOp : DVal × DFlags := (.qnan, { vf := true })

/-! ## Packed BCD -/

/-- The digit nibble `i` (0 least significant) of a packed register (R81). -/
def packedNibble (x : Nat) (i : Nat) : Nat := x / 16 ^ (i + 1) % 16

/-- Whether every one of the 31 digit nibbles is valid (R81). -/
def packedDigitsOk (x : Nat) : Bool := (List.range 31).all (fun i => packedNibble x i ≤ 9)

/-- Whether the sign nibble is valid (R81). -/
def packedSignOk (x : Nat) : Bool := x % 16 ≥ 10

/-- The first data error of a packed operand: digit before sign (R98). `a` tells operand A from B. -/
def packedCheck (a : Bool) (x : Nat) : Option Nat :=
  if !packedDigitsOk x then some (if a then 0x001 else 0x002)
  else if !packedSignOk x then some (if a then 0x003 else 0x004)
  else none

/-- The magnitude of `n` BCD nibbles. -/
def bcdToNat : Nat → Nat → Nat
  | 0, _ => 0
  | n + 1, x => x % 16 + 10 * bcdToNat n (x / 16)

/-- `n` BCD nibbles of a number. -/
def natToBcd : Nat → Nat → Nat
  | 0, _ => 0
  | n + 1, x => x % 10 + 16 * natToBcd n (x / 10)

/-- The signed integer a valid packed operand holds; a negative zero is zero (R81, R103). -/
def packedVal (x : Nat) : Int :=
  let m : Int := bcdToNat 31 (x / 16)
  if x % 16 = 0xB ∨ x % 16 = 0xD then -m else m

/-- The packed form of a magnitude (its low 31 digits) and a sign (R81). -/
def toPacked (neg : Bool) (m : Nat) : Nat :=
  let low := m % 10 ^ 31
  natToBcd 31 low * 16 + (if neg && low != 0 then 0xD else 0xC)

/-- The invalid-packed pattern: every nibble 0xF. -/
def invalidPacked : QWord := BitVec.allOnes 128

/-- A packed field of L memory bytes as a register value (R82). -/
def packedLoad (bs : List Byte) : QWord := BitVec.ofNat 128 (fromBe bs)

/-- The L memory bytes of a register value (R82). -/
def packedStore (l : Nat) (x : QWord) : List Byte := toBe l x.toNat

/-- Whether a zoned field is valid, scanned from its first byte; `lead` while only 0x20 has been seen (R83). -/
def zonedOk : Bool → List Byte → Bool
  | _, [] => true
  | _, [b] => b.toNat % 16 ≤ 9 && (b.toNat / 16 == 3 || b.toNat / 16 == 7)
  | lead, b :: bs =>
    if lead && b.toNat == 0x20 then zonedOk true bs
    else b.toNat / 16 == 3 && b.toNat % 16 ≤ 9 && zonedOk false bs

/-- The packed value of a valid zoned field (R83). -/
def zonedLoad (bs : List Byte) : QWord :=
  let neg := match bs.getLast? with
    | some b => b.toNat / 16 == 7
    | none => false
  BitVec.ofNat 128 (toPacked neg (bs.foldl (fun acc b => acc * 10 + b.toNat % 16) 0))

/-- The zoned field of `n` bytes of a magnitude and sign (R83). -/
def zonedStore (n : Nat) (neg : Bool) (m : Nat) : List Byte :=
  (List.range n).map (fun i =>
    let d := 0x30 + m / 10 ^ (n - 1 - i) % 10
    BitVec.ofNat 8 (if neg && i + 1 == n && m % 10 ^ n != 0 then d + 0x40 else d))

end Sys2Proof
end

