-- ==== Sys2Proof/Machine/DecArith.lean ====
section
/-! DEFINITION. The decimal operations on values: results and flags (03_decimal_arithmetic.md, R90 to R104). -/

namespace Sys2Proof

/-- What a D-class operation delivers: a value, or the reason of a data exception, and the flags. -/
structure DOut where
  val : QWord := 0
  fl : DFlags := {}
  deriving DecidableEq, Repr

/-- A signed coefficient at exponent `e`, brought to exponent `t ≤ e`. -/
def alignTo (s : Bool) (c : Nat) (e t : Int) : Int :=
  let m : Int := (c * 10 ^ (e - t).toNat : Nat)
  if s then -m else m

/-- The sum of two data (Table 3.3, R92, R93). -/
def DFmt.add (f : DFmt) (rm : Nat) (a b : DVal) : DVal × DFlags :=
  match nanOf a b with
  | some r => r
  | none =>
    match a, b with
    | .inf s, .inf t => if s = t then (.inf s, {}) else invalidOp
    | .inf s, _ => (.inf s, {})
    | _, .inf t => (.inf t, {})
    | .fin s ca ea, .fin t cb eb =>
      let e : Int := if ea ≤ eb then ea else eb
      let v := alignTo s ca ea e + alignTo t cb eb e
      let sign := if v = 0 then (if s = t then s else rm == 6) else decide (v < 0)
      f.round rm sign v.natAbs e
    | _, _ => invalidOp

/-- A datum with its sign inverted, unless it is a NaN (DSUB keeps the sign of a NaN B, Table 3.11). -/
def DVal.negate : DVal → DVal
  | .fin s c e => .fin (!s) c e
  | .inf s => .inf (!s)
  | .nan s g p => .nan s g p

/-- The product (Table 3.3, R92). -/
def DFmt.mul (f : DFmt) (rm : Nat) (a b : DVal) : DVal × DFlags :=
  match nanOf a b with
  | some r => r
  | none =>
    match a, b with
    | .inf s, .inf t => (.inf (s != t), {})
    | .inf s, .fin t c _ => if c = 0 then invalidOp else (.inf (s != t), {})
    | .fin s c _, .inf t => if c = 0 then invalidOp else (.inf (s != t), {})
    | .fin s ca ea, .fin t cb eb => f.round rm (s != t) (ca * cb) (ea + eb)
    | _, _ => invalidOp

/-- The least `j ≤ fuel` with `c * 10^j` a multiple of `d`, if any. -/
def exactShift : Nat → Nat → Nat → Nat → Option Nat
  | 0, _, _, _ => none
  | fuel + 1, j, c, d => if c % d = 0 then some j else exactShift fuel (j + 1) (c * 10) d

/-- The quotient (Table 3.3, R90, R92). A quotient that does not terminate carries a last digit that stands for the rest. Of the exponents below that of the operands which represent the quotient exactly, the nearest is taken, with the fewest added digits (DESIGN CHOICE, log entry 86). -/
def DFmt.div (f : DFmt) (rm : Nat) (a b : DVal) : DVal × DFlags :=
  match nanOf a b with
  | some r => r
  | none =>
    match a, b with
    | .inf _, .inf _ => invalidOp
    | .inf s, .fin t _ _ => (.inf (s != t), {})
    | .fin s _ _, .inf t => (.fin (s != t) 0 f.etiny, {})
    | .fin s ca ea, .fin t cb eb =>
      let g := s != t
      if cb = 0 then (if ca = 0 then invalidOp else (.inf g, { zf := true }))
      else if ca = 0 then f.round rm g 0 (ea - eb)
      else match exactShift 120 0 ca cb with
        | some j => f.round rm g (ca * 10 ^ j / cb) (ea - eb - j)
        | none =>
          let j := f.p + 3 + digits cb
          f.round rm g (ca * 10 ^ j / cb * 10 + 1) (ea - eb - j - 1)
    | _, _ => invalidOp

/-- A quantized to the exponent of B (Table 3.3, Table 3.13). -/
def DFmt.quantize (f : DFmt) (rm : Nat) (a b : DVal) : DVal × DFlags :=
  match nanOf a b with
  | some r => r
  | none =>
    match a, b with
    | .inf s, .inf _ => (.inf s, {})
    | .fin s ca ea, .fin _ _ eb =>
      if ea ≥ eb then
        let c := ca * 10 ^ (ea - eb).toNat
        if digits c > f.p then invalidOp else (.fin s c eb, {})
      else
        let (c, inx) := dropDigits rm s ca (eb - ea).toNat
        if digits c > f.p then invalidOp else (.fin s c eb, { inx := inx })
    | _, _ => invalidOp

/-- A rounded to an integer (Table 3.3: preferred exponent max(ea, 0)). -/
def DFmt.toIntegral (f : DFmt) (rm : Nat) (a : DVal) : DVal × DFlags :=
  match nanOf a (.inf false) with
  | some r => r
  | none =>
    match a with
    | .fin s c e =>
      if e ≥ 0 then (.fin s c e, {})
      else
        let (q, inx) := dropDigits rm s c (-e).toNat
        (.fin s q 0, { inx := inx })
    | v => (v, {})

/-- A datum carried into another format: widening is exact, narrowing rounds; a NaN is quieted and its payload padded or cut (R93). -/
def DFmt.convert (f : DFmt) (rm : Nat) (a : DVal) : DVal × DFlags :=
  match a with
  | .nan s sig p => (.nan s false (p % 1000 ^ f.declets), { vf := sig })
  | .inf s => (.inf s, {})
  | .fin s c e => f.round rm s c e

/-- A datum times 10^sc, rounded to a signed integer, and whether anything was lost; none for a NaN or an infinity. -/
def DVal.toInt (rm : Nat) (sc : Nat) (a : DVal) : Option (Int × Bool) :=
  match a with
  | .fin s c e =>
    let e2 := e + sc
    let (q, inx) := if e2 ≥ 0 then (c * 10 ^ e2.toNat, false) else dropDigits rm s c (-e2).toNat
    some (if s then -(q : Int) else q, inx)
  | _ => none

/-- The order of two data that are no NaNs: -1, 0 or 1. Zeros of either sign and any quantum are equal (R104). -/
def DVal.order (a b : DVal) : Int :=
  match a, b with
  | .inf s, .inf t => if s = t then 0 else if s then -1 else 1
  | .inf s, _ => if s then -1 else 1
  | _, .inf t => if t then 1 else -1
  | .fin s ca ea, .fin t cb eb =>
    let e : Int := if ea ≤ eb then ea else eb
    let d := alignTo s ca ea e - alignTo t cb eb e
    if d < 0 then -1 else if d = 0 then 0 else 1
  | _, _ => 0

/-- Whether a datum is a NaN. -/
def DVal.isNan : DVal → Bool
  | .nan _ _ _ => true
  | _ => false

/-- Whether a datum is a signalling NaN. -/
def DVal.isSnan : DVal → Bool
  | .nan _ s _ => s
  | _ => false

/-- Table 3.9, from "unordered" and the order (R104). -/
def decCond (cond : Nat) (un : Bool) (o : Int) : Bool :=
  match cond with
  | 0 => !un && o == 0
  | 1 => un || o != 0
  | 2 => !un && o < 0
  | 3 => !un && o ≤ 0
  | 4 => !un && o > 0
  | 5 => !un && o ≥ 0
  | 6 => un
  | _ => !un

/-- DCMP: the condition and the flags (R104). -/
def decCompare (f : DFmt) (signalling : Bool) (cond : Nat) (x y : QWord) : Bool × DFlags :=
  let a := f.decode x.toNat
  let b := f.decode y.toNat
  let un := a.isNan || b.isNan
  (decCond cond un (a.order b), { vf := a.isSnan || b.isSnan || (signalling && un) })

/-- A datum and flags as the bits of a register result. -/
def DFmt.out (f : DFmt) (r : DVal × DFlags) : DOut := ⟨BitVec.ofNat 128 (f.encode r.1), r.2⟩

/-- DADD and DADD.X. -/
def decAdd (f : DFmt) (rm : Nat) (x y : QWord) : DOut := f.out (f.add rm (f.decode x.toNat) (f.decode y.toNat))
/-- DSUB and DSUB.X. -/
def decSub (f : DFmt) (rm : Nat) (x y : QWord) : DOut := f.out (f.add rm (f.decode x.toNat) (f.decode y.toNat).negate)
/-- DMUL and DMUL.X. -/
def decMul (f : DFmt) (rm : Nat) (x y : QWord) : DOut := f.out (f.mul rm (f.decode x.toNat) (f.decode y.toNat))
/-- DDIV and DDIV.X. -/
def decDiv (f : DFmt) (rm : Nat) (x y : QWord) : DOut := f.out (f.div rm (f.decode x.toNat) (f.decode y.toNat))
/-- DQUA and DQUA.X. -/
def decQua (f : DFmt) (rm : Nat) (x y : QWord) : DOut := f.out (f.quantize rm (f.decode x.toNat) (f.decode y.toNat))
/-- DRNI and DRNI.X. -/
def decRni (f : DFmt) (rm : Nat) (x : QWord) : DOut := f.out (f.toIntegral rm (f.decode x.toNat))

/-- The bits of a register that an operand of a format uses, the rest zero (R79). -/
def DFmt.clip (f : DFmt) (x : Nat) : Nat := x % 2 ^ (f.signBit + 1)
/-- DNEG: only the sign bit changes (R94). -/
def decNeg (f : DFmt) (x : QWord) : DOut := ⟨BitVec.ofNat 128 (setBits (f.clip x.toNat) f.signBit f.signBit (1 - b2n (bit x.toNat f.signBit))), {}⟩
/-- DABS. -/
def decAbs (f : DFmt) (x : QWord) : DOut := ⟨BitVec.ofNat 128 (setBits (f.clip x.toNat) f.signBit f.signBit 0), {}⟩
/-- DCPS. -/
def decCps (f : DFmt) (x y : QWord) : DOut := ⟨BitVec.ofNat 128 (setBits (f.clip x.toNat) f.signBit f.signBit (b2n (bit y.toNat f.signBit))), {}⟩

/-- CVT.X: decimal64 to decimal128. -/
def decWiden (rm : Nat) (x : QWord) : DOut := DFmt.d128.out (DFmt.d128.convert rm (DFmt.d64.decode x.toNat))
/-- CVT.D: decimal128 to decimal64. -/
def decNarrow (rm : Nat) (x : QWord) : DOut := DFmt.d64.out (DFmt.d64.convert rm (DFmt.d128.decode x.toNat))
/-- CVID: a signed integer, exponent 0. -/
def decFromInt (rm : Nat) (a : Word) : DOut := DFmt.d64.out (DFmt.d64.round rm a.msb a.toInt.natAbs 0)
/-- CVDI (R102): the word and the flags. -/
def decToInt (rm : Nat) (x : QWord) : Word × DFlags :=
  match (DFmt.d64.decode x.toNat).toInt rm 0 with
  | some (v, inx) => if v < -2147483648 ∨ v > 2147483647 then (0x80000000, { vf := true }) else (BitVec.ofInt 32 v, { inx := inx })
  | none => (0x80000000, { vf := true })
/-- CVPD and CVPX of a valid packed operand (R101). -/
def decFromPacked (f : DFmt) (rm sc : Nat) (x : QWord) : DOut :=
  let v := packedVal x.toNat
  f.out (f.round rm (decide (v < 0)) v.natAbs (-(sc : Int)))
/-- CVDP and CVXP (R102). -/
def decToPacked (f : DFmt) (rm sc : Nat) (x : QWord) : DOut :=
  match (f.decode x.toNat).toInt rm sc with
  | some (v, inx) =>
    if v.natAbs ≥ 10 ^ 31 then ⟨invalidPacked, { vf := true }⟩
    else ⟨BitVec.ofNat 128 (toPacked (decide (v < 0)) v.natAbs), { inx := inx }⟩
  | none => ⟨invalidPacked, { vf := true }⟩

/-- A packed integer result: the low 31 digits with the correct sign, OF at 10^31 (R103). -/
def packedOut (v : Int) : DOut :=
  ⟨BitVec.ofNat 128 (toPacked (decide (v < 0)) v.natAbs), { of := decide (v.natAbs ≥ 10 ^ 31) }⟩
/-- PADD. -/
def packedAdd (x y : QWord) : DOut := packedOut (packedVal x.toNat + packedVal y.toNat)
/-- PSUB. -/
def packedSub (x y : QWord) : DOut := packedOut (packedVal x.toNat - packedVal y.toNat)
/-- PSHL by n digits. -/
def packedShl (n : Nat) (x : QWord) : DOut := packedOut (packedVal x.toNat * (10 ^ n : Nat))
/-- PSHR by n digits, rounded (R103). -/
def packedShr (rm n : Nat) (x : QWord) : DOut :=
  let v := packedVal x.toNat
  let (q, inx) := dropDigits rm (decide (v < 0)) v.natAbs n
  ⟨BitVec.ofNat 128 (toPacked (decide (v < 0)) q), { inx := inx }⟩
/-- PCHK. -/
def packedChk (x : QWord) : DOut := packedOut (packedVal x.toNat)
/-- PCMP of valid operands (R104). -/
def packedCompare (cond : Nat) (x y : QWord) : Bool :=
  let d := packedVal x.toNat - packedVal y.toNat
  decCond cond false (if d < 0 then -1 else if d = 0 then 0 else 1)

/-- One element of MACS.D: dK + x × z, rounded once (R110). The product is exact. -/
def macD (rm : Nat) (acc : DVal) (x z : DVal) : DVal × DFlags :=
  let prod := DFmt.d128.mul rm x z
  let r := DFmt.d128.add rm acc prod.1
  (r.1, r.2.or prod.2)

end Sys2Proof
end

