-- ==== Sys2Proof/Machine/DecMem.lean ====
section
/-! DEFINITION. Packed and zoned fields as memory holds them, and the conversions of Table 10.4 (R82, R83, R106, R107, R316). -/

namespace Sys2Proof

/-- Whether a packed operand has a valid sign and 31 valid digits. -/
def packedOk (x : QWord) : Bool := (packedCheck true x.toNat).isNone

/-- STP of `l` bytes: the bytes, and whether a nibble above them is not zero (R107). -/
def stpOut (l : Nat) (x : QWord) : List Byte × Bool := (packedStore l x, x.toNat / 2 ^ (8 * l) != 0)

/-- STZ of `n` bytes: the bytes of a valid operand, and whether a nibble above the stored digits is not zero, be it a digit or not (R107). -/
def stzOut (n : Nat) (x : QWord) : List Byte × Bool :=
  let v := packedVal x.toNat
  (zonedStore n (decide (v < 0)) v.natAbs, x.toNat / 16 ^ (n + 1) != 0)

/-- LDZ: the packed value, or the invalid-packed pattern of an invalid field (R107). -/
def ldzOut (bs : List Byte) : QWord × Bool := if zonedOk true bs then (zonedLoad bs, false) else (invalidPacked, true)

/-- The packed value that enters a conversion, and the flags met on the way (Table 10.4, left parts of the sequences). -/
def convIn (conv rm scale : Nat) (src : List Byte) : QWord × DFlags :=
  let q := BitVec.ofNat 128 (fromLe src)
  if conv = 1 ∨ conv = 7 ∨ conv = 8 then ((ldzOut src).1, { df := (ldzOut src).2 })
  else if conv = 2 ∨ conv = 3 ∨ conv = 4 then (packedLoad src, {})
  else if conv = 5 ∨ conv = 9 then ((decToPacked .d64 rm scale q).val, (decToPacked .d64 rm scale q).fl)
  else ((decToPacked .d128 rm scale q).val, (decToPacked .d128 rm scale q).fl)

/-- A packed value made decimal, or the data-invalid NaN (R97, R101). -/
def packedToDec (f : DFmt) (rm scale : Nat) (x : QWord) : DOut :=
  if packedOk x then decFromPacked f rm scale x else { val := BitVec.ofNat 128 (f.encode .dataNan), fl := { df := true } }

/-- One element converted: the `dw` bytes and the flags (Table 10.4, R316). -/
def convert (conv rm scale dw : Nat) (src : List Byte) : List Byte × DFlags :=
  if conv = 0 then (src, {})
  else
    let (x, f) := convIn conv rm scale src
    if conv = 1 ∨ conv = 5 ∨ conv = 6 then ((stpOut dw x).1, f.or { of := (stpOut dw x).2 })
    else if conv = 2 ∨ conv = 9 ∨ conv = 10 then
      (if packedOk x then (stzOut dw x).1 else List.replicate dw 0x3F, f.or { df := !packedOk x, of := (stzOut dw x).2 })
    else if conv = 3 ∨ conv = 7 then
      let r := packedToDec .d64 rm scale x
      (toLe 8 r.val.toNat, f.or r.fl)
    else
      let r := packedToDec .d128 rm scale x
      (toLe 16 r.val.toNat, f.or r.fl)

/-- Whether the widths of source and destination agree with a conversion code (Table 10.4); `plain` where code 0 is allowed. -/
def convWidths (plain : Bool) (conv sw dw : Nat) : Bool :=
  let z := fun (n : Nat) => decide (1 ≤ n) && decide (n ≤ 31)
  let p := fun (n : Nat) => decide (1 ≤ n) && decide (n ≤ 16)
  match conv with
  | 0 => plain && sw == dw
  | 1 => z sw && p dw
  | 2 => p sw && z dw
  | 3 => p sw && dw == 8
  | 4 => p sw && dw == 16
  | 5 => sw == 8 && p dw
  | 6 => sw == 16 && p dw
  | 7 => z sw && dw == 8
  | 8 => z sw && dw == 16
  | 9 => sw == 8 && z dw
  | 10 => sw == 16 && z dw
  | _ => false

/-- The size a DPD element of a conversion must be aligned to on its source or destination side; 1 where the side is no DPD (Table 10.3, reason 0x04). -/
def convAlign (src : Bool) (conv : Nat) : Nat :=
  if src then (if conv = 5 ∨ conv = 9 then 8 else if conv = 6 ∨ conv = 10 then 16 else 1)
  else (if conv = 3 ∨ conv = 7 then 8 else if conv = 4 ∨ conv = 8 then 16 else 1)

end Sys2Proof
end

