-- ==== Sys2Proof/Machine/DmaOps.lean ====
section
/-! DEFINITION. DMA engines: descriptors, their checks, moves and endings (R305 to R329). -/

namespace Sys2Proof.Machine

/-- An engine. -/
def Dev.engine (d : Dev) (e : Nat) : Engine := Tab.get d.dma e {}
/-- The machine with an engine replaced. -/
def Dev.setEngine (d : Dev) (e : Nat) (x : Engine) : Dev := { d with dma := Tab.set d.dma e x }
/-- A channel. -/
def Dev.chan (d : Dev) (e c : Nat) : Chan := Tab.get (d.engine e).chans c {}
/-- The machine with a channel replaced. -/
def Dev.setChan (d : Dev) (e c : Nat) (x : Chan) : Dev := let g := d.engine e; d.setEngine e { g with chans := Tab.set g.chans c x }
/-- Whether an engine serves: its domain is ON. -/
def Dev.engineOn (d : Dev) (e : Nat) : Bool := d.domState (91 + e) == 1
/-- Whether an engine still works on what it has begun: its domain is ON or DRAINING (R328, R380). -/
def Dev.engineRuns (d : Dev) (e : Nat) : Bool := d.domState (91 + e) == 1 || d.domState (91 + e) == 2

/-! ## Descriptors (Table 10.1) -/

/-- A descriptor's fields. -/
structure DmaDesc where
  mode : Nat
  flags : Nat
  tag : Nat
  len : Nat
  src : Nat
  dst : Nat
  ss : Nat
  ds : Nat
  conv : Nat
  scale : Nat
  sw : Nat
  dw : Nat
  rm : Nat
  sel : Nat
  aux : Nat
  deriving DecidableEq, Repr

/-- The fields read from a descriptor's bytes. -/
def dmaDesc (bs : List Byte) : DmaDesc :=
  { mode := leAt bs 0 1, flags := leAt bs 1 1, tag := leAt bs 2 2, len := leAt bs 4 4, src := leAt bs 8 8, dst := leAt bs 16 8, ss := leAt bs 24 2, ds := leAt bs 26 2,
    conv := leAt bs 28 1, scale := leAt bs 29 1, sw := leAt bs 30 1 + 1, dw := leAt bs 31 1 + 1, rm := leAt bs 32 1, sel := leAt bs 33 1, aux := leAt bs 40 8 }

/-- A field-table entry's fields (Table 10.5). -/
structure DmaField where
  col : Nat
  off : Nat
  fw : Nat
  conv : Nat
  scale : Nat
  cw : Nat
  zero : Nat
  deriving DecidableEq, Repr

/-- The fields read from a field-table entry's bytes. -/
def dmaField (bs : List Byte) : DmaField :=
  { col := leAt bs 0 8, off := leAt bs 8 2, fw := leAt bs 10 1 + 1, conv := leAt bs 11 1, scale := leAt bs 12 1, cw := leAt bs 13 1 + 1, zero := leAt bs 14 2 }

/-- Whether bytes `[a, b)` of a descriptor are zero. -/
def zeroIn (bs : List Byte) (a b : Nat) : Bool := leAt bs a (b - a) == 0
/-- FLAGS.SH of a descriptor. -/
def DmaDesc.sh (x : DmaDesc) : Bool := bit x.flags 4
/-- FLAGS.DH of a descriptor. -/
def DmaDesc.dh (x : DmaDesc) : Bool := bit x.flags 5

/-- Check 0x01: MODE, and every reserved or unused field zero (Tables 10.1 to 10.3). -/
def descFormOk (bs : List Byte) : Bool :=
  let x := dmaDesc bs
  decide (x.mode ≤ 6) && !bit x.flags 7 && zeroIn bs 34 40 && zeroIn bs 48 64 && decide (x.rm < 8) && decide (x.scale < 32) &&
  (match x.mode with
   | 0 => zeroIn bs 8 64
   | 1 => zeroIn bs 24 64
   | 2 => zeroIn bs 24 64
   | 3 => zeroIn bs 33 64
   | 4 => zeroIn bs 16 24 && zeroIn bs 26 32 && decide (x.sel < 32)
   | 5 => zeroIn bs 8 16 && zeroIn bs 26 32 && decide (x.sel < 32)
   | _ => zeroIn bs 24 33 && zeroIn bs 40 64)

/-- Check 0x02: LEN. -/
def descLenOk (x : DmaDesc) : Bool :=
  match x.mode with
  | 0 => x.len == 0
  | 4 => decide (1 ≤ x.len) && decide (x.len ≤ 0x100000)
  | 5 => decide (1 ≤ x.len) && decide (x.len ≤ 0x100000)
  | 6 => decide (1 ≤ x.len) && decide (x.len ≤ 65536)
  | _ => decide (1 ≤ x.len) && decide (x.len ≤ 0x1000000)

/-- Check 0x03: CONV, widths, record size. -/
def descConvOk (x : DmaDesc) : Bool :=
  match x.mode with
  | 3 => convWidths false x.conv x.sw x.dw
  | 4 => decide (1 ≤ x.ss) && decide (x.ss ≤ 4096)
  | 5 => decide (1 ≤ x.ss) && decide (x.ss ≤ 4096)
  | _ => true

/-- Check 0x04 of a descriptor and the fields of its table. -/
def descAlignOk (x : DmaDesc) (fs : List DmaField) : Bool :=
  let at_ := fun (n a stride : Nat) => a % n == 0 && stride % n == 0
  match x.mode with
  | 3 => at_ (convAlign true x.conv) x.src x.ss && at_ (convAlign false x.conv) x.dst x.ds
  | 4 => x.aux % 16 == 0 && fs.all (fun f => at_ (convAlign true f.conv) (x.src + f.off) x.ss && at_ (convAlign false f.conv) f.col f.cw)
  | 5 => x.aux % 16 == 0 && fs.all (fun f => at_ (convAlign false f.conv) (x.dst + f.off) x.ss && at_ (convAlign true f.conv) f.col f.cw)
  | 6 => x.dst % 64 == 0
  | _ => true

/-- A range of an address space: host memory or the device, first address, length. -/
structure DmaRange where
  host : Bool
  a : Nat
  n : Nat
  deriving DecidableEq, Repr

/-- Whether two ranges share a byte. -/
def DmaRange.meets (x y : DmaRange) : Bool := x.host == y.host && decide (x.a < y.a + y.n) && decide (y.a < x.a + x.n)

/-- The bytes of a strided array of elements. -/
def span (stride n w : Nat) : Nat := (n - 1) * stride + w

/-- The source ranges. -/
def descSrc (x : DmaDesc) (fs : List DmaField) : List DmaRange :=
  match x.mode with
  | 1 => [⟨x.sh, x.src, x.len⟩]
  | 3 => [⟨x.sh, x.src, span x.ss x.len x.sw⟩]
  | 4 => [⟨x.sh, x.src, x.ss * x.len⟩]
  | 5 => fs.map (fun f => ⟨false, f.col, f.cw * x.len⟩)
  | _ => []
/-- The destination ranges. -/
def descDst (x : DmaDesc) (fs : List DmaField) : List DmaRange :=
  match x.mode with
  | 1 => [⟨x.dh, x.dst, x.len⟩]
  | 2 => [⟨x.dh, x.dst, x.len⟩]
  | 3 => [⟨x.dh, x.dst, span x.ds x.len x.dw⟩]
  | 4 => fs.map (fun f => ⟨false, f.col, f.cw * x.len⟩)
  | 5 => [⟨x.dh, x.dst, x.ss * x.len⟩]
  | 6 => [⟨x.dh, x.dst, 128 * x.len⟩]
  | _ => []
/-- The field table's range. -/
def descTable (x : DmaDesc) : List DmaRange := if x.mode = 4 ∨ x.mode = 5 then [⟨false, x.aux, 16 * (x.sel + 1)⟩] else []

/-- Whether ranges that must lie apart do: each destination from the others, from every source and from the table, and the table from the sources. -/
def apart : List DmaRange → Bool
  | [] => true
  | r :: rs => !rs.any r.meets && apart rs

/-- Check 0x05. -/
def descApart (x : DmaDesc) (fs : List DmaField) : Bool :=
  let t := descTable x
  let ds := descDst x fs
  let ss := descSrc x fs
  apart ds && !ds.any (fun r => (ss ++ t).any r.meets) && !t.any (fun r => ss.any r.meets) &&
  (x.mode != 5 || apart (fs.map (fun f => ⟨false, f.off, f.fw⟩)))

/-- Check 0x06. -/
def descAddrOk (x : DmaDesc) (fs : List DmaField) : Bool :=
  (descSrc x fs ++ descDst x fs ++ descTable x).all (fun r => if r.host then decide (r.a + r.n ≤ 2 ^ 64) else decide (r.a + r.n ≤ 2 ^ 46))

/-- Check 0x08: a field-table entry is well formed (R318). -/
def fieldOk (x : DmaDesc) (f : DmaField) : Bool :=
  decide (f.off + f.fw ≤ x.ss) && f.zero == 0 && decide (f.scale < 32) &&
  (if x.mode = 4 then convWidths true f.conv f.fw f.cw else convWidths true f.conv f.cw f.fw)

/-! ## Regions, keys and availability (R314, R315) -/

/-- Whether a device range lies wholly in Loam or in DDR, outside the key table. -/
def Dev.dmaRegionOk (d : Dev) (a n : Nat) : Bool :=
  let r := d.region a
  (r == .loam || r == .ddr) && d.region (a + n - 1) == r && !d.inKeyTable a n
/-- Whether every granule of a device range passes the key check. -/
def Dev.dmaKeyOk (d : Dev) (mask : Word) (store : Bool) (a n : Nat) : Bool :=
  !d.keysOn || (rangeFrom (a / 0x10000) ((a + n - 1) / 0x10000 + 1 - a / 0x10000)).all (fun g => (d.keyRefusal mask store (g * 0x10000)).isNone)
/-- Whether the storage behind a device range serves accesses. -/
def Dev.dmaUp (d : Dev) (a n : Nat) : Bool :=
  (rangeFrom (a / 256) ((a + n - 1) / 256 + 1 - a / 256)).all (fun g => d.servedAt (Nat.max a (g * 256)))
/-- The status that a set of device ranges, each with its direction, ends a descriptor with, if any: region, then key, then availability. -/
def Dev.dmaFault (d : Dev) (mask : Word) (rs : List (Bool × Nat × Nat)) : Option Nat :=
  if rs.any (fun r => !d.dmaRegionOk r.2.1 r.2.2) then some 5
  else if rs.any (fun r => !d.dmaKeyOk mask r.1 r.2.1 r.2.2) then some 4
  else if rs.any (fun r => !d.dmaUp r.2.1 r.2.2) then some 6
  else none
/-- Whether a channel's function binding is valid (R307). -/
def Dev.bound (d : Dev) (x : Chan) : Bool :=
  let f := bits x.auth.toNat 5 0
  bit x.auth.toNat 30 && d.fnUp f && (d.fn f).has 12

/-- The segment slot of a durable record that has not been released, if it is there. -/
def Dev.recordAt (d : Dev) (s seq : Nat) : Option Nat :=
  match (d.stream s).segs.find? (fun (g : Seg) => decide (g.first.toNat ≤ seq) && decide (seq < g.first.toNat + g.used)) with
  | some g => some (segAddr g.idx (seq - g.first.toNat + 1))
  | none => none

/-! ## Endings, records and notifications (R311, R321 to R324) -/

/-- Whether a status halts the channel (Table 10.7). -/
def statusHalts (st : Nat) : Bool := decide (4 ≤ st) && decide (st ≤ 0xB)

/-- A channel whose enabled pacing, mask and note become active (R326). -/
def Chan.swap (x : Chan) : Chan := { x with apace := x.pace, akmask := x.kmask, anote := x.note, arm := false }
/-- Whether a channel has a free completion slot (R310). -/
def Chan.slotFree (x : Chan) : Bool := decide (x.cn ≤ x.csize)
/-- A stop request carried out at a descriptor boundary; a swap that is due comes first (R327, R328). -/
def Chan.stopped (x : Chan) : Chan := let y := if x.arm then x.swap else x; { y with state := 0 }

/-- The descriptor a channel works on, ended: HEAD moves, CCNT counts, and its record waits if one is due (R309, R311, R321). A channel that is to stop and waits for a completion slot stops at once (R328). -/
def Chan.endDesc (x : Chan) (c : Dcur) : Chan :=
  let h := (x.head + 1) % (x.rsize + 1)
  let y := { x with
    head := h
    par := if h = 0 then !x.par else x.par
    ccnt := x.ccnt + 1
    lastSt := if c.status = 0 then x.lastSt else c.status }
  let z := { c with run := false, ccnt := y.ccnt }
  if c.status ≠ 0 ∨ bit (leAt c.data 1 1) 1 then
    let w := { y with cur := x.cur.filter (fun w => !w.run) ++ [z] }
    if x.state = 5 ∧ ¬ x.slotFree then w.stopped else w
  else
    let w := { y with cur := x.cur.filter (fun w => !w.run) }
    if x.state = 5 then w.stopped else w

/-- The notification of a channel: kind 1 a record, 2 a halt, 3 an engine stop (R324). -/
def Dev.dmaNotify (d : Dev) (e c kind : Nat) : Dev :=
  let x := d.chan e c
  let n := x.anote.toNat
  let f := bits x.auth.toNat 5 0
  let v := bits n 22 16
  if bit n 30 && d.bound x then (if decide (1 ≤ v) && decide (v ≤ (if f = 0 then 64 else 16)) then d.message f v else d)
  else if bit n 31 then d.raise (bits n 8 2) (bits n 1 0) 0x21 (kind * 0x1000 + e * 16 + c) else d

/-- The 16 bytes of a completion record (Table 10.6). -/
def Chan.recordBytes (x : Chan) (r : Dcur) : List Byte :=
  toLe 4 r.count ++ toLe 2 r.idx ++ toLe 1 r.status ++ toLe 1 (r.flags + b2n x.phase) ++ toLe 1 r.dflags ++ toLe 1 r.reason
    ++ (if r.status = 3 then toLe 2 0 else padTo 2 ((r.data.drop 2).take 2)) ++ toLe 4 r.ccnt.toNat

/-- A completion record written in slot CTAIL, if its ring can be reached: in host memory, or in Loam or DDR under the channel's mask. -/
def Dev.writeRecord (d : Dev) (e c : Nat) (r : Dcur) : Dev × Bool :=
  let x := d.chan e c
  let a := (if x.chost then x.cbase else x.cbase % 2 ^ 46) + 16 * x.ctail
  let t := (x.ctail + 1) % (x.csize + 1)
  let y := { x with ctail := t, cn := x.cn + 1, phase := if t = 0 then !x.phase else x.phase }
  if x.chost then
    (if d.bound x then (({ d with host := { d.host with out := d.host.out ++ [PcieOut.write (bits x.auth.toNat 5 0) a (x.recordBytes r)] } }).setChan e c y, true) else (d, false))
  else if (d.dmaFault x.akmask [(true, a, 16)]).isSome then (d, false)
  else ((d.put a (x.recordBytes r)).setChan e c y, true)

/-- The channel after a record has been written, or has nowhere to go: the notifications, the halt, or the boundary it stands at. A stopped channel stays stopped, also one whose ENGSTOP record is lost (R328, R329). -/
def Dev.afterRecord (d : Dev) (e c : Nat) (r : Dcur) (written : Bool) : Dev :=
  let d1 := if written && (r.status != 0 || bit (leAt r.data 1 1) 2) && r.status != 0xC then d.dmaNotify e c 1 else d
  let x := d1.chan e c
  if (statusHalts r.status || !written) && x.state != 0 && x.state != 7 then (d1.setChan e c { x with state := 6 }).dmaNotify e c 2
  else if x.state = 5 && x.cur.isEmpty then d1.setChan e c x.stopped
  else d1

/-- The first record that waits on a channel written, if a slot is free. -/
def Dev.nextRecord (d : Dev) (e c : Nat) : Dev :=
  let x := d.chan e c
  match x.cur.find? (fun r => !r.run) with
  | none => d
  | some r =>
    if ¬ x.slotFree then d
    else
      let (d1, ok) := (d.setChan e c { x with cur := x.cur.erase r }).writeRecord e c r
      d1.afterRecord e c r ok

/-- The bytes a descriptor writes, range by range: of strided elements and of the fields of records, only those (R316, R319). -/
def descWrites (x : DmaDesc) (fs : List DmaField) : List DmaRange :=
  match x.mode with
  | 3 => (List.range x.len).map (fun i => ⟨x.dh, x.dst + i * x.ds, x.dw⟩)
  | 5 => (List.range x.len).flatMap (fun i => fs.map (fun f => ⟨x.dh, x.dst + i * x.ss + f.off, f.fw⟩))
  | _ => descDst x fs

/-- The engine stopped by a bus error: every channel with a descriptor started gets its ENGSTOP record, and its destination is left open (R329). -/
def Dev.engineStop (d : Dev) (e kind addr : Nat) : Dev :=
  let g := d.engine e
  let d0 := (d.setEngine e { g with stopped := true, err := kind % 16, erra := BitVec.ofNat 64 addr }).record (0x7000 + e) kind []
  ((List.range 16).foldl (fun (v : Dev) c =>
    let x := v.chan e c
    let started := x.cur.find? (fun r => r.run)
    let y := { x with
      cur := x.cur.filter (fun r => !r.run)
      state := if x.state = 0 ∨ x.state = 6 then x.state else 7
      lastSt := if started.isSome then 0xC else x.lastSt }
    let v1 := v.setChan e c y
    match started with
    | none => v1
    | some r =>
      let q := dmaDesc r.data
      let fs := r.fields.map dmaField
      let v2 := ((descWrites q fs).filter (fun t => !t.host)).foldl (fun (u : Dev) t => u.put t.a ((List.range t.n).map (fun i => Config.dmaByte u.free (t.a + i)))) v1
      let z : Dcur := { data := r.data, idx := r.idx, run := false, status := 0xC, ccnt := y.ccnt }
      let v3 := if y.slotFree && y.cur.isEmpty then (v2.writeRecord e c z).1 else v2.setChan e c { y with cur := y.cur ++ [z] }
      v3.dmaNotify e c 3) d0).tickFree

/-- A bus error of one of the kinds DE_ERR names; there is no other (R329, R331). -/
def Dev.busStop (d : Dev) (e kind addr : Nat) : Dev := if 1 ≤ kind ∧ kind ≤ 6 then d.engineStop e kind addr else d

/-! ## The start of a descriptor (R309, R313, R314, R325) -/

/-- Whether a channel's pacing permits a start (R325). -/
def Dev.paceOk (d : Dev) (x : Chan) : Bool :=
  let p := x.apace.toNat
  match bits p 31 30 with
  | 0 => true
  | 1 => match x.startUpd with
    | none => true
    | some u => decide (u + bits p 23 0 ≤ d.ep.updates)
  | 2 => x.trig != 0
  | _ => decide ((bits p 23 0 : Int) ≤ ((d.chan (bits p 29 28) (bits p 27 24)).ccnt - x.ccnt).toInt)

/-- Whether a channel can start a descriptor now. -/
def Dev.canStart (d : Dev) (e c : Nat) : Bool :=
  let x := d.chan e c
  x.state == 1 && x.cur.isEmpty && x.head != x.tail && d.paceOk (if x.arm then x.swap else x)

/-- How the checks of a fetched descriptor come out: ready with its field table, or ended with a status and a reason. -/
inductive DmaStart where
  | run (fields : List (List Byte))
  | ends (status reason : Nat)
  deriving DecidableEq, Repr

/-- The checks of Table 10.3 that need the field table, then binding, regions, keys and availability. -/
def Dev.startChecks (d : Dev) (x : Chan) (bs : List Byte) (tab : List (List Byte)) : DmaStart :=
  let q := dmaDesc bs
  let fs := tab.map dmaField
  let s := d.jr.streams
  if ¬ descAlignOk q fs then .ends 1 4
  else if ¬ descApart q fs then .ends 1 5
  else if ¬ descAddrOk q fs then .ends 1 6
  else if q.mode = 6 ∧ (!bit x.auth.toNat 31 ∨ 64 ≤ q.sel ∨ q.src = 0 ∨ q.src ≤ (Tab.get s q.sel {}).rel.toNat) then .ends 1 7
  else if ¬ fs.all (fieldOk q) then .ends 1 8
  else if (descSrc q fs ++ descDst q fs).any (fun r => r.host) ∧ ¬ d.bound x then .ends 0xB 0
  else
    let dev := fun (store : Bool) (rs : List DmaRange) => (rs.filter (fun r => !r.host)).map (fun r => (store, r.a, r.n))
    match d.dmaFault x.akmask (dev false (descSrc q fs) ++ dev true (descDst q fs)) with
    | some st => .ends st 0
    | none => .run tab

/-- The checks of a descriptor in order (R313, R314, R318). -/
def Dev.checkDesc (d : Dev) (x : Chan) (bs : List Byte) : DmaStart :=
  let q := dmaDesc bs
  if ¬ descFormOk bs then .ends 1 1
  else if ¬ descLenOk q then .ends 1 2
  else if ¬ descConvOk q then .ends 1 3
  else if ¬ (q.mode = 4 ∨ q.mode = 5) then d.startChecks x bs []
  else if ¬ descAlignOk q [] then .ends 1 4
  else if 2 ^ 46 < q.aux + 16 * (q.sel + 1) then .ends 1 6
  else match d.dmaFault x.akmask [(false, q.aux, 16 * (q.sel + 1))] with
    | some st => .ends st 0
    | none =>
      if d.poisoned q.aux (16 * (q.sel + 1)) then .ends 7 0
      else d.startChecks x bs ((List.range (q.sel + 1)).map (fun i => d.bytes (q.aux + 16 * i) 16))

/-- The next descriptor of a channel fetched, checked, and started or ended. -/
def Dev.startDesc (d : Dev) (e c : Nat) : Dev :=
  let x0 := d.chan e c
  let x1 := if x0.arm then x0.swap else x0
  let x := { x1 with
    trig := if bits x1.apace.toNat 31 30 = 2 then x1.trig - 1 else x1.trig
    startUpd := some d.ep.updates }
  let a := x.rbase + 64 * x.head
  let fin := fun (bs : List Byte) (st why : Nat) => d.setChan e c (x.endDesc { data := bs, idx := x.head, status := st, reason := why })
  match d.dmaFault x.akmask [(false, a, 64)] with
  | some st => fin [] st 0
  | none =>
    let bs := d.bytes a 64
    if d.poisoned a 64 then fin [] 7 0
    else if bit (leAt bs 1 1) 0 ≠ x.par then fin bs 2 0
    else match d.checkDesc x bs with
      | .ends st why => fin bs st why
      | .run tab => d.setChan e c { x with cur := [{ data := bs, idx := x.head, fields := tab }] }

/-! ## Moving data (R312, R315 to R320) -/

/-- A move under way: the machine, the function host requests go out for, units completed, the status it ends with, flags met. -/
structure DmaMove where
  d : Dev
  fn : Nat := 0
  count : Nat := 0
  status : Nat := 0
  fl : DFlags := {}
  sub : Bool := false
  wrote : Bool := false
  deriving DecidableEq, Repr

/-- Bytes written by an engine, in host memory under a function's requester ID, or in the device (R307). -/
def Dev.dmaPut (d : Dev) (fn : Nat) (host : Bool) (a : Nat) (bs : List Byte) : Dev :=
  if host then { d with host := { d.host with out := d.host.out ++ [.write fn a bs] } } else d.put a bs

/-- The status a device read meets at the moment it is made. -/
def Dev.dmaReadFault (d : Dev) (host : Bool) (a n : Nat) : Option Nat :=
  if host then none else if !d.dmaUp a n then some 6 else if d.poisoned a n then some 7 else none
/-- The status a device write meets at the moment it is made. -/
def Dev.dmaWriteFault (d : Dev) (host : Bool) (a n : Nat) : Option Nat := if host || d.dmaUp a n then none else some 6

/-- Source bytes: from the host data that came in, by its offset from SRC, or from the device. -/
def Dev.dmaGet (d : Dev) (host : Bool) (data : List Byte) (base off n : Nat) : List Byte :=
  if host then padTo n (data.drop off) else d.bytes (base + off) n

/-- One element converted and written; a status stops the move. The element that stops it under DX = 1 traps in its sequence and leaves no flag (R95, R316, R317). -/
def DmaMove.element (m : DmaMove) (dx : Bool) (conv rm scale dw : Nat) (sh : Bool) (sa : Nat) (src : List Byte) (dh : Bool) (da : Nat) : DmaMove :=
  match (m.d.dmaReadFault sh sa src.length).or (m.d.dmaWriteFault dh da dw) with
  | some st => { m with status := st }
  | none =>
    let (out, f) := convert conv rm scale dw src
    if f.df && dx then { m with status := 8 }
    else { m with d := m.d.dmaPut m.fn dh da out, fl := m.fl.or f, sub := m.sub || f.df, wrote := true }

/-- A unit counted unless the move has stopped in it. -/
def DmaMove.counted (m : DmaMove) : DmaMove := if m.status = 0 then { m with count := m.count + 1 } else m

/-- COPY and FILL: bytes in order up to the first that cannot be read or written. -/
def Dev.moveBytes (d : Dev) (fn : Nat) (q : DmaDesc) (data : List Byte) : DmaMove :=
  let fill := q.mode = 2
  let stop := fun (i : Nat) => (if fill then none else d.dmaReadFault q.sh (q.src + i) 1).or (d.dmaWriteFault q.dh (q.dst + i) 1)
  let n := ((List.range q.len).find? (fun i => (stop i).isSome)).getD q.len
  let bs := if fill then (List.range n).map (fun k => BitVec.ofNat 8 (q.src / 256 ^ (k % 8))) else d.dmaGet q.sh data q.src 0 n
  { d := d.dmaPut fn q.dh q.dst bs, count := n, status := if n = q.len then 0 else (stop n).getD 0, wrote := n != 0 }

/-- CONVERT (R316). -/
def Dev.moveConvert (d : Dev) (fn : Nat) (q : DmaDesc) (data : List Byte) : DmaMove :=
  (List.range q.len).foldl (fun (m : DmaMove) i =>
    if m.status ≠ 0 then m
    else (m.element (bit q.flags 6) q.conv q.rm q.scale q.dw q.sh (q.src + i * q.ss) (m.d.dmaGet q.sh data q.src (i * q.ss) q.sw) q.dh (q.dst + i * q.ds)).counted) { d := d, fn := fn }

/-- PRISM (R319). -/
def Dev.movePrism (d : Dev) (fn : Nat) (q : DmaDesc) (fs : List DmaField) (data : List Byte) : DmaMove :=
  (List.range q.len).foldl (fun (m : DmaMove) r =>
    if m.status ≠ 0 then m
    else (fs.foldl (fun (v : DmaMove) f =>
      if v.status ≠ 0 then v
      else v.element (bit q.flags 6) f.conv q.rm f.scale f.cw q.sh (q.src + r * q.ss + f.off) (v.d.dmaGet q.sh data q.src (r * q.ss + f.off) f.fw) false (f.col + r * f.cw)) m).counted) { d := d, fn := fn }

/-- PRISMR (R319). -/
def Dev.movePrismr (d : Dev) (fn : Nat) (q : DmaDesc) (fs : List DmaField) : DmaMove :=
  (List.range q.len).foldl (fun (m : DmaMove) r =>
    if m.status ≠ 0 then m
    else (fs.foldl (fun (v : DmaMove) f =>
      if v.status ≠ 0 then v
      else v.element (bit q.flags 6) f.conv q.rm f.scale f.fw false (f.col + r * f.cw) (v.d.bytes (f.col + r * f.cw) f.cw) q.dh (q.dst + r * q.ss + f.off)) m).counted) { d := d, fn := fn }

/-- JEXPORT (R320). -/
def Dev.moveExport (d : Dev) (fn : Nat) (q : DmaDesc) : DmaMove :=
  let x := Tab.get d.jr.streams q.sel {}
  (List.range q.len).foldl (fun (m : DmaMove) i =>
    let seq := q.src + i
    if m.status ≠ 0 then m
    else if x.dur.toNat < seq then { m with status := 9 }
    else if seq ≤ x.rel.toNat then { m with status := 0xA }
    else match d.recordAt q.sel seq with
      | none => { m with status := 0xA }
      | some a =>
        if d.poisoned a 128 then { m with status := 7 }
        else match m.d.dmaWriteFault q.dh (q.dst + 128 * i) 128 with
          | some st => { m with status := st }
          | none => ({ m with d := m.d.dmaPut fn q.dh (q.dst + 128 * i) (d.bytes a 128), wrote := true }).counted) { d := d, fn := fn }

/-- The move of a descriptor by its mode. -/
def Dev.moveData (d : Dev) (fn : Nat) (q : DmaDesc) (fs : List DmaField) (data : List Byte) : DmaMove :=
  match q.mode with
  | 1 => d.moveBytes fn q data
  | 2 => d.moveBytes fn q data
  | 3 => d.moveConvert fn q data
  | 4 => d.movePrism fn q fs data
  | 5 => d.movePrismr fn q fs
  | 6 => d.moveExport fn q
  | _ => { d := d }

/-- The descriptor a channel works on, moved and ended; a fault met outside stops the engine (R307, R323, R329). -/
def Dev.runDesc (d : Dev) (e c mode : Nat) (data : List Byte) (fault : DmaFault) : Dev :=
  let x := d.chan e c
  match x.cur.find? (fun r => r.run) with
  | none => d
  | some r =>
    let q := dmaDesc r.data
    let fs := r.fields.map dmaField
    if ¬ d.engineRuns e ∨ (d.engine e).stopped ∨ q.mode ≠ mode then d
    else match fault with
      | .bus k a => d.busStop e k.toNat a.toNat
      | .none =>
        if (descSrc q fs ++ descDst q fs).any (fun t => t.host) ∧ ¬ d.bound x then d.setChan e c (x.endDesc { r with status := 0xB })
        else
          let m := d.moveData (bits x.auth.toNat 5 0) q fs data
          m.d.setChan e c (x.endDesc { r with
            status := m.status
            count := m.count
            dflags := m.fl.toWord.toNat
            flags := (if m.wrote && bit q.flags 3 then 2 else 0) + (if m.sub then 4 else 0) })

end Sys2Proof.Machine
end

