-- ==== Sys2Proof/Machine/Dma.lean ====
section
/-! DEFINITION. The commands of the DMA engines: register writes, starts, moves, records, stops (R305 to R331). -/

namespace Sys2Proof.Machine

/-- A tail doorbell: descriptors announced, or a DBRANGE answer (R308, R311). -/
def Dev.writeTail (d : Dev) (e c v : Nat) : Dev :=
  let x := d.chan e c
  let n := x.rsize + 1
  let dist := fun (t : Nat) => (t + n - x.head % n) % n
  if v ≤ x.rsize ∧ dist x.tail ≤ dist v then d.setChan e c { x with tail := v }
  else
    let g := d.engine e
    (d.setEngine e { g with dberr := satAdd g.dberr 1 }).setChan e c
      { x with lastSt := 3, cur := x.cur ++ [{ idx := 0xFFFF, run := false, status := 3, count := v, ccnt := x.ccnt, answer := true }] }

/-- A write to CH_CHEAD (R310). -/
def Dev.writeChead (d : Dev) (e c v : Nat) : Dev :=
  let x := d.chan e c
  let n := x.csize + 1
  let k := (v + n - x.chead % n) % n
  if v ≤ x.csize ∧ k ≤ x.cn then d.setChan e c { x with chead := v, cn := x.cn - k }
  else let g := d.engine e; d.setEngine e { g with dberr := satAdd g.dberr 1 }

/-- A write to CH_RBASE, CH_RSIZE, CH_CBASE or CH_CSIZE of a DISABLED channel (R308, R310, R311). -/
def Chan.config (x : Chan) (off v : Nat) : Chan :=
  let desc := fun (y : Chan) => { y with head := 0, tail := 0, par := true }
  let recs := fun (y : Chan) => { y with chead := 0, ctail := 0, cn := 0, phase := true }
  if x.state ≠ 0 then x
  else if off = 0x08 then desc { x with rbase := setBits x.rbase 31 0 (v - v % 0x1000) }
  else if off = 0x0C then desc { x with rbase := setBits x.rbase 45 32 v }
  else if off = 0x10 then desc { x with rsize := Nat.max 7 (bits v 15 0) }
  else if off = 0x18 then recs { x with cbase := setBits x.cbase 31 0 (v - v % 0x1000) }
  else if off = 0x1C then recs { x with cbase := setBits x.cbase 62 32 (bits v 30 0), chost := bit v 31 }
  else if off = 0x20 then recs { x with csize := Nat.max 7 (bits v 15 0) }
  else x

/-- EN = 1 written (R326, R328). -/
def Chan.enable (x : Chan) : Chan :=
  if x.state = 0 ∨ x.state = 6 then { x with en := true, state := 1, apace := x.pace, akmask := x.kmask, anote := x.note, startUpd := none } else x
/-- EN = 0 written; a DISABLED channel has no boundary to swap at (R326 to R328). -/
def Chan.stopRequest (x : Chan) : Chan :=
  let y := { x with en := false }
  if x.state = 0 ∨ x.state = 7 then y else if x.cur.any (fun r => r.run) then { y with state := 5 } else y.stopped

/-- Whether a writer acts at M level: a bay at that level, or Pupor. -/
def Dev.atM (d : Dev) : Agent → Bool
  | .bay c b => (d.bay c.toNat b.toNat).level == 3
  | .pupor => true
  | _ => false

/-- A write to CH_AUTH; one from S level is counted (R306). -/
def Dev.writeAuth (d : Dev) (who : Agent) (e c v : Nat) : Dev :=
  if d.atM who then let x := d.chan e c; d.setChan e c { x with auth := BitVec.ofNat 32 v &&& 0xC000003F }
  else let g := d.engine e; d.setEngine e { g with refuse := satAdd g.refuse 1 }

/-- A write to CH_KMASK; by a core at S level it is ANDed with CPOL (R247). -/
def Dev.writeKmask (d : Dev) (who : Agent) (e c v : Nat) : Dev :=
  let x := d.chan e c
  let w := BitVec.ofNat 32 v
  d.setChan e c { x with kmask := if d.atM who then w else w &&& d.inForce midCPOL }

/-- A write to a channel register (Table 10.8). -/
def Dev.writeChan (d : Dev) (who : Agent) (e c off v : Nat) : Dev :=
  let x := d.chan e c
  match off with
  | 0x00 => d.setChan e c (if bit v 31 then x.enable else x.stopRequest)
  | 0x14 => d.writeTail e c v
  | 0x24 => d.writeChead e c v
  | 0x2C => if x.state = 0 then d.setChan e c { x with ccnt := BitVec.ofNat 32 v } else d
  | 0x30 => d.writeAuth who e c v
  | 0x34 => if x.state = 0 then d.setChan e c { x with trig := 0 } else d
  | 0x40 => d.setChan e c { x with pace := BitVec.ofNat 32 v }
  | 0x44 => d.writeKmask who e c v
  | 0x48 => d.setChan e c { x with note := BitVec.ofNat 32 v &&& 0xC07F01FF }
  | 0x4C => d.setChan e c { x with arm := bit v 31, late := x.late && bit v 30 }
  | o => d.setChan e c (x.config o v)

/-- DE_CTL.RESTART written (R330). -/
def Dev.restartEngine (d : Dev) (e : Nat) : Dev :=
  let g := d.engine e
  if ¬ g.stopped then d
  else d.setEngine e { g with stopped := false, err := 0, chans := g.chans.map (fun p => (p.1, if p.2.state = 7 then { p.2 with state := 6 } else p.2)) }

/-- Offset of a channel register in the device-register region. -/
def chanOff (e c off : Nat) : Nat := 0x0A000000 + 0x10000 * e + 0x1000 + 0x80 * c + off
/-- A channel-register write by a writer who reaches it, on an engine that serves. -/
def Dev.chanWrite (d : Dev) (who : Agent) (e c off v : Nat) : Dev :=
  if d.allowed who (chanOff e c off) true && d.engineOn e then d.writeChan who e c off v else d

/-- The descriptor in progress of every channel bound to a function ended by the function's reset, whatever it names; its record halts the channel (R307). -/
def Dev.dmaFlr (d : Dev) (f : Nat) : Dev :=
  (List.range 64).foldl (fun (v : Dev) i =>
    let x := v.chan (i / 16) (i % 16)
    match x.cur.find? (fun r => r.run) with
    | some r => if bit x.auth.toNat 30 && bits x.auth.toNat 5 0 == f then v.setChan (i / 16) (i % 16) (x.endDesc { r with status := 0xB }) else v
    | none => v) d

/-- The start of a descriptor of an engine: the channel whose turn it is among those that can start one (R305, R325). -/
def Dev.descriptorStart (d : Dev) (e : Nat) : Dev :=
  let g := d.engine e
  if ¬ d.engineOn e ∨ g.stopped ∨ d.pw.pfail then d
  else match ((List.range 16).map (fun i => (g.turn + i) % 16)).find? (d.canStart e) with
    | none => d
    | some c => (d.setEngine e { g with turn := (c + 1) % 16 }).startDesc e c

/-! ## Meanings -/

/-- DMA_TAIL_DOORBELL. -/
def execDmaTailDoorbell (who : Agent) (e : BitVec 2) (c : BitVec 4) (value : Word) (s : State) : Host.Outcome State Fault Refusal :=
  .next (s.run (fun d => d.chanWrite who e.toNat c.toNat 0x14 value.toNat))
/-- DMA_CHEAD_WRITE. -/
def execDmaCheadWrite (who : Agent) (e : BitVec 2) (c : BitVec 4) (value : Word) (s : State) : Host.Outcome State Fault Refusal :=
  .next (s.run (fun d => d.chanWrite who e.toNat c.toNat 0x24 value.toNat))
/-- Whether an offset is one of the ring registers of R311. -/
def ringReg (off : Nat) : Bool := off == 0x08 || off == 0x0C || off == 0x10 || off == 0x18 || off == 0x1C || off == 0x20
/-- DMA_RING_CONFIG_WRITE. -/
def execDmaRingConfigWrite (who : Agent) (e : BitVec 2) (c : BitVec 4) (off : BitVec 8) (value : Word) (s : State) : Host.Outcome State Fault Refusal :=
  .next (s.run (fun d => if ringReg off.toNat then d.chanWrite who e.toNat c.toNat off.toNat value.toNat else d))
/-- DMA_CHANNEL_ENABLE. -/
def execDmaChannelEnable (who : Agent) (e : BitVec 2) (c : BitVec 4) (s : State) : Host.Outcome State Fault Refusal :=
  .next (s.run (fun d => d.chanWrite who e.toNat c.toNat 0 0x80000000))
/-- DMA_STOP_REQUEST. -/
def execDmaStopRequest (who : Agent) (e : BitVec 2) (c : BitVec 4) (s : State) : Host.Outcome State Fault Refusal :=
  .next (s.run (fun d => d.chanWrite who e.toNat c.toNat 0 0))
/-- CH_AUTH_WRITE. -/
def execChAuthWrite (who : Agent) (e : BitVec 2) (c : BitVec 4) (value : Word) (s : State) : Host.Outcome State Fault Refusal :=
  .next (s.run (fun d => d.chanWrite who e.toNat c.toNat 0x30 value.toNat))
/-- CH_TRIG_WRITE. -/
def execChTrigWrite (who : Agent) (e : BitVec 2) (c : BitVec 4) (value : Word) (s : State) : Host.Outcome State Fault Refusal :=
  .next (s.run (fun d => d.chanWrite who e.toNat c.toNat 0x34 value.toNat))
/-- CH_SHCTL_ARM: ARM written 1, SHADOW_LATE written 1 and so left as it is. -/
def execChShctlArm (who : Agent) (e : BitVec 2) (c : BitVec 4) (s : State) : Host.Outcome State Fault Refusal :=
  .next (s.run (fun d => d.chanWrite who e.toNat c.toNat 0x4C 0xC0000000))
/-- The swap of an armed, enabled channel at a descriptor boundary (R326). -/
def Dev.shadowSwap (d : Dev) (e c : Nat) : Dev :=
  let x := d.chan e c
  if x.state = 1 ∧ x.arm ∧ ¬ x.cur.any (fun r => r.run) then d.setChan e c x.swap else d
/-- Whether an offset is CH_PACE, CH_KMASK, CH_NOTE or CH_SHCTL (R326). -/
def shadowReg (off : Nat) : Bool := off == 0x40 || off == 0x44 || off == 0x48 || off == 0x4C
/-- A write of a shadow register or of ARM accepted in the cycle of a swap: it stays in the shadow set and sets SHADOW_LATE and ARM (R327). -/
def Dev.lateWrite (d : Dev) (who : Agent) (e c off v : Nat) : Dev :=
  if shadowReg off && d.allowed who (chanOff e c off) true && d.engineOn e then
    let d1 := d.writeChan who e c off v
    d1.setChan e c { d1.chan e c with arm := true, late := true }
  else d
/-- A swap, and the write that meets it, if there is one (R326, R327). -/
def Dev.swapWith (d : Dev) (e c : Nat) : Option (Agent × BitVec 8 × Word) → Dev
  | none => d.shadowSwap e c
  | some (who, off, v) =>
    let x := d.chan e c
    if x.state = 1 ∧ x.arm ∧ ¬ x.cur.any (fun r => r.run) then (d.shadowSwap e c).lateWrite who e c off.toNat v.toNat else d
/-- SHADOW_SWAP. -/
def execShadowSwap (e : BitVec 2) (c : BitVec 4) (late : Option (Agent × BitVec 8 × Word)) (s : State) : Host.Outcome State Fault Refusal :=
  .next (s.run (fun d => d.swapWith e.toNat c.toNat late))
/-- DESCRIPTOR_START. -/
def execDescriptorStart (e : BitVec 2) (s : State) : Host.Outcome State Fault Refusal := .next (s.run (fun d => d.descriptorStart e.toNat))
/-- DMA_NOP. -/
def execDmaNop (e : BitVec 2) (c : BitVec 4) (hostData : List Byte) (fault : DmaFault) (s : State) : Host.Outcome State Fault Refusal :=
  .next (s.run (fun d => d.runDesc e.toNat c.toNat 0 hostData fault))
/-- COPY. -/
def execCopy (e : BitVec 2) (c : BitVec 4) (hostData : List Byte) (fault : DmaFault) (s : State) : Host.Outcome State Fault Refusal :=
  .next (s.run (fun d => d.runDesc e.toNat c.toNat 1 hostData fault))
/-- FILL. -/
def execFill (e : BitVec 2) (c : BitVec 4) (hostData : List Byte) (fault : DmaFault) (s : State) : Host.Outcome State Fault Refusal :=
  .next (s.run (fun d => d.runDesc e.toNat c.toNat 2 hostData fault))
/-- CONVERT. -/
def execConvert (e : BitVec 2) (c : BitVec 4) (hostData : List Byte) (fault : DmaFault) (s : State) : Host.Outcome State Fault Refusal :=
  .next (s.run (fun d => d.runDesc e.toNat c.toNat 3 hostData fault))
/-- PRISM. -/
def execPrism (e : BitVec 2) (c : BitVec 4) (hostData : List Byte) (fault : DmaFault) (s : State) : Host.Outcome State Fault Refusal :=
  .next (s.run (fun d => d.runDesc e.toNat c.toNat 4 hostData fault))
/-- PRISMR. -/
def execPrismr (e : BitVec 2) (c : BitVec 4) (hostData : List Byte) (fault : DmaFault) (s : State) : Host.Outcome State Fault Refusal :=
  .next (s.run (fun d => d.runDesc e.toNat c.toNat 5 hostData fault))
/-- JEXPORT. -/
def execJexport (e : BitVec 2) (c : BitVec 4) (hostData : List Byte) (fault : DmaFault) (s : State) : Host.Outcome State Fault Refusal :=
  .next (s.run (fun d => d.runDesc e.toNat c.toNat 6 hostData fault))
/-- DMA_COMPLETION_RECORD. -/
def execDmaCompletionRecord (e : BitVec 2) (c : BitVec 4) (s : State) : Host.Outcome State Fault Refusal :=
  .next (s.run (fun d => if d.engineRuns e.toNat then d.nextRecord e.toNat c.toNat else d))
/-- DMA_BUS_ERROR. -/
def execDmaBusError (e : BitVec 2) (kind : BitVec 4) (addr : DWord) (s : State) : Host.Outcome State Fault Refusal :=
  .next (s.run (fun d => if d.engineRuns e.toNat then d.busStop e.toNat kind.toNat addr.toNat else d))
/-- DE_RESTART. -/
def execDeRestart (who : Agent) (e : BitVec 2) (s : State) : Host.Outcome State Fault Refusal :=
  .next (s.run (fun d => if d.allowed who (0x0A000000 + 0x10000 * e.toNat) true && d.engineOn e.toNat then d.restartEngine e.toNat else d))

end Sys2Proof.Machine
end

