-- ==== Sys2Proof/Machine/Image.lean ====
section
/-! DEFINITION. The image store: layout checks, banks, uploads and patch loads (R377, R378, R381, R382, R410). -/

namespace Sys2Proof.Machine

/-- Most body bytes of a KIND (R377). -/
def imgMaxLen (kind : Nat) : Nat := if kind = 1 then 16032 else if kind = 2 then 81568 else 7840
/-- Bytes of a bank or slot of a KIND. -/
def imgSlotSize (kind : Nat) : Nat := imgMaxLen kind + 352
/-- LEN of an image. -/
def imgLen (bs : List Byte) : Nat := leAt bs 16 4
/-- LEVEL of an image. -/
def imgLevel (bs : List Byte) : Nat := leAt bs 8 4
/-- ENTRY of an image. -/
def imgEntry (bs : List Byte) : Nat := leAt bs 20 4
/-- The ROM revision of the cores (MCREV.ROMREV). -/
def romRev : Nat := 1

/-- Check 1 of R377: the fixed fields and the zero fields of Table 13.8. -/
def imgFormOk (kind : Nat) (bs : List Byte) : Bool :=
  leAt bs 0 4 == 0x47494D4C && leAt bs 4 1 == kind && leAt bs 5 1 == 1 && leAt bs 6 2 == 0 && leAt bs 13 3 == 0 && leAt bs 56 8 == 0 && leAt bs 209 47 == 0 &&
  (kind == 1 || leAt bs 12 1 == 0) && (kind != 1 || (leAt bs 10 2 == 0 && imgEntry bs == 0)) &&
  (if kind = 3 then leAt bs 24 32 == 0 else leAt bs 36 4 == 0 && leAt bs 64 145 == 0)

/-- The first check of R377 an image of a KIND fails, 1 to 5. -/
def Dev.imgCheck (d : Dev) (kind : Nat) (bs : List Byte) (ovr : Bool) : Option Nat :=
  if ¬ imgFormOk kind bs then some 1
  else if imgMaxLen kind < imgLen bs ∨ ovr then some 2
  else if kind = 1 ∧ (leAt bs 12 1 ≠ romRev ∨ imgLevel bs < bits (d.inForce midPATCHEN).toNat 15 0) then some 3
  else if bs.length < 352 + imgLen bs ∨ ¬ Config.sigOk bs then some 4
  else if kind ≠ 3 ∧ ¬ Config.tagOk bs then some 5
  else none

/-- A bank or slot of the store: 0 and 1 patch A and B, 2 and 3 firmware A and B, 8 to 13 extension slots. -/
def Dev.imgBank (d : Dev) (i : Nat) : Image := Tab.get d.pw.banks i {}
/-- The two banks of a KIND. -/
def kindBanks (kind : Nat) : List Nat := if kind = 1 then [0, 1] else [2, 3]
/-- Whether a bank holds an image marked valid that passes R377. -/
def Dev.bankGood (d : Dev) (kind i : Nat) : Bool := (d.imgBank i).valid && (d.imgCheck kind (d.imgBank i).data false).isNone
/-- The bank a start would use: the verified image of higher LEVEL, the first among equals (R377). -/
def Dev.bestBank (d : Dev) (kind : Nat) : Option Nat :=
  let a := (kindBanks kind).headD 0
  if d.bankGood kind a then
    if d.bankGood kind (a + 1) && decide (imgLevel (d.imgBank a).data < imgLevel (d.imgBank (a + 1)).data) then some (a + 1) else some a
  else if d.bankGood kind (a + 1) then some (a + 1) else none
/-- The failure of a bank or slot recorded, if it fails (R377). -/
def Dev.recordBad (d : Dev) (kind i : Nat) : Dev := if d.bankGood kind i then d else d.record 0xB000 1 []
/-- Failures of the banks of a KIND recorded (R377). -/
def Dev.recordBadBanks (d : Dev) (kind : Nat) : Dev := (kindBanks kind).foldl (fun (e : Dev) i => e.recordBad kind i) d
/-- Failures of the patch banks of a LEVEL recorded (R377, R382). -/
def Dev.recordBadLevel (d : Dev) (level : Nat) : Dev := (kindBanks 1).foldl (fun (e : Dev) i => if imgLevel (e.imgBank i).data = level then e.recordBad 1 i else e) d

/-- The image bank in use of a KIND. -/
def Dev.bankInUse (d : Dev) (kind : Nat) : Option Nat := if kind = 1 then d.pw.ptBank else d.pw.fwBank
/-- The bank or slot an open of a KIND writes (R378). -/
def Dev.openTarget (d : Dev) (kind slot : Nat) : Nat :=
  if kind = 3 then 8 + slot
  else
    let a := (kindBanks kind).headD 0
    if d.bankInUse kind = some a then a + 1 else a
/-- Whether an open's KIND and slot are ones the layout gives. -/
def openFormOk (kind slot : Nat) : Bool := (kind == 3 && decide (slot < 6)) || ((kind == 1 || kind == 2) && slot == 0)

/-- Image bytes appended: those past the image's end are ignored, those past the slot are discarded (R410). -/
def Upload.append (u : Upload) : List Byte → Upload
  | [] => u
  | b :: bs =>
    let v :=
      if 20 ≤ u.data.length ∧ 352 + imgLen u.data ≤ u.data.length then u
      else if imgSlotSize u.kind ≤ u.data.length then { u with ovr := true }
      else { u with data := u.data ++ [b] }
    v.append bs

/-- A bank marked invalid. -/
def Dev.spoilBank (d : Dev) (i : Nat) : Dev :=
  { d with pw := { d.pw with banks := Tab.set d.pw.banks i { d.imgBank i with valid := false } } }

/-- An open through IMG_CTL (R410). -/
def Dev.imgOpenCtl (d : Dev) (v : Nat) : Dev :=
  let kind := bits v 10 8
  let slot := bits v 2 0
  if d.pw.imgBusy ∨ d.pw.mimg.isSome ∨ d.pw.img.isSome ∨ ¬ openFormOk kind slot ∨ bits v 29 11 ≠ 0 ∨ bits v 7 3 ≠ 0 then { d with pw := { d.pw with imgRes := 7 } }
  else { d with pw := { d.pw with img := some { kind := kind, slot := d.openTarget kind slot }, imgRes := 0 } }

/-- Four image bytes through IMG_DATA. -/
def Dev.imgDataCtl (d : Dev) (v : Nat) : Dev :=
  match d.pw.img with
  | some u => { d with pw := { d.pw with img := some (u.append (toLe 4 v)) } }
  | none => d

/-- A close through IMG_CTL: its checks begin. -/
def Dev.imgCloseCtl (d : Dev) : Dev :=
  match d.pw.img with
  | some u => if d.pw.imgBusy then d else { d with pw := { d.pw with img := none, imgBusy := true, imgClose := some u, imgMbox := false } }
  | none => d

/-- An abandon through IMG_CTL. -/
def Dev.imgAbandonCtl (d : Dev) : Dev :=
  match d.pw.img with
  | some u => { d.spoilBank u.slot with pw := { (d.spoilBank u.slot).pw with img := none, imgRes := 8 } }
  | none => d

/-- A write to IMG_CTL. -/
def Dev.writeImgCtl (d : Dev) (v : Nat) : Dev :=
  match bits v 31 30 with
  | 1 => d.imgOpenCtl v
  | 2 => d.imgCloseCtl
  | 3 => d.imgAbandonCtl
  | _ => d

/-- The end of the close checks: the bank marked, and the failed check if one did (R377, R378). -/
def Dev.imgChecksEnd (d : Dev) : Dev × Option Nat :=
  match d.pw.imgClose with
  | none => (d, none)
  | some u =>
    let bad := d.imgCheck u.kind u.data u.ovr
    let d1 := { d with pw := { d.pw with
      imgBusy := false, imgClose := none
      imgRes := if d.pw.imgMbox then d.pw.imgRes else (match bad with | some c => c + 1 | none => 1) } }
    match bad with
    | none => ({ d1 with pw := { d1.pw with banks := Tab.set d1.pw.banks u.slot { data := u.data, valid := true } } }, none)
    | some c => ((d1.spoilBank u.slot).record 0xB000 1 [], some c)

/-- IMG_STAT as it reads. -/
def Dev.imgStat (d : Dev) : Nat := b2n d.pw.img.isSome * 2 ^ 31 + b2n d.pw.imgBusy * 2 ^ 30 + d.pw.imgRes

/-! ## Patch loads (R141, R143, R381, R382) -/

/-- A core with its ROM microcode and the ROM default dispatch table (R143). -/
def Core.unpatched (c : Core) : Core := { c with patchLevel := 0, patchPv := false, disp := [], patchRam := [], matches_ := [], nanoRam := [] }
/-- One record of a patch image put into its array, within the limits of Table 4.12; the level is the image header's. -/
def Core.loadRecord (c : Core) : PatchRec → Core
  | .dispatch i e => { c with disp := Tab.set c.disp i.toNat e }
  | .microword i w => { c with patchRam := Tab.set c.patchRam i.toNat w }
  | .matchRom a i => if c.matches_.length < 32 then { c with matches_ := c.matches_ ++ [(a.toNat, i.toNat)] } else c
  | .nanoword i w => { c with nanoRam := Tab.set c.nanoRam i.toNat w }
  | .level _ _ => c
/-- A core with the patch of a bank loaded, or with its ROM microcode (R141, R143). -/
def Dev.loadPatch (d : Dev) (n : Nat) (bank : Option Nat) : Dev :=
  d.modCore n (fun c => match bank with
    | some i => { (Config.patchRecords (Config.decryptBody (d.imgBank i).data)).foldl Core.loadRecord c.unpatched with
        patchLevel := BitVec.ofNat 16 (imgLevel (d.imgBank i).data), patchPv := true }
    | none => c.unpatched)
/-- The bank whose patch a start loads: only while PATCHEN.START = 1 (R141, R382). -/
def Dev.startPatch (d : Dev) : Option Nat := if bit (d.inForce midPATCHEN).toNat 31 then d.bestBank 1 else none
/-- The bank with a verified patch of a LEVEL (R382). -/
def Dev.patchOfLevel (d : Dev) (level : Nat) : Option Nat := (kindBanks 1).find? (fun i => d.bankGood 1 i && imgLevel (d.imgBank i).data == level)
/-- MCREV of a core. -/
def Core.mcrev (c : Core) : Nat := c.patchLevel.toNat * 0x10000 + romRev * 0x100 + b2n c.patchPv

end Sys2Proof.Machine
end

