-- ==== Sys2Proof/Machine/PowerOps.lean ====
section
/-! DEFINITION. Power domains, repair requests, resets, the power-fail sequence and lockup recovery (R164, R362, R367 to R383). -/

namespace Sys2Proof.Machine

/-! ## Domains -/

/-- PD_STATE of a domain. -/
def Dev.dom (d : Dev) (n : Nat) : Dom := Tab.get d.pw.doms n {}
/-- The machine with a domain in a state. -/
def Dev.setDom (d : Dev) (n st : Nat) : Dev := { d with pw := { d.pw with doms := Tab.set d.pw.doms n { d.dom n with state := st } } }
/-- LAST of a domain set. -/
def Dev.setDomLast (d : Dev) (n r : Nat) : Dev := if n < 96 then { d with pw := { d.pw with doms := Tab.set d.pw.doms n { d.dom n with last := r } } } else d
/-- Domains in a state. -/
def Dev.setDoms (d : Dev) (ns : List Nat) (st : Nat) : Dev := ns.foldl (fun (e : Dev) n => e.setDom n st) d
/-- Whether a core is present. -/
def Dev.corePresent (d : Dev) (n : Nat) : Bool := d.domState (n / 2) != 0xF
/-- The domains a drain of a domain takes out. -/
def Dev.drainSet (d : Dev) (n : Nat) : List Nat := if 80 ≤ n ∧ n < 86 then d.pairGroup n else [n]

/-! ## Requests (R379) -/

/-- PD_RES as a word. -/
def pdRes (act result busy dom : Nat) : Word := BitVec.ofNat 32 (act * 2 ^ 28 + result * 2 ^ 24 + busy * 2 ^ 23 + dom)
/-- Whether a request is in progress. -/
def Dev.pdBusy (d : Dev) : Bool := d.pw.req.isSome

/-- A mailbox response made ready (R386). -/
def Dev.mboxReply (d : Dev) (status : Nat) (data : List Byte) : Dev :=
  { d with pu := { d.pu with mbox := { d.pu.mbox with state := 2, resp := toLe 1 d.pu.mbox.tag ++ toLe 1 status ++ data } } }
/-- The mailbox status of a request result (Table 13.9). -/
def resultStatus (r : Nat) : Nat := match r with | 2 => 0 | 4 => 3 | 7 => 6 | 8 => 4 | 0xB => 1 | _ => 2
/-- The answer to a mailbox PDREQ that waits for its request. -/
def Dev.mboxPd (d : Dev) (r : Nat) : Dev := if d.pu.mbox.state = 1 ∧ d.pu.mbox.op = 3 then d.mboxReply (resultStatus r) (toLe 4 d.pw.res.toNat) else d

/-- A request refused (R379). `keep` where a request in progress keeps PD_RES BUSY. -/
def Dev.pdRefuse (d : Dev) (act dom r : Nat) : Dev :=
  let d1 := { d with pw := { d.pw with res := pdRes act r (b2n d.pdBusy) dom } }
  d1.setDomLast dom r
/-- A request accepted: it is in progress. -/
def Dev.pdAccept (d : Dev) (act dom : Nat) : Dev := ({ d with pw := { d.pw with res := pdRes act 1 1 dom, req := some (act, dom) } }).setDomLast dom 1
/-- A request ended: the result, the notification at PD_NOTE and the mailbox's answer (R379). -/
def Dev.pdEnd (d : Dev) (act dom r : Nat) : Dev :=
  ((({ d with pw := { d.pw with res := pdRes act r 0 dom, req := none } }).setDomLast dom r).raiseNote d.pw.note 0x24 (0x8000 + dom)).mboxPd r

/-- Whether an intake ring or DMA ring that is enabled lies in a Loam bank. -/
def Dev.ringsIn (d : Dev) (k : Nat) : Bool :=
  let inb := fun (a n : Nat) => decide (a < (k + 1) * 0x1000000) && decide (k * 0x1000000 < a + n)
  d.host.rings.any (fun p => p.2.en && inb p.2.base.toNat ((p.2.size + 1) * (if p.1 < 64 then 512 else 128))) ||
  d.dma.any (fun g => g.2.chans.any (fun c => c.2.state != 0 && (inb c.2.rbase (64 * (c.2.rsize + 1)) || (!c.2.chost && inb c.2.cbase (16 * (c.2.csize + 1))))))
/-- Whether a Loam bank is in use (Table 13.11). -/
def Dev.bankUsed (d : Dev) (k : Nat) : Bool :=
  (List.range 128).any (fun n => d.powered (n / 2) &&
    (let c := d.core n
     c.astb.toNat / 0x1000000 == k || (bit c.schctl.toNat 31 && c.ttbp.toNat / 0x1000000 == k) ||
     (List.range 4).any (fun b => (d.bay n b).loaded && (d.bay n b).tsbp.toNat / 0x1000000 == k))) ||
  (d.keysOn && decide (d.keyBase < (k + 1) * 0x1000000) && decide (k * 0x1000000 < d.keyBase + 0x800 + d.keyLimit)) || d.ringsIn k
/-- The dependency and in-use checks of a drain (Table 13.11). -/
def Dev.drainRefused (d : Dev) (n : Nat) : Bool :=
  if n < 64 then false
  else if n < 72 then (rangeFrom (8 * (n - 64)) 8).any (fun k => d.domState k == 1) || d.domState (72 + (n - 64)) == 1
  else if n < 80 then d.bankUsed (n - 72)
  else if n < 86 then bits d.pw.memil.toNat 1 0 == 0 || (d.pairGroup n).any (fun k => d.domState k != 1)
  else if n < 90 then (d.slotNaming (n - 86)).isSome
  else false

/-- Whether Table 13.10 permits an act from the state of a domain. -/
def Dev.actOk (d : Dev) (act n : Nat) : Bool :=
  let s := d.domState n
  match act with
  | 1 => s == 1
  | 2 => s == 3 || s == 6
  | 3 => s == 0
  | 4 => s == 3
  | 5 => s == 3 || s == 6
  | 6 => s == 3 && decide (n < 64)
  | 8 => s == 2
  | _ => false

/-- The first check of R379 a request word fails. -/
def Dev.pdCheck (d : Dev) (v : Nat) : Option Nat :=
  let act := bits v 31 28
  let n := bits v 6 0
  let core := bits v 14 8
  if act = 0 ∨ 8 < act ∨ bits v 27 15 ≠ 0 ∨ bit v 7 ∨ (act = 7 ∧ n ≠ 0) ∨ (act ≠ 7 ∧ core ≠ 0) ∨ 96 ≤ n then some 0xB
  else if d.pdBusy ∧ ¬ (act = 8 ∧ d.pw.req = some (1, n)) then some 9
  else if act = 7 then (if ¬ d.corePresent core then some 4 else if ¬ d.coreLocked core then some 3 else none)
  else if d.domState n = 0xF then some 4
  else if (n = 90 ∨ n = 95) ∧ (act = 1 ∨ act = 2 ∨ act = 5 ∨ act = 6) then some 0xA
  else if ¬ d.actOk act n then some 3
  else if act = 1 ∧ d.drainRefused n then some 5
  else if act = 6 ∧ ¬ bit (d.inForce midPATCHEN).toNat 30 then some 6
  else none

/-! ## Lockup recovery (R383) -/

/-- A core's store buffer drained: stores to memory performed, those to device registers on their way to their blocks, where they arrive after the core's reset. -/
def Dev.flushSb (d : Dev) (n : Nat) : Dev :=
  let c := d.core n
  let d1 := (c.sb.filter (fun e => !e.dev)).foldl (fun (e : Dev) s => if e.servedAt s.pa then e.put s.pa s.data else e) d
  d1.modCore n (fun k => { k with sb := [], devOut := c.devOut ++ c.sb.filter (fun e => e.dev) })
/-- Whether the pair of a core is in service, or leaving it: what a core needs to issue (R368, R380). -/
def Dev.pairOn (d : Dev) (n : Nat) : Bool := d.domState (n / 2) == 1 || d.domState (n / 2) == 2
/-- A locked core recovered (R375, R383). One whose pair is out of service issues nothing before its return (R368). -/
def Dev.recoverCore (d : Dev) (n : Nat) : Dev :=
  let d1 := d.flushSb n
  ((d1.resetCore n 3).modCore n (fun c => { c with devOut := (d1.core n).devOut, up := d1.pairOn n })).driveLock

/-! ## What each act does (Tables 13.10, 13.11) -/

/-- A bay of a draining pair evicted if it can be: at a boundary, loaded, below M level, and no miss outstanding. -/
def Dev.drainBay (d : Dev) (n b : Nat) : Dev :=
  let x := d.bay n b
  if x.canLeave ∧ x.level ≠ 3 then (d.evictTask n b false true).getD d else d
/-- The bays of both cores of a pair that can be evicted, evicted. -/
def Dev.drainBays (d : Dev) (k : Nat) : Dev :=
  (List.range 8).foldl (fun (e : Dev) i => e.drainBay (2 * k + i / 4) (i % 4)) d
/-- The bays of a pair that still hold a task, or into which one is being loaded. -/
def Dev.baysLeft (d : Dev) (k : Nat) : List Nat :=
  ((List.range 8).filter (fun i => let x := d.bay (2 * k + i / 4) (i % 4); x.loaded || x.st == .moving)).map (fun i => 8 * k + i)

/-- A drain that was accepted begins. -/
def Dev.beginDrain (d : Dev) (n : Nat) : Dev :=
  let d1 := d.setDoms (d.drainSet n) 2
  if n < 64 then let d2 := d1.drainBays n; { d2 with pw := { d2.pw with draining := d2.baysLeft n } }
  else if n < 72 then d1
  else if n < 80 then { d1 with pw := { d1.pw with fenced := d1.pw.fenced ||| BitVec.ofNat 8 (2 ^ (n - 72)) } }
  else if n < 86 then d1
  else if n < 90 then d1.drainPort (n - 86)
  else if 91 ≤ n ∧ n < 95 then
    let g := d1.engine (n - 91)
    d1.setEngine (n - 91) { g with chans := g.chans.map (fun p => (p.1, if p.2.state = 0 then p.2 else p.2.stopRequest)) }
  else d1

/-- Whether nothing keeps a drain from its end. -/
def Dev.drainDone (d : Dev) (n : Nat) : Bool :=
  if n < 64 then (d.baysLeft n).isEmpty && [2 * n, 2 * n + 1].all (fun c => (d.core c).sb.isEmpty && (d.core c).devOut.isEmpty)
  else if 86 ≤ n ∧ n < 90 then (d.port (n - 86)).state == 5 || (d.port (n - 86)).state == 0
  else if 91 ≤ n ∧ n < 95 then (d.engine (n - 91)).chans.all (fun p => p.2.state != 1 && p.2.state != 5)
  else true

/-- The cores of a pair that issue, or no longer do. -/
def Dev.setUp (d : Dev) (k : Nat) (on : Bool) : Dev := (d.modCore (2 * k) (fun c => { c with up := on })).modCore (2 * k + 1) (fun c => { c with up := on })
/-- The drain of a domain ends if it can (R380); the cores of a pair issue no more (R368). -/
def Dev.drainComplete (d : Dev) (n : Nat) : Dev :=
  if d.domState n ≠ 2 then d
  else
    let d1 := if n < 64 then let e := d.drainBays n; { e with pw := { e.pw with draining := e.baysLeft n } } else d
    if d1.drainDone n then ((if n < 64 then d1.setUp n false else d1).setDoms (d1.drainSet n) 3).pdEnd 1 n 2 else d1

/-- A draining domain back in service: its fence is lifted (R379, R380). -/
def Dev.backOn (d : Dev) (n : Nat) : Dev :=
  let d1 := d.setDoms (d.drainSet n) 1
  { d1 with pw := { d1.pw with draining := [], fenced := if 72 ≤ n ∧ n < 80 then d1.pw.fenced &&& ~~~(BitVec.ofNat 8 (2 ^ (n - 72))) else d1.pw.fenced } }

/-- What training of a channel finds (R412). -/
def trainCh (free c : Nat) : MemCh :=
  let (n, s, g) := Config.dimms free c
  let dpc := n % 3
  let sp := if dpc = 0 then 0 else if dpc = 2 then s % 2 else s % 3
  { up := sp != 0, dpc := dpc, speed := sp, gib := if sp = 0 then 0 else g % 257 }
/-- Channels trained. -/
def Dev.train (d : Dev) (cs : List Nat) : Dev :=
  ({ d with mc := { d.mc with chans := cs.foldl (fun t c =>
      let o := Tab.get t c {}
      let n := trainCh d.free c
      Tab.set t c { o with up := n.up, dpc := n.dpc, speed := n.speed, gib := n.gib }) d.mc.chans } }).tickFree
/-- DDRCAP from the channels' capacities (R408). -/
def Dev.setCap (d : Dev) : Dev :=
  let least := ((List.range 12).map (fun c => (Tab.get d.mc.chans c {}).gib)).foldl Nat.min 256
  { d with mc := { d.mc with cap := BitVec.ofNat 32 (2 ^ 31 + 12 * least) } }

/-- A domain powered off: what it holds is lost (Table 13.2). -/
def Dev.loseUnit (d : Dev) (n : Nat) : Dev :=
  if n < 64 then (d.setCore (2 * n) {}).setCore (2 * n + 1) {}
  else if n < 72 then d
  else if n < 80 then d.clearRange ((n - 72) * 0x1000000) 0x1000000
  else if n < 86 then { d with mc := { d.mc with chans := Tab.erase (Tab.erase d.mc.chans (2 * (n - 80))) (2 * (n - 80) + 1) } }
  else if n < 90 then (d.setPort (n - 86) {}).unstomp (n - 86)
  else if 91 ≤ n ∧ n < 95 then d.setEngine (n - 91) {}
  else d

/-- The cores of a pair with their patch loaded anew. -/
def Dev.patchPair (d : Dev) (k : Nat) (bank : Option Nat) : Dev := (d.loadPatch (2 * k) bank).loadPatch (2 * k + 1) bank

/-- Committed EVEC_M values of a pair's bays that still waited for a boundary put in force: its cores are reset (R248, Table 7.12). -/
def Dev.pairVectors (d : Dev) (k : Nat) : Dev := d.applyIds (fun id => decide (midEVECM (2 * k) 0 ≤ id) && decide (id < midEVECM (2 * k) 0 + 8))
/-- The patch a start would load put into a pair, with the banks that fail their checks recorded (R377, R382). -/
def Dev.patchAsStart (d : Dev) (k : Nat) : Dev := if bit (d.inForce midPATCHEN).toNat 31 then (d.recordBadBanks 1).patchPair k (d.bestBank 1) else d.patchPair k none
/-- A domain that was powered on finishes: its unit's registers at reset, committed values restored, the patch of a core pair loaded; it is DRAINED (Table 13.5, R143, R248, R382). -/
def Dev.powerOnEnd (d : Dev) (n : Nat) : Dev :=
  if d.domState n ≠ 7 ∨ d.pw.req ≠ some (3, n) then d
  else
    let d0 := d.loseUnit n
    let d1 := if n < 64 then (((d0.pairVectors n).resetCore (2 * n) 0).resetCore (2 * n + 1) 0).patchAsStart n else d0
    (d1.setDom n 3).pdEnd 3 n 2

/-- A return to service ends (Table 13.11). -/
def Dev.returnEnd (d : Dev) (n : Nat) : Dev :=
  if d.domState n ≠ 7 ∨ d.pw.req ≠ some (4, n) then d
  else
    let d0 := d.setDom n 1
    let d1 :=
      if n < 64 then
        ((((d0.pairVectors n).resetCore (2 * n) 2).resetCore (2 * n + 1) 2).setUp n true).driveLock
      else if n < 72 then d0
      else if n < 80 then
        let e := d0.clearRange ((n - 72) * 0x1000000) 0x1000000
        { e with pw := { e.pw with fenced := e.pw.fenced &&& ~~~(BitVec.ofNat 8 (2 ^ (n - 72))) } }
      else if n < 86 then d0.train [2 * (n - 80), 2 * (n - 80) + 1]
      else if n < 90 then (d0.setPort (n - 86) { d0.port (n - 86) with drain := false }).enablePort (n - 86)
      else if 91 ≤ n ∧ n < 95 then d0.setEngine (n - 91) {}
      else d0
    d1.pdEnd 4 n 2

/-- A self-test ends (R380, R382). -/
def Dev.selfTestEnd (d : Dev) (n : Nat) (pass : Bool) : Dev :=
  if d.domState n ≠ 4 then d
  else
    let elem := if pass then 0 else (Config.testElem d.free).toNat
    let fin := fun (e : Dev) (ok : Bool) (el : Nat) =>
      let e1 := { e with pw := { e.pw with tres := BitVec.ofNat 32 (2 ^ 31 + b2n ok * 2 ^ 30 + el), testLevel := none } }
      ((e1.setDom n (if ok then 3 else 6)).pdEnd 5 n (if ok then 2 else 8)).tickFree
    let d1 := if 72 ≤ n ∧ n < 80 then d.clearRange ((n - 72) * 0x1000000) 0x1000000 else if 80 ≤ n ∧ n < 86 then d.train [2 * (n - 80), 2 * (n - 80) + 1] else d
    if n < 64 then
      match d.pw.testLevel with
      | some (lv, true) => match d.patchOfLevel lv with
        | some i => fin ((d1.recordBadLevel lv).patchPair n (some i)) pass elem
        | none => fin ((d1.recordBadLevel lv).patchPair n none) false 0xFFFE
      | _ => fin (d1.patchPair n none) pass elem
    else fin d1 pass elem

/-- A request that passed its checks, begun; acts with no intermediate state end at once. -/
def Dev.pdStart (d : Dev) (v : Nat) : Dev :=
  let act := bits v 31 28
  let n := bits v 6 0
  match act with
  | 1 => (d.pdAccept 1 n).beginDrain n
  | 2 => ((d.loseUnit n).setDom n 0).pdEnd 2 n 2
  | 3 => (d.pdAccept 3 n).setDom n 7
  | 4 => (d.pdAccept 4 n).setDom n 7
  | 5 =>
    let c := d.core (2 * n)
    let d1 := (d.pdAccept 5 n).setDom n 4
    if n < 64 then { d1 with pw := { d1.pw with testLevel := some (c.patchLevel.toNat, c.patchPv) } } else d1
  | 6 => (d.pdAccept 6 n).setDom n 5
  | 7 => (d.recoverCore (bits v 14 8)).pdEnd 7 0 2
  | 8 => (d.backOn n).pdEnd 8 n 2
  | _ => d

/-- A write to PD_REQ (R379). -/
def Dev.pdRequest (d : Dev) (v : Nat) : Dev :=
  match d.pdCheck v with
  | some r => d.pdRefuse (bits v 31 28) (bits v 6 0) r
  | none => d.pdStart v

/-- The re-patch of a pair ends (R381). The load takes place only while PATCHEN permits it (R141); where it no longer does, the cores keep what they held and the result is that of the refusal (DESIGN CHOICE, log entry 80). -/
def Dev.repatchEnd (d : Dev) (n : Nat) : Dev :=
  if d.domState n ≠ 5 then d
  else if ¬ bit (d.inForce midPATCHEN).toNat 30 then (d.setDom n 3).pdEnd 6 n 6
  else
    let b := d.bestBank 1
    let d1 := (d.recordBadBanks 1).patchPair n b
    (({ d1 with pw := { d1.pw with ptBank := b } }).setDom n 3).pdEnd 6 n 2

/-! ## Power failure and resets (R164, R362, R370 to R373) -/

/-- A snapshot write abandoned: its frame reads as empty (R362). -/
def Dev.dropFrame (d : Dev) : Dev :=
  if d.rc.writing then
    let i := leastIdx ((List.range 16).map d.frameSerial)
    let d1 := d.clearRange (frameBase + 0x4000 * i) 0x4000
    { d1 with rc := { d1.rc with writing := false, pending := false, frame := [], sealWait := none } }
  else d
/-- A power failure registered: its record goes ahead of those that wait (R164, R362, R363). -/
def Dev.registerFailure (d : Dev) : Dev :=
  if d.pw.pfail then d
  else
    let d1 := d.recordLogged true 0xA000 4 []
    { d1 with pw := { d1.pw with pfail := true } }.dropFrame
/-- Every record of the write queue made durable. -/
def Dev.commitQueue (d : Dev) : Dev :=
  let d1 := d.jr.queue.foldl (fun (e : Dev) q => e.durable q) d
  { d1 with jr := { d1.jr with queue := [], heldq := [] } }
/-- The power-fail sequence run to its end (R164, R362). -/
def Dev.failureEnd (d : Dev) : Dev :=
  if ¬ d.pw.pfail ∨ d.pw.pfDone then d
  else
    let d1 := d.commitQueue.logDurable
    { d1 with pw := { d1.pw with pfDone := true }, rc := { d1.rc with optSaved := d1.rc.opt } }

/-- A stream as device reset leaves it: registers at reset, the rest for the scan to find. -/
def Stream.resetRegs (x : Stream) : Stream :=
  { x with en := false, quota := 15, low := 2, recovering := true, stopped := false, why := 0, lows := false, dig := [], dep := 0, seals := [], held := [] }
/-- The power block after a device reset. -/
def Power.deviceReset (p : Power) : Power :=
  { part := p.part, fused := p.fused, devid := p.devid, cpres := p.cpres, banks := p.banks, pstate := p.pstate, fromPower := p.fromPower, hot := p.hot, temp := p.temp, hotWait := p.thermtrip || p.hotWait }
/-- What a device reset resets (Table 13.5, R373). -/
def Dev.resetDevice (d : Dev) : Dev :=
  let d1 := d.clearRange 0 0x08000000
  { d1 with
    cores := []
    mem := d1.mem.filter (fun c => decide (c.1 < ddrBase)), ddrGen := d1.ddrGen + 1
    poison := d1.poison.filter (fun w => decide (w < ddrBase))
    jr := { d1.jr with streams := d1.jr.streams.map (fun p => (p.1, p.2.resetRegs)), queue := [], heldq := [], scanning := false }
    ep := { epoch := d1.ep.epoch, tick := d1.ep.tick, updates := d1.ep.updates }
    mi := { vals := d1.mi.kept, regs := d1.mi.kept, kept := d1.mi.kept }
    host := { out := d1.host.out }
    dma := [], dl := {}
    pw := d1.pw.deviceReset
    mc := {}
    pu := { d1.pu with mbox := {}, byMbox := false } }

/-- A device reset: the power-fail sequence first, which a reset without a power failure runs without its event (R373). -/
def Dev.deviceReset (d : Dev) : Dev := (if d.pw.pfail then d.failureEnd else { d.commitQueue.dropFrame with rc := { d.commitQueue.dropFrame.rc with optSaved := d.rc.opt } }).resetDevice
/-- A device reset that the pins bring about: where PWRGOOD is low, the device is in STANDBY after it (R370, Table 13.5). -/
def Dev.pinReset (d : Dev) (pwrgood : Bool) : Dev :=
  let d1 := d.deviceReset
  if pwrgood then d1 else { d1 with pw := { d1.pw with pstate := 1 } }

/-- A power-on reset: device reset and all of PD_AON; the journal array stays (Table 13.5). -/
def Dev.powerOnReset (d : Dev) (pstate : Nat) : Dev :=
  let d1 := { d with jr := { d.jr with queue := [], heldq := [] } }.resetDevice
  let r := d1.rc
  { d1 with
    ep := {}
    pu := {}
    pw := { d1.pw with pstate := pstate, fromPower := true, hot := [], temp := [], devid := 0, cpres := 0 }
    rc := { pcc := r.pcc, opt := r.optSaved, optSaved := r.optSaved, lser := r.lser, fser := r.fser, prevSeal := r.optSaved } }

end Sys2Proof.Machine
end

