-- ==== Sys2Proof/Machine/Host.lean ====
section
/-! DEFINITION. Feature negotiation, queues, doorbells, submission commands, intake rings and function resets (R281 to R304, R364, R415). -/

namespace Sys2Proof.Machine

/-- Whether the host reaches a function: the endpoint's domain is ON and the function is there. -/
def Dev.hostUp (d : Dev) (f : Nat) : Bool := d.domState 90 == 1 && d.fnUp f
/-- A command of the host, which does nothing where it does not reach the function. -/
def Dev.byHost (d : Dev) (f : Nat) (act : Dev → Dev) : Dev := if d.hostUp f then act d else d

/-! ## Negotiation (R24 to R27, R281, R376) -/

/-- FACCn written: what is offered is stored, until the close (R24, R25). -/
def Dev.writeFacc (d : Dev) (f n : Nat) (v : DWord) : Dev :=
  let x := d.fn f
  if x.closed then d else d.setFn f { x with facc := Tab.set x.facc n (v &&& d.feat f n) }
/-- One 32-bit half of FACCn written. -/
def Dev.writeFaccHalf (d : Dev) (f n : Nat) (high : Bool) (v : Nat) : Dev :=
  let old := (Tab.get (d.fn f).facc n 0).toNat
  d.writeFacc f n (BitVec.ofNat 64 (if high then setBits old 63 32 v else setBits old 31 0 v))
/-- FEAT_CTL.CLOSE written with 1; ignored until start-up has ended (R25, R376). -/
def Dev.closeFeat (d : Dev) (f : Nat) : Dev :=
  if d.pw.stage = .finished then d.setFn f { d.fn f with closed := true } else d

/-! ## Queue ranges (R286) -/

/-- A range entry with ERR set or clear. -/
def rangeEntry (w : Nat) (err : Bool) : Word := BitVec.ofNat 32 (setBits w 31 31 (b2n err))
/-- A function with a range entry replaced. -/
def Fn.setRange (x : Fn) (cq : Bool) (w : Word) : Fn := if cq then { x with vfqCq := w } else { x with vfqSq := w }
/-- A range entry. -/
def Fn.rangeOf (x : Fn) (cq : Bool) : Nat := (if cq then x.vfqCq else x.vfqSq).toNat
/-- Whether any queue of the PF is enabled. -/
def Dev.pfQueueOn (d : Dev) : Bool := (d.fn 0).sqs.any (fun p => p.2.en) || (d.fn 0).cqs.any (fun p => p.2.en)
/-- Whether a range runs past the last queue or meets an accepted range of a lower-numbered function. -/
def Dev.rangeBad (d : Dev) (f : Nat) (cq : Bool) : Bool :=
  let w := (d.fn f).rangeOf cq
  let a := bits w 9 0
  let n := bits w 24 16
  n != 0 && (decide (1024 < a + n) || (List.range f).any (fun g =>
    let v := (d.fn g).rangeOf cq
    !bit v 31 && bits v 24 16 != 0 && decide (bits v 9 0 < a + n) && decide (a < bits v 9 0 + bits v 24 16)))
/-- A function's range checked. -/
def Dev.checkRange (d : Dev) (f : Nat) (cq : Bool) : Dev :=
  let x := d.fn f
  d.setFn f (x.setRange cq (rangeEntry (x.rangeOf cq) (d.rangeBad f cq)))
/-- A write to VFQ_SQ or VFQ_CQ of a function (R286). -/
def Dev.writeVfq (d : Dev) (who f : Nat) (cq : Bool) (v : Nat) : Dev :=
  if who ≠ 0 ∨ ¬ (d.fn 0).has 9 then d
  else if (if f = 0 then d.pfQueueOn else d.host.vfEn) then d.cfgErr 0
  else
    let w := Nat.min 256 (bits v 24 16) * 0x10000 + bits v 9 0
    let d1 := d.setFn f ((d.fn f).setRange cq (BitVec.ofNat 32 w))
    if f = 0 then d1.checkRange 0 cq else d1

/-! ## Queues (R287 to R289, R302) -/

/-- Whether a function owns a local queue: the number lies in its range (R287), and posting or control queues are accepted (R14). -/
def Dev.owns (d : Dev) (f q : Nat) (cq : Bool) : Bool :=
  ((d.fn f).has 0 || (d.fn f).has 1) && decide (q < (d.qRange f cq).2)
/-- The global number of a local submission queue. -/
def Dev.globalSq (d : Dev) (f q : Nat) : Nat := (d.qRange f false).1 + q
/-- SIZE as it is stored. -/
def Fn.qSize (x : Fn) (v : Nat) : Nat := Nat.max 1 (Nat.min (bits v 15 0) (if x.has 6 then 0xFFFF else 0x0FFF))
/-- Whether an enabled posting queue of any function targets a stream. -/
def Dev.streamTaken (d : Dev) (s : Nat) : Bool := d.host.fns.any (fun p => p.2.sqs.any (fun q => q.2.en && !q.2.kind && q.2.target == s))

/-- HEAD moved past the entry it names. -/
def Sq.consume (y : Sq) : Sq :=
  let h := (y.head + 1) % (y.size + 1)
  { y with head := h, par := if h = 0 then !y.par else y.par, consumed := y.consumed + 1, cur := none }
/-- Entries announced and not consumed. -/
def Sq.left (y : Sq) : Nat := (y.tail + (y.size + 1) - y.head % (y.size + 1)) % (y.size + 1)
/-- The entry in hand ended: HEAD moves past it, unless a disable moved it already. -/
def Sq.finish (y : Sq) : Sq :=
  match y.cur with
  | some e => if e.past then { y with cur := none } else y.consume
  | none => y.consume
/-- KIND of the entry in hand, else of the queue. -/
def Sq.curKind (y : Sq) : Bool := match y.cur with | some e => e.kind | none => y.kind
/-- TARGET of the entry in hand, else of the queue. -/
def Sq.curTarget (y : Sq) : Nat := match y.cur with | some e => e.target | none => y.target

/-- Every announced entry of a disabled queue that was not fetched, answered ABORTED (R302). -/
def Dev.abortRest (d : Dev) (f q : Nat) : Dev :=
  (List.range ((d.fn f).sq q).left).foldl (fun (e : Dev) _ => let y := (e.fn f).sq q; (e.setSq f q { y.consume with cur := y.cur }).answer f q 0xFFFF 0x06 0 0) d
/-- EN = 0 written to a submission queue: what was announced and not fetched is answered ABORTED at once, an entry in hand is still carried out (R302, log 90). -/
def Dev.sqDisable (d : Dev) (f q : Nat) : Dev :=
  let y := (d.fn f).sq q
  if ¬ y.en then d
  else
    let z : Sq := match y.cur with
      | some e => { (if e.past then y else y.consume) with cur := some { e with past := true } }
      | none => y
    (d.setSq f q { z with en := false, halt := false }).abortRest f q
/-- EN = 1 written to a submission queue (R288). -/
def Dev.sqEnable (d : Dev) (f q : Nat) : Dev :=
  let x := d.fn f
  let y := x.sq q
  if y.en then d
  else if ¬ d.owns f y.cq true ∨ ¬ (x.cq y.cq).en ∨ ¬ x.has (if y.kind then 1 else 0) ∨ (¬ y.kind ∧ d.streamTaken y.target) then d.cfgErr f
  else d.setSq f q { y with en := true, head := 0, tail := 0, par := true, halt := false }
/-- EN = 1 written to a completion queue (R288). -/
def Dev.cqEnable (d : Dev) (f q : Nat) : Dev :=
  let y := (d.fn f).cq q
  if y.en then d else d.setCq f q { y with en := true, tail := 0, head := 0, phase := true, wait := [], since := 0 }
/-- EN = 0 written to a completion queue: entries that wait become due for a disabled queue (R289, R302). -/
def Dev.cqDisable (d : Dev) (f q : Nat) : Dev :=
  let x := d.fn f
  let y := x.cq q
  if ¬ y.en then d
  else if x.sqs.any (fun p => p.2.en && p.2.cq == q) then d.cfgErr f
  else
    let d1 := d.setCq f q { y with en := false, wait := [] }
    y.wait.foldl (fun (e : Dev) w => let e1 := e.complete f q w; match w.slot with | some (r, _) => e1.retire r | none => e1) d1

/-- A write to SQ_CTL (R287, R288, R302); one that changes EN changes no other field (R22, log 76). -/
def Dev.writeSqCtl (d : Dev) (f q v : Nat) : Dev :=
  let x := d.fn f
  let y := x.sq q
  let kind := bit v 30
  let target := if kind then bits v 19 16 else bits v 21 16
  let cq := bits v 15 8
  let burst := if x.has 10 then bits v 7 4 else y.burst
  if y.en then
    let d1 := if kind == y.kind && target == y.target && cq == y.cq then d else d.cfgErr f
    if bit v 31 then d1.setSq f q { y with burst := burst } else d1.sqDisable f q
  else if bit v 31 then d.sqEnable f q
  else d.setSq f q { y with kind := kind, target := target, cq := cq, burst := burst }
/-- A write to CQ_CTL (R287 to R289); one that changes EN changes no other field (R22, log 76). -/
def Dev.writeCqCtl (d : Dev) (f q v : Nat) : Dev :=
  let y := (d.fn f).cq q
  let vec := bits v 22 16
  let ien := bit v 15
  if vec = 0 ∨ (if f = 0 then 64 else 16) < vec then d.cfgErr f
  else if y.en then
    let d1 := if vec == y.vec && ien == y.ien then d else d.cfgErr f
    if bit v 31 then d1 else d1.cqDisable f q
  else if bit v 31 then d.cqEnable f q
  else d.setCq f q { y with vec := vec, ien := ien }
/-- A host address with its low or high word replaced; the low twelve bits are zero. -/
def baseWord (b : DWord) (high : Bool) (v : Nat) : DWord := BitVec.ofNat 64 (if high then setBits b.toNat 63 32 v else setBits b.toNat 31 0 (v - v % 0x1000))
/-- A write to a register of a submission queue. -/
def Dev.writeSq (d : Dev) (f q r v : Nat) : Dev :=
  let x := d.fn f
  let y := x.sq q
  if ¬ d.owns f q false then d
  else match r with
    | 0x00 => if y.en then d.cfgErr f else d.setSq f q { y with base := baseWord y.base false v }
    | 0x04 => if y.en then d.cfgErr f else d.setSq f q { y with base := baseWord y.base true v }
    | 0x08 => d.writeSqCtl f q v
    | 0x0C => if y.en then d.cfgErr f else d.setSq f q { y with size := x.qSize v }
    | 0x10 => d.setSq f q { y with err := y.err && bit v 30 }
    | _ => d
/-- A write to a register of a completion queue. -/
def Dev.writeCq (d : Dev) (f q r v : Nat) : Dev :=
  let x := d.fn f
  let y := x.cq q
  if ¬ d.owns f q true then d
  else match r with
    | 0x00 => if y.en then d.cfgErr f else d.setCq f q { y with base := baseWord y.base false v }
    | 0x04 => if y.en then d.cfgErr f else d.setCq f q { y with base := baseWord y.base true v }
    | 0x08 => d.writeCqCtl f q v
    | 0x0C => if y.en then d.cfgErr f else d.setCq f q { y with size := x.qSize v }
    | 0x10 => if x.has 2 then d.setCq f q { y with mod_ := BitVec.ofNat 32 v } else d
    | 0x14 => d.setCq f q { y with err := y.err && bit v 30 }
    | _ => d
/-- A write to the queue registers at a BAR0 offset (Table 9.2). -/
def Dev.writeQueueReg (d : Dev) (f off v : Nat) : Dev :=
  if 0x1000 ≤ off ∧ off < 0x3000 then d.writeSq f ((off - 0x1000) / 0x20) (off % 0x20) v
  else if 0x3000 ≤ off ∧ off < 0x5000 then d.writeCq f ((off - 0x3000) / 0x20) (off % 0x20) v
  else d

/-! ## Doorbells (R283, R293, R294) -/

/-- A tail doorbell. -/
def Dev.tailBell (d : Dev) (f q v : Nat) : Dev :=
  let x := d.fn f
  let y := x.sq q
  let n := y.size + 1
  if ¬ x.closed then d.dbErr f 4
  else if ¬ d.owns f q false ∨ ¬ y.en then d.dbErr f 2
  else if v ≤ y.size ∧ (y.tail + n - y.head) % n ≤ (v + n - y.head) % n then d.setSq f q { y with tail := v }
  else (d.dbErr f 2).complete f y.cq { r0 := BitVec.ofNat 32 v, r1 := BitVec.ofNat 32 q, sq := q, cid := 0xFFFF, sc := 0x04 }
/-- A head doorbell. -/
def Dev.headBell (d : Dev) (f q v : Nat) : Dev :=
  let x := d.fn f
  let y := x.cq q
  let n := y.size + 1
  if ¬ x.closed then d.dbErr f 4
  else if ¬ d.owns f q true ∨ ¬ y.en then d.dbErr f 2
  else if v ≤ y.size ∧ (v + n - y.head) % n ≤ (y.tail + n - y.head) % n then (d.setCq f q { y with head := v }).flushCq f q
  else (d.dbErr f 2).complete f q { r0 := BitVec.ofNat 32 v, r1 := BitVec.ofNat 32 (2 ^ 31 + q), sq := 0x3FF, hd := some 0, cid := 0xFFFF, sc := 0x04 }

/-! ## Fetching submissions (R290, R295, R301) -/

/-- Bytes of an entry of a queue. -/
def Sq.entrySize (y : Sq) : Nat := if y.kind then 64 else 256
/-- Whether a queue can yield an entry in its turn: posting queues whose ring is full are passed over. -/
def Dev.ready (d : Dev) (f q : Nat) : Bool :=
  let y := (d.fn f).sq q
  y.en && !y.halt && y.cur.isNone && y.mark.isNone && y.head != y.tail && (y.kind || !(d.ring y.target).en || !(d.ring y.target).full)
/-- The queue of a function whose turn it is. -/
def Dev.fnPick (d : Dev) (f : Nat) : Option Nat :=
  let x := d.fn f
  let n := (d.qRange f false).2
  if x.left ≠ 0 ∧ x.turn < n ∧ d.ready f x.turn then some x.turn
  else ((List.range n).map (fun i => (x.turn + (if x.left = 0 then 0 else 1) + i) % n)).find? (fun q => d.ready f q)
/-- The function and queue the device fetches from next. -/
def Dev.pick (d : Dev) : Option (Nat × Nat) :=
  ((List.range 64).map (fun i => (d.host.turn + i) % 64)).findSome? (fun f => if d.fnUp f then (d.fnPick f).map (fun q => (f, q)) else none)
/-- The turn counted: a queue yields up to BURST + 1 entries, then the next queue and function follow. -/
def Dev.takeTurn (d : Dev) (f q : Nat) : Dev :=
  let x := d.fn f
  let left := if x.left ≠ 0 ∧ x.turn = q then x.left - 1 else (x.sq q).burst
  let ovr := left = 0
  let d1 := d.setFn f { x with turn := if ovr then (q + 1) % Nat.max 1 (d.qRange f false).2 else q, left := left }
  { d1 with host := { d1.host with turn := if ovr then (f + 1) % 64 else f } }

/-- Whether bytes are all zero. -/
def zeros (bs : List Byte) : Bool := bs.all (fun b => b == 0)
/-- The feature and queue kind an opcode needs (Tables 9.6, 9.7, 12.6). -/
def opFeature (kind : Bool) (opc : Nat) : Option Nat :=
  if kind then match opc with | 1 => some 1 | 2 => some 4 | 3 => some 7 | 4 => some 3 | 5 => some 13 | 6 => some 13 | 7 => some 13 | _ => none
  else match opc with | 1 => some 0 | 2 => some 5 | _ => none
/-- Whether the reserved fields, flag bits and STREAM of an entry are as they must be. -/
def fieldsOk (y : Sq) (bs : List Byte) : Bool :=
  let opc := leAt bs 0 1
  let a0 := leAt bs 4 4
  leAt bs 1 1 / 2 == 0 &&
  (if y.kind then
    leAt bs 12 4 == 0 &&
    (match opc with
     | 1 => zeros (bs.drop 8)
     | 2 => zeros (bs.drop 8) && decide (a0 < 64)
     | 3 => zeros (bs.drop 8) && decide (a0 < 256)
     | 4 => true
     | 5 => zeros (bs.drop 8) && a0 % 8 == 0 && decide (a0 < 0x80000)
     | 6 => zeros (bs.drop 4)
     | _ => zeros (bs.drop 8) && decide (a0 < 8))
  else leAt bs 14 1 == y.target && (if opc = 1 then leAt bs 4 4 == 0 && leAt bs 20 4 == 0 else zeros ((bs.drop 4).take 10) && zeros (bs.drop 15)))
/-- The checks of a fetched entry, in order: the status of the first failure (R290). -/
def Dev.entryCheck (d : Dev) (f q : Nat) (bs : List Byte) : Option Nat :=
  let x := d.fn f
  let y := x.sq q
  let opc := leAt bs 0 1
  if bit (leAt bs 1 1) 0 != y.par then some 3
  else if !(match opFeature y.kind opc with | some n => x.has n | none => false) then some 2
  else if !fieldsOk y bs then some 1
  else if !y.kind && opc == 1 && ((d.owner y.target).isNone || !(d.ring y.target).en) then some 5
  else none

/-- The entry in hand consumed and answered (R295). -/
def Dev.answerCur (d : Dev) (f q cid sc : Nat) (r0 r1 : Word) (post : Bool := false) : Dev :=
  (d.setSq f q ((d.fn f).sq q).finish).answer f q cid sc r0 r1 post
/-- An entry fetched from host memory, or a read that failed (R290, R295, R301). -/
def Dev.fetchEntry (d : Dev) (entry : Option (List Byte)) : Dev :=
  match d.pick with
  | none => d
  | some (f, q) =>
    let d0 := d.takeTurn f q
    let y := (d0.fn f).sq q
    match entry with
    | none =>
      ((d0.setSq f q { y with err := true, halt := true }).record (0x6000 + f) 3 []).complete f y.cq { sq := q, cid := 0xFFFF, sc := 0x07 }
    | some raw =>
      let bs := padTo y.entrySize raw
      let cid := leAt bs 2 2
      let post := !y.kind && leAt bs 0 1 == 1
      match d0.entryCheck f q bs with
      | some 1 =>
        let x := d0.fn f
        ((d0.setFn f { x with descerr := satAdd x.descerr 1 }).record (0x6000 + f) 1 []).answerCur f q cid 1 0 0 post
      | some sc => d0.answerCur f q cid sc 0 0 post
      | none => d0.setSq f q { y with cur := some { data := bs, idx := y.head, kind := y.kind, target := y.target } }

/-! ## Submission commands (R291, R296, R299, R364) -/

/-- The entry a queue has in hand, if it is of a kind and opcode. -/
def Dev.inHand (d : Dev) (f q : Nat) (kind : Bool) (opc : Nat) : Option (List Byte) :=
  let y := (d.fn f).sq q
  match y.cur with
  | some e => if e.kind == kind && leAt e.data 0 1 == opc && d.hostUp f then some e.data else none
  | none => none
/-- A command carried out on the entry in hand. -/
def Dev.onEntry (d : Dev) (f q : Nat) (kind : Bool) (opc : Nat) (act : Dev → List Byte → Dev) : Dev :=
  match d.inHand f q kind opc with
  | some bs => act d bs
  | none => d
/-- The entry in hand delivered to a ring: HEAD moves, the slot is written (R295, R296). -/
def Dev.deliverCur (d : Dev) (f q r : Nat) (bs : List Byte) : Dev :=
  let y := (d.fn f).sq q
  (d.setSq f q { y.finish with open_ := if y.curKind then y.open_ else y.open_ + 1 }).fillSlot r bs 1 f (d.globalSq f q) (leAt bs 2 2)
/-- A POST: it waits for room, is answered NOTARGET where the target went away, or is delivered. -/
def Dev.doPost (d : Dev) (f q : Nat) : Dev :=
  d.onEntry f q false 1 (fun e bs =>
    let t := ((e.fn f).sq q).curTarget
    if (e.owner t).isNone || !(e.ring t).en then e.answerCur f q (leAt bs 2 2) 5 0 0 true
    else if (e.ring t).full then e
    else e.deliverCur f q t bs)
/-- The entry in hand marked as waiting for its completion. -/
def Dev.holdEntry (d : Dev) (f q : Nat) (bs : List Byte) : Dev :=
  let y := (d.fn f).sq q
  d.setSq f q { y with mark := some (leAt bs 2 2, y.head) }
/-- A MARK waits until no earlier POST is open (R299). -/
def Dev.doMark (d : Dev) (f q : Nat) : Dev := d.onEntry f q false 2 (fun e bs => e.holdEntry f q bs)
/-- A waiting MARK or RCLR consumed and completed OK. -/
def Dev.endMark (d : Dev) (f q : Nat) : Dev :=
  let y := (d.fn f).sq q
  match y.mark with
  | some (cid, _) => (d.setSq f q { y with mark := none }).answerCur f q cid 0 0 0
  | none => d
/-- A MARK whose earlier POSTs have all completed or been dropped. -/
def Dev.doMarkEnd (d : Dev) (f q : Nat) : Dev :=
  let y := (d.fn f).sq q
  if y.open_ = 0 ∧ ¬ y.curKind then d.endMark f q else d
/-- NOP. -/
def Dev.doNop (d : Dev) (f q : Nat) : Dev :=
  d.onEntry f q true 1 (fun e bs => e.answerCur f q (leAt bs 2 2) 0 (BitVec.ofNat 32 (leAt bs 4 4)) 0)
/-- JSTAT. -/
def Dev.doJstat (d : Dev) (f q : Nat) : Dev :=
  d.onEntry f q true 2 (fun e bs =>
    let s := leAt bs 4 1
    if (e.fn f).sqs.any (fun p => p.2.en && !p.2.kind && p.2.target == s) then
      let j := (e.stream s).dur.toNat
      e.answerCur f q (leAt bs 2 2) 0 (BitVec.ofNat 32 j) (BitVec.ofNat 32 (j / 2 ^ 32))
    else e.answerCur f q (leAt bs 2 2) 9 0 0)
/-- QSTAT. -/
def Dev.doQstat (d : Dev) (f q : Nat) : Dev :=
  d.onEntry f q true 3 (fun e bs =>
    let k := leAt bs 4 1
    if e.owns f k false then let z := (e.fn f).sq k; e.answerCur f q (leAt bs 2 2) 0 z.consumed z.errs
    else e.answerCur f q (leAt bs 2 2) 9 0 0)
/-- MSG: to the control ring TARGET names; NOTARGET where it is disabled. -/
def Dev.doMsg (d : Dev) (f q : Nat) : Dev :=
  d.onEntry f q true 4 (fun e bs =>
    let r := 64 + ((e.fn f).sq q).curTarget % 16
    if !(e.ring r).en then e.answerCur f q (leAt bs 2 2) 5 0 0
    else if (e.ring r).full then e
    else e.deliverCur f q r bs)
/-- Base of the recorder region of the journal array. -/
def recBase : Nat := 0x0BF40000
/-- RREAD. -/
def Dev.doRread (d : Dev) (f q : Nat) : Dev :=
  d.onEntry f q true 5 (fun e bs =>
    let a := recBase + leAt bs 4 4
    e.answerCur f q (leAt bs 2 2) 0 (BitVec.ofNat 32 (e.num a 4)) (BitVec.ofNat 32 (e.num (a + 4) 4)))
/-- RSNAP. -/
def Dev.doRsnap (d : Dev) (f q : Nat) : Dev :=
  d.onEntry f q true 6 (fun e bs =>
    let r0 := BitVec.ofNat 32 e.rc.fser
    (e.snap 5).answerCur f q (leAt bs 2 2) 0 r0 0)
/-- RCLR: the clear begins, and the command completes with it; DENIED for a VF (R364, R365). -/
def Dev.doRclr (d : Dev) (f q : Nat) : Dev :=
  d.onEntry f q true 7 (fun e bs =>
    if f ≠ 0 then e.answerCur f q (leAt bs 2 2) 9 0 0
    else if ((e.fn f).sq q).mark.isSome then e
    else (e.holdEntry f q bs).clearRecorder (leAt bs 4 4) 1)
/-- Every RCLR that waits for the clear, completed. -/
def Dev.answerClears (d : Dev) : Dev :=
  (d.fn 0).sqs.foldl (fun (e : Dev) p => if p.2.curKind then e.endMark 0 p.1 else e) d

/-! ## Intake rings (R296 to R298, R415) -/

/-- Slots minus 1 as stored: 8 to 32,768 slots for a stream ring, 8 to 4,096 for a control ring. -/
def ringSize (r v : Nat) : Nat := Nat.max 7 (Nat.min (bits v 15 0) (if r < 64 then 32767 else 4095))
/-- A write to IN_BASE or IN_CTL; one that changes EN acts on EN alone (R22, R415, log 76). -/
def Dev.writeRing (d : Dev) (r : Nat) (ctl : Bool) (v : Nat) : Dev :=
  let x := d.ring r
  let idle := !x.en && x.count == 0
  if ctl then d.setRing r (if bit v 31 != x.en then { x with en := bit v 31 } else { x with size := if idle then ringSize r v else x.size })
  else if idle then d.setRing r { x with base := BitVec.ofNat 32 (bits v 26 12 * 0x1000) } else d
/-- A slot index stored to IN_CPL (R297). -/
def Dev.completeSlot (d : Dev) (r v : Nat) : Dev :=
  let x := d.ring r
  let i := bits v 15 0
  let h := d.slotHdr r i
  let fl := d.slotFlags r i
  let bad := d.setRing r { x with cplerr := true }
  if ¬ x.slots.contains i then bad
  else if d.num h 1 ≠ 1 then d
  else if bit fl 0 then bad
  else
    let f := d.num (h + 1) 1
    let q := bits (d.num (h + 2) 2) 9 0 - (d.qRange f false).1
    if bit fl 2 then ((d.markSlot r i 3).cplDrop f).retire r
    else
      let a := d.slotAddr r i + (if r < 64 then 288 else 96)
      let sc := d.num a 1
      let own := decide (1 ≤ sc) && decide (sc ≤ 0x3F)
      let r0 := BitVec.ofNat 32 (if own then sc else d.num (a + 4) 4)
      let y := (d.fn f).sq q
      ((d.markSlot r i 1).complete f y.cq { r0 := r0, r1 := BitVec.ofNat 32 (d.num (a + 8) 4), sq := q, cid := d.num (h + 4) 2, sc := if own then 0x3F else sc, slot := some (r, i), post := decide (r < 64) }).retire r
/-- A value stored to IN_HEAD (R298). -/
def Dev.writeHead (d : Dev) (r v : Nat) : Dev :=
  let x := d.ring r
  let h := bits v 15 0
  let n := x.size + 1
  let k := (h + n - x.head) % n
  if h ≤ x.size ∧ k ≤ x.count then (d.setRing r { x with goalN := Nat.max x.goalN k, goal := h }).retire r
  else d.setRing r { x with hderr := true }
/-- IN_STAT as it reads. -/
def Ring.stat (x : Ring) : Nat := b2n x.full * 2 ^ 31 + b2n x.cplerr * 2 ^ 30 + b2n x.hderr * 2 ^ 29 + b2n x.noown * 2 ^ 28
/-- A write to a ring register at its offset in the host block. IN_OWN is taken at once, whatever EN holds: the chapter names no boundary for it and does not say whether it is a parameter (R23; log 90). -/
def Dev.ringWrite (d : Dev) (r off v : Nat) : Dev :=
  let x := d.ring r
  match off with
  | 0x00 => d.writeRing r false v
  | 0x04 => d.writeRing r true v
  | 0x0C => d.writeHead r v
  | 0x10 => d.completeSlot r v
  | 0x14 => d.setRing r { x with cplerr := x.cplerr && bit v 30, hderr := x.hderr && bit v 29, noown := x.noown && bit v 28 }
  | 0x18 => if r < 64 then d else d.setRing r { x with own := BitVec.ofNat 32 v &&& 0x800001FF }
  | _ => d
/-- The register-block offset of a ring's register. -/
def ringOff (r off : Nat) : Nat := 0x09000000 + (if r < 64 then 0x2000 + 0x40 * r else 0x3000 + 0x40 * (r - 64)) + off
/-- A core's write to a ring register, with the level check of R226. -/
def Dev.ringStore (d : Dev) (who : Agent) (r off v : Nat) : Dev :=
  if r < 80 ∧ d.allowed who (ringOff r off) true then d.ringWrite r off v else d

/-! ## Moderation and masks (R300) -/

/-- The moderation time of a completion queue has passed. -/
def Dev.modTimer (d : Dev) (f q : Nat) : Dev :=
  let y := (d.fn f).cq q
  if y.en ∧ y.ien ∧ y.since ≠ 0 ∧ bits y.modW.toNat 31 16 ≠ 0 then (d.setCq f q { y with since := 0 }).message f y.vec else d
/-- A vector unmasked: a held message is sent. -/
def Dev.unmask (d : Dev) (f v : Nat) : Dev :=
  let x := d.fn f
  let m := Tab.get x.msix v {}
  if (if f = 0 then 65 else 17) ≤ v then d
  else
    let d1 := d.setFn f { x with msix := Tab.set x.msix v { m with mask := false, pend := false } }
    if m.pend ∧ m.mask then d1.message f v else d1

/-! ## Function-level reset (R303, R304) -/

/-- The slots of every ring that hold an entry of a function: ring and index. -/
def Dev.slotsOf (d : Dev) (f : Nat) : List (Nat × Nat) :=
  d.host.rings.flatMap (fun p => (p.2.slots.filter (fun i => d.num (d.slotHdr p.1 i) 1 == 1 && d.num (d.slotHdr p.1 i + 1) 1 == f)).map (fun i => (p.1, i)))
/-- The entry a queue has in hand carried out as far as it goes; one of these acts, by its kind and opcode. -/
def Dev.carryOut (d : Dev) (f q : Nat) : Dev :=
  (((((((d.doPost f q).doMsg f q).doNop f q).doJstat f q).doQstat f q).doRread f q).doRsnap f q).doRclr f q
/-- The reset of one function's queues and registers; VFQ entries are the PF's. Fetching stops at the next entry boundary, so entries in hand are carried out first; one that must wait is dropped (R303, log 90). -/
def Dev.resetFn (d0 : Dev) (f : Nat) : Dev :=
  let d := (d0.fn f).sqs.foldl (fun (e : Dev) p => e.carryOut f p.1) d0
  let x := d.fn f
  let waits := x.cqs.flatMap (fun p => p.2.wait)
  let d1 := (d.slotsOf f).foldl (fun (e : Dev) p =>
    if bit (e.slotFlags p.1 p.2) 1 then e
    else if waits.any (fun w => w.slot == some p) then e.markSlot p.1 p.2 6
    else e.markSlot p.1 p.2 4) d
  let y := { Fn.reset f with vfqSq := x.vfqSq, vfqCq := x.vfqCq }
  let d2 := waits.foldl (fun (e : Dev) _ => e.cplDrop f) (d1.setFn f y)
  (d2.host.rings.foldl (fun (e : Dev) p => e.retire p.1) d2).dmaFlr f
/-- A function-level reset of a VF (R303). -/
def Dev.flrVf (d : Dev) (f : Nat) : Dev := if f ≠ 0 ∧ d.host.vfEn then d.resetFn f else d
/-- VF Enable written: ranges are checked at its setting; its clearing resets every VF (R286, R304). -/
def Dev.setVfEn (d : Dev) (v : Bool) : Dev :=
  if v then
    if d.host.vfEn then d
    else
      let d1 := (rangeFrom 1 63).foldl (fun (e : Dev) f => (e.checkRange f false).checkRange f true) d
      { d1 with host := { d1.host with vfEn := true } }
  else if d.host.vfEn then
    let d1 := (rangeFrom 1 63).foldl (fun (e : Dev) f => e.resetFn f) d
    { d1 with host := { d1.host with vfEn := false } }
  else d
/-- A function-level reset of the PF (R304). -/
def Dev.flrPf (d : Dev) : Dev :=
  let d1 := (d.resetFn 0).setVfEn false
  let d2 := { d1 with host := { d1.host with
    mwin := 0
    fns := d1.host.fns.map (fun (p : Nat × Fn) => (p.1, { p.2 with vfqSq := (Fn.reset p.1).vfqSq, vfqCq := (Fn.reset p.1).vfqCq })) } }
  (List.range 16).foldl (fun (e : Dev) i => let z := e.stageSlot i; if z.st = 1 ∧ z.org = 1 then e.setStage i { z with st := 3 } else e) d2

/-! ## The commands -/

/-- FACC_WRITE. -/
def execFaccWrite (fn : FnNo) (n : BitVec 2) (value : DWord) (s : State) : Host.Outcome State Fault Refusal :=
  .next (s.run (fun d => d.byHost fn.toNat (fun e => e.writeFacc fn.toNat n.toNat value)))
/-- FEAT_CTL_CLOSE. -/
def execFeatCtlClose (fn : FnNo) (s : State) : Host.Outcome State Fault Refusal :=
  .next (s.run (fun d => d.byHost fn.toNat (fun e => e.closeFeat fn.toNat)))
/-- EPR_EL_READ: epoch [31:0] returned, the rest latched (R282). -/
def execEprElRead (fn : FnNo) (s : State) : Host.Outcome State Fault Refusal :=
  .next (s.run (fun d => d.byHost fn.toNat (fun e =>
    let x := e.fn fn.toNat
    let out := fun (g : Dev) (v : Word) => { g with host := { g.host with out := g.host.out ++ [.rdata fn.toNat v] } }
    if x.has 14 then out (e.setFn fn.toNat { x with epH := BitVec.ofNat 32 (bits e.ep.epoch 47 32), epT := BitVec.ofNat 32 e.ep.tick }) (BitVec.ofNat 32 e.ep.epoch)
    else out e 0)))
/-- A write to MWIN_DATA (R285). -/
def Dev.writeMwin (d : Dev) (v : Word) : Dev :=
  if ¬ (d.fn 0).has 8 then d
  else if isMirror (d.host.mwin.toNat) then d.mirrorWrite (.host 0) d.host.mwin.toNat v else d.cfgErr 0
/-- MWIN_DATA_WRITE. -/
def execMwinDataWrite (fn : FnNo) (value : Word) (s : State) : Host.Outcome State Fault Refusal :=
  .next (s.run (fun d => if fn = 0 then d.byHost 0 (fun e => e.writeMwin value) else d))
/-- VFQ_WRITE. -/
def execVfqWrite (who fn : FnNo) (cq : Bool) (value : Word) (s : State) : Host.Outcome State Fault Refusal :=
  .next (s.run (fun d => d.byHost who.toNat (fun e => e.writeVfq who.toNat fn.toNat cq value.toNat)))
/-- VF_ENABLE. -/
def execVfEnable (value : Bool) (s : State) : Host.Outcome State Fault Refusal :=
  .next (s.run (fun d => d.byHost 0 (fun e => e.setVfEn value)))
/-- QUEUE_REG_WRITE. -/
def execQueueRegWrite (fn : FnNo) (off : BitVec 16) (value : Word) (s : State) : Host.Outcome State Fault Refusal :=
  .next (s.run (fun d => d.byHost fn.toNat (fun e => e.writeQueueReg fn.toNat off.toNat value.toNat)))
/-- SQ_ENABLE. -/
def execSqEnable (fn : FnNo) (q : BitVec 8) (s : State) : Host.Outcome State Fault Refusal :=
  .next (s.run (fun d => d.byHost fn.toNat (fun e => if e.owns fn.toNat q.toNat false then e.sqEnable fn.toNat q.toNat else e)))
/-- SQ_DISABLE. -/
def execSqDisable (fn : FnNo) (q : BitVec 8) (s : State) : Host.Outcome State Fault Refusal :=
  .next (s.run (fun d => d.byHost fn.toNat (fun e => if e.owns fn.toNat q.toNat false then e.sqDisable fn.toNat q.toNat else e)))
/-- CQ_ENABLE. -/
def execCqEnable (fn : FnNo) (q : BitVec 8) (s : State) : Host.Outcome State Fault Refusal :=
  .next (s.run (fun d => d.byHost fn.toNat (fun e => if e.owns fn.toNat q.toNat true then e.cqEnable fn.toNat q.toNat else e)))
/-- CQ_DISABLE. -/
def execCqDisable (fn : FnNo) (q : BitVec 8) (s : State) : Host.Outcome State Fault Refusal :=
  .next (s.run (fun d => d.byHost fn.toNat (fun e => if e.owns fn.toNat q.toNat true then e.cqDisable fn.toNat q.toNat else e)))
/-- SQ_TAIL_DOORBELL. -/
def execSqTailDoorbell (fn : FnNo) (q : BitVec 8) (value : Word) (s : State) : Host.Outcome State Fault Refusal :=
  .next (s.run (fun d => d.byHost fn.toNat (fun e => e.tailBell fn.toNat q.toNat value.toNat)))
/-- CQ_HEAD_DOORBELL. -/
def execCqHeadDoorbell (fn : FnNo) (q : BitVec 8) (value : Word) (s : State) : Host.Outcome State Fault Refusal :=
  .next (s.run (fun d => d.byHost fn.toNat (fun e => e.headBell fn.toNat q.toNat value.toNat)))
/-- SUBMISSION_FETCH. -/
def execSubmissionFetch (entry : Option (List Byte)) (s : State) : Host.Outcome State Fault Refusal :=
  .next (s.run (fun d => d.byHost 0 (fun e => e.fetchEntry entry)))
/-- POST. -/
def execPost (fn : FnNo) (q : BitVec 8) (s : State) : Host.Outcome State Fault Refusal := .next (s.run (fun d => d.doPost fn.toNat q.toNat))
/-- MARK. -/
def execMark (fn : FnNo) (q : BitVec 8) (s : State) : Host.Outcome State Fault Refusal := .next (s.run (fun d => d.doMark fn.toNat q.toNat))
/-- MARK_COMPLETE. -/
def execMarkComplete (fn : FnNo) (q : BitVec 8) (s : State) : Host.Outcome State Fault Refusal := .next (s.run (fun d => d.doMarkEnd fn.toNat q.toNat))
/-- NOP. -/
def execNop (fn : FnNo) (q : BitVec 8) (s : State) : Host.Outcome State Fault Refusal := .next (s.run (fun d => d.doNop fn.toNat q.toNat))
/-- JSTAT. -/
def execJstat (fn : FnNo) (q : BitVec 8) (s : State) : Host.Outcome State Fault Refusal := .next (s.run (fun d => d.doJstat fn.toNat q.toNat))
/-- QSTAT. -/
def execQstat (fn : FnNo) (q : BitVec 8) (s : State) : Host.Outcome State Fault Refusal := .next (s.run (fun d => d.doQstat fn.toNat q.toNat))
/-- MSG. -/
def execMsg (fn : FnNo) (q : BitVec 8) (s : State) : Host.Outcome State Fault Refusal := .next (s.run (fun d => d.doMsg fn.toNat q.toNat))
/-- RREAD. -/
def execRread (fn : FnNo) (q : BitVec 8) (s : State) : Host.Outcome State Fault Refusal := .next (s.run (fun d => d.doRread fn.toNat q.toNat))
/-- RSNAP. -/
def execRsnap (fn : FnNo) (q : BitVec 8) (s : State) : Host.Outcome State Fault Refusal := .next (s.run (fun d => d.doRsnap fn.toNat q.toNat))
/-- RCLR. -/
def execRclr (fn : FnNo) (q : BitVec 8) (s : State) : Host.Outcome State Fault Refusal := .next (s.run (fun d => d.doRclr fn.toNat q.toNat))
/-- IN_RING_CONFIG_WRITE. -/
def execInRingConfigWrite (who : Agent) (ring : BitVec 7) (ctl : Bool) (value : Word) (s : State) : Host.Outcome State Fault Refusal :=
  .next (s.run (fun d => d.ringStore who ring.toNat (if ctl then 0x04 else 0x00) value.toNat))
/-- IN_CPL_WRITE. -/
def execInCplWrite (who : Agent) (ring : BitVec 7) (value : Word) (s : State) : Host.Outcome State Fault Refusal :=
  .next (s.run (fun d => d.ringStore who ring.toNat 0x10 value.toNat))
/-- IN_HEAD_WRITE. -/
def execInHeadWrite (who : Agent) (ring : BitVec 7) (value : Word) (s : State) : Host.Outcome State Fault Refusal :=
  .next (s.run (fun d => d.ringStore who ring.toNat 0x0C value.toNat))
/-- CQ_MOD_TIMER_EXPIRY. -/
def execCqModTimerExpiry (fn : FnNo) (q : BitVec 8) (s : State) : Host.Outcome State Fault Refusal := .next (s.run (fun d => d.byHost fn.toNat (fun e => e.modTimer fn.toNat q.toNat)))
/-- FUNCTION_LEVEL_RESET_VF. -/
def execFunctionLevelResetVf (fn : FnNo) (s : State) : Host.Outcome State Fault Refusal := .next (s.run (fun d => d.byHost fn.toNat (fun e => e.flrVf fn.toNat)))
/-- FUNCTION_LEVEL_RESET_PF. -/
def execFunctionLevelResetPf (s : State) : Host.Outcome State Fault Refusal := .next (s.run (fun d => d.byHost 0 (fun e => e.flrPf)))
/-- MSIX_UNMASK. -/
def execMsixUnmask (fn : FnNo) (vec : BitVec 7) (s : State) : Host.Outcome State Fault Refusal := .next (s.run (fun d => d.byHost fn.toNat (fun e => e.unmask fn.toNat vec.toNat)))

end Sys2Proof.Machine
end

