-- ==== Sys2Proof/Machine/Regs.lean ====
section
/-! DEFINITION. The device registers block by block: what a read returns and does, what a write does (R405 to R412, Tables 15.2 to 15.11). -/

namespace Sys2Proof.Machine

/-! ## Small writes the blocks need -/

/-- A value masked into a word. -/
def masked (v m : Nat) : Word := BitVec.ofNat 32 v &&& BitVec.ofNat 32 m
/-- The fields of a note register: V, CORE, BAY. -/
def noteMask : Nat := 0x800001FF

/-- A write to ES_EPL, ES_EPH, ES_TK or ES_CTL of a slot: one armed after its target has passed is to fire, one disarmed no longer (R173, R174). -/
def Dev.writeSlot (d : Dev) (n o v : Nat) : Dev :=
  let x := d.evSlot n
  let armed := bit x.ctl.toNat 31
  let put := fun (e : Dev) (y : EvSlot) => { e with ep := { e.ep with slots := Tab.set e.ep.slots n y } }
  match o with
  | 0x0 => if armed then d else put d { x with epoch := setBits x.epoch 31 0 v }
  | 0x4 => if armed then d else put d { x with epoch := setBits x.epoch 47 32 v }
  | 0x8 => if armed then d else put d { x with tick := bits v 23 0 }
  | 0xC =>
    if bits v 29 28 = 3 then d
    else
      let fired := bit x.ctl.toNat 30 && bit v 30
      let w := (masked v 0xB00001FF) ||| BitVec.ofNat 32 (b2n fired * 2 ^ 30)
      let d1 := put d { x with ctl := w }
      if ¬ bit v 31 then { d1 with ep := { d1.ep with due := d1.ep.due.erase n } }
      else if reaches d.ep.epoch d.ep.tick x.epoch x.tick && !d.ep.due.contains n then { d1 with ep := { d1.ep with due := d1.insertDue n d1.ep.due } }
      else d1
  | _ => d

/-- M-level code ends start-up: BOOT.DONE written with 1 (R376). -/
def Dev.bootDone (d : Dev) : Dev :=
  let d1 := { d with pw := { d.pw with boot := d.pw.boot ||| 0x80000000 } }
  if d.pw.stage = .firmware then { d1 with pw := { d1.pw with stage := .finished }, mi := { d1.mi with armed := true } } else d1
/-- A write to MEMIL: before DONE only, and never 0b11 (R369, R409). -/
def Dev.writeMemil (d : Dev) (v : Nat) : Dev :=
  if bit d.pw.boot.toNat 31 ∨ bits v 1 0 = 3 then d else { d with pw := { d.pw with memil := BitVec.ofNat 32 (bits v 1 0) } }
/-- The trigger code of a snapshot asked for through RC_CTL: that of Pupor for Pupor (Table 12.4; DEDUCED, log entry 82). -/
def snapTrigger (who : Agent) : Nat := if who = .pupor then 4 else 2
/-- A write to RC_CTL (R357, R366). -/
def Dev.writeRcCtl (d : Dev) (who : Agent) (v : Nat) : Dev :=
  let d1 := { d with rc := { d.rc with ctl := masked v 0x0F00FFFF } }
  if bit v 31 then d1.snap (snapTrigger who) else d1
/-- The lockup record of a core. -/
def Dev.lkRec (d : Dev) (n : Nat) : LkRec := Tab.get d.pw.lkrec n {}
/-- LK_REC0 of the selected core. -/
def LkRec.word0 (r : LkRec) (n : Nat) : Nat := b2n r.v * 2 ^ 31 + r.fail * 2 ^ 16 + r.level * 2 ^ 12 + n * 4 + r.bay
/-- LK_SUM: one bit per locked core of 32. -/
def Dev.lkSum (d : Dev) (j : Nat) : Nat := ((List.range 32).map (fun i => b2n (d.coreLocked (32 * j + i)) * 2 ^ i)).sum

/-! ## Reads -/

/-- The Table 6.2 code of a bay's state. -/
def BayState.code : BayState → Nat
  | .empty => 0 | .ready => 1 | .running => 2 | .frozen => 3 | .miss => 4 | .waiting => 5 | .moving => 6 | .locked => 15
/-- A register of a core block (Table 15.2). -/
def Dev.readCore (d : Dev) (n o : Nat) : Nat :=
  let c := d.core n
  if ¬ d.powered (n / 2) then 0
  else match o with
    | 0x400 => c.schctl.toNat
    | 0x404 => c.ttbp.toNat
    | 0x408 => c.evdrop.toNat
    | 0x40C => ((List.range 4).map (fun b => (d.bay n b).st.code * 16 ^ b)).sum
    | 0x410 => c.rstwhy.toNat
    | _ => 0
/-- A register of the memory block. -/
def Dev.readMem (d : Dev) (o : Nat) : Nat :=
  if o = 0 then d.mc.cap.toNat
  else if 0x100 ≤ o ∧ o < 0x280 ∧ d.powered (80 + (o - 0x100) / 64) then
    let m := Tab.get d.mc.chans ((o - 0x100) / 32) {}
    match o % 32 with
    | 0x00 => b2n m.up * 2 ^ 31 + m.dpc * 2 ^ 26 + m.speed * 2 ^ 16 + m.gib
    | 0x04 => m.eccc.toNat
    | 0x08 => m.eccu.toNat
    | 0x0C => bits m.faila.toNat 31 0
    | 0x10 => bits m.faila.toNat 63 32
    | _ => 0
  else 0
/-- The ring a host-block offset lies in, and the register's offset. -/
def ringAt (o : Nat) : Option (Nat × Nat) :=
  if 0x2000 ≤ o ∧ o < 0x3000 then some ((o - 0x2000) / 0x40, o % 0x40)
  else if 0x3000 ≤ o ∧ o < 0x3400 then some (64 + (o - 0x3000) / 0x40, o % 0x40)
  else none
/-- A ring register (Table 9.10). -/
def Dev.readRing (d : Dev) (r o : Nat) : Nat :=
  let x := d.ring r
  match o with
  | 0x00 => x.base.toNat
  | 0x04 => b2n x.en * 2 ^ 31 + x.size
  | 0x08 => x.tail
  | 0x0C => x.head
  | 0x14 => x.stat
  | 0x18 => if r < 64 then 0 else x.own.toNat
  | _ => 0
/-- CH_STAT.STATE (Table 10.8). -/
def Dev.chanState (d : Dev) (x : Chan) : Nat :=
  if x.state ≠ 1 then x.state
  else if x.cur.any (fun r => r.run) then 2
  else if !x.cur.isEmpty && !x.slotFree then 4
  else if x.head ≠ x.tail ∧ ¬ d.paceOk x then 3
  else 1
/-- A channel register (Table 10.8). -/
def Dev.readChan (d : Dev) (e c o : Nat) : Nat :=
  let x := d.chan e c
  match o with
  | 0x00 => b2n x.en * 2 ^ 31
  | 0x04 => d.chanState x * 2 ^ 28 + x.lastSt * 2 ^ 16 + x.head
  | 0x08 => bits x.rbase 31 0
  | 0x0C => bits x.rbase 45 32
  | 0x10 => x.rsize
  | 0x14 => x.tail
  | 0x18 => bits x.cbase 31 0
  | 0x1C => b2n x.chost * 2 ^ 31 + bits x.cbase 62 32
  | 0x20 => x.csize
  | 0x24 => x.chead
  | 0x28 => x.ctail
  | 0x2C => x.ccnt.toNat
  | 0x30 => x.auth.toNat
  | 0x34 => x.trig
  | 0x40 => x.pace.toNat
  | 0x44 => x.kmask.toNat
  | 0x48 => x.note.toNat
  | 0x4C => b2n x.arm * 2 ^ 31 + b2n x.late * 2 ^ 30
  | 0x60 => x.apace.toNat
  | 0x64 => x.akmask.toNat
  | 0x68 => x.anote.toNat
  | _ => 0
/-- A register of an engine block (Table 15.4). -/
def Dev.readEngine (d : Dev) (e o : Nat) : Nat :=
  let g := d.engine e
  if ¬ d.powered (91 + e) then 0
  else if 0x1000 ≤ o ∧ o < 0x1800 then d.readChan e ((o - 0x1000) / 0x80) (o % 0x80)
  else match o with
    | 0x00 => b2n g.stopped * 2 ^ 31
    | 0x04 => g.err * 2 ^ 28
    | 0x08 => bits g.erra.toNat 31 0
    | 0x0C => bits g.erra.toNat 63 32
    | 0x10 => g.refuse.toNat
    | 0x14 => g.dberr.toNat
    | _ => 0
/-- DL_STAT of a port. -/
def Port.stat (x : Port) : Nat := x.state * 2 ^ 29 + b2n x.peer * 2 ^ 28 + b2n x.retrained * 2 ^ 27 + b2n x.refused * 2 ^ 26 + x.peerId
/-- A port register (Table 15.5). -/
def Dev.readPort (d : Dev) (p o : Nat) : Nat :=
  let x := d.port p
  if ¬ d.powered (86 + p) then 0
  else match o with
    | 0x00 => b2n x.en * 2 ^ 31 + b2n x.drain * 2 ^ 30 + b2n x.cut * 2 ^ 29 + b2n x.loop * 2 ^ 28
    | 0x04 => x.stat
    | 0x10 => x.malf
    | 0x14 => x.naktx.toNat
    | 0x18 => x.nakrx.toNat
    | 0x1C => x.lastNak.toNat
    | 0x20 => x.gap.toNat
    | 0x24 => x.stomps.toNat
    | 0x28 => x.retrains.toNat
    | 0x2C => x.fecc.toNat
    | 0x30 => x.fecu.toNat
    | 0x34 => x.rxhold.toNat
    | _ => 0
/-- A register of the Derrik block. -/
def Dev.readDerrik (d : Dev) (o : Nat) : Nat :=
  if o < 0x400 then d.readPort (o / 0x100) (o % 0x100)
  else if o = 0x800 then d.dl.devid.toNat
  else if 0x3100 ≤ o ∧ o < 0x3200 then (Tab.get d.dl.xmCnt ((o - 0x3100) / 4) 0).toNat
  else if o = 0x3200 then d.dl.xmRefuse.toNat
  else 0
/-- A register of the epoch block (Table 15.6). -/
def Dev.readEpoch (d : Dev) (o : Nat) : Nat :=
  let x := d.ep
  if 0x1000 ≤ o ∧ o < 0x2000 then
    let y := d.evSlot ((o - 0x1000) / 16)
    match o % 16 with
    | 0x0 => bits y.epoch 31 0
    | 0x4 => bits y.epoch 47 32
    | 0x8 => y.tick
    | _ => y.ctl.toNat
  else match o with
    | 0x00 => x.ctlRead.toNat
    | 0x04 => x.stat.toNat
    | 0x10 => bits x.load 31 0
    | 0x14 => bits x.load 47 32
    | 0x18 => x.note.toNat
    | 0x1C => x.loss.toNat
    | 0x20 => x.bad.toNat
    | _ => 0
/-- RC_STAT. -/
def Recorder.stat (r : Recorder) : Nat := b2n r.buf * 2 ^ 31 + b2n r.writing * 2 ^ 30 + b2n r.pending * 2 ^ 29 + b2n r.noted * 2 ^ 10 + r.active.events.length
/-- A register of the recorder block (Table 15.7). -/
def Dev.readRecorder (d : Dev) (o : Nat) : Nat :=
  let r := d.rc
  if 0x100 ≤ o ∧ o < 0x200 then
    let ch := (o - 0x100) / 8
    if o % 8 = 0 then (Tab.get r.mlo ch (BitVec.ofNat 32 (measDefault ch).1)).toNat else (Tab.get r.mw ch (BitVec.ofNat 32 (measDefault ch).2)).toNat
  else if 0x44 ≤ o ∧ o < 0x70 then r.threshold ((o - 0x40) / 4)
  else match o with
    | 0x00 => r.ctl.toNat
    | 0x04 => r.stat
    | 0x08 => r.note.toNat
    | 0x10 => r.lost.toNat
    | 0x14 => r.skip.toNat
    | 0x18 => r.supp.toNat
    | 0x20 => r.pcc
    | 0x24 => bits r.opt 31 0
    | 0x28 => r.optH.toNat
    | 0x2C => bits r.lser 31 0
    | 0x30 => bits r.lser 63 32
    | 0x34 => bits r.fser 31 0
    | _ => 0
/-- A register of the power block (Table 15.8). PD_STATE and the LK registers overlap in the table from 0x200 on; the LK registers answer there (log entry 23). -/
def Dev.readPower (d : Dev) (o : Nat) : Nat :=
  let p := d.pw
  if 0x100 ≤ o ∧ o < 0x280 ∧ o % 4 = 0 ∧ ¬ (0x200 ≤ o ∧ o < 0x218) ∧ ¬ (0x220 ≤ o ∧ o < 0x230) then
    let n := (o - 0x100) / 4
    (d.dom n).last * 16 + d.domState n
  else match o with
    | 0x04 => p.res.toNat
    | 0x08 => p.note.toNat
    | 0x0C => p.tres.toNat
    | 0x10 => bits p.boot.toNat 30 29 * 2 ^ 29
    | 0x20 => bits p.cpres.toNat 31 0
    | 0x24 => bits p.cpres.toNat 63 32
    | 0x28 => bits p.cpres.toNat 95 64
    | 0x2C => bits p.cpres.toNat 127 96
    | 0x30 => p.devid.toNat
    | 0x40 => p.memil.toNat
    | 0x88 => d.imgStat
    | 0x200 => p.lkctl.toNat
    | 0x204 => d.lkSum 0
    | 0x208 => d.lkSum 1
    | 0x20C => d.lkSum 2
    | 0x210 => d.lkSum 3
    | 0x214 => p.lksel
    | 0x220 => (d.lkRec p.lksel).word0 p.lksel
    | 0x224 => (d.lkRec p.lksel).cause.toNat
    | 0x228 => (d.lkRec p.lksel).epc.toNat
    | 0x22C => (d.lkRec p.lksel).tsbp.toNat
    | _ => 0
/-- JS_STAT of a stream. -/
def Dev.streamStat (d : Dev) (s : Nat) : Nat :=
  let x := d.stream s
  d.streamState s * 2 ^ 30 + x.why * 2 ^ 26 + b2n x.lows * 2 ^ 25 + x.segs.length
/-- Highest and lowest segment allocation counts. -/
def Dev.wearMax (d : Dev) : Nat := ((List.range segCount).map d.segUses).foldl Nat.max 0
/-- Lowest segment allocation count. -/
def Dev.wearMin (d : Dev) : Nat := ((List.range segCount).map d.segUses).foldl Nat.min (2 ^ 32 - 1)
/-- A register of the journal block (Table 15.9); Mirror registers are read by MS_ID. -/
def Dev.readJournal (d : Dev) (o : Nat) : Nat :=
  if 0x1000 ≤ o ∧ o < 0x3000 then
    let s := (o - 0x1000) / 0x80
    let x := d.stream s
    let (e, q) := x.last.getD (0, 0)
    let r := o % 0x80
    if 0x40 ≤ r ∧ r < 0x60 then leAt x.dig (r - 0x40) 4
    else match r with
      | 0x04 => b2n x.en * 2 ^ 31 + x.quota * 2 ^ 16 + x.low
      | 0x08 => d.streamStat s
      | 0x10 => bits x.dur.toNat 31 0
      | 0x14 => bits x.dur.toNat 63 32
      | 0x18 => bits x.rel.toNat 31 0
      | 0x1C => bits x.rel.toNat 63 32
      | 0x20 => bits e 31 0
      | 0x24 => bits e 47 32
      | 0x28 => q
      | 0x60 => bits x.dep 31 0
      | 0x64 => bits x.dep 47 32
      | _ => 0
  else match o with
    | 0x00 => bits d.jr.wear.toNat 31 0
    | 0x04 => bits d.jr.wear.toNat 63 32
    | 0x08 => d.wearMax
    | 0x0C => d.wearMin
    | 0x10 => d.jfree
    | _ => 0
/-- MSUM. -/
def Dev.msum (d : Dev) : Nat :=
  ((List.range 16).map (fun i => b2n ((d.stageSlot i).st == 1) * 2 ^ (16 + i))).sum + b2n d.mi.full * 4 + b2n d.mi.exp * 2 + b2n d.mi.new
/-- A register of the protection block (Table 15.10), in the bank of an origin. -/
def Dev.readProt (d : Dev) (org : Option Origin) (o : Nat) : Nat :=
  let bank := match org with | some x => d.bank x | none => {}
  if 0x100 ≤ o ∧ o < 0x300 then
    let z := d.stageSlot ((o - 0x100) / 32)
    match o % 32 with
    | 0x00 => z.id.toNat
    | 0x04 => z.val.toNat
    | 0x08 => z.st * 2 ^ 29 + z.org * 2 ^ 24 + z.ticket
    | 0x0C => z.age
    | _ => 0
  else match o with
    | 0x000 => b2n d.mi.armed * 2 ^ 31 + (d.committed midMCTL).toNat
    | 0x004 => d.msum
    | 0x008 => d.mi.refuse.toNat
    | 0x404 => bank.val.toNat
    | 0x408 => bank.mask.toNat
    | 0x40C => bank.res
    | 0x410 => bank.last.toNat
    | _ => 0
/-- What a read of a device register returns to a reader; offsets no table lists read as zero (R406). -/
def Dev.regValue (d : Dev) (who : Agent) (off : Nat) : Nat :=
  let (b, o) := blkOf off
  if isMirror off ∧ off ≠ midMCTL then (d.committed off).toNat
  else match b with
    | .core n => d.readCore n o
    | .mem => d.readMem o
    | .host => match ringAt o with
      | some (r, i) => d.readRing r i
      | none => 0
    | .engine e => d.readEngine e o
    | .derrik => d.readDerrik o
    | .epoch => d.readEpoch o
    | .recorder => d.readRecorder o
    | .power => d.readPower o
    | .journal => d.readJournal o
    | .prot => d.readProt (d.originOf who) o
    | .none => 0

/-- The counters of a port that a read clears. -/
def Port.readClear (x : Port) (o : Nat) : Port :=
  match o with
  | 0x14 => { x with naktx := 0 }
  | 0x18 => { x with nakrx := 0 }
  | 0x20 => { x with gap := 0 }
  | 0x24 => { x with stomps := 0 }
  | 0x28 => { x with retrains := 0 }
  | 0x2C => { x with fecc := 0 }
  | 0x30 => { x with fecu := 0 }
  | 0x34 => { x with rxhold := 0 }
  | _ => x
/-- What a read does beside returning its value: RC registers clear, RC_OPT_L latches RC_OPT_H (R11, R359). -/
def Dev.regTouch (d : Dev) (off : Nat) : Dev :=
  let (b, o) := blkOf off
  match b with
  | .core n => if o = 0x408 ∧ d.powered (n / 2) then d.setCore n { d.core n with evdrop := 0 } else d
  | .mem =>
    if 0x100 ≤ o ∧ o < 0x280 ∧ (o % 32 = 4 ∨ o % 32 = 8) ∧ d.powered (80 + (o - 0x100) / 64) then
      let c := (o - 0x100) / 32
      let m := Tab.get d.mc.chans c {}
      { d with mc := { d.mc with chans := Tab.set d.mc.chans c (if o % 32 = 4 then { m with eccc := 0 } else { m with eccu := 0 }) } }
    else d
  | .engine e =>
    if ¬ d.powered (91 + e) then d
    else if o = 0x10 then d.setEngine e { d.engine e with refuse := 0 }
    else if o = 0x14 then d.setEngine e { d.engine e with dberr := 0 } else d
  | .derrik =>
    if o = 0x3200 then { d with dl := { d.dl with xmRefuse := 0 } }
    else if o < 0x400 ∧ d.powered (86 + o / 0x100) then d.setPort (o / 0x100) ((d.port (o / 0x100)).readClear (o % 0x100)) else d
  | .epoch => if o = 0x20 then { d with ep := { d.ep with bad := 0 } } else d
  | .recorder =>
    match o with
    | 0x10 => { d with rc := { d.rc with lost := 0 } }
    | 0x14 => { d with rc := { d.rc with skip := 0 } }
    | 0x18 => { d with rc := { d.rc with supp := 0 } }
    | 0x24 => { d with rc := { d.rc with optH := BitVec.ofNat 32 (bits d.rc.opt 63 32) } }
    | _ => d
  | .prot => if o = 8 then { d with mi := { d.mi with refuse := 0 } } else d
  | _ => d

/-! ## Writes -/

/-- A write to a core-block register; SCHCTL and TTBP are the ones that can be written. -/
def Dev.writeCore (d : Dev) (n o v : Nat) : Dev :=
  let c := d.core n
  if ¬ d.powered (n / 2) then d
  else if o = 0x400 then d.setCore n { c with schctl := masked v 0xBF00FF00 }
  else if o = 0x404 then d.setCore n { c with ttbp := masked v 0x07FFFC00 } else d
/-- A write to a register of an engine block. -/
def Dev.writeEngine (d : Dev) (who : Agent) (e o v : Nat) : Dev :=
  if ¬ d.engineOn e then d
  else if 0x1000 ≤ o ∧ o < 0x1800 then d.writeChan who e ((o - 0x1000) / 0x80) (o % 0x80) v
  else if o = 0 ∧ bit v 30 then d.restartEngine e else d
/-- A write to a register of the Derrik block. -/
def Dev.writeDerrik (d : Dev) (who : Agent) (o v : Nat) : Dev :=
  if o < 0x400 then
    let p := o / 0x100
    if ¬ d.powered (86 + p) then d
    else if o % 0x100 = 0 then d.writeDlCtl p v
    else if o % 0x100 = 4 then let x := d.port p; d.setPort p { x with retrained := x.retrained && bit v 27, refused := x.refused && bit v 26 }
    else d
  else if o = 0x800 then { d with dl := { d.dl with devid := masked v 0xFFFF } }
  else if 0x3000 ≤ o ∧ o < 0x3100 then d.xmSend who ((o - 0x3000) / 4) v
  else d
/-- A write to a register of the epoch block. -/
def Dev.writeEpoch (d : Dev) (o v : Nat) : Dev :=
  let x := d.ep
  if 0x1000 ≤ o ∧ o < 0x2000 then d.writeSlot ((o - 0x1000) / 16) (o % 16) v
  else match o with
    | 0x00 => d.writeEpctl v
    | 0x04 => { d with ep := { x with stat := BitVec.ofNat 32 (setBits x.stat.toNat 27 23 (bits x.stat.toNat 27 23 &&& bits v 27 23)) } }
    | 0x10 => if bit x.ctl.toNat 31 then d else { d with ep := { x with load := setBits x.load 31 0 v } }
    | 0x14 => if bit x.ctl.toNat 31 then d else { d with ep := { x with load := setBits x.load 47 32 v } }
    | 0x18 => { d with ep := { x with note := masked v noteMask } }
    | 0x1C => { d with ep := { x with loss := masked v 0xFFFF } }
    | _ => d
/-- A write to a register of the recorder block. -/
def Dev.writeRecorder (d : Dev) (who : Agent) (o v : Nat) : Dev :=
  let r := d.rc
  if 0x100 ≤ o ∧ o < 0x200 then
    let ch := (o - 0x100) / 8
    if o % 8 = 0 then { d with rc := { r with mlo := Tab.set r.mlo ch (BitVec.ofNat 32 v) } }
    else { d with rc := { r with mw := Tab.set r.mw ch (BitVec.ofNat 32 (Nat.max 1 v)) } }
  else if 0x44 ≤ o ∧ o < 0x70 then { d with rc := { r with thr := Tab.set r.thr ((o - 0x40) / 4) (Nat.max 1 (bits v 15 0)) } }
  else match o with
    | 0x00 => d.writeRcCtl who v
    | 0x04 => if bit v 10 then { d with rc := { r with noted := false } } else d
    | 0x08 => { d with rc := { r with note := masked v noteMask } }
    | 0x38 => if d.atM who then d.clearRecorder v (match who with | .pupor => 3 | _ => 2) else d
    | _ => d
/-- A write to a register of the power block. -/
def Dev.writePower (d : Dev) (o v : Nat) : Dev :=
  let p := d.pw
  match o with
  | 0x00 => d.pdRequest v
  | 0x08 => { d with pw := { p with note := masked v noteMask } }
  | 0x10 => if bit v 31 then d.bootDone else d
  | 0x40 => d.writeMemil v
  | 0x80 => d.writeImgCtl v
  | 0x84 => d.imgDataCtl v
  | 0x200 => { d with pw := { p with lkctl := masked v 0x80000087 } }
  | 0x214 => { d with pw := { p with lksel := bits v 6 0 } }
  | 0x220 => if bit v 31 then { d with pw := { p with lkrec := Tab.set p.lkrec p.lksel { d.lkRec p.lksel with v := false } } } else d
  | _ => d
/-- A write to a register of the journal block. -/
def Dev.writeJournal (d : Dev) (o v : Nat) : Dev :=
  if 0x1000 ≤ o ∧ o < 0x3000 then
    let s := (o - 0x1000) / 0x80
    match o % 0x80 with
    | 0x04 => d.writeJsCtl s v
    | 0x08 => let x := d.stream s; d.setStream s { x with lows := x.lows && bit v 25 }
    | _ => d
  else d
/-- A write to a register of the protection block that is no Mirror register, by an origin. -/
def Dev.writeProt (d : Dev) (org : Option Origin) (o v : Nat) : Dev :=
  match org with
  | none => d
  | some x =>
    match o with
    | 0x004 => { d with mi := { d.mi with full := d.mi.full && !bit v 2, exp := d.mi.exp && !bit v 1, new := d.mi.new && !bit v 0 } }
    | 0x400 => d.mcsWrite x v
    | 0x404 => d.setBank x { d.bank x with val := BitVec.ofNat 32 v }
    | 0x408 => d.setBank x { d.bank x with mask := BitVec.ofNat 16 v }
    | _ => d
/-- A write to a device register; offsets no table lists ignore it (R406). -/
def Dev.regWrite (d : Dev) (who : Agent) (off v : Nat) : Dev :=
  let (b, o) := blkOf off
  if isMirror off then d.mirrorWrite who off (BitVec.ofNat 32 v)
  else match b with
    | .core n => d.writeCore n o v
    | .host => match ringAt o with
      | some (r, i) => d.ringWrite r i v
      | none => d
    | .engine e => d.writeEngine who e o v
    | .derrik => d.writeDerrik who o v
    | .epoch => d.writeEpoch o v
    | .recorder => d.writeRecorder who o v
    | .power => d.writePower o v
    | .journal => d.writeJournal o v
    | .prot => d.writeProt (d.originOf who) o v
    | .mem => d
    | .none => d

/-! ## The function space (Tables 9.2, 9.5, 15.11) -/

/-- SQ_STAT. -/
def Sq.stat (y : Sq) : Nat := b2n (decide (y.left ≤ b2n (y.cur.any (fun e => !e.past)))) * 2 ^ 31 + b2n y.err * 2 ^ 30 + y.head
/-- A register of a submission queue. -/
def Sq.reg (y : Sq) (r : Nat) : Nat :=
  match r with
  | 0x00 => bits y.base.toNat 31 0
  | 0x04 => bits y.base.toNat 63 32
  | 0x08 => b2n y.en * 2 ^ 31 + b2n y.kind * 2 ^ 30 + y.target * 2 ^ 16 + y.cq * 2 ^ 8 + y.burst * 16
  | 0x0C => y.size
  | 0x10 => y.stat
  | 0x14 => y.tail
  | _ => 0
/-- A register of a completion queue. -/
def Cq.reg (y : Cq) (r : Nat) : Nat :=
  match r with
  | 0x00 => bits y.base.toNat 31 0
  | 0x04 => bits y.base.toNat 63 32
  | 0x08 => b2n y.en * 2 ^ 31 + y.vec * 2 ^ 16 + b2n y.ien * 2 ^ 15
  | 0x0C => y.size
  | 0x10 => y.mod_.toNat
  | 0x14 => b2n y.full * 2 ^ 31 + b2n y.err * 2 ^ 30 + y.tail
  | 0x18 => y.head
  | _ => 0
/-- A BAR0 register of a function as it reads (Table 9.2). -/
def Dev.bar0Value (d : Dev) (f o : Nat) : Nat :=
  let x := d.fn f
  if 0x10000 ≤ o ∧ o < 0x20000 ∧ f = 0 then (if x.has 8 then d.regValue (.host 0) (0x0F000000 + (o - 0x10000)) else 0)
  else if 0x1000 ≤ o ∧ o < 0x3000 then (let q := (o - 0x1000) / 0x20; if d.owns f q false then (x.sq q).reg (o % 0x20) else 0)
  else if 0x3000 ≤ o ∧ o < 0x5000 then (let q := (o - 0x3000) / 0x20; if d.owns f q true then (x.cq q).reg (o % 0x20) else 0)
  else if 0x5000 ≤ o ∧ o < 0x5000 + 16 * (if f = 0 then 65 else 17) then
    let m := Tab.get x.msix ((o - 0x5000) / 16) {}
    match o % 16 with
    | 0 => bits m.addr.toNat 31 0
    | 4 => bits m.addr.toNat 63 32
    | 8 => m.data.toNat
    | _ => b2n m.mask
  else if 0x5800 ≤ o ∧ o < 0x580C then
    ((List.range 32).map (fun i => b2n (Tab.get x.msix ((o - 0x5800) * 8 + i) {}).pend * 2 ^ i)).sum
  else if 0x100 ≤ o ∧ o < 0x300 ∧ f = 0 then (if x.has 9 then (d.fn ((o - 0x100) / 8)).rangeOf (o % 8 == 4) else 0)
  else if 0x10 ≤ o ∧ o < 0x30 then (let w := (d.feat f ((o - 0x10) / 8)).toNat; if o % 8 = 4 then bits w 63 32 else bits w 31 0)
  else if 0x30 ≤ o ∧ o < 0x50 then (let w := (Tab.get x.facc ((o - 0x30) / 8) 0).toNat; if o % 8 = 4 then bits w 63 32 else bits w 31 0)
  else if 0x90 ≤ o ∧ o < 0xA0 then (if x.has 15 then d.readPort ((o - 0x90) / 4) 4 else 0)
  else match o with
    | 0x00 => f
    | 0x50 => b2n x.closed * 2
    | 0x54 => x.fstat.toNat
    | 0x58 => x.dberr.toNat
    | 0x5C => x.descerr.toNat
    | 0x60 => x.cpldrop.toNat
    | 0x70 => if x.has 14 then bits d.ep.epoch 31 0 else 0
    | 0x74 => if x.has 14 then x.epH.toNat else 0
    | 0x78 => if x.has 14 then x.epT.toNat else 0
    | 0x7C => if x.has 14 then d.ep.stat.toNat else 0
    | 0x80 => if f = 0 && x.has 8 then d.host.mwin.toNat else 0
    | 0x84 => if f = 0 && x.has 8 && isMirror d.host.mwin.toNat then (d.committed d.host.mwin.toNat).toNat else 0
    | _ => 0
/-- What a BAR0 read does beside returning its value: RC registers clear, EPR_EL latches, the window reads through. -/
def Dev.bar0Touch (d : Dev) (f o : Nat) : Dev :=
  let x := d.fn f
  if 0x10000 ≤ o ∧ o < 0x20000 ∧ f = 0 ∧ x.has 8 then d.regTouch (0x0F000000 + (o - 0x10000))
  else match o with
    | 0x58 => d.setFn f { x with dberr := 0 }
    | 0x5C => d.setFn f { x with descerr := 0 }
    | 0x60 => d.setFn f { x with cpldrop := 0 }
    | 0x70 => if x.has 14 then d.setFn f { x with epH := BitVec.ofNat 32 (bits d.ep.epoch 47 32), epT := BitVec.ofNat 32 d.ep.tick } else d
    | _ => d
/-- Whether an access is of one aligned 32-bit word (R226, R280). -/
def wordAt (o size : Nat) : Bool := o % 4 == 0 && size == 4
/-- A host read of BAR0: a single aligned word is answered with the register, anything else with zero (R280). -/
def Dev.bar0Read (d : Dev) (f o size : Nat) : Dev :=
  let v : Word := if wordAt o size then BitVec.ofNat 32 (d.bar0Value f o) else 0
  let d1 := if wordAt o size then d.bar0Touch f o else d
  { d1 with host := { d1.host with out := d1.host.out ++ [.rdata f v] } }
/-- A write to the MSI-X table: address, data, or the mask, whose clearing sends a held message. -/
def Dev.writeMsix (d : Dev) (f o v : Nat) : Dev :=
  let n := o / 16
  let x := d.fn f
  let m := Tab.get x.msix n {}
  let put := fun (y : Msix) => d.setFn f { x with msix := Tab.set x.msix n y }
  if (if f = 0 then 65 else 17) ≤ n then d
  else match o % 16 with
    | 0 => put { m with addr := BitVec.ofNat 64 (setBits m.addr.toNat 31 0 (v - v % 4)) }
    | 4 => put { m with addr := BitVec.ofNat 64 (setBits m.addr.toNat 63 32 v) }
    | 8 => put { m with data := BitVec.ofNat 32 v }
    | _ => if bit v 0 then put { m with mask := true } else d.unmask f n
/-- A host write of an aligned word to BAR0 (Table 9.2). -/
def Dev.bar0Write (d : Dev) (f o size v : Nat) : Dev :=
  let x := d.fn f
  if !wordAt o size then d
  else if 0x10000 ≤ o ∧ o < 0x20000 ∧ f = 0 then (if x.has 8 then d.regWrite (.host 0) (0x0F000000 + (o - 0x10000)) v else d)
  else if 0x1000 ≤ o ∧ o < 0x5000 then d.writeQueueReg f o v
  else if 0x5000 ≤ o ∧ o < 0x5800 then d.writeMsix f (o - 0x5000) v
  else if 0x100 ≤ o ∧ o < 0x300 ∧ f = 0 then d.writeVfq 0 ((o - 0x100) / 8) (o % 8 == 4) v
  else if 0x30 ≤ o ∧ o < 0x50 then d.writeFaccHalf f ((o - 0x30) / 8) (o % 8 == 4) v
  else match o with
    | 0x50 => if bit v 0 then d.closeFeat f else d
    | 0x54 => d.setFn f { x with fstat := x.fstat &&& ~~~(masked v 0x1F) }
    | 0x80 => if f = 0 && x.has 8 then { d with host := { d.host with mwin := masked v 0xCFFFFFFF } } else d
    | 0x84 => if f = 0 then d.writeMwin (BitVec.ofNat 32 v) else d
    | _ => d
/-- A host write to BAR2: doorbells; reserved offsets and accesses of the wrong form are counted (R280, R283, R294). -/
def Dev.bar2Write (d : Dev) (f o size v : Nat) : Dev :=
  let x := d.fn f
  if !wordAt o size then (if x.closed then d.setFn f { x with dberr := satAdd x.dberr 1 } else d.dbErr f 4)
  else if ¬ x.closed then d.dbErr f 4
  else if o < 0x400 then d.tailBell f (o / 4) v
  else if o < 0x800 then d.headBell f ((o - 0x400) / 4) v
  else d.dbErr f 2

/-! ## The commands -/

/-- Address bit of a host access that names BAR2 rather than BAR0. -/
def bar2Flag : Nat := 0x8000000
/-- A write by anyone at an address: a device-register offset, or for a host function a BAR0 offset, with bit 27 a BAR2 offset. -/
def Dev.anyWrite (d : Dev) (who : Agent) (a size v : Nat) : Dev :=
  match who with
  | .host f => d.byHost f.toNat (fun e => if bit a 27 then e.bar2Write f.toNat (a % 0x1000) size v else e.bar0Write f.toNat a size v)
  | _ =>
    let e := if isMirror a && (d.originOf who).isNone then d.mirrorWrite who a (BitVec.ofNat 32 v) else d
    if wordAt a size && e.allowed who a true then e.regWrite who a v else e
/-- A read by anyone at an address. -/
def Dev.anyRead (d : Dev) (who : Agent) (a size : Nat) : Dev :=
  match who with
  | .host f => d.byHost f.toNat (fun e => e.bar0Read f.toNat a size)
  | _ => if wordAt a size && d.allowed who a false then d.regTouch a else d
/-- REGISTER_WRITE: `size` bytes at an address; the value of a write of another size than a word is never used. -/
def execRegisterWrite (who : Agent) (addr : RegAccess) (value : Word) (s : State) : Host.Outcome State Fault Refusal :=
  .next (s.run (fun d => d.anyWrite who addr.addr.toNat addr.size.toNat value.toNat))
/-- READ_CLEAR_REGISTER. -/
def execReadClearRegister (who : Agent) (addr : RegAccess) (s : State) : Host.Outcome State Fault Refusal :=
  .next (s.run (fun d => d.anyRead who addr.addr.toNat addr.size.toNat))

end Sys2Proof.Machine
end

