-- ==== Sys2Proof/Machine/Boot.lean ====
section
/-! DEFINITION. Power-on, resets, start-up, the image store and repair requests as commands (R369 to R383, R410). -/

namespace Sys2Proof.Machine

/-! ## Start-up (R374, R376) -/

/-- CPRES: one bit per core that is present. -/
def Power.presence (p : Power) : BitVec 128 := BitVec.ofNat 128 (((List.range 128).map (fun n => if p.fused.getLsbD (n / 2) then 0 else 2 ^ n)).sum)
/-- Step 1: PCC counted at the first start after power-on (DEDUCED, log entry 81), the fuses read, the kept Mirror values restored. -/
def Dev.startFuses (d : Dev) : Dev :=
  { d with
    rc := { d.rc with pcc := if d.pw.fromPower then Nat.min (d.rc.pcc + 1) 0xFFFFFFFF else d.rc.pcc }
    pw := { d.pw with fromPower := false, devid := BitVec.ofNat 32 (d.pw.part * 0x1000000 + 0xB10000), cpres := d.pw.presence, pstate := 2, hotWait := false }
    mi := { d.mi with vals := setAll d.mi.vals d.mi.kept, regs := setAll d.mi.regs d.mi.kept } }
/-- Step 2: the security engine, fabrics and Loam banks powered, Loam zero, the recovery scan begun. -/
def Dev.startLoam (d : Dev) : Dev :=
  let d1 := (d.setDoms (95 :: rangeFrom 64 16) 1).clearRange 0 0x08000000
  { d1 with jr := { d1.jr with scanning := true } }
/-- Where start-up puts the firmware. -/
def fwBase : Nat := 0x40000
/-- Step 3: the images verified, the firmware decrypted into Loam. -/
def Dev.startImages (d : Dev) : Dev :=
  let d1 := (d.recordBadBanks 1).recordBadBanks 2
  let d2 := { d1 with pw := { d1.pw with fwBank := d1.bestBank 2, ptBank := d1.bestBank 1 } }
  match d2.pw.fwBank with
  | some i => let im := (d2.imgBank i).data; d2.put fwBase (padTo (imgLen im) (Config.decryptBody im))
  | none => d2
/-- Steps 4 and 5: the memory pairs trained, the endpoint powered. -/
def Dev.startLinks (d : Dev) : Dev := ((d.setDoms (90 :: rangeFrom 80 6) 1).train (List.range 12)).setCap
/-- The EVEC_M of every bay. -/
def Dev.setVectors (d : Dev) (pc : Word) : Dev :=
  let vs := (List.range 512).map (fun i => (midEVECM (i / 4) (i % 4), pc))
  { d with mi := { d.mi with vals := setAll d.mi.vals vs, regs := setAll d.mi.regs vs } }
/-- The core pairs that are present. -/
def Dev.presentPairs (d : Dev) : List Nat := (List.range 64).filter (fun k => !d.pw.fused.getLsbD k)
/-- Step 6: the present pairs powered with their patches, every bay's entry point set, the cores reset. -/
def Dev.startCores (d : Dev) (entry : Nat) : Dev :=
  let d1 := (d.setDoms d.presentPairs 1).setVectors (BitVec.ofNat 32 (fwBase + entry))
  d1.presentPairs.foldl (fun (e : Dev) k =>
    ((((e.setCore (2 * k) {}).setCore (2 * k + 1) {}).resetCore (2 * k) 1).resetCore (2 * k + 1) 1).patchPair k e.startPatch) d1
/-- Start-up ended: Pupor arms dual control (R254). -/
def Dev.startEnd (d : Dev) : Dev := { d with pw := { d.pw with stage := .finished }, mi := { d.mi with armed := true } }
/-- Steps 1 to 6; it ends at once where no firmware verifies. After a THERMTRIP step 1 waits until the sensor that reads in STANDBY has read below 95 °C (R396). -/
def Dev.startup (d : Dev) : Dev :=
  if d.pw.stage ≠ .off ∨ d.pw.pfail ∨ (d.pw.hotWait ∧ 760 ≤ Tab.get d.pw.temp 8 760) then d
  else
    let d1 := d.startFuses.startLoam.startImages.startLinks
    match d1.pw.fwBank with
    | none => { d1 with pw := { d1.pw with boot := 0x40000000 } }.startEnd
    | some i => let d2 := d1.startCores (imgEntry (d1.imgBank i).data); { d2 with pw := { d2.pw with stage := .training } }
/-- STARTUP. -/
def execStartup (s : State) : Host.Outcome State Fault Refusal := .next (s.run (fun d => d.startup))
/-- Step 7: the engines powered, bay 0 of every present core released. -/
def Dev.releaseCores (d : Dev) : Dev :=
  if d.pw.stage ≠ .training then d
  else
    let d1 := d.setDoms (rangeFrom 91 4) 1
    let d2 := d1.presentPairs.foldl (fun (e : Dev) k => e.setUp k true) d1
    { d2 with pw := { d2.pw with stage := .firmware } }
/-- CORE_RELEASE. -/
def execCoreRelease (s : State) : Host.Outcome State Fault Refusal := .next (s.run (fun d => d.releaseCores))
/-- BOOT_DONE. -/
def execBootDone (s : State) : Host.Outcome State Fault Refusal := .next (s.run (fun d => if d.pw.stage = .firmware ∨ d.pw.stage = .finished then d.bootDone else d))
/-- BOOT_TIMEOUT. -/
def execBootTimeout (s : State) : Host.Outcome State Fault Refusal :=
  .next (s.run (fun d => if d.pw.stage = .firmware then { d with pw := { d.pw with boot := d.pw.boot ||| 0x20000000 } }.startEnd else d))
/-- MEMIL_WRITE. -/
def execMemilWrite (who : Agent) (value : Word) (s : State) : Host.Outcome State Fault Refusal :=
  .next (s.run (fun d => if d.allowed who 0x0D010040 true then d.writeMemil value.toNat else d))

/-! ## Resets (R370 to R373) -/

/-- POWER_ON_RESET: VDD_AON enters its limits. -/
def execPowerOnReset (s : State) : Host.Outcome State Fault Refusal := .next (s.always (fun d => d.powerOnReset 1))
/-- VDD_AON_REMOVED: everything outside the journal array is lost. -/
def execVddAonRemoved (s : State) : Host.Outcome State Fault Refusal := .next (s.always (fun d => d.powerOnReset 0))
/-- DEVICE_RESET: RESET_N low, or PWRGOOD low with STANDBY held; whether PWRGOOD is high, which the command does not say, gives the power state that follows (R370). -/
def execDeviceReset (s : State) : Host.Outcome State Fault Refusal := .next (s.reached (fun d => (d.pinReset (Config.pwrgood d.free)).tickFree))

/-! ## Images (R378, R410) -/

/-- IMG_OPEN. -/
def execImgOpen (who : Agent) (value : Word) (s : State) : Host.Outcome State Fault Refusal :=
  .next (s.run (fun d => if d.allowed who 0x0D010080 true then d.imgOpenCtl value.toNat else d))
/-- IMG_DATA_WRITE. -/
def execImgDataWrite (who : Agent) (value : Word) (s : State) : Host.Outcome State Fault Refusal :=
  .next (s.run (fun d => if d.allowed who 0x0D010084 true then d.imgDataCtl value.toNat else d))
/-- IMG_CLOSE. -/
def execImgClose (who : Agent) (s : State) : Host.Outcome State Fault Refusal :=
  .next (s.run (fun d => if d.allowed who 0x0D010080 true then d.imgCloseCtl else d))
/-- IMG_ABANDON. -/
def execImgAbandon (who : Agent) (s : State) : Host.Outcome State Fault Refusal :=
  .next (s.run (fun d => if d.allowed who 0x0D010080 true then d.imgAbandonCtl else d))
/-- The close checks end; a mailbox close is answered with their result (R378, R386). -/
def Dev.closeChecks (d : Dev) : Dev :=
  match d.pw.imgClose with
  | none => d
  | some _ =>
    let (e, bad) := d.imgChecksEnd
    if d.pw.imgMbox ∧ e.pu.mbox.state = 1 ∧ e.pu.mbox.op = 0xB then
      match bad with
      | none => e.mboxReply 0 (toLe 1 1)
      | some c => e.mboxReply 4 (toLe 1 (c + 1))
    else e
/-- IMAGE_CLOSE_CHECKS_END. -/
def execImageCloseChecksEnd (s : State) : Host.Outcome State Fault Refusal := .next (s.run (fun d => d.closeChecks))

/-! ## Repair requests (R379 to R383) -/

/-- A PD_REQ word written by someone who may. -/
def Dev.pdWrite (d : Dev) (who : Agent) (v : Nat) : Dev := if d.allowed who 0x0D010000 true then d.pdRequest v else d
/-- DRAIN. -/
def execDrain (who : Agent) (dom : BitVec 7) (s : State) : Host.Outcome State Fault Refusal := .next (s.run (fun d => d.pdWrite who (0x10000000 + dom.toNat)))
/-- OFF. -/
def execOfff (who : Agent) (dom : BitVec 7) (s : State) : Host.Outcome State Fault Refusal := .next (s.run (fun d => d.pdWrite who (0x20000000 + dom.toNat)))
/-- ON. -/
def execOnn (who : Agent) (dom : BitVec 7) (s : State) : Host.Outcome State Fault Refusal := .next (s.run (fun d => d.pdWrite who (0x30000000 + dom.toNat)))
/-- RETURN. -/
def execReturnn (who : Agent) (dom : BitVec 7) (s : State) : Host.Outcome State Fault Refusal := .next (s.run (fun d => d.pdWrite who (0x40000000 + dom.toNat)))
/-- TEST. -/
def execTest (who : Agent) (dom : BitVec 7) (s : State) : Host.Outcome State Fault Refusal := .next (s.run (fun d => d.pdWrite who (0x50000000 + dom.toNat)))
/-- REPATCH. -/
def execRepatch (who : Agent) (dom : BitVec 7) (s : State) : Host.Outcome State Fault Refusal := .next (s.run (fun d => d.pdWrite who (0x60000000 + dom.toNat)))
/-- RECOVER: its operand is the core. -/
def execRecover (who : Agent) (core : BitVec 7) (s : State) : Host.Outcome State Fault Refusal := .next (s.run (fun d => d.pdWrite who (0x70000000 + 0x100 * core.toNat)))
/-- CANCEL. -/
def execCancel (who : Agent) (dom : BitVec 7) (s : State) : Host.Outcome State Fault Refusal := .next (s.run (fun d => d.pdWrite who (0x80000000 + dom.toNat)))
/-- PD_REQ_MALFORMED. -/
def execPdReqMalformed (who : Agent) (value : Word) (s : State) : Host.Outcome State Fault Refusal :=
  .next (s.run (fun d => if d.pdCheck value.toNat = some 0xB then d.pdWrite who value.toNat else d))
/-- DRAIN_COMPLETE. -/
def execDrainComplete (dom : BitVec 7) (s : State) : Host.Outcome State Fault Refusal :=
  .next (s.run (fun d => if d.pw.req = some (1, dom.toNat) then d.drainComplete dom.toNat else d))
/-- DRAIN_TIMEOUT. -/
def execDrainTimeout (dom : BitVec 7) (s : State) : Host.Outcome State Fault Refusal :=
  .next (s.run (fun d => if d.pw.req = some (1, dom.toNat) ∧ d.domState dom.toNat = 2 then (d.backOn dom.toNat).pdEnd 1 dom.toNat 7 else d))
/-- SELF_TEST_END. -/
def execSelfTestEnd (dom : BitVec 7) (pass : Bool) (s : State) : Host.Outcome State Fault Refusal := .next (s.run (fun d => d.selfTestEnd dom.toNat pass))
/-- REPATCH_END. -/
def execRepatchEnd (dom : BitVec 7) (s : State) : Host.Outcome State Fault Refusal := .next (s.run (fun d => d.repatchEnd dom.toNat))
/-- POWER_ON_END. -/
def execPowerOnEnd (dom : BitVec 7) (s : State) : Host.Outcome State Fault Refusal := .next (s.run (fun d => d.powerOnEnd dom.toNat))
/-- RETURN_END. -/
def execReturnEnd (dom : BitVec 7) (s : State) : Host.Outcome State Fault Refusal := .next (s.run (fun d => d.returnEnd dom.toNat))

end Sys2Proof.Machine
end

