-- ==== Sys2Proof/Machine/Ctl.lean ====
section
/-! DEFINITION. Control registers: levels, values read and values written (Tables 6.9, 7.3 and 15.12). -/

namespace Sys2Proof.Machine

/-- The lowest level that reads a control register (R208). -/
def ctlReadLevel (c : Nat) : Nat :=
  if c = 9 ∨ c = 27 ∨ c = 28 ∨ c = 30 ∨ c = 49 then 3
  else if c = 0 ∨ c = 7 ∨ c = 12 ∨ c = 13 ∨ (15 ≤ c ∧ c ≤ 23) ∨ c = 26 then 0
  else 1
/-- The lowest level that writes a control register; U for a register marked RO, whose writes are ignored (R208). -/
def ctlWriteLevel (c : Nat) : Nat :=
  if c = 9 ∨ c = 27 ∨ c = 28 ∨ c = 30 ∨ c = 48 ∨ c = 49 then 3
  else if c = 1 ∨ c = 2 ∨ c = 10 ∨ c = 12 ∨ c = 13 ∨ c = 15 ∨ (20 ≤ c ∧ c ≤ 23) ∨ c = 26 then 0
  else 1

/-- BAYID (R185). -/
def bayId (n b : Nat) : Nat := n / 16 * 2 ^ 10 + n * 4 + b
/-- The value an MFC reads: DECCTL and ASR as they stand at issue, banked registers by level (R172, R208). -/
def Dev.ctlValue (d : Dev) (n b c : Nat) : Word :=
  let x := d.bay n b
  let k := d.core n
  let m := x.level == 3
  match c with
  | 0 => x.status
  | 1 => if m then x.causeM else x.causeS
  | 2 => if m then x.epcM else x.epcS
  | 3 => x.tsbp
  | 4 => x.kmask
  | 5 => x.astag
  | 6 => x.dirty
  | 7 => BitVec.ofNat 32 x.winctl
  | 8 => x.evecS
  | 9 => d.committed (midEVECM n b)
  | 10 => if m then x.faddrM else x.faddrS
  | 11 => x.lkS
  | 12 => BitVec.ofNat 32 (x.read d.free .asr)
  | 13 => BitVec.ofNat 32 x.rsctl
  | 14 => x.repc
  | 15 => BitVec.ofNat 32 (x.read d.free .decctl)
  | 16 => x.spSrc
  | 17 => x.spDst
  | 18 => x.spCnt
  | 19 => x.spState
  | 20 => BitVec.ofNat 32 k.mcrev
  | 21 => BitVec.ofNat 32 d.ep.epoch
  | 22 => x.etH
  | 23 => x.etT
  | 24 => x.pend
  | 25 => x.bayctl
  | 26 => BitVec.ofNat 32 (bayId n b)
  | 27 => x.mrouteL
  | 28 => x.mrouteH
  | 29 => x.sscratch
  | 30 => x.mscratch
  | 48 => k.astb
  | 49 => x.mastag
  | 50 => k.tlock
  | 51 => k.kpa
  | _ => if 32 ≤ c ∧ c < 48 then Tab.get x.se (c - 32) 0 else 0

/-- MTC to STATUS: FPL, STEP and IM; PL and MB keep (R205). -/
def Bay.writeStatus (x : Bay) (v : Word) : Bay := { x with status := (v &&& 0xE4) ||| (x.status &&& 0x0B) }
/-- MTC to WINCTL: CAP unless 0 or below MDEPTH, and SF cleared by 0 (R187). -/
def Bay.writeWinctl (x : Bay) (v : Word) : Bay :=
  let cap := bits v.toNat 18 8
  { x with sf := x.sf && bit v.toNat 31, cap := if cap = 0 ∨ cap < x.mdepth then x.cap else cap }
/-- MTC to DECCTL: the controls as written, a flag cleared by 0 (R84, R86). -/
def Bay.writeDecctl (x : Bay) (v : Word) : Bay := { x with decctl := (v &&& 0xFF1FF000) ||| (x.decctl &&& v &&& 0x3F) }
/-- The mask an MTC to KMASK stores at a level (R245). -/
def Dev.kmaskValue (d : Dev) (n b : Nat) (v : Word) : Word :=
  let x := d.bay n b
  if x.level = 3 then v else v &&& d.maskLimit x.gates

/-- A control register written (R208, and each register's own table). -/
def Dev.ctlWrite (d : Dev) (n b c : Nat) (v : Word) : Dev :=
  let x := d.bay n b
  let put := fun (y : Bay) => d.setBay n b y
  match c with
  | 0 => put (x.writeStatus v)
  | 3 => put { x with tsbp := v }
  | 4 => put { x with kmask := d.kmaskValue n b v }
  | 5 => put { x with astag := v &&& 0xFFF }
  | 6 => put { x with dirty := v &&& 0x1FFFF }
  | 7 => put (x.writeWinctl v)
  | 8 => put { x with evecS := v &&& 0xFFFFFFFC }
  | 9 => d.mirrorWrite (.bay (BitVec.ofNat 7 n) (BitVec.ofNat 2 b)) (midEVECM n b) v
  | 11 => put { x with lkS := v }
  | 12 => put { x with asr := x.asr &&& v &&& 3 }
  | 13 => put { x with trap := bit v.toNat 8 }
  | 14 => put { x with repc := v &&& 0x800000FF }
  | 15 => put (x.writeDecctl v)
  | 16 => put ({ x with spSrc := v }.soil 16)
  | 17 => put ({ x with spDst := v }.soil 16)
  | 18 => put ({ x with spCnt := v }.soil 16)
  | 19 => put ({ x with spState := v &&& 0xFFF00CFF }.soil 16)
  | 24 => put { x with pend := x.pend &&& ~~~(v &&& 0x03FF03FF) }
  | 25 => put { x with bayctl := (x.bayctl &&& 0xFFFFFFFC) ||| (v &&& 3) }
  | 27 => put { x with mrouteL := v ||| 0x00204000 }
  | 28 => put { x with mrouteH := v }
  | 29 => put { x with sscratch := v }
  | 30 => put { x with mscratch := v }
  | 48 => d.modCore n (fun k => { k with astb := v })
  | 49 => put { x with mastag := v &&& 0xFFF }
  | 50 => d.modCore n (fun k => { k with tlock := v &&& 0xFFFFF01F })
  | 51 => d.modCore n (fun k => { k with kpa := v &&& 0x83FFFFFF })
  | _ => if 32 ≤ c ∧ c < 48 then put { x with se := Tab.set x.se (c - 32) (v &&& 0xFFFFFFFD) } else d

/-! ## The key port (R246) -/

/-- The address of the key byte KPA names; none where the granule has no key. -/
def Dev.keyPort (d : Dev) (n : Nat) : Option Nat :=
  let k := (d.core n).kpa.toNat
  let g := bits k 25 0
  if bit k 31 then (if g < 0x800 then some (d.keyBase + g) else none)
  else if g < d.keyLimit then some (d.keyBase + 0x800 + g) else none
/-- The check an MTC to KPV fails first: its cause and reason. -/
def Dev.keyPortRefusal (d : Dev) (n lvl : Nat) (v : Word) : Option (Nat × Nat) :=
  match d.keyPort n with
  | none => some (0x07, 0x12)
  | some a =>
    let pol := d.inForce midCPOL
    if v.getLsbD 7 then some (0x02, 0x03)
    else if lvl ≠ 3 ∧ !pol.getLsbD (bits v.toNat 4 0) then some (0x07, 0x10)
    else if lvl ≠ 3 ∧ !pol.getLsbD (bits (d.byte a).toNat 4 0) then some (0x07, 0x11)
    else none

/-! ## TLB operations (R238 to R240) -/

/-- The unlocked entries and AST entries that stay. -/
def Core.keepTlb (c : Core) (p : TlbE → Bool) (a : Nat → Bool) : Core := { c with itlb := c.itlb.filter p, dtlb := c.dtlb.filter p, tlb2 := c.tlb2.filter p, ast := c.ast.filter (fun e => a e.1) }
/-- What TLBI.VA removes: entries that cover an address in a tag, and G entries that cover it. -/
def Core.dropVa (c : Core) (tag va : Nat) : Core := c.keepTlb (fun e => !e.covers tag va) (fun _ => true)
/-- What TLBI.TAG removes. -/
def Core.dropTag (c : Core) (tag : Nat) : Core := c.keepTlb (fun e => e.perm.getLsbD 5 || e.tag != tag) (fun t => t != tag)
/-- What TLBI.ALL removes. -/
def Core.dropAll (c : Core) : Core := { c with itlb := [], dtlb := [], tlb2 := [], ast := [] }
/-- What TLBI.ALLK removes. -/
def Core.dropAllk (c : Core) : Core := { c.dropAll with lockD := [], lockI := [] }
/-- The cores an invalidation acts on: the issuing one, or with G every core whose pair is powered on. -/
def Dev.targets (d : Dev) (n : Nat) (g : Bool) : List Nat :=
  if g then (List.range 128).filter (fun m => d.powered (m / 2)) else [n]
/-- An invalidation at its targets; it stays open at each until the accesses through what it removed are performed: the stores translated before its stamp (R240). -/
def Dev.invalidate (d : Dev) (n b : Nat) (g : Bool) (f : Core → Core) : Dev :=
  let ts := d.targets n g
  let d1 := (ts.foldl (fun (e : Dev) m => e.modCore m f) d).tickFree
  d1.modCore n (fun c => { c with invs := c.invs ++ ts.map (fun m => (b, m, d1.free)) })
/-- Whether a core still holds a store translated before a stamp: in its store buffer, on its way to a block, or among the effects of an open bundle (R240). -/
def Dev.oldStores (d : Dev) (t stamp : Nat) : Bool :=
  let c := d.core t
  (c.sb ++ c.devOut).any (fun e => decide (e.born < stamp)) ||
  (List.range 4).any (fun b => match (c.bay t b).bundle with
    | some u => u.effs.any (fun e => match e with | .store _ _ _ born => decide (born < stamp) | _ => false)
    | none => false)
/-- What a lock walk found, as one number beside its entry: where it was read, and the page size. -/
def WalkHit.code (h : WalkHit) : Nat := h.addr * 4 + (if h.size = 0x1000 then 0 else if h.size = 0x10000 then 1 else 2)
/-- The walk of a lock: that of R232 without the compare-and-swap, and the checks of Table 7.7 that no kind of access decides: a hole, and the key-table region. -/
def Dev.lockWalk (d : Dev) (n tag va : Nat) (fab : Bool) : Except (Nat × Nat) WalkHit :=
  match d.walk n tag va fab with
  | .error f => .error f
  | .ok h =>
    let pa := (h.entry tag va).physical va
    if d.region pa = .hole then .error (0x06, 0x15)
    else if d.inKeyTable pa 1 then .error (0x06, 0x14)
    else .ok h
/-- TLOCK: the entry its value names locked with what the walk found, or made ordinary (R238). -/
def Dev.tlock (d : Dev) (n b : Nat) (v : Word) (pte code : Nat) : Dev :=
  let x := d.bay n b
  let w := v.toNat
  let va := bits w 31 12 * 4096
  let side := bit w 4
  let slot := bits w 3 1
  let put := fun (c : Core) (e : Option TlbE) =>
    let t := fun (l : Tab (Option TlbE)) => match e with
      | some h => Tab.set l slot (some h)
      | none => Tab.erase l slot
    if side then { c with lockI := t c.lockI } else { c with lockD := t c.lockD }
  let d1 := d.ctlWrite n b 50 v
  let h : WalkHit := { pte := pte, addr := code / 4, size := match code % 4 with | 0 => 0x1000 | 1 => 0x10000 | _ => 0x400000, ast := 0 }
  if bit w 0 then d1.modCore n (fun c => put c (some (h.entry (x.tag x.level) va)))
  else d1.modCore n (fun c =>
    match Tab.get (c.locked side) slot none with
    | some e => (put c none).cacheTlb d.free side e.tag e.va e
    | none => c)

end Sys2Proof.Machine
end

