-- ==== Sys2Proof/Machine/Sylls.lean ====
section
/-! DEFINITION. What the encoding says of each syllable: class, registers written, reserved forms, and the decoding of a syllable's word (R28 to R34, R42 to R75, R99 to R106, R118, R152, R218). -/

namespace Sys2Proof.Machine

/-- The class of a syllable (Table 2.3); X for REP. -/
inductive Cls where
  | i | m | d | b | x
  deriving DecidableEq, Repr

/-- What a syllable's encoding fixes: the registers it writes with their latencies, and the cause and reason a reserved form raises. -/
structure SInfo where
  syl : Syl
  cls : Cls
  writes : List (Nat × Nat) := []
  bad : Option (Nat × Nat) := none
  deriving DecidableEq, Repr

/-- An integer register written; x0 is exempt (R41). -/
def wI (r : Reg) (lat : Nat) : List (Nat × Nat) := if r = 0 then [] else [(r.toNat, lat)]
/-- A decimal register written. -/
def wD (r : DReg) (lat : Nat) : List (Nat × Nat) := [(32 + r.toNat, lat)]
/-- A predicate written; q0 is exempt (R41). -/
def wQ (q : Pred) (lat : Nat) : List (Nat × Nat) := if q = 0 then [] else [(64 + q.toNat, lat)]
/-- LC written. -/
def wLC : List (Nat × Nat) := [(80, 1)]
/-- LK written. -/
def wLK : List (Nat × Nat) := [(81, 1)]
/-- RS as MOVS names it (Table 2.10). -/
def wRS : List (Nat × Nat) := [(82, 1)]
/-- A reserved-operation reason where a condition holds. -/
def badIf (c : Bool) (r : Nat) : Option (Nat × Nat) := if c then some (2, r) else none
/-- The partner predicate q(T xor 1). -/
def partner (q : Pred) : Pred := q ^^^ 1

/-- A long immediate supplied to a form that takes none (R34). -/
def limmBad (p : Option Limm) (takes : Bool) : Option (Nat × Nat) := if p.isSome && !takes then some (1, 5) else none
/-- A load of the MEM format (R58, R59). -/
def loadInfo (y : Syl) (d a : Reg) (am : BitVec 2) (low : BitVec 8) (p : Option Limm) : SInfo :=
  { syl := y, cls := .m, writes := wI d 3 ++ (if 2 ≤ am.toNat then wI a 1 else [])
    bad := (limmBad p (am == 0)).or ((badIf (am == 1 && low.getLsbD 0) 3).or (badIf (decide (2 ≤ am.toNat) && d == a) 4)) }
/-- A store of the MEM format. -/
def storeInfo (y : Syl) (a : Reg) (am : BitVec 2) (low : BitVec 8) (p : Option Limm) : SInfo :=
  { syl := y, cls := .m, writes := if 2 ≤ am.toNat then wI a 1 else [], bad := (limmBad p (am == 0)).or (badIf (am == 1 && low.getLsbD 0) 3) }
/-- A compare: mode 0b11 writes two predicates and may not name q0 or q1 (R49). -/
def cmpInfo (y : Syl) (qt : Pred) (mode : BitVec 2) : SInfo :=
  { syl := y, cls := .i, writes := wQ qt 1 ++ (if mode = 3 then wQ (partner qt) 1 else []), bad := badIf (mode == 3 && decide (qt.toNat ≤ 1)) 4 }
/-- A stream: its registers are not x0 and differ (Table 3.5). -/
def streamInfo (y : Syl) (k : DReg) (a b c : Reg) (acc : Bool) : SInfo :=
  { syl := y, cls := .d, writes := if acc then wD k 1 else [], bad := badIf (a == 0 || b == 0 || c == 0 || a == b || a == c || b == c) 4 }
/-- Whether a control register number is reserved (R208). -/
def ctlReserved (c : Nat) : Bool := c == 31 || decide (53 ≤ c)
/-- An integer operation that writes D with latency 1. -/
def opI (y : Syl) (d : Reg) : SInfo := { syl := y, cls := .i, writes := wI d 1 }
/-- A D-class operation that writes an integer register. -/
def opDI (y : Syl) (d : Reg) (lat : Nat) : SInfo := { syl := y, cls := .d, writes := wI d lat }
/-- A D-class operation that writes a decimal register. -/
def opD (y : Syl) (d : DReg) (lat : Nat) : SInfo := { syl := y, cls := .d, writes := wD d lat }
/-- An M-class syllable that writes no register at a distance. -/
def opM (y : Syl) : SInfo := { syl := y, cls := .m }
/-- A B-class syllable that writes no register at a distance. -/
def opB (y : Syl) : SInfo := { syl := y, cls := .b }

/-- A syllable command as its bundle's words decode: without what only the command carries, the fabric's error of a lock walk. -/
def asDecoded : Instr → Instr
  | .mtcTlock y r => .mtcTlock y { reg := r.reg }
  | i => i

/-- What the encoding of a syllable fixes; none for a command that is no syllable. -/
def sylInfo : Instr → Option SInfo
  | .add y d _ _ | .sub y d _ _ | .addv y d _ _ | .subv y d _ _ | .andd y d _ _ | .orr y d _ _ | .xor y d _ _ | .andn y d _ _
  | .shl y d _ _ | .shr y d _ _ | .sar y d _ _ | .rol y d _ _ | .min y d _ _ | .max y d _ _ | .minu y d _ _ | .maxu y d _ _ => some (opI y d)
  | .neg y d _ | .abs y d _ | .clz y d _ | .popc y d _ | .sextb y d _ | .sexth y d _ | .zextb y d _ | .zexth y d _ | .bswap y d _ => some (opI y d)
  | .addi y d _ _ _ | .andi y d _ _ _ | .ori y d _ _ _ | .xori y d _ _ _ => some (opI y d)
  | .shli y d _ _ | .shri y d _ _ | .sari y d _ _ | .roli y d _ _ => some (opI y d)
  | .cmp y qt _ _ _ mode => some (cmpInfo y qt mode)
  | .cmpi y qt _ _ mode _ _ => some (cmpInfo y qt mode)
  | .pand y q _ _ | .por y q _ _ | .pxor y q _ _ | .pandn y q _ _ => some { syl := y, cls := .i, writes := wQ q 1 }
  | .pnot y q _ => some { syl := y, cls := .i, writes := wQ q 1 }
  | .movs y _ code => some { syl := y, cls := .i, writes := (match code.toNat with | 0 => wLC | 1 => wLK | 2 => wRS | 3 => (rangeFrom 1 15).map (fun n => (64 + n, 1)) | _ => []), bad := badIf (decide (3 < code.toNat)) 2 }
  | .movf y r code => some { syl := y, cls := .i, writes := wI r 1, bad := badIf (decide (3 < code.toNat)) 2 }
  | .sel y d _ _ _ => some (opI y d)
  | .ldb y d a am low p | .ldbu y d a am low p | .ldh y d a am low p | .ldhu y d a am low p | .ldw y d a am low p => some (loadInfo y d a am low p)
  | .stb y _ a am low p | .sth y _ a am low p | .stw y _ a am low p => some (storeInfo y a am low p)
  | .swapw y d _ _ | .casw y d _ _ | .faddw y d _ _ | .fandw y d _ _ | .forw y d _ _ => some { syl := y, cls := .m, writes := wI d 1 }
  | .mul y d _ _ | .mulh y d _ _ | .mulhu y d _ _ | .mulv y d _ _ => some (opDI y d 3)
  | .div y d _ _ | .divu y d _ _ | .rem y d _ _ | .remu y d _ _ => some (opDI y d 20)
  | .br y _ | .bri y _ | .ret y | .retW y | .retl y => some (opB y)
  | .call y _ | .callW y _ => some { syl := y, cls := .b, writes := wLK }
  | .calli y _ | .calliW y _ => some { syl := y, cls := .b, writes := wLK }
  | .db y c _ => some { syl := y, cls := .b, writes := wI c 1, bad := badIf (c == 0) 4 }
  | .dblc y _ => some { syl := y, cls := .b, writes := wLC }
  | .rep y _ i n => some { syl := y, cls := .x, bad := badIf (y.g != 0 || y.n || (!i && n != 0)) 3 }
  | .mfc y r c => some { syl := y, cls := .b, writes := wI r 1, bad := badIf (ctlReserved c.toNat) 2 }
  | .mtc y _ c => some { syl := y, cls := .b, bad := badIf (ctlReserved c.toNat) 2 }
  | .mtcStatus y _ | .mtcTsbp y _ | .mtcAstb y _ | .mtcKmask y _ | .mtcKpv y _ | .mtcTlock y _ | .mtcWinctl y _ | .mtcDecctl y _ => some (opB y)
  | .mtcAstag y _ _ => some (opB y)
  | .mfcKpv y r | .mfcEtimeL y r => some { syl := y, cls := .b, writes := wI r 1 }
  | .fenceS y | .syncI y | .syncT y | .brk y => some (opB y)
  | .iflush y _ => some (opB y)
  | .tlbiVa y _ _ _ => some (opB y)
  | .tlbiTag y _ _ => some (opB y)
  | .tlbiAll y _ | .tlbiAllk y _ => some (opB y)
  | .dadd y d _ _ | .dsub y d _ _ | .dmul y d _ _ | .dqua y d _ _ => some (opD y d 3)
  | .ddiv y d _ _ => some (opD y d 22)
  | .drni y d _ => some (opD y d 3)
  | .dneg y d _ | .dabs y d _ | .dnegX y d _ | .dabsX y d _ => some (opD y d 1)
  | .dcps y d _ _ | .dcpsX y d _ _ => some (opD y d 1)
  | .daddX y d _ _ | .dsubX y d _ _ | .dquaX y d _ _ => some (opD y d 4)
  | .dmulX y d _ _ => some (opD y d 7)
  | .ddivX y d _ _ => some (opD y d 40)
  | .drniX y d _ => some (opD y d 4)
  | .cvtX y d _ => some (opD y d 2)
  | .cvtD y d _ => some (opD y d 3)
  | .cvid y d _ => some (opD y d 3)
  | .cvdi y d _ => some (opDI y d 3)
  | .cvpd y d _ _ | .cvpx y d _ _ | .pshr y d _ _ => some (opD y d 3)
  | .cvdp y d _ _ | .cvxp y d _ _ => some (opD y d 4)
  | .padd y d _ _ | .psub y d _ _ => some (opD y d 3)
  | .pshl y d _ _ => some (opD y d 2)
  | .pchk y d _ => some (opD y d 2)
  | .dcmp y qt _ _ _ _ _ => some { syl := y, cls := .d, writes := wQ qt 2 }
  | .pcmp y qt _ _ cond => some { syl := y, cls := .d, writes := wQ qt 2, bad := badIf (decide (6 ≤ cond.toNat)) 4 }
  | .ldd y d _ _ _ | .lddX y d _ _ _ => some { syl := y, cls := .m, writes := wD d 3 }
  | .std y _ _ _ _ | .stdX y _ _ _ _ => some (opM y)
  | .ldp y d _ len => some { syl := y, cls := .m, writes := wD d 3, bad := badIf (len == 0 || decide (16 < len.toNat)) 4 }
  | .stp y _ _ len => some { syl := y, cls := .m, bad := badIf (len == 0 || decide (16 < len.toNat)) 4 }
  | .ldz y d _ len => some { syl := y, cls := .m, writes := wD d 5, bad := badIf (len == 0) 4 }
  | .stz y _ _ len => some { syl := y, cls := .m, bad := badIf (len == 0) 4 }
  | .macsD y k a b c | .macsB y k a b c => some (streamInfo y k a b c true)
  | .macuD y k a b c | .macuB y k a b c => some (streamInfo y k a b c false)
  | .mvs y _ | .trs y _ => some (opM y)
  | .cms y d _ qt => some { syl := y, cls := .m, writes := wI d 1 ++ wQ qt 1 ++ wQ (partner qt) 1, bad := badIf (decide (qt.toNat ≤ 1)) 4 }
  | .scn y d _ qt | .scne y d _ qt | .edit y d _ qt => some { syl := y, cls := .m, writes := wI d 1 ++ wQ qt 1 }
  | .japp y d _ _ => some { syl := y, cls := .m, writes := wI d 4 }
  | .jdur y d _ => some { syl := y, cls := .m, writes := wI d 3 }
  | .jwait y _ _ | .jrel y _ _ => some (opM y)
  | .tevict y _ => some (opB y)
  | .tload y _ _ => some (opB y)
  | .waitt y | .yield y | .fret y | .gret y | .sret y | .mret y => some (opB y)
  | .signal y _ _ => some (opB y)
  | .scall y n => some { syl := y, cls := .b, bad := badIf (decide (15 < n.toNat)) 8 }
  | .gcall y _ => some (opB y)
  | _ => none

/-- The reason of cause 0x02 a syllable meets because the bay is at M level (R192, R218, R219). -/
def levelReserved (lvl : Nat) : Instr → Option Nat
  | .callW _ _ | .calliW _ _ => if lvl = 3 then some 0xA else none
  | .retW _ => if lvl = 3 then some 0xA else none
  | .scall _ _ => if lvl = 3 then some 8 else none
  | .sret _ | .fret _ => if lvl = 3 then some 0xE else none
  | _ => none

/-- Which spaced unit a syllable uses: 1 the integer divider, 2 the decimal divider (latency 22), 3 the same (latency 40), 4 DMUL.X (R45, R105). -/
def spacedUnit : Instr → Nat
  | .div _ _ _ _ | .divu _ _ _ _ | .rem _ _ _ _ | .remu _ _ _ _ => 1
  | .ddiv _ _ _ _ => 2
  | .ddivX _ _ _ _ => 3
  | .dmulX _ _ _ _ => 4
  | _ => 0

/-- Whether a syllable may follow REP (R71). -/
def repAllowed (i : Instr) : Bool :=
  match i with
  | .movs _ _ code => code.toNat != 0
  | .ldb .. | .ldbu .. | .ldh .. | .ldhu .. | .ldw .. | .stb .. | .sth .. | .stw .. => true
  | .mul .. | .mulh .. | .mulhu .. | .mulv .. => true
  | _ => match sylInfo i with
    | some f => f.cls == .i
    | none => false

/-- Whether a syllable carries a long immediate. -/
def hasLimm : Instr → Bool
  | .addi _ _ _ _ p | .andi _ _ _ _ p | .ori _ _ _ _ p | .xori _ _ _ _ p => p.isSome
  | .cmpi _ _ _ _ _ _ p => p.isSome
  | .ldb _ _ _ _ _ p | .ldbu _ _ _ _ _ p | .ldh _ _ _ _ _ p | .ldhu _ _ _ _ _ p | .ldw _ _ _ _ _ p | .stb _ _ _ _ _ p | .sth _ _ _ _ _ p | .stw _ _ _ _ _ p => p.isSome
  | .ldd _ _ _ _ p | .lddX _ _ _ _ p | .std _ _ _ _ p | .stdX _ _ _ _ p => p.isSome
  | _ => false

/-! ## Decoding a syllable's word -/

/-- The class of a major opcode; a reserved major of the M and D rows keeps its class (Table 2.3). -/
def majorCls (op : Nat) : Option Cls :=
  if 1 ≤ op ∧ op ≤ 0xB then some .i
  else if 0x10 ≤ op ∧ op ≤ 0x1F then some .m
  else if 0x20 ≤ op ∧ op ≤ 0x2F then some .d
  else if 0x30 ≤ op ∧ op ≤ 0x36 then some .b
  else if op = 0x3E ∨ op = 0x3F then some .x
  else none
/-- The major opcode of a word. -/
def major (w : Nat) : Nat := bits w 25 20

/-- A field as a register code. -/
def regF (w hi lo : Nat) : BitVec 5 := BitVec.ofNat 5 (bits w hi lo)
/-- A field as a predicate number. -/
def predF (w hi lo : Nat) : Pred := BitVec.ofNat 4 (bits w hi lo)
/-- A syllable with fields that must be zero (R75). -/
def mustZero (ok : Bool) (i : Instr) : Except Nat Instr := if ok then .ok i else .error 3

/-- Major 0x01 (Table 2.7). -/
def decodeInt (y : Syl) (w : Nat) : Except Nat Instr :=
  let d := regF w 19 15
  let a := regF w 14 10
  let b := regF w 9 5
  let z := b == 0
  match bits w 4 0 with
  | 0x00 => .ok (.add y d a b) | 0x01 => .ok (.sub y d a b) | 0x02 => .ok (.addv y d a b) | 0x03 => .ok (.subv y d a b)
  | 0x04 => .ok (.andd y d a b) | 0x05 => .ok (.orr y d a b) | 0x06 => .ok (.xor y d a b) | 0x07 => .ok (.andn y d a b)
  | 0x08 => .ok (.shl y d a b) | 0x09 => .ok (.shr y d a b) | 0x0A => .ok (.sar y d a b) | 0x0B => .ok (.rol y d a b)
  | 0x0C => .ok (.min y d a b) | 0x0D => .ok (.max y d a b) | 0x0E => .ok (.minu y d a b) | 0x0F => .ok (.maxu y d a b)
  | 0x10 => mustZero z (.neg y d a) | 0x11 => mustZero z (.abs y d a) | 0x12 => mustZero z (.clz y d a) | 0x13 => mustZero z (.popc y d a)
  | 0x14 => mustZero z (.sextb y d a) | 0x15 => mustZero z (.sexth y d a) | 0x16 => mustZero z (.zextb y d a) | 0x17 => mustZero z (.zexth y d a)
  | 0x18 => mustZero z (.bswap y d a)
  | _ => .error 2

/-- Majors 0x02 to 0x0B (Table 2.4). -/
def decodeImm (y : Syl) (w op : Nat) (p : Option Limm) : Except Nat Instr :=
  let d := regF w 19 15
  let a := regF w 14 10
  let imm := BitVec.ofNat 10 (bits w 9 0)
  match op with
  | 2 => .ok (.addi y d a imm p)
  | 3 => .ok (.andi y d a imm p)
  | 4 => .ok (.ori y d a imm p)
  | 5 => .ok (.xori y d a imm p)
  | 6 =>
    let c := BitVec.ofNat 6 (bits w 5 0)
    mustZero (bits w 7 6 == 0) (match bits w 9 8 with | 0 => .shli y d a c | 1 => .shri y d a c | 2 => .sari y d a c | _ => .roli y d a c)
  | 7 => mustZero (bits w 15 15 == 0) (.cmp y (predF w 19 16) a (regF w 9 5) (BitVec.ofNat 3 (bits w 4 2)) (BitVec.ofNat 2 (bits w 1 0)))
  | 8 => .ok (.cmpi y (predF w 19 16) (regF w 15 11) (BitVec.ofNat 3 (bits w 10 8)) (BitVec.ofNat 2 (bits w 7 6)) (BitVec.ofNat 6 (bits w 5 0)) p)
  | 9 =>
    let z := bits w 4 0 == 0
    let qd := predF w 19 16
    let qa := predF w 15 12
    let qb := predF w 11 8
    match bits w 7 5 with
    | 0 => mustZero z (.pand y qd qa qb)
    | 1 => mustZero z (.por y qd qa qb)
    | 2 => mustZero z (.pxor y qd qa qb)
    | 3 => mustZero z (.pandn y qd qa qb)
    | 4 => mustZero (z && qb == 0) (.pnot y qd qa)
    | _ => .error 2
  | 0xA =>
    let code := regF w 9 5
    if 3 < code.toNat then .error 2
    else mustZero (bits w 14 10 == 0 && bits w 4 1 == 0) (if bit w 0 then .movf y d code else .movs y d code)
  | 0xB => mustZero (!bit w 0) (.sel y d a (regF w 9 5) (predF w 4 1))
  | _ => .error 1

/-- Majors 0x10 to 0x18 (Tables 2.12, 2.13). -/
def decodeMem (y : Syl) (w op : Nat) (p : Option Limm) : Except Nat Instr :=
  let d := regF w 19 15
  let a := regF w 14 10
  let b := regF w 9 5
  let am := BitVec.ofNat 2 (bits w 9 8)
  let low := BitVec.ofNat 8 (bits w 7 0)
  match op with
  | 0x10 => .ok (.ldb y d a am low p)
  | 0x11 => .ok (.ldbu y d a am low p)
  | 0x12 => .ok (.ldh y d a am low p)
  | 0x13 => .ok (.ldhu y d a am low p)
  | 0x14 => .ok (.ldw y d a am low p)
  | 0x15 => .ok (.stb y d a am low p)
  | 0x16 => .ok (.sth y d a am low p)
  | 0x17 => .ok (.stw y d a am low p)
  | 0x18 => match bits w 4 0 with
    | 0 => .ok (.swapw y d a b)
    | 1 => .ok (.casw y d a b)
    | 2 => .ok (.faddw y d a b)
    | 3 => .ok (.fandw y d a b)
    | 4 => .ok (.forw y d a b)
    | _ => .error 2
  | _ => .error 1

/-- Major 0x19 (Table 3.10). -/
def decodeDmem (y : Syl) (w : Nat) (p : Option Limm) : Except Nat Instr :=
  let d := regF w 19 15
  let a := regF w 14 10
  let disp := BitVec.ofNat 6 (bits w 5 0)
  let len := BitVec.ofNat 5 (bits w 4 0)
  let z := !bit w 5
  match bits w 9 6 with
  | 0 => .ok (.ldd y d a disp p)
  | 1 => .ok (.lddX y d a disp p)
  | 2 => .ok (.std y d a disp p)
  | 3 => .ok (.stdX y d a disp p)
  | 4 => mustZero z (.ldp y d a len)
  | 5 => mustZero z (.stp y d a len)
  | 6 => mustZero z (.ldz y d a len)
  | 7 => mustZero z (.stz y d a len)
  | _ => .error 2

/-- Majors 0x1A to 0x1F (Tables 4.1, 5.3). -/
def decodeStr (y : Syl) (w op : Nat) : Except Nat Instr :=
  let d := regF w 19 15
  let a := regF w 14 10
  let b := regF w 9 5
  let qt := predF w 9 6
  match op with
  | 0x1A => match bits w 5 0 with
    | 0 => mustZero (d == 0 && qt == 0) (.mvs y a)
    | 1 => mustZero (d == 0 && qt == 0) (.trs y a)
    | 2 => .ok (.cms y d a qt)
    | 3 => .ok (.scn y d a qt)
    | 4 => .ok (.scne y d a qt)
    | _ => .error 2
  | 0x1B => match bits w 5 0 with
    | 0 => .ok (.edit y d a qt)
    | _ => .error 2
  | 0x1D => match bits w 4 0 with
    | 0 => .ok (.japp y d a b)
    | 1 => mustZero (d == 0) (.jwait y a b)
    | 2 => mustZero (a == 0) (.jdur y d b)
    | 3 => mustZero (d == 0) (.jrel y a b)
    | _ => .error 2
  | _ => .error 1

/-- Majors 0x20 to 0x22 (R56, Table 3.8). -/
def decodeArith (y : Syl) (w op : Nat) : Except Nat Instr :=
  let d := regF w 19 15
  let a := regF w 14 10
  let b := regF w 9 5
  let z := b == 0
  match op, bits w 4 0 with
  | 0x20, 0x0 => .ok (.mul y d a b)
  | 0x20, 0x1 => .ok (.mulh y d a b)
  | 0x20, 0x2 => .ok (.mulhu y d a b)
  | 0x20, 0x3 => .ok (.mulv y d a b)
  | 0x20, 0x8 => .ok (.div y d a b)
  | 0x20, 0x9 => .ok (.divu y d a b)
  | 0x20, 0xA => .ok (.rem y d a b)
  | 0x20, 0xB => .ok (.remu y d a b)
  | 0x21, 0x0 => .ok (.dadd y d a b)
  | 0x21, 0x1 => .ok (.dsub y d a b)
  | 0x21, 0x2 => .ok (.dmul y d a b)
  | 0x21, 0x3 => .ok (.ddiv y d a b)
  | 0x21, 0x4 => .ok (.dqua y d a b)
  | 0x21, 0x5 => mustZero z (.drni y d a)
  | 0x21, 0x6 => mustZero z (.dneg y d a)
  | 0x21, 0x7 => mustZero z (.dabs y d a)
  | 0x21, 0x8 => .ok (.dcps y d a b)
  | 0x22, 0x0 => .ok (.daddX y d a b)
  | 0x22, 0x1 => .ok (.dsubX y d a b)
  | 0x22, 0x2 => .ok (.dmulX y d a b)
  | 0x22, 0x3 => .ok (.ddivX y d a b)
  | 0x22, 0x4 => .ok (.dquaX y d a b)
  | 0x22, 0x5 => mustZero z (.drniX y d a)
  | 0x22, 0x6 => mustZero z (.dnegX y d a)
  | 0x22, 0x7 => mustZero z (.dabsX y d a)
  | 0x22, 0x8 => .ok (.dcpsX y d a b)
  | _, _ => .error 2

/-- Majors 0x23 to 0x2F (Tables 3.7, 3.8). -/
def decodeConv (y : Syl) (w op : Nat) : Except Nat Instr :=
  let d := regF w 19 15
  let a := regF w 14 10
  let b := regF w 9 5
  let z := b == 0
  let cond := BitVec.ofNat 3 (bits w 4 2)
  match op with
  | 0x23 => mustZero (!bit w 0) (.dcmp y (predF w 19 16) (bit w 15) a b cond (bit w 1))
  | 0x24 => match bits w 4 0 with
    | 0 => mustZero z (.cvtX y d a)
    | 1 => mustZero z (.cvtD y d a)
    | 2 => mustZero z (.cvid y d a)
    | 3 => mustZero z (.cvdi y d a)
    | _ => .error 2
  | 0x25 => match bits w 4 0 with
    | 0 => .ok (.cvpd y d a b)
    | 1 => .ok (.cvpx y d a b)
    | 2 => .ok (.cvdp y d a b)
    | 3 => .ok (.cvxp y d a b)
    | _ => .error 2
  | 0x26 => match bits w 4 0 with
    | 0 => .ok (.padd y d a b)
    | 1 => .ok (.psub y d a b)
    | 2 => .ok (.pshl y d a b)
    | 3 => .ok (.pshr y d a b)
    | 4 => mustZero z (.pchk y d a)
    | _ => .error 2
  | 0x27 => if bit w 0 then .error 3 else if bit w 15 || bit w 1 then .error 4 else .ok (.pcmp y (predF w 19 16) a b cond)
  | 0x28 => .ok (.macsD y d a b (regF w 4 0))
  | 0x29 => .ok (.macuD y d a b (regF w 4 0))
  | 0x2A => .ok (.macsB y d a b (regF w 4 0))
  | 0x2B => .ok (.macuB y d a b (regF w 4 0))
  | _ => .error 1

/-- Majors 0x30 to 0x34 (Table 2.14). -/
def decodeBranch (y : Syl) (w op : Nat) : Except Nat Instr :=
  let d := regF w 19 15
  let a := regF w 14 10
  let b := regF w 9 5
  match op with
  | 0x30 => .ok (.br y (BitVec.ofNat 20 (bits w 19 0)))
  | 0x31 => if bit w 19 then .ok (.callW y (BitVec.ofNat 19 (bits w 18 0))) else .ok (.call y (BitVec.ofNat 19 (bits w 18 0)))
  | 0x32 =>
    let z := d == 0 && b == 0
    match bits w 4 0 with
    | 0 => mustZero z (.bri y a)
    | 1 => mustZero z (.calli y a)
    | 2 => mustZero z (.calliW y a)
    | 3 => mustZero z (.ret y)
    | 4 => mustZero z (.retW y)
    | 5 => mustZero z (.retl y)
    | _ => .error 2
  | 0x33 => .ok (.db y d (BitVec.ofNat 15 (bits w 14 0)))
  | _ => .ok (.dblc y (BitVec.ofNat 20 (bits w 19 0)))

/-- The row of an MTC: registers with a behaviour of their own have one (R208). -/
def mtcOf (y : Syl) (r : Reg) (c : Nat) : Instr :=
  match c with
  | 0 => .mtcStatus y r
  | 3 => .mtcTsbp y r
  | 4 => .mtcKmask y r
  | 5 => .mtcAstag y r false
  | 7 => .mtcWinctl y r
  | 15 => .mtcDecctl y r
  | 48 => .mtcAstb y r
  | 49 => .mtcAstag y r true
  | 50 => .mtcTlock y { reg := r }
  | 52 => .mtcKpv y r
  | _ => .mtc y r (BitVec.ofNat 6 c)
/-- The row of an MFC. -/
def mfcOf (y : Syl) (r : Reg) (c : Nat) : Instr :=
  match c with
  | 21 => .mfcEtimeL y r
  | 52 => .mfcKpv y r
  | _ => .mfc y r (BitVec.ofNat 6 c)

/-- Majors 0x35 and 0x36 (Tables 2.17, 6.10). R74 asks zeros of the operations that use no register; a nonzero field that an operation of major 0x36 with a register does not use is refused too (DESIGN CHOICE, log entry 18). -/
def decodeSys (y : Syl) (w op : Nat) : Except Nat Instr :=
  let r := regF w 19 15
  let a := regF w 14 10
  let c := bits w 9 4
  let bay := BitVec.ofNat 2 (bits w 14 13)
  let imm := BitVec.ofNat 8 (bits w 12 5)
  let g := bit w 4
  if op = 0x35 then
    let zr := r == 0
    let zb := bay == 0
    let zi := imm == 0
    match bits w 4 0 with
    | 0 => mustZero (zr && zb) (.scall y imm)
    | 1 => mustZero (zr && zb) (.gcall y imm)
    | 2 => mustZero (zr && zb && zi) (.sret y)
    | 3 => mustZero (zr && zb && zi) (.mret y)
    | 4 => mustZero (zr && zb && zi) (.fret y)
    | 5 => mustZero (zr && zb && zi) (.gret y)
    | 6 => mustZero (zr && zb && zi) (.waitt y)
    | 7 => mustZero (zr && zi) (.tevict y bay)
    | 8 => mustZero zi (.tload y bay r)
    | 9 => mustZero zb (.signal y r imm)
    | 10 => mustZero (zr && zb && zi) (.yield y)
    | _ => .error 2
  else
    let zr := r == 0
    let za := a == 0
    let zc := c == 0
    let zf := bits w 9 5 == 0
    match bits w 3 0 with
    | 0 => if ctlReserved c then .error 2 else mustZero za (mfcOf y r c)
    | 1 => if ctlReserved c then .error 2 else mustZero za (mtcOf y r c)
    | 2 => mustZero (zr && za && zc) (.fenceS y)
    | 3 => mustZero (zr && za && zc) (.syncI y)
    | 4 => mustZero (zr && zc) (.iflush y a)
    | 5 => mustZero (zr && za && zc) (.syncT y)
    | 6 => mustZero zf (.tlbiVa y r a g)
    | 7 => mustZero (zr && zf) (.tlbiTag y a g)
    | 8 => mustZero (zr && za && zf) (.tlbiAll y g)
    | 9 => mustZero (zr && za && zf) (.tlbiAllk y g)
    | 10 => mustZero (zr && za && zc) (.brk y)
    | _ => .error 2

/-- The syllable a word holds, with the long immediate meant for it; or the reason of cause 0x02. -/
def decodeWord (y : Syl) (w : Nat) (p : Option Limm) : Except Nat Instr :=
  let op := major w
  if op = 1 then decodeInt y w
  else if op ≤ 0xB then decodeImm y w op p
  else if op < 0x10 then .error 1
  else if op ≤ 0x18 then decodeMem y w op p
  else if op = 0x19 then decodeDmem y w p
  else if op ≤ 0x1F then decodeStr y w op
  else if op ≤ 0x22 then decodeArith y w op
  else if op ≤ 0x2F then decodeConv y w op
  else if op ≤ 0x34 then decodeBranch y w op
  else if op ≤ 0x36 then decodeSys y w op
  else .error 1

/-- The fields of a syllable's word that every format shares (Table 2.1). -/
def sylOf (core : CoreNo) (bay : BayNo) (pos w : Nat) : Syl :=
  { core := core, bay := bay, pos := BitVec.ofNat 3 pos, g := predF w 30 27, n := bit w 26 }

/-- A syllable decoded with its reserved operand combinations refused (R75). -/
def decodeSyl (core : CoreNo) (bay : BayNo) (pos w : Nat) (p : Option Limm) : Except Nat Instr :=
  match decodeWord (sylOf core bay pos w) w p with
  | .error r => .error r
  | .ok i => match sylInfo i with
    | some { bad := some (_, r), .. } => .error r
    | _ => .ok i

/-- The REP syllable (Table 2.16). -/
def decodeRep (core : CoreNo) (bay : BayNo) (pos w : Nat) : Except Nat Instr :=
  let i := bit w 14
  mustZero (bits w 30 26 == 0 && bits w 13 8 == 0 && (i || bits w 7 0 == 0))
    (.rep { core := core, bay := bay, pos := BitVec.ofNat 3 pos } (regF w 19 15) i (BitVec.ofNat 8 (bits w 7 0)))

/-! ## Composition of a bundle (R33, R34, R41, R69, R109, R119, R154) -/

/-- The slots of a bundle, by class and order: M0 is (m, 0). Words without a class, and words beyond their class's slots, have none. -/
def slotsOf (ws : List Nat) : List (Option (Cls × Nat)) :=
  (ws.zipIdx).map (fun p =>
    match majorCls (major p.1) with
    | some .x => none
    | some c =>
      let k := ((ws.take p.2).filter (fun v => majorCls (major v) == some c)).length
      let room := if c = .i ∨ c = .m then 2 else 1
      if k < room then some (c, k) else none
    | none => none)

/-- The slot a LIMM names (Table 2.5). -/
def limmTarget (w : Nat) : Option (Cls × Nat) :=
  match bits w 30 28 with
  | 0 => some (.i, 0)
  | 1 => some (.i, 1)
  | 2 => some (.m, 0)
  | 3 => some (.m, 1)
  | 4 => some (.d, 0)
  | _ => none
/-- Whether a word takes a long immediate (R34, R106). -/
def takesLimm (w : Nat) : Bool :=
  let op := major w
  (decide (2 ≤ op) && decide (op ≤ 5)) || op == 8 || (decide (0x10 ≤ op) && decide (op ≤ 0x17) && bits w 9 8 == 0) || (op == 0x19 && decide (bits w 9 6 ≤ 3))
/-- The payload of a LIMM. -/
def limmPayload (w : Nat) : Limm := BitVec.ofNat 22 (bits w 27 26 * 2 ^ 20 + bits w 19 0)
/-- Whether a word is a LIMM. -/
def isLimm (w : Nat) : Bool := major w == 0x3E
/-- Whether a word is REP. -/
def isRep (w : Nat) : Bool := major w == 0x3F
/-- Whether a word must take M0, and the reason if it does not: a store or an atomic, or a journal syllable. -/
def firstOnly (w : Nat) : Option Nat :=
  let op := major w
  let t := bits w 9 6
  if (0x15 ≤ op ∧ op ≤ 0x18) ∨ (op = 0x19 ∧ (t = 2 ∨ t = 3 ∨ t = 5 ∨ t = 7)) then some 3 else if op = 0x1D then some 0xD else none
/-- Whether a word is JAPP. -/
def isJapp (w : Nat) : Bool := major w == 0x1D && bits w 4 0 == 0
/-- The position of the word in a slot. -/
def slotPos (ss : List (Option (Cls × Nat))) (t : Cls × Nat) : Option Nat := ss.findIdx? (fun x => x == some t)
/-- The long immediate meant for a position. -/
def limmFor (ws : List Nat) (pos : Nat) : Option Limm :=
  let ss := slotsOf ws
  (ws.find? (fun w => isLimm w && (match limmTarget w with | some t => slotPos ss t == some pos | none => false))).map limmPayload

/-- The rule of the table of composition the word at a position breaks, if any: reasons 2, 3, 4, 5, 6, 0xD. -/
def positionFault (ws : List Nat) (i : Nat) : List Nat :=
  let w := ws.getD i 0
  let ss := slotsOf ws
  let op := major w
  let before := ws.take i
  let xs := before.filter (fun v => majorCls (major v) == some .x)
  let ms := before.filter (fun v => majorCls (major v) == some .m)
  let rep := ws.findIdx? isRep
  let slotted := (ss.getD i none).isSome
  let ovr := match majorCls op with | some .x => false | some _ => !slotted | none => false
  let limm : Bool := isLimm w && (match limmTarget w with
    | none => true
    | some t => match slotPos ss t with
      | none => true
      | some k => !takesLimm (ws.getD k 0) || before.any (fun v => isLimm v && limmTarget v == some t))
  let repBad : Bool := match rep with
    | none => false
    | some r =>
      let nextOk := decide (r + 1 < ws.length) && majorCls (major (ws.getD (r + 1) 0)) != some .x
      if i = r then !nextOk
      else if i = r + 1 then false
      else !(isLimm w && (match limmTarget w with | some t => slotPos ss t == some (r + 1) | none => false))
  let m0 := match majorCls op, ms with
    | some .m, _ :: _ => firstOnly w
    | _, _ => none
  let jm := majorCls op == some .m && (match ms with | [v] => isJapp v | _ => false)
  (if ovr then [2] else []) ++ m0.toList ++ (if majorCls op = some .x ∧ (2 ≤ xs.length ∨ (isRep w ∧ xs.any isRep)) then [4] else []) ++ (if limm then [5] else []) ++ (if repBad then [6] else [])
    ++ (if jm then [0xD] else [])
/-- The reason of a syllable that must stand alone in its bundle: a stream, or a string or edit syllable (R109, R119). -/
def aloneReason (w : Nat) : Option Nat :=
  let op := major w
  if 0x28 ≤ op ∧ op ≤ 0x2B then some 0xB else if op = 0x1A ∨ op = 0x1B then some 0xC else none
/-- The first syllable of a longer bundle that must stand alone: its position and reason. -/
def aloneFault (ws : List Nat) : Option (Nat × Nat) :=
  if ws.length ≤ 1 then none else (ws.zipIdx).findSome? (fun p => (aloneReason p.1).map (fun r => (p.2, r)))

/-- The least of a list of numbers. -/
def leastOf : List Nat → Option Nat
  | [] => none
  | x :: xs => match leastOf xs with
    | none => some x
    | some y => some (Nat.min x y)

/-- The rule of composition or spacing a bundle breaks: its position and reason (R76, R77, R109, R119). A syllable that must stand alone comes before every other reason; of the others the lowest position, and there the lowest reason (log entry 18). `near` is the spacing reason of a syllable. The syllables `is_` are those that are not reserved: a reserved one names no destination (DESIGN CHOICE, log entry 18). -/
def compositionFault (near : Instr → Option Nat) (ws : List Nat) (is_ : List (Nat × Instr)) : Option (Nat × Nat) :=
  match aloneFault ws with
  | some f => some f
  | none =>
    let pf := (List.range ws.length).flatMap (fun i => (positionFault ws i).map (fun r => i * 1024 + r))
    let wf := is_.flatMap (fun p =>
      let own := ((sylInfo p.2).map (fun f => f.writes)).getD []
      let before := (is_.filter (fun q => decide (q.1 < p.1))).flatMap (fun q => ((sylInfo q.2).map (fun f => f.writes)).getD [])
      if own.any (fun k => before.contains k) then [p.1 * 1024 + 7] else [])
    let sf := is_.filterMap (fun p => (near p.2).map (fun r => p.1 * 1024 + r))
    (leastOf (pf ++ wf ++ sf)).map (fun k => (k / 1024, k % 1024))

/-- The decoded syllables of a bundle by position, LIMM apart: each a syllable or the reason of cause 0x02 (R71, R75). -/
def bundleSyls (core : CoreNo) (bay : BayNo) (ws : List Nat) : List (Nat × Except Nat Instr) :=
  let rep := ws.any isRep
  ((ws.zipIdx).filter (fun p => !isLimm p.1)).map (fun p =>
    if isRep p.1 then (p.2, decodeRep core bay p.2 p.1)
    else
      let r := decodeSyl core bay p.2 p.1 (limmFor ws p.2)
      (p.2, match r with
        | .ok i => if rep && !repAllowed i then .error 5 else .ok i
        | .error e => .error e))

/-- What a bundle's words decode to, under the spacing reasons `near` of its bay: its syllables in order, or the cause, position and reason of an illegal bundle or reserved operation (R75 to R77). -/
def decodeBundle (core : CoreNo) (bay : BayNo) (lvl : Nat) (near : Instr → Option Nat) (ws : List Nat) : Except (Nat × Nat × Nat) (List Instr) :=
  let ss := bundleSyls core bay ws
  let good := ss.filterMap (fun p => match p.2 with | .ok i => some (p.1, i) | .error _ => none)
  match compositionFault near ws good with
  | some (p, r) => .error (1, p, r)
  | none =>
    match leastOf (ss.filterMap (fun p => match p.2 with
      | .error r => some (p.1 * 1024 + r)
      | .ok i => (levelReserved lvl i).map (fun r => p.1 * 1024 + r))) with
    | some k => .error (2, k / 1024, k % 1024)
    | none => .ok (good.map (fun p => p.2))

end Sys2Proof.Machine
end

