-- ==== Sys2Proof/Machine/Bundle.lean ====
section
/-! DEFINITION. The issue of a bundle: opening, the syllables one by one, and the bundle taking effect as a whole (R28 to R45, R69 to R77, R205 to R207, R264 to R270). -/

namespace Sys2Proof.Machine

/-! ## Events that can be taken (R206, R207) -/

/-- Whether a cause is routed to M (R206). -/
def Bay.toM (x : Bay) (c : Nat) : Bool := (if c < 32 then x.mrouteL else x.mrouteH).getLsbD (c % 32)
/-- The level a synchronous exception is routed to. -/
def Bay.route (x : Bay) (c : Nat) : Nat := if x.level = 3 || x.toM c then 3 else 1
/-- The asynchronous causes in the order they are taken within a level. -/
def asyncOrder : List Nat := [0x15, 0x14, 0x22, 0x23, 0x24, 0x20, 0x21, 0x25]
/-- Whether a pending event can be taken at the bay's next boundary. -/
def Bay.canTake (x : Bay) (c : Nat) : Bool :=
  let l := if x.toM c then 3 else 1
  x.pend.getLsbD (pendBit c) && (decide (x.level < l) || (x.level == l && !x.status.getLsbD 2))
/-- The event a bay takes at its next boundary: M-routed events first. -/
def Bay.nextEvent (x : Bay) : Option Nat := (asyncOrder.filter x.toM ++ asyncOrder.filter (fun c => !x.toM c)).find? x.canTake

/-! ## Opening a bundle -/

/-- Whether a bay executes syllables: its core is up, it runs, no exception waits, no string or stream instruction is under way, and no power failure is registered. -/
def Dev.issuing (d : Dev) (n b : Nat) : Bool :=
  let x := d.bay n b
  (d.core n).up && x.st == .running && x.exc.isNone && x.prog.isNone && !d.pw.pfail
/-- Whether a bay may issue a new bundle: none is open, two slots are resident, and no event is taken first (R186, R207). -/
def Dev.mayOpen (d : Dev) (n b : Nat) : Bool :=
  let x := d.bay n b
  d.issuing n b && x.bundle.isNone && decide (2 ≤ x.res) && x.nextEvent.isNone

/-- The detail field of R76. -/
def detailOf (pos len low : Nat) : Word := BitVec.ofNat 32 (pos * 2 ^ 13 + (len - 1) * 2 ^ 10 + low)

/-- The spacing rule a syllable of the bay's next bundle breaks: its reason (R45, R105). The next bundle is one bundle farther from the last such syllable than the bay's counters. -/
def Bay.tooNear (x : Bay) (i : Instr) : Option Nat :=
  let near := fun (s : Option Nat) (l : Nat) => match s with | some k => decide (k + 1 < l) | none => false
  let ddiv := match x.sinceDdiv with | some (k, l) => decide (k + 1 < l) | none => false
  match spacedUnit i with
  | 1 => if near x.sinceDiv 20 then some 8 else none
  | 2 => if ddiv then some 9 else none
  | 3 => if ddiv then some 9 else none
  | 4 => if near x.sinceDmulx 4 then some 0xA else none
  | _ => none

/-- The spacing counters one bundle, or one iteration of a repeat, later (R39). -/
def Bay.countBundle (x : Bay) : Bay :=
  { x with sinceDiv := x.sinceDiv.map (fun k => k + 1), sinceDdiv := x.sinceDdiv.map (fun p => (p.1 + 1, p.2)), sinceDmulx := x.sinceDmulx.map (fun k => k + 1) }
/-- The spacing counters after a bundle that holds a spaced syllable, whatever its guard. A bundle that raised an exception has no effect (R44), and its divide counts for nothing. -/
def Bay.restartSpacing (x : Bay) (is_ : List Instr) : Bay :=
  let has := fun (u : Nat) => is_.any (fun i => spacedUnit i == u)
  { x with
    sinceDiv := if has 1 then some 0 else x.sinceDiv
    sinceDdiv := if has 2 then some (0, 22) else if has 3 then some (0, 40) else x.sinceDdiv
    sinceDmulx := if has 4 then some 0 else x.sinceDmulx }

/-- A bundle refused at decode: the exception waits for its entry. -/
def Dev.refuseBundle (d : Dev) (n b : Nat) (pc : Word) (cause pos len reason : Nat) : Dev :=
  d.modBay n b (fun x => { x with exc := some { cause := cause, detail := detailOf pos len reason, pc := pc } })

/-- A decoded bundle issued: results and spacing counters age by one bundle, the quantum counts it, and its syllables are to come (R39, R40, R200). -/
def Dev.openBundle (d : Dev) (n b len : Nat) (is_ : List Instr) : Dev :=
  let x := d.bay n b
  let y := x.age.countBundle
  (d.setBay n b { y with issued := x.issued + 1, bundle := some { pc := x.pc, len := len, todo := is_, all := is_ } }).tickFree

/-- The cause and reason that refuse a syllable that comes with no bundle open: an illegal bundle before a reserved operation (R77). -/
def Bay.impliedFault (x : Bay) (i : Instr) : Option (Nat × Nat) :=
  let bad := (sylInfo i).bind (fun f => f.bad)
  match bad.filter (fun p => p.1 == 1), x.tooNear i with
  | some p, _ => some p
  | none, some r => some (1, r)
  | none, none => match bad with
    | some p => some p
    | none => (levelReserved x.level i).map (fun r => (2, r))
/-- The implied bundle of a syllable that comes with none open: the syllable alone, and its long immediate (log entry 6). -/
def Dev.openImplied (d : Dev) (n b : Nat) (i : Instr) : Dev :=
  let x := d.bay n b
  let len := if hasLimm i then 2 else 1
  if !d.mayOpen n b then d
  else match x.impliedFault i with
    | some (c, r) => d.refuseBundle n b x.pc c 0 len r
    | none => d.openBundle n b len [i]

/-! ## What a syllable answers -/

/-- What the execution of a syllable answers. -/
inductive SylOut where
  /-- Its effects, applied with the bundle's. -/
  | done (effs : List Eff)
  /-- An exception in the layout of R76: cause, low bits of the detail, FADDR, AUX. -/
  | exc (cause low : Nat) (faddr aux : Word)
  /-- An exception with a detail of its own. -/
  | raw (cause detail : Nat) (faddr aux : Word)
  /-- Uncorrectable data at a physical address, read for a virtual one (R221). -/
  | bad (pa va : Nat)
  /-- A store to a Mirror register below M level: the exception, and MREFUSE counts (R249). -/
  | refuse (cause low : Nat) (faddr : Word) (id : Nat)
  /-- The bay stops issuing; the syllable comes again. -/
  | hold (st : BayState) (w : Wait)
  /-- The syllable goes on by other commands; the bundle stays open. -/
  | begin (d : Dev)
  /-- No slot for an append: the exception, and the stream is evaluated for low space (R153, R414). -/
  | short (stream : Nat)
  /-- REP: the iterations of the next syllable. -/
  | rep (n : Nat)
  deriving DecidableEq, Repr

/-- The exception of a syllable of an open bundle. -/
def excOf (u : Bundle) (cause : Nat) (detail : Word) (faddr aux : Word) : Exc := { cause := cause, detail := detail, faddr := faddr, aux := aux, pc := u.pc }

/-- The machine and the exception a syllable's answer stands for; none where it stands for none. -/
def Dev.excFor (d : Dev) (n b pos : Nat) (u : Bundle) : SylOut → Option (Dev × Exc)
  | .exc c low fa aux => some (d, excOf u c (detailOf pos u.len low) fa aux)
  | .raw c det fa aux => some (d, excOf u c (BitVec.ofNat 32 det) fa aux)
  | .bad pa va => some (d.recordBadData pa, excOf u 0x15 (detailOf pos u.len 3) (BitVec.ofNat 32 va) (BitVec.ofNat 32 (Config.arrayNo pa)))
  | .refuse c low fa id => some (d.mirrorWrite (.bay (BitVec.ofNat 7 n) (BitVec.ofNat 2 b)) id 0, excOf u c (detailOf pos u.len low) fa 0)
  | .short s => some (d.evalLow s, excOf u 0x16 (detailOf pos u.len 0xA) 0 0)
  | _ => none

/-- What an append answers to the first of its checks that fails: for want of a slot, the allocation it asked for counts as one (R153, R414). -/
def appendRefusal (s k : Nat) : SylOut := if k = 10 then .short s else .exc 0x16 k 0 0

/-! ## Effects applied (R37, R44, R63) -/

/-- The word an atomic operation leaves (Table 2.13). -/
def atomicNew (op : Nat) (old b cmp : Word) : Word :=
  match op with
  | 0 => b
  | 1 => if old = cmp then b else old
  | 2 => old + b
  | 3 => old &&& b
  | _ => old ||| b

/-- A device-register operation of a bay performed at a level it had when it issued (R226). -/
def Dev.atLevel (d : Dev) (n b lvl : Nat) (f : Dev → Dev) : Dev :=
  let old := (d.bay n b).level
  let put := fun (l : Nat) (x : Bay) => { x with status := BitVec.ofNat 32 (setBits x.status.toNat 1 0 l) }
  if lvl = old then f d else (f (d.modBay n b (put lvl))).modBay n b (put old)
/-- A bay as the agent of a register access. -/
def bayAgent (n b : Nat) : Agent := .bay (BitVec.ofNat 7 n) (BitVec.ofNat 2 b)

/-! ## The store buffer (R227, R256, R257, R268) -/

/-- Whether a core holds a store of a bay that has not reached its point of visibility (R256, R268). -/
def Core.storesOf (c : Core) (b : Nat) : Bool := (c.sb ++ c.devOut).any (fun e => e.bay == b)
/-- A bay that waited for the store buffer, or whose fence has nothing left to wait for, goes on. -/
def Bay.sbWake (x : Bay) (own : Bool) : Bay :=
  match x.wait with
  | .storeBuffer => x.resume
  | .fence => if own then x else x.resume
  | _ => x
/-- The bays of a core after an entry has left its store buffer, or a device store has arrived. -/
def Dev.sbWakeAll (d : Dev) (n : Nat) : Dev :=
  (List.range 4).foldl (fun (e : Dev) b => e.modBay n b (fun x => x.sbWake ((e.core n).storesOf b))) d
/-- A store performed at its point of visibility, or reported as an asynchronous bus error (R201). -/
def Dev.performStore (d : Dev) (n : Nat) (e : SbE) (fab : Bool) : Dev :=
  if fab ∨ (e.dev = false ∧ ¬ d.servedAt e.pa) then d.raise n e.bay 0x14 (Config.busDetail e.pa % 65536)
  else if e.dev then d.atLevel n e.bay e.lvl (fun z => z.regWrite (bayAgent n e.bay) (e.pa - devBase) (fromLe e.data))
  else d.put e.pa e.data
/-- The oldest entry leaves a store buffer: a store to memory is performed, one to a device register is on its way to its block. -/
def Dev.drainHead (d : Dev) (n : Nat) (fab : Bool) : Dev :=
  match (d.core n).sb with
  | [] => d
  | e :: rest =>
    (if e.dev then d.modCore n (fun c => { c with sb := rest, devOut := c.devOut ++ [e] })
    else (d.modCore n (fun c => { c with sb := rest })).performStore n e fab).sbWakeAll n
/-- The oldest device-register store on its way reaches its block. -/
def Dev.devArrive (d : Dev) (n : Nat) (fab : Bool) : Dev :=
  match (d.core n).devOut with
  | [] => d
  | e :: rest => ((d.modCore n (fun c => { c with devOut := rest })).performStore n e fab).sbWakeAll n
/-- One step of a store buffer: an arrival or a departure; where both could come first, the device's choice is free. -/
def Dev.drainOne (d : Dev) (n : Nat) (fab : Bool) : Dev :=
  let c := d.core n
  (if !c.devOut.isEmpty && (c.sb.isEmpty || Config.devFirst d.free) then d.devArrive n fab else d.drainHead n fab).tickFree
/-- Entries let go from the head while a condition on the core holds, `k` at most. -/
def Dev.drainWhile (n : Nat) (p : Core → Bool) (f : Dev → Dev) : Nat → Dev → Dev
  | 0, d => d
  | k + 1, d => if p (d.core n) then Dev.drainWhile n p f k (f d) else d
/-- A bay's own device-register stores performed: what its device-register load comes after (R227). -/
def Dev.devSettle (d : Dev) (n b : Nat) : Dev :=
  let mine := fun (l : List SbE) => l.any (fun e => e.dev && e.bay == b)
  let d1 := Dev.drainWhile n (fun c => mine c.sb) (fun e => e.drainHead n false) 16 d
  Dev.drainWhile n (fun c => mine c.devOut) (fun e => e.devArrive n false) (d1.core n).devOut.length d1
/-- Room for one more entry of a store buffer: what a store that waited in its bundle finds (R268, R269). -/
def Dev.makeRoom (d : Dev) (n : Nat) : Dev := Dev.drainWhile n (fun c => decide (16 ≤ c.sb.length)) (fun e => e.drainHead n false) 1 d

/-! ## Levels, returns and gates -/

/-- STATUS at a level: PL and MB. -/
def Bay.toLevel (x : Bay) (l : Nat) : Bay := { x with status := BitVec.ofNat 32 (setBits (setBits x.status.toNat 1 0 l) 3 3 (b2n (l == 3))) }
/-- The state an S or M return restores from its frame (R211). -/
def Bay.restore (x : Bay) (frame : Nat) : Bay :=
  let w := fun (o : Nat) => BitVec.ofNat 32 (frame >>> (8 * o))
  let st := w 4 &&& 0xE7
  let pl := bits st.toNat 1 0
  ({ x with
    status := (st &&& 0xE4) ||| BitVec.ofNat 32 (8 * b2n (pl == 3) + pl)
    repc := w 0x10 &&& 0x800000FF, spSrc := w 0x18, spDst := w 0x1C, spCnt := w 0x20, spState := w 0x24 &&& 0xFFF00CFF
    pc := w 0 &&& 0xFFFFFFFC, afterRet := true }).soil 16
/-- The bay after a gate call (R214): `args` are w16 to w23 of the caller. -/
def Dev.gateEnter (d : Dev) (n b g args : Nat) : Dev :=
  let x := d.bay n b
  let w := fun (k : Nat) => d.inForce (midGate g k)
  let lvl := bits (w 1).toNat 29 28
  let f : GateFrame := { ret := x.pc, kmask := x.kmask, gate := g, pl := x.level }
  let x1 := { x with gates := x.gates ++ [f], kmask := x.kmask ||| w 4, pc := w 0 &&& 0xFFFFFFFC }
  let x2 := if lvl = 1 then x1.advance else x1
  let x3 := x2.toLevel lvl
  let x4 := if lvl = 1 then x3 else (List.range 8).foldl (fun (z : Bay) i => z.land (.ir (z.phys (8 + i))) (args >>> (32 * i))) x3
  d.setBay n b (x4.land (.ir (x4.phys 16)) ((w 2).toNat + bits (w 3).toNat 19 0 * (4 * n + b + 1)))
/-- The bay after a gate return (R215). -/
def Dev.gateLeave (d : Dev) (n b : Nat) : Dev :=
  let x := d.bay n b
  match x.gates.getLast? with
  | none => d
  | some f =>
    let y := if x.level = 1 then x.retreat else x
    d.setBay n b ({ y with gates := y.gates.dropLast, kmask := f.kmask, pc := f.ret }.toLevel f.pl)
/-- Whether a fence's wait is long: a store it waits for may wait on DDR (R270). -/
def Dev.fenceIsLong (d : Dev) (n b : Nat) : Bool :=
  (d.core n).sb.any (fun e => e.bay == b && decide (ddrBase ≤ e.pa)) && Config.fenceLong d.free
/-- A bay whose next bundle waits, for the end of a fence or of its invalidations, or for an event. -/
def Bay.waitFor (x : Bay) (st : BayState) (w : Wait) : Bay := { x with st := st, wait := w }

/-- What an act of a bundle does, once its other effects stand; the pc already names the next bundle. -/
def Dev.act (d : Dev) (n b : Nat) (k : Act) (v w z : Nat) : Dev :=
  let x := d.bay n b
  match k with
  | .fence => if (d.core n).storesOf b then d.setBay n b (x.waitFor (if d.fenceIsLong n b then .miss else .frozen) .fence) else d
  | .syncI => d.modCore n (fun c => { c with icache := c.icache.filter (fun l => !c.iflushed.contains (b, l.1)), iflushed := c.iflushed.filter (fun p => p.1 != b) })
  | .syncT => if (d.core n).invs.any (fun p => p.1 == b) then d.setBay n b (x.waitFor .waiting .syncT) else d
  | .tlbiVa => d.invalidate n b (z == 1) (fun c => c.dropVa w v)
  | .tlbiTag => d.invalidate n b (z == 1) (fun c => c.dropTag v)
  | .tlbiAll => d.invalidate n b (z == 1) Core.dropAll
  | .tlbiAllk => d.invalidate n b (z == 1) Core.dropAllk
  | .kpv => d.put v [BitVec.ofNat 8 w]
  | .tlock => d.tlock n b (BitVec.ofNat 32 v) w z
  | .scall => d.setBay n b ({ x with lkS := x.pc, status := BitVec.ofNat 32 (setBits x.status.toNat 7 6 x.level), pc := BitVec.ofNat 32 v }.toLevel 1)
  | .fret => d.setBay n b ({ x with pc := x.lkS &&& 0xFFFFFFFC }.toLevel (bits x.status.toNat 7 6))
  | .gcall => d.gateEnter n b v w
  | .gret => d.gateLeave n b
  | .sret => d.setBay n b ((x.landAll.retreat).restore v)
  | .mret => d.setBay n b (x.landAll.restore v)
  | .wait => if bits x.pend.toNat 9 0 ≠ 0 then d else d.setBay n b (x.waitFor .waiting (.event v))
  | .yield => if (List.range 4).any (fun c => (d.bay n c).st == .ready && decide (x.pri ≤ (d.bay n c).pri)) then d.setBay n b { x with st := .ready } else d
  | .signal => d.raise v w 0x24 z
  | .etime => d.setBay n b { x with etH := BitVec.ofNat 32 (v / 2 ^ 32), etT := BitVec.ofNat 32 w }
  | .tevict => d
  | .tload => d

/-- A result that lands `lat` bundles after its own (R39, R185). -/
def Bay.fly (x : Bay) (t : Dest) (v lat : Nat) : Bay :=
  if t = .none then x else { x with flight := x.flight ++ [{ dest := t, val := BitVec.ofNat 128 v, lat := lat, dist := 0 }] }

/-- A bay that meets a miss: a short one freezes it, a long one switches it out; a bay that has stopped for another reason has the data to come as well (R264, R265). -/
def Bay.missed (x : Bay) (long : Bool) : Bay :=
  match x.st with
  | .running => { x with st := if long then .miss else .frozen, wait := .data }
  | .ready => if long then { x with st := .miss, wait := .data } else x
  | .frozen => { x with dataDue := true }
  | .miss => { x with dataDue := true }
  | .waiting => { x with dataDue := true }
  | _ => x

/-- One effect applied (R37). -/
def Dev.apply (d : Dev) (n b lvl : Nat) : Eff → Dev
  | .land t v lat => d.modBay n b (fun x => x.fly t v lat)
  | .store pa bs dev born => (d.makeRoom n).modCore n (fun c => { c with sb := c.sb ++ [{ bay := b, pa := pa, data := bs, dev := dev, lvl := lvl, born := born }] })
  | .atomic pa op v cmp t =>
    let old := BitVec.ofNat 32 (d.num pa 4)
    (d.put pa (toLe 4 (atomicNew op old v cmp).toNat)).modBay n b (fun x => x.fly t old.toNat 1)
  | .devLoad off t =>
    let e := d.devSettle n b
    (e.regTouch off).modBay n b (fun x => x.fly t (e.regValue (bayAgent n b) off) 3)
  | .goto pc => d.modBay n b (fun x => { x with pc := pc })
  | .miss long => d.modBay n b (fun x => x.missed long)
  | .rsPush v => d.modBay n b (fun x => x.setStack (x.stack.push v))
  | .rsPop => d.modBay n b (fun x => x.setStack x.stack.pop)
  | .advance => d.modBay n b Bay.advance
  | .retreat => d.modBay n b Bay.retreat
  | .mtc c v => d.ctlWrite n b c v
  | .iflush l => match l with
    | some k => d.modCore n (fun c => { c with iflushed := c.iflushed ++ [(b, 2 * k), (b, 2 * k + 1)] })
    | none => d
  | .japp s r t =>
    let q := (d.stream s).next
    match d.append s r (4 * n + b) with
    | (d1, held) => (if held then d1.modBay n b (fun x => { x with st := .waiting, wait := .jqueue }) else d1).modBay n b (fun x => x.fly t (q.toNat % 2 ^ 32) 4)
  | .jrel s q => d.release s (BitVec.ofNat 64 q)
  | .act k v w z => d.act n b k v w z

/-- When in a bundle an effect is applied: results, stores and journal operations, then control, then misses. -/
def Eff.stage : Eff → Nat
  | .goto _ => 1
  | .advance => 1
  | .retreat => 1
  | .mtc _ _ => 1
  | .act _ _ _ _ => 1
  | .miss long => if long then 2 else 3
  | _ => 0

/-- The effects of one stage applied in order. -/
def Dev.applyStage (d : Dev) (n b lvl k : Nat) (es : List Eff) : Dev := (es.filter (fun e => e.stage == k)).foldl (fun (e : Dev) f => e.apply n b lvl f) d
/-- The effects of a bundle, or of an iteration, applied. A pop returned the top before the bundle; where one bundle pushes and pops, both move RS in the order of the syllables (DESIGN CHOICE, log entry 30). -/
def Dev.applyAll (d : Dev) (n b : Nat) (es : List Eff) : Dev :=
  let l := (d.bay n b).level
  (((d.applyStage n b l 0 es).applyStage n b l 1 es).applyStage n b l 2 es).applyStage n b l 3 es

/-! ## The bundle takes effect -/

/-- The rank of a cause in the order of R77. -/
def causeRank (c : Nat) : Nat := if c = 1 then 0 else if c = 2 then 1 else if c = 3 then 2 else 3
/-- The exception a bundle reports (R77). -/
def pickExc : List (Nat × Exc) → Option Exc
  | [] => none
  | (p, e) :: es => match pickExc es with
    | none => some e
    | some f =>
      let better := es.any (fun q => decide (causeRank q.2.cause < causeRank e.cause) || (causeRank q.2.cause == causeRank e.cause && decide (q.1 < p)))
      if better then some f else some e

/-- The bay after the first bundle that follows an exception return: REPC.V and SP_STATE.V cleared, and DIRTY.S set where V was (R73, R130, R193). -/
def Bay.returned (x : Bay) : Bay :=
  let y := { x with repc := x.repc &&& 0x7FFFFFFF, spState := x.spState &&& 0x7FFFFFFF, afterRet := false }
  if x.spState.getLsbD 31 then y.soil 16 else y
/-- The bay after a bundle that completes: the next bundle follows. -/
def Bay.complete (x : Bay) (u : Bundle) : Bay :=
  { (if x.afterRet then x.returned else x) with bundle := none, walkFault := none, pc := u.pc + BitVec.ofNat 32 (4 * u.len) }.restartSpacing u.all

/-- The single-step exception after a bundle that completed at U level (R205, R219). -/
def Dev.stepTrap (d : Dev) (n b : Nat) (before : Bay) : Dev :=
  if before.level = 0 ∧ before.status.getLsbD 5 then d.modBay n b (fun x => { (match x.wait with | .event _ => { x with st := .running, wait := .none } | _ => x) with exc := some { cause := 0x12, detail := 2, pc := x.pc } }) else d

/-- A bay whose task another bay has asked to evict gives it up at its boundary; what it was doing is kept for an eviction that fails (R196). -/
def Bay.yieldTo (x : Bay) (asker : Nat) : Bay := { x with st := .moving, wait := .evicting asker, held := some (x.st, x.wait) }
/-- The bay that waits to evict bay `b` of a core, if any. -/
def Dev.asker (d : Dev) (n b : Nat) : Option Nat := (List.range 4).find? (fun a => decide (a ≠ b) && (d.bay n a).st == .waiting && (d.bay n a).wait == .tevict b)
/-- What a bay's boundary lets go on: an eviction that waited for it begins, or the drain of its pair evicts it (R196, R380). -/
def Dev.claim (d : Dev) (n b : Nat) : Dev :=
  match d.asker n b with
  | some a => if (d.bay n b).canLeave && (d.bay n b).level != 3 then d.modBay n b (fun x => x.yieldTo a) else d
  | none => if d.domState (n / 2) = 2 then d.drainBay n b else d

/-! ### Evictions and loads that a bundle waits for (R196, R198) -/

/-- Whether a TEVICT of bay `t` by bay `b` is refused (R196). -/
def Dev.tevictBad (d : Dev) (n b t : Nat) : Bool :=
  let z := d.bay n t
  decide (t = b) || !z.loaded || z.level == 3 || z.st == .moving
/-- The position of a bundle's first syllable of a kind. -/
def Bundle.posOf (u : Bundle) (p : Instr → Bool) : Nat := (((u.all.find? p).bind sylInfo).map (fun f => f.syl.pos.toNat)).getD 0
/-- Whether a syllable is JAPP, TEVICT or TLOAD: what meets the state of other bays and cores as its bundle takes effect. -/
def meetsLate : Instr → Bool
  | .japp _ _ _ _ => true
  | .tevict _ _ => true
  | .tload _ _ _ => true
  | _ => false
/-- What an effect answers that the checks at its syllable no longer cover, because another bay or core came between (R153, R196, R198). -/
def Dev.lateFault (d : Dev) (n b : Nat) : Eff → Option SylOut
  | .japp s r _ => (d.recordCheck s r).map (appendRefusal s)
  | .act .tevict t _ _ => if d.tevictBad n b t then some (.exc 2 0xB 0 0) else none
  | .act .tload t _ _ => if (d.bay n t).st ≠ .empty then some (.exc 2 0xC 0 0) else none
  | _ => none
/-- Whether an effect is an eviction or a load that its bundle waits for. -/
def Eff.asks : Eff → Bool
  | .act .tevict _ _ _ => true
  | .act .tload _ _ _ => true
  | _ => false
/-- The eviction or load of a bundle whose syllables have all executed without an exception begins; its bay waits. -/
def Dev.ask (d : Dev) (n b : Nat) : Eff → Dev
  | .act .tevict t _ _ => (d.modBay n b (fun x => x.waitFor .waiting (.tevict t))).claim n t
  | .act .tload t a _ => (d.modBay n b (fun x => x.waitFor .waiting (.tload t))).modBay n t (fun x => x.waitFor .moving (.loading (some b) a 0))
  | _ => d

/-- A bundle whose syllables have all executed: its exception, the eviction or load it waits for, or all its effects at once (R37, R44, R63, R77). -/
def Dev.finish (d : Dev) (n b : Nat) : Dev :=
  let x := d.bay n b
  match x.bundle with
  | none => d
  | some u => match pickExc u.excs with
    | some e => d.setBay n b { x with bundle := none, exc := some e }
    | none => match u.effs.findSome? (d.lateFault n b) with
      | some o => match d.excFor n b (u.posOf meetsLate) u o with
        | some (d1, e) => d1.modBay n b (fun z => { z with bundle := none, exc := some e })
        | none => d
      | none => match u.effs.find? Eff.asks with
        | some f => d.ask n b f
        | none => (((d.setBay n b (x.complete u)).applyAll n b u.effs).stepTrap n b x).claim n b

/-- A syllable that has executed: its effects and exceptions join the bundle, which takes effect after the last. -/
def Dev.sylDone (d : Dev) (n b : Nat) (effs : List Eff) (excs : List (Nat × Exc)) : Dev :=
  let x := d.bay n b
  match x.bundle with
  | none => d
  | some u =>
    let u1 := { u with todo := u.todo.tail, effs := u.effs ++ effs, excs := u.excs ++ excs }
    let d1 := d.setBay n b { x with bundle := some u1 }
    if u1.todo = [] then d1.finish n b else d1

/-- A syllable's answer taken into the open bundle. -/
def Dev.answered (d : Dev) (n b pos : Nat) (u : Bundle) (out : SylOut) : Dev :=
  match out with
  | .done effs => d.sylDone n b effs []
  | .hold st w => d.modBay n b (fun x => { x with st := st, wait := w })
  | .begin d1 => d1
  | .rep k => d.modBay n b (fun x => { x with bundle := some { u with rep := some k, todo := u.todo.tail, free := if u.todo.tail = [] then 1 else 0, len := if u.todo.tail = [] then 2 else u.len } })
  | o => match d.excFor n b pos u o with
    | some (d1, e) => d1.sylDone n b [] [(pos, e)]
    | none => d

/-- The iterations of a repeated syllable (R70, R72, R265): the effects of each stand at once, results age between them, and a miss or a hold stops the bay with the rest to come. -/
def Dev.repLoop (n b : Nat) (y : Syl) (f : Dev → SylOut) : Nat → Dev → Dev
  | 0, d => d.modBay n b (fun x => { x with bundle := x.bundle.map (fun u => { u with rep := none, todo := [], effs := [] }) }) |>.finish n b
  | k + 1, d =>
    let x := d.bay n b
    match x.bundle with
    | none => d
    | some u =>
      let keep := fun (e : Dev) (st : BayState) (w : Wait) (left : Nat) => e.modBay n b (fun z => { z with st := st, wait := w, bundle := some { u with rep := some left } })
      match (if x.guard d.free y then f d else .done []) with
      | .done effs =>
        let d1 := d.applyAll n b effs
        if k = 0 then Dev.repLoop n b y f k d1
        else
          let d2 := (d1.modBay n b (fun z => z.age.countBundle)).tickFree
          if (d2.bay n b).st = .running then Dev.repLoop n b y f k d2 else keep d2 (d2.bay n b).st (d2.bay n b).wait k
      | .hold st w => keep d st w (k + 1)
      | o => match d.excFor n b y.pos.toNat u o with
        | some (d1, e) => d1.modBay n b (fun z => { z with bundle := none, exc := some { e with repc := BitVec.ofNat 32 (2 ^ 31 + (k + 1)) } })
        | none => d

/-- The cause and reason that refuse a syllable that comes after an implied REP: its own reserved form, or one that may not be repeated (R71, R75). -/
def repFault (i : Instr) : Option (Nat × Nat) :=
  match (sylInfo i).bind (fun f => f.bad) with
  | some p => some p
  | none => if repAllowed i then none else some (2, 5)

/-- A syllable executed in the open bundle it belongs to; any other syllable is ignored (log entry 7). -/
def Dev.inBundle (d : Dev) (y : Syl) (i : Instr) (f : Dev → SylOut) : Dev :=
  let n := y.core.toNat
  let b := y.bay.toNat
  let x := d.bay n b
  match x.bundle with
  | none => d
  | some u =>
    if !d.issuing n b then d
    else match u.rep with
      | none => if u.todo.head? = some i then d.answered n b y.pos.toNat u (if x.guard d.free y then f d else .done []) else d
      | some k =>
        if u.free = 1 then
          let len := if hasLimm i then 3 else 2
          match repFault i with
          | some (c, r) => (d.modBay n b (fun z => { z with bundle := none })).refuseBundle n b u.pc c 1 len r
          | none => Dev.repLoop n b y f k (d.modBay n b (fun z => { z with bundle := some { u with len := len } }))
        else if u.todo.head? = some i then Dev.repLoop n b y f k d else d

/-- A syllable's command: the implied bundle where none is open, then its execution. -/
def Dev.runSyl (d : Dev) (y : Syl) (i : Instr) (f : Dev → SylOut) : Dev :=
  let n := y.core.toNat
  let b := y.bay.toNat
  (if (d.bay n b).bundle.isNone then d.openImplied n b i else d).inBundle y i f

/-! ## Data accesses (R235, R236, R263 to R269) -/

/-- The mirror location a refused store was meant for. -/
def Dev.mirrorAt (d : Dev) (n b lvl va : Nat) : Option Nat :=
  match d.probe n b lvl va false with
  | .ok e => let off := e.physical va - devBase; if devBase ≤ e.physical va ∧ isMirror off then some off else none
  | .error _ => none

/-- The kind code of an access (R236). -/
def AccKind.code : AccKind → Nat
  | .act => 0
  | .load => 1
  | .store => 2
  | .fetch => 3

/-- What a syllable answers to an access fault: kinds in causes 5 to 9, the journal's refusal without one. -/
def Dev.faultOut (d : Dev) (n b lvl : Nat) (k : AccKind) (c r va : Nat) : SylOut :=
  let fa := BitVec.ofNat 32 va
  if c = 0x16 then .exc c r fa 0
  else
    let low := k.code * 256 + r
    if k = .store ∧ c = 6 ∧ (r = 0x13 ∨ r = 0x18) then
      match d.mirrorAt n b lvl va with
      | some id => .refuse c low fa id
      | none => .exc c low fa 0
    else .exc c low fa 0

/-- The halves of a data access, or what the syllable answers instead: a walk to wait for, or the fault. -/
def Dev.reach (d : Dev) (n b lvl : Nat) (k : AccKind) (form : Bool) (va size : Nat) : Except SylOut (List (Nat × Nat)) :=
  match d.access n b lvl k form va size with
  | .ok hs => .ok hs
  | .error (.walk v) =>
    let s1 := firstHalf va size
    .error (.hold (if d.walkLong n ((d.bay n b).tag lvl) v then .miss else .frozen) (.walk v k (form && decide (s1 = size) && va % 4 == 0) (if v = va then s1 else size - s1)))
  | .error (.fault c r v) => .error (d.faultOut n b lvl k c r v)
  | .error (.ok _) => .ok []

/-- How long the data of a physical address takes: none for L1, short or long (Table 8.2). -/
def Dev.missAt (d : Dev) (n b lvl va pa : Nat) : Option Bool :=
  match d.region pa with
  | .loam => some false
  | .ddr =>
    let uc := match d.probe n b lvl va false with | .ok e => e.perm.getLsbD 10 | .error _ => false
    if uc then some true
    else match Config.ddrPlace d.free (pa / 64) % 3 with
      | 0 => none
      | 1 => some false
      | _ => some true
  | _ => some true
/-- The miss of an access, long where any half is long: each half by its own virtual address (R264). -/
def Dev.missOf (d : Dev) (n b lvl : Nat) : Nat → List (Nat × Nat) → Option Bool
  | _, [] => none
  | va, h :: hs =>
    match d.missAt n b lvl va h.1, Dev.missOf d n b lvl ((va + h.2) % 2 ^ 32) hs with
    | none, m => m
    | m, none => m
    | some x, some y => some (x || y)
/-- The miss of an access, as effects. -/
def Dev.missEffs (d : Dev) (n b lvl va : Nat) (hs : List (Nat × Nat)) : List Eff := ((d.missOf n b lvl va hs).map Eff.miss).toList

/-- A half whose storage does not answer, or holds uncorrectable data. -/
def Dev.unreadable (d : Dev) (va : Nat) (hs : List (Nat × Nat)) : Option SylOut :=
  match hs.find? (fun h => !d.servedAt h.1) with
  | some h => some (.raw 0x14 (Config.busDetail h.1) (BitVec.ofNat 32 va) 0)
  | none => match hs.find? (fun h => d.poisoned h.1 h.2) with
    | some h => some (.bad h.1 va)
    | none => none

/-- A load of `size` bytes: its value goes to `t` after `mk`, `lat` bundles later (R58, R226, R227). -/
def Dev.loadOut (d : Dev) (n b va size : Nat) (form : Bool) (t : Dest) (lat : Nat) (mk : List Byte → Nat) (more : List Eff) : SylOut :=
  let lvl := (d.bay n b).level
  match d.reach n b lvl .load form va size with
  | .error o => o
  | .ok hs =>
    let pa := (hs.headD (0, 0)).1
    if d.region pa = .devreg then .done (more ++ [.devLoad (pa - devBase) t, .miss true])
    else match d.unreadable va hs with
      | some o => o
      | none => .done (more ++ [.land t (mk (d.loadHalves n hs)) lat] ++ d.missEffs n b lvl va hs)

/-- Whether the head of a core's store buffer waits for a line from DDR (R268, R269). -/
def Dev.headOnDdr (d : Dev) (n : Nat) : Bool :=
  match (d.core n).sb with
  | e :: _ => decide (ddrBase ≤ e.pa) && Config.ddrPlace d.free (e.pa / 64) % 3 == 2
  | [] => false
/-- The wait for an entry of the store buffer. -/
def Dev.sbHold (d : Dev) (n : Nat) : SylOut := .hold (if d.headOnDdr n then .miss else .frozen) .storeBuffer

/-- The store effects of the halves of an access. -/
def Dev.storeEffs (d : Dev) (hs : List (Nat × Nat)) (bs : List Byte) : List Eff :=
  match hs with
  | [(p, _)] => [.store p bs (d.region p == .devreg) d.free]
  | [(p, s), (q, _)] => [.store p (bs.take s) false d.free, .store q (bs.drop s) false d.free]
  | _ => []
/-- A store of bytes (R58, R60, R268). -/
def Dev.storeOut (d : Dev) (n b va : Nat) (form : Bool) (bs : List Byte) (more : List Eff) : SylOut :=
  match d.reach n b (d.bay n b).level .store form va bs.length with
  | .error o => o
  | .ok hs => if 16 < (d.core n).sb.length + hs.length then d.sbHold n else .done (more ++ d.storeEffs hs bs)

/-! ## Windows, stacks and levels -/

/-- AUX of cause 0x0E: the Marl entry the engine stopped at (R209). -/
def Bay.stopEntry (x : Bay) : Word := BitVec.ofNat 32 (x.marl (if x.res ≤ 2 then x.mdepth - 1 else x.mdepth))
/-- What a syllable that advances the window answers before it may (R188, R190). -/
def Bay.needAdvance (x : Bay) : Option SylOut :=
  if x.res ≤ 9 then none else if x.sf then some (.exc 0x0E x.sfWhy 0 x.stopEntry) else some (.hold .frozen .window)
/-- What a syllable that retreats the window answers before it may. Where no window is left in memory Table 6.6 names no Marl entry, and AUX is 0 (DESIGN CHOICE, log entry 74). -/
def Bay.needRetreat (x : Bay) : Option SylOut :=
  if 3 ≤ x.res then none
  else if x.mdepth = 0 then some (.exc 0x0E 5 0 0)
  else if x.sf then some (.exc 0x0E x.sfWhy 0 x.stopEntry) else some (.hold .frozen .window)
/-- The trap of a push (R64). -/
def Bay.pushTrap (x : Bay) : Option SylOut := if x.trap ∧ x.stack.depth = 16 then some (.exc 0x0D 1 0 0) else none
/-- The trap of a pop (R64). -/
def Bay.popTrap (x : Bay) : Option SylOut := if x.trap ∧ x.stack.depth = 0 then some (.exc 0x0D 2 0 0) else none
/-- The first answer of a list that stands in the way, or the last. -/
def firstOut : List (Option SylOut) → SylOut → SylOut
  | [], o => o
  | some p :: _, _ => p
  | none :: ps, o => firstOut ps o
/-- The privilege exception of an operation below its level (R218, R239). -/
def Bay.below (x : Bay) (l : Nat) : Option SylOut := if x.level < l then some (.exc 3 1 0 0) else none

end Sys2Proof.Machine
end

