-- ==== Sys2Proof/Machine/Flags.lean ====
section
/-! DEFINITION. Conditions, the flags of ASR and DECCTL, and the integer results (R46 to R57, R84, R95). -/

namespace Sys2Proof.Machine

/-- ASR.OV. -/
def asrOV : Nat := 1
/-- ASR.DZ. -/
def asrDZ : Nat := 2

/-- The conditions of CMP and CMPI (Table 2.8). -/
def cmpCond (cond : BitVec 3) (a b : Word) : Bool :=
  match cond.toNat with
  | 0 => a == b
  | 1 => a != b
  | 2 => a.slt b
  | 3 => !a.slt b
  | 4 => a.ult b
  | 5 => !a.ult b
  | 6 => (a &&& b) != 0
  | _ => (a &&& b) == 0

/-- Whether a signed value lies outside 32 bits. -/
def overflows (v : Int) : Bool := v < -2147483648 || v > 2147483647

/-- Shift left by a count modulo 64 (R48). -/
def shl32 (a : Word) (c : Nat) : Word := a <<< (c % 64)
/-- Logical shift right by a count modulo 64 (R48). -/
def shr32 (a : Word) (c : Nat) : Word := a >>> (c % 64)
/-- Arithmetic shift right by a count modulo 64 (R48). -/
def sar32 (a : Word) (c : Nat) : Word := a.sshiftRight (c % 64)
/-- Rotate left by a count modulo 32 (R48). -/
def rol32 (a : Word) (c : Nat) : Word := a.rotateLeft (c % 32)

/-- Leading zeros of a word; 32 for 0 (Table 2.7). -/
def clz32 (a : Word) : Nat := if a = 0 then 32 else 31 - a.toNat.log2
/-- One bits of a word (Table 2.7). -/
def popc32 (a : Word) : Nat := ((List.range 32).map (fun i => b2n (a.getLsbD i))).sum
/-- Bytes reversed (Table 2.7). -/
def bswap32 (a : Word) : Word := BitVec.ofNat 32 (fromBe (toLe 4 a.toNat))

/-- Quotient, remainder, OV and DZ of a divide-class operation without a trap (R57). OV is DIV's alone. -/
def divide (signed : Bool) (a b : Word) : Word × Word × Bool × Bool :=
  if b = 0 then (0xFFFFFFFF, a, false, true)
  else if signed && a == 0x80000000 && b == 0xFFFFFFFF then (0x80000000, 0, true, false)
  else if signed then (BitVec.ofInt 32 (a.toInt.tdiv b.toInt), BitVec.ofInt 32 (a.toInt.tmod b.toInt), false, false)
  else (BitVec.ofNat 32 (a.toNat / b.toNat), BitVec.ofNat 32 (a.toNat % b.toNat), false, false)

/-- DECCTL.RM. -/
def decRM (c : Nat) : Nat := bits c 26 24
/-- DECCTL.BFS. -/
def decBFS (c : Nat) : Nat := bits c 31 27
/-- DECCTL.ZT. -/
def decZT (c : Nat) : Bool := bit c 20
/-- DECCTL.DX. -/
def decDX (c : Nat) : Bool := bit c 19
/-- DECCTL.DQ. -/
def decDQ (c : Nat) : Nat := bits c 15 12

/-- The arithmetic trap an outcome meets, by reason: invalid, then division by zero, then overflow (R95, R98). -/
def decTrap (ctl : Nat) (f : DFlags) : Option Nat :=
  if f.vf && bit ctl 18 then some 1
  else if f.zf && bit ctl 17 then some 2
  else if f.of && bit ctl 16 then some 3
  else none

/-- What a bay reads of the DECCTL controls: they hold what the MTCs of earlier bundles wrote (R86). -/
def Bay.decctlNow (x : Bay) : Nat := x.decctl.toNat

end Sys2Proof.Machine
end

