-- ==== Sys2Proof/Machine/Integer.lean ====
section
/-! DEFINITION. The meanings of the integer, compare and predicate syllables (R46 to R55, Tables 2.7 to 2.10). -/

namespace Sys2Proof.Machine

/-- The bay a syllable runs in. -/
def Dev.home (d : Dev) (y : Syl) : Bay := d.bay y.core.toNat y.bay.toNat
/-- An integer operand of a syllable. -/
def Dev.src (d : Dev) (y : Syl) (r : Reg) : Word := (d.home y).int d.free r
/-- A predicate operand of a syllable. -/
def Dev.psrc (d : Dev) (y : Syl) (q : Pred) : Bool := (d.home y).pred d.free q
/-- An integer result that lands `lat` bundles later. -/
def Dev.toInt (d : Dev) (y : Syl) (r : Reg) (v : Word) (lat : Nat) : Eff := .land ((d.home y).intDest r) v.toNat lat
/-- A predicate result. -/
def Dev.toPred (d : Dev) (y : Syl) (q : Pred) (v : Bool) (lat : Nat) : Eff := .land ((d.home y).predDest q) (b2n v) lat
/-- ASR flags set at the distance of a result (R54). -/
def asrEffs (flags lat : Nat) : List Eff := if flags = 0 then [] else [.land .asr flags lat]
/-- An integer result of latency 1. -/
def Dev.alu (d : Dev) (y : Syl) (r : Reg) (v : Word) : SylOut := .done [d.toInt y r v 1]
/-- An integer result of latency 1 that may overflow. -/
def Dev.aluV (d : Dev) (y : Syl) (r : Reg) (v : Word) (ov : Bool) : SylOut := .done (d.toInt y r v 1 :: asrEffs (asrOV * b2n ov) 1)
/-- A predicate result of latency 1. -/
def Dev.predOp (d : Dev) (y : Syl) (q : Pred) (v : Bool) : SylOut := .done [d.toPred y q v 1]

/-! ## Register operations (Table 2.7) -/

/-- ADD. -/
def execAdd (y : Syl) (d a b : Reg) (s : State) : Host.Outcome State Fault Refusal :=
  .next (s.run (fun e => e.runSyl y (.add y d a b) (fun v => v.alu y d ((v.src y a) + (v.src y b)))))
/-- SUB. -/
def execSub (y : Syl) (d a b : Reg) (s : State) : Host.Outcome State Fault Refusal :=
  .next (s.run (fun e => e.runSyl y (.sub y d a b) (fun v => v.alu y d ((v.src y a) - (v.src y b)))))
/-- AND. -/
def execAndd (y : Syl) (d a b : Reg) (s : State) : Host.Outcome State Fault Refusal :=
  .next (s.run (fun e => e.runSyl y (.andd y d a b) (fun v => v.alu y d ((v.src y a) &&& (v.src y b)))))
/-- OR. -/
def execOrr (y : Syl) (d a b : Reg) (s : State) : Host.Outcome State Fault Refusal :=
  .next (s.run (fun e => e.runSyl y (.orr y d a b) (fun v => v.alu y d ((v.src y a) ||| (v.src y b)))))
/-- XOR. -/
def execXor (y : Syl) (d a b : Reg) (s : State) : Host.Outcome State Fault Refusal :=
  .next (s.run (fun e => e.runSyl y (.xor y d a b) (fun v => v.alu y d ((v.src y a) ^^^ (v.src y b)))))
/-- ANDN. -/
def execAndn (y : Syl) (d a b : Reg) (s : State) : Host.Outcome State Fault Refusal :=
  .next (s.run (fun e => e.runSyl y (.andn y d a b) (fun v => v.alu y d ((v.src y a) &&& ~~~(v.src y b)))))
/-- SHL. -/
def execShl (y : Syl) (d a b : Reg) (s : State) : Host.Outcome State Fault Refusal :=
  .next (s.run (fun e => e.runSyl y (.shl y d a b) (fun v => v.alu y d (shl32 (v.src y a) ((v.src y b).toNat % 64)))))
/-- SHR. -/
def execShr (y : Syl) (d a b : Reg) (s : State) : Host.Outcome State Fault Refusal :=
  .next (s.run (fun e => e.runSyl y (.shr y d a b) (fun v => v.alu y d (shr32 (v.src y a) ((v.src y b).toNat % 64)))))
/-- SAR. -/
def execSar (y : Syl) (d a b : Reg) (s : State) : Host.Outcome State Fault Refusal :=
  .next (s.run (fun e => e.runSyl y (.sar y d a b) (fun v => v.alu y d (sar32 (v.src y a) ((v.src y b).toNat % 64)))))
/-- ROL. -/
def execRol (y : Syl) (d a b : Reg) (s : State) : Host.Outcome State Fault Refusal :=
  .next (s.run (fun e => e.runSyl y (.rol y d a b) (fun v => v.alu y d (rol32 (v.src y a) ((v.src y b).toNat % 32)))))
/-- MIN. -/
def execMin (y : Syl) (d a b : Reg) (s : State) : Host.Outcome State Fault Refusal :=
  .next (s.run (fun e => e.runSyl y (.min y d a b) (fun v => v.alu y d (if (v.src y a).slt (v.src y b) then (v.src y a) else (v.src y b)))))
/-- MAX. -/
def execMax (y : Syl) (d a b : Reg) (s : State) : Host.Outcome State Fault Refusal :=
  .next (s.run (fun e => e.runSyl y (.max y d a b) (fun v => v.alu y d (if (v.src y a).slt (v.src y b) then (v.src y b) else (v.src y a)))))
/-- MINU. -/
def execMinu (y : Syl) (d a b : Reg) (s : State) : Host.Outcome State Fault Refusal :=
  .next (s.run (fun e => e.runSyl y (.minu y d a b) (fun v => v.alu y d (if (v.src y a).ult (v.src y b) then (v.src y a) else (v.src y b)))))
/-- MAXU. -/
def execMaxu (y : Syl) (d a b : Reg) (s : State) : Host.Outcome State Fault Refusal :=
  .next (s.run (fun e => e.runSyl y (.maxu y d a b) (fun v => v.alu y d (if (v.src y a).ult (v.src y b) then (v.src y b) else (v.src y a)))))
/-- ADDV. -/
def execAddv (y : Syl) (d a b : Reg) (s : State) : Host.Outcome State Fault Refusal :=
  .next (s.run (fun e => e.runSyl y (.addv y d a b) (fun v => v.aluV y d ((v.src y a) + (v.src y b)) (overflows ((v.src y a).toInt + (v.src y b).toInt)))))
/-- SUBV. -/
def execSubv (y : Syl) (d a b : Reg) (s : State) : Host.Outcome State Fault Refusal :=
  .next (s.run (fun e => e.runSyl y (.subv y d a b) (fun v => v.aluV y d ((v.src y a) - (v.src y b)) (overflows ((v.src y a).toInt - (v.src y b).toInt)))))
/-- NEG. -/
def execNeg (y : Syl) (d a : Reg) (s : State) : Host.Outcome State Fault Refusal :=
  .next (s.run (fun e => e.runSyl y (.neg y d a) (fun v => v.aluV y d (-(v.src y a)) ((v.src y a) == 0x80000000))))
/-- ABS. -/
def execAbs (y : Syl) (d a : Reg) (s : State) : Host.Outcome State Fault Refusal :=
  .next (s.run (fun e => e.runSyl y (.abs y d a) (fun v => v.aluV y d (if (v.src y a).msb then -(v.src y a) else (v.src y a)) ((v.src y a) == 0x80000000))))
/-- CLZ. -/
def execClz (y : Syl) (d a : Reg) (s : State) : Host.Outcome State Fault Refusal :=
  .next (s.run (fun e => e.runSyl y (.clz y d a) (fun v => v.alu y d (BitVec.ofNat 32 (clz32 (v.src y a))))))
/-- POPC. -/
def execPopc (y : Syl) (d a : Reg) (s : State) : Host.Outcome State Fault Refusal :=
  .next (s.run (fun e => e.runSyl y (.popc y d a) (fun v => v.alu y d (BitVec.ofNat 32 (popc32 (v.src y a))))))
/-- SEXTB. -/
def execSextb (y : Syl) (d a : Reg) (s : State) : Host.Outcome State Fault Refusal :=
  .next (s.run (fun e => e.runSyl y (.sextb y d a) (fun v => v.alu y d (sextW 8 (v.src y a).toNat))))
/-- SEXTH. -/
def execSexth (y : Syl) (d a : Reg) (s : State) : Host.Outcome State Fault Refusal :=
  .next (s.run (fun e => e.runSyl y (.sexth y d a) (fun v => v.alu y d (sextW 16 (v.src y a).toNat))))
/-- ZEXTB. -/
def execZextb (y : Syl) (d a : Reg) (s : State) : Host.Outcome State Fault Refusal :=
  .next (s.run (fun e => e.runSyl y (.zextb y d a) (fun v => v.alu y d ((v.src y a) &&& 0xFF))))
/-- ZEXTH. -/
def execZexth (y : Syl) (d a : Reg) (s : State) : Host.Outcome State Fault Refusal :=
  .next (s.run (fun e => e.runSyl y (.zexth y d a) (fun v => v.alu y d ((v.src y a) &&& 0xFFFF))))
/-- BSWAP. -/
def execBswap (y : Syl) (d a : Reg) (s : State) : Host.Outcome State Fault Refusal :=
  .next (s.run (fun e => e.runSyl y (.bswap y d a) (fun v => v.alu y d (bswap32 (v.src y a)))))

/-! ## Immediates (R47, R48) -/

/-- ADDI. -/
def execAddi (y : Syl) (d a : Reg) (imm : BitVec 10) (p : Option Limm) (s : State) : Host.Outcome State Fault Refusal :=
  .next (s.run (fun e => e.runSyl y (.addi y d a imm p) (fun v => v.alu y d ((v.src y a) + immValue imm p))))
/-- ANDI. -/
def execAndi (y : Syl) (d a : Reg) (imm : BitVec 10) (p : Option Limm) (s : State) : Host.Outcome State Fault Refusal :=
  .next (s.run (fun e => e.runSyl y (.andi y d a imm p) (fun v => v.alu y d ((v.src y a) &&& immValue imm p))))
/-- ORI. -/
def execOri (y : Syl) (d a : Reg) (imm : BitVec 10) (p : Option Limm) (s : State) : Host.Outcome State Fault Refusal :=
  .next (s.run (fun e => e.runSyl y (.ori y d a imm p) (fun v => v.alu y d ((v.src y a) ||| immValue imm p))))
/-- XORI. -/
def execXori (y : Syl) (d a : Reg) (imm : BitVec 10) (p : Option Limm) (s : State) : Host.Outcome State Fault Refusal :=
  .next (s.run (fun e => e.runSyl y (.xori y d a imm p) (fun v => v.alu y d ((v.src y a) ^^^ immValue imm p))))
/-- SHLI. -/
def execShli (y : Syl) (d a : Reg) (count : BitVec 6) (s : State) : Host.Outcome State Fault Refusal :=
  .next (s.run (fun e => e.runSyl y (.shli y d a count) (fun v => v.alu y d (shl32 (v.src y a) count.toNat))))
/-- SHRI. -/
def execShri (y : Syl) (d a : Reg) (count : BitVec 6) (s : State) : Host.Outcome State Fault Refusal :=
  .next (s.run (fun e => e.runSyl y (.shri y d a count) (fun v => v.alu y d (shr32 (v.src y a) count.toNat))))
/-- SARI. -/
def execSari (y : Syl) (d a : Reg) (count : BitVec 6) (s : State) : Host.Outcome State Fault Refusal :=
  .next (s.run (fun e => e.runSyl y (.sari y d a count) (fun v => v.alu y d (sar32 (v.src y a) count.toNat))))
/-- ROLI. -/
def execRoli (y : Syl) (d a : Reg) (count : BitVec 6) (s : State) : Host.Outcome State Fault Refusal :=
  .next (s.run (fun e => e.runSyl y (.roli y d a count) (fun v => v.alu y d (rol32 (v.src y a) count.toNat))))
/-- SEL. -/
def execSel (y : Syl) (d a b : Reg) (qs : Pred) (s : State) : Host.Outcome State Fault Refusal :=
  .next (s.run (fun e => e.runSyl y (.sel y d a b qs) (fun v => v.alu y d (if v.psrc y qs then (v.src y a) else (v.src y b)))))

/-! ## Compares and predicates (R49, R50) -/

/-- What a compare writes in its mode (Table 2.9). -/
def Dev.compareOut (d : Dev) (y : Syl) (qt : Pred) (mode : BitVec 2) (c : Bool) : SylOut :=
  match mode.toNat with
  | 0 => .done [d.toPred y qt c 1]
  | 1 => .done [d.toPred y qt (d.psrc y qt && c) 1]
  | 2 => .done [d.toPred y qt (d.psrc y qt || c) 1]
  | _ => .done [d.toPred y qt c 1, d.toPred y (partner qt) (!c) 1]
/-- CMP. -/
def execCmp (y : Syl) (qt : Pred) (a b : Reg) (cond : BitVec 3) (mode : BitVec 2) (s : State) : Host.Outcome State Fault Refusal :=
  .next (s.run (fun e => e.runSyl y (.cmp y qt a b cond mode) (fun v => v.compareOut y qt mode (cmpCond cond (v.src y a) (v.src y b)))))
/-- CMPI. -/
def execCmpi (y : Syl) (qt : Pred) (a : Reg) (cond : BitVec 3) (mode : BitVec 2) (imm : BitVec 6) (p : Option Limm) (s : State) : Host.Outcome State Fault Refusal :=
  .next (s.run (fun e => e.runSyl y (.cmpi y qt a cond mode imm p) (fun v => v.compareOut y qt mode (cmpCond cond (v.src y a) (immCmp imm p)))))
/-- PAND. -/
def execPand (y : Syl) (qd qa qb : Pred) (s : State) : Host.Outcome State Fault Refusal :=
  .next (s.run (fun e => e.runSyl y (.pand y qd qa qb) (fun v => v.predOp y qd (v.psrc y qa && v.psrc y qb))))
/-- POR. -/
def execPor (y : Syl) (qd qa qb : Pred) (s : State) : Host.Outcome State Fault Refusal :=
  .next (s.run (fun e => e.runSyl y (.por y qd qa qb) (fun v => v.predOp y qd (v.psrc y qa || v.psrc y qb))))
/-- PXOR. -/
def execPxor (y : Syl) (qd qa qb : Pred) (s : State) : Host.Outcome State Fault Refusal :=
  .next (s.run (fun e => e.runSyl y (.pxor y qd qa qb) (fun v => v.predOp y qd (v.psrc y qa != v.psrc y qb))))
/-- PANDN. -/
def execPandn (y : Syl) (qd qa qb : Pred) (s : State) : Host.Outcome State Fault Refusal :=
  .next (s.run (fun e => e.runSyl y (.pandn y qd qa qb) (fun v => v.predOp y qd (v.psrc y qa && !v.psrc y qb))))
/-- PNOT. -/
def execPnot (y : Syl) (qd qa : Pred) (s : State) : Host.Outcome State Fault Refusal :=
  .next (s.run (fun e => e.runSyl y (.pnot y qd qa) (fun v => v.predOp y qd (!v.psrc y qa))))

/-! ## Special registers (R52, R64) -/

/-- MOVS: LC, LK, a push onto RS, or the predicates. -/
def Dev.movsOut (d : Dev) (y : Syl) (r : Reg) (code : Nat) : SylOut :=
  let x := d.home y
  let v := d.src y r
  match code with
  | 0 => .done [.land (.lc x.mbank) v.toNat 1]
  | 1 => .done [.land (.lk x.mbank) v.toNat 1]
  | 2 => firstOut [x.pushTrap] (.done [.rsPush v])
  | _ => .done ((rangeFrom 1 15).map (fun k => .land (.q x.mbank k) (b2n (v.getLsbD k)) 1))
/-- MOVF: LC, LK, a pop of RS, or the predicates. -/
def Dev.movfOut (d : Dev) (y : Syl) (r : Reg) (code : Nat) : SylOut :=
  let x := d.home y
  match code with
  | 0 => .done [d.toInt y r (BitVec.ofNat 32 (x.read d.free (.lc x.mbank))) 1]
  | 1 => .done [d.toInt y r (BitVec.ofNat 32 (x.read d.free (.lk x.mbank))) 1]
  | 2 => firstOut [x.popTrap] (.done [d.toInt y r x.stack.peek 1, .rsPop])
  | _ => .done [d.toInt y r (BitVec.ofNat 32 (x.preds d.free)) 1]
/-- MOVS. -/
def execMovs (y : Syl) (r : Reg) (code : BitVec 5) (s : State) : Host.Outcome State Fault Refusal :=
  .next (s.run (fun e => e.runSyl y (.movs y r code) (fun v => v.movsOut y r code.toNat)))
/-- MOVF. -/
def execMovf (y : Syl) (r : Reg) (code : BitVec 5) (s : State) : Host.Outcome State Fault Refusal :=
  .next (s.run (fun e => e.runSyl y (.movf y r code) (fun v => v.movfOut y r code.toNat)))

end Sys2Proof.Machine
end

