-- ==== Sys2Proof/Machine/Branch.lean ====
section
/-! DEFINITION. The meanings of the branches, calls, returns, counted branches and REP (R62 to R73). -/

namespace Sys2Proof.Machine

/-- The address of the bundle a syllable belongs to. -/
def Dev.here (d : Dev) (y : Syl) : Word := (d.home y).pc
/-- The address of the bundle that follows. -/
def Dev.next (d : Dev) (y : Syl) : Word :=
  match (d.home y).bundle with
  | some u => u.pc + BitVec.ofNat 32 (4 * u.len)
  | none => (d.home y).pc
/-- The target of a displacement, counted in syllables from the branch's own bundle. -/
def Dev.target (d : Dev) (y : Syl) (w disp : Nat) : Word := d.here y + sextW w disp * 4
/-- An indirect target: bits [1:0] are ignored. -/
def aligned (v : Word) : Word := v &&& 0xFFFFFFFC
/-- LK in use. -/
def Dev.lkNow (d : Dev) (y : Syl) : Word := BitVec.ofNat 32 ((d.home y).read d.free (.lk (d.home y).mbank))
/-- A call: LK and RS take the next bundle's address (R62). -/
def Dev.callEffs (d : Dev) (y : Syl) (t : Word) : List Eff := [.land (.lk (d.home y).mbank) (d.next y).toNat 1, .rsPush (d.next y), .goto t]
/-- CALL and CALLI. -/
def Dev.callOut (d : Dev) (y : Syl) (t : Word) : SylOut := firstOut [(d.home y).pushTrap] (.done (d.callEffs y t))
/-- CALL.W and CALLI.W: the window advances; its exception comes before the stack's (R77, R188). -/
def Dev.callWOut (d : Dev) (y : Syl) (t : Word) : SylOut :=
  firstOut [(d.home y).needAdvance, (d.home y).pushTrap] (.done (d.callEffs y t ++ [.advance]))
/-- A counted branch: the counter as read, its destination and the target (R66). -/
def countOut (c : Word) (dest : Dest) (t : Word) : SylOut :=
  if c = 0 then .done [] else .done (.land dest (c - 1).toNat 1 :: (if c - 1 = 0 then [] else [.goto t]))

/-- BR. -/
def execBr (y : Syl) (disp : BitVec 20) (s : State) : Host.Outcome State Fault Refusal :=
  .next (s.run (fun e => e.runSyl y (.br y disp) (fun v => .done [.goto (v.target y 20 disp.toNat)])))
/-- CALL. -/
def execCall (y : Syl) (disp : BitVec 19) (s : State) : Host.Outcome State Fault Refusal :=
  .next (s.run (fun e => e.runSyl y (.call y disp) (fun v => v.callOut y (v.target y 19 disp.toNat))))
/-- CALL.W. -/
def execCallW (y : Syl) (disp : BitVec 19) (s : State) : Host.Outcome State Fault Refusal :=
  .next (s.run (fun e => e.runSyl y (.callW y disp) (fun v => v.callWOut y (v.target y 19 disp.toNat))))
/-- BRI. -/
def execBri (y : Syl) (a : Reg) (s : State) : Host.Outcome State Fault Refusal :=
  .next (s.run (fun e => e.runSyl y (.bri y a) (fun v => .done [.goto (aligned (v.src y a))])))
/-- CALLI. -/
def execCalli (y : Syl) (a : Reg) (s : State) : Host.Outcome State Fault Refusal :=
  .next (s.run (fun e => e.runSyl y (.calli y a) (fun v => v.callOut y (aligned (v.src y a)))))
/-- CALLI.W. -/
def execCalliW (y : Syl) (a : Reg) (s : State) : Host.Outcome State Fault Refusal :=
  .next (s.run (fun e => e.runSyl y (.calliW y a) (fun v => v.callWOut y (aligned (v.src y a)))))
/-- RET. -/
def execRet (y : Syl) (s : State) : Host.Outcome State Fault Refusal :=
  .next (s.run (fun e => e.runSyl y (.ret y) (fun v => firstOut [(v.home y).popTrap] (.done [.rsPop, .goto (aligned (v.home y).stack.peek)]))))
/-- RET.W. -/
def execRetW (y : Syl) (s : State) : Host.Outcome State Fault Refusal :=
  .next (s.run (fun e => e.runSyl y (.retW y) (fun v => firstOut [(v.home y).needRetreat, (v.home y).popTrap] (.done [.rsPop, .goto (aligned (v.home y).stack.peek), .retreat]))))
/-- RETL. -/
def execRetl (y : Syl) (s : State) : Host.Outcome State Fault Refusal :=
  .next (s.run (fun e => e.runSyl y (.retl y) (fun v => .done [.goto (aligned (v.lkNow y))])))
/-- DB. -/
def execDb (y : Syl) (c : Reg) (disp : BitVec 15) (s : State) : Host.Outcome State Fault Refusal :=
  .next (s.run (fun e => e.runSyl y (.db y c disp) (fun v => countOut (v.src y c) ((v.home y).intDest c) (v.target y 15 disp.toNat))))
/-- DBLC. -/
def execDblc (y : Syl) (disp : BitVec 20) (s : State) : Host.Outcome State Fault Refusal :=
  .next (s.run (fun e => e.runSyl y (.dblc y disp) (fun v => countOut (BitVec.ofNat 32 ((v.home y).read v.free (.lc (v.home y).mbank))) (.lc (v.home y).mbank) (v.target y 20 disp.toNat))))
/-- The count REP latches: the resume count after an exception return, imm8, or CR saturated to 255 (R70, R73). -/
def Dev.repCount (d : Dev) (y : Syl) (cr : Reg) (i : Bool) (imm : BitVec 8) : Nat :=
  let x := d.home y
  if x.afterRet && x.repc.getLsbD 31 then bits x.repc.toNat 7 0 else if i then imm.toNat else Nat.min (d.src y cr).toNat 255
/-- REP. -/
def execRep (y : Syl) (cr : Reg) (i : Bool) (imm : BitVec 8) (s : State) : Host.Outcome State Fault Refusal :=
  .next (s.run (fun e => e.runSyl y (.rep y cr i imm) (fun v => .rep (v.repCount y cr i imm))))

end Sys2Proof.Machine
end

