-- ==== Sys2Proof/Machine/Memory.lean ====
section
/-! DEFINITION. The meanings of the integer loads, stores and atomic operations (R58 to R61, R225 to R227, R268). -/

namespace Sys2Proof.Machine

/-- The effective address of a MEM-format syllable (Table 2.12). -/
def Dev.ea (d : Dev) (y : Syl) (a : Reg) (am : BitVec 2) (low : BitVec 8) (p : Option Limm) (size : Nat) : Word :=
  effAddr (d.src y a) (d.src y (indexReg low)) am low p size
/-- The base update of a MEM-format syllable, latency 1 (R59). -/
def Dev.baseEffs (d : Dev) (y : Syl) (a : Reg) (am : BitVec 2) (low : BitVec 8) : List Eff :=
  match baseUpdate (d.src y a) am low with
  | some v => [d.toInt y a v 1]
  | none => []
/-- An integer load of latency 3. -/
def Dev.intLoad (d : Dev) (y : Syl) (r a : Reg) (am : BitVec 2) (low : BitVec 8) (p : Option Limm) (size : Nat) (mk : Nat → Word) : SylOut :=
  d.loadOut y.core.toNat y.bay.toNat (d.ea y a am low p size).toNat size (size == 4) ((d.home y).intDest r) 3 (fun bs => (mk (fromLe bs)).toNat) (d.baseEffs y a am low)
/-- An integer store of the low bytes of D, read at issue. -/
def Dev.intStore (d : Dev) (y : Syl) (r a : Reg) (am : BitVec 2) (low : BitVec 8) (p : Option Limm) (size : Nat) : SylOut :=
  d.storeOut y.core.toNat y.bay.toNat (d.ea y a am low p size).toNat (size == 4) (toLe size (d.src y r).toNat) (d.baseEffs y a am low)

/-- LDB. -/
def execLdb (y : Syl) (d a : Reg) (am : BitVec 2) (low : BitVec 8) (p : Option Limm) (s : State) : Host.Outcome State Fault Refusal :=
  .next (s.run (fun e => e.runSyl y (.ldb y d a am low p) (fun v => v.intLoad y d a am low p 1 (sextW 8))))
/-- LDBU. -/
def execLdbu (y : Syl) (d a : Reg) (am : BitVec 2) (low : BitVec 8) (p : Option Limm) (s : State) : Host.Outcome State Fault Refusal :=
  .next (s.run (fun e => e.runSyl y (.ldbu y d a am low p) (fun v => v.intLoad y d a am low p 1 (BitVec.ofNat 32))))
/-- LDH. -/
def execLdh (y : Syl) (d a : Reg) (am : BitVec 2) (low : BitVec 8) (p : Option Limm) (s : State) : Host.Outcome State Fault Refusal :=
  .next (s.run (fun e => e.runSyl y (.ldh y d a am low p) (fun v => v.intLoad y d a am low p 2 (sextW 16))))
/-- LDHU. -/
def execLdhu (y : Syl) (d a : Reg) (am : BitVec 2) (low : BitVec 8) (p : Option Limm) (s : State) : Host.Outcome State Fault Refusal :=
  .next (s.run (fun e => e.runSyl y (.ldhu y d a am low p) (fun v => v.intLoad y d a am low p 2 (BitVec.ofNat 32))))
/-- LDW. -/
def execLdw (y : Syl) (d a : Reg) (am : BitVec 2) (low : BitVec 8) (p : Option Limm) (s : State) : Host.Outcome State Fault Refusal :=
  .next (s.run (fun e => e.runSyl y (.ldw y d a am low p) (fun v => v.intLoad y d a am low p 4 (BitVec.ofNat 32))))
/-- STB. -/
def execStb (y : Syl) (d a : Reg) (am : BitVec 2) (low : BitVec 8) (p : Option Limm) (s : State) : Host.Outcome State Fault Refusal :=
  .next (s.run (fun e => e.runSyl y (.stb y d a am low p) (fun v => v.intStore y d a am low p 1)))
/-- STH. -/
def execSth (y : Syl) (d a : Reg) (am : BitVec 2) (low : BitVec 8) (p : Option Limm) (s : State) : Host.Outcome State Fault Refusal :=
  .next (s.run (fun e => e.runSyl y (.sth y d a am low p) (fun v => v.intStore y d a am low p 2)))
/-- STW. -/
def execStw (y : Syl) (d a : Reg) (am : BitVec 2) (low : BitVec 8) (p : Option Limm) (s : State) : Host.Outcome State Fault Refusal :=
  .next (s.run (fun e => e.runSyl y (.stw y d a am low p) (fun v => v.intStore y d a am low p 4)))

/-! ## Atomic operations (Table 2.13) -/

/-- An atomic operation on the aligned word at A: it waits for buffered stores to the word, and its access is made with its bundle (R61, R255, R270). -/
def Dev.atomicOut (d : Dev) (y : Syl) (op : Nat) (r a b : Reg) : SylOut :=
  let n := y.core.toNat
  let va := (d.src y a).toNat
  let x := d.home y
  if va % 4 ≠ 0 then .exc 4 1 (BitVec.ofNat 32 va) 0
  else match d.reach n y.bay.toNat x.level .store false va 4 with
    | .error o => o
    | .ok hs =>
      let pa := (hs.headD (0, 0)).1
      match d.unreadable va hs with
      | some o => o
      | none =>
        if (d.core n).sb.any (fun e => decide (e.pa < pa + 4) && decide (pa < e.pa + e.data.length)) then d.sbHold n
        else .done [.atomic pa op (d.src y b) (d.src y r) (x.intDest r), .miss ((d.missAt n y.bay.toNat x.level va pa).getD false)]
/-- SWAPW. -/
def execSwapw (y : Syl) (d a b : Reg) (s : State) : Host.Outcome State Fault Refusal :=
  .next (s.run (fun e => e.runSyl y (.swapw y d a b) (fun v => v.atomicOut y 0 d a b)))
/-- CASW. -/
def execCasw (y : Syl) (d a b : Reg) (s : State) : Host.Outcome State Fault Refusal :=
  .next (s.run (fun e => e.runSyl y (.casw y d a b) (fun v => v.atomicOut y 1 d a b)))
/-- FADDW. -/
def execFaddw (y : Syl) (d a b : Reg) (s : State) : Host.Outcome State Fault Refusal :=
  .next (s.run (fun e => e.runSyl y (.faddw y d a b) (fun v => v.atomicOut y 2 d a b)))
/-- FANDW. -/
def execFandw (y : Syl) (d a b : Reg) (s : State) : Host.Outcome State Fault Refusal :=
  .next (s.run (fun e => e.runSyl y (.fandw y d a b) (fun v => v.atomicOut y 3 d a b)))
/-- FORW. -/
def execForw (y : Syl) (d a b : Reg) (s : State) : Host.Outcome State Fault Refusal :=
  .next (s.run (fun e => e.runSyl y (.forw y d a b) (fun v => v.atomicOut y 4 d a b)))

end Sys2Proof.Machine
end

