-- ==== Sys2Proof/Machine/Decimal.lean ====
section
/-! DEFINITION. The meanings of the decimal, packed and conversion syllables and of the decimal loads and stores (R79 to R108). -/

namespace Sys2Proof.Machine

/-- A decimal operand of a syllable. -/
def Dev.dsrc (d : Dev) (y : Syl) (r : DReg) : QWord := (d.home y).dec d.free r
/-- DECCTL as a syllable reads it (R86). -/
def Dev.decNow (d : Dev) (y : Syl) : Nat := (d.home y).decctlNow
/-- DECCTL flags set at the distance of a result (R87). -/
def decEffs (f : DFlags) (lat : Nat) : List Eff := if f.toWord = 0 then [] else [.land .decctl f.toWord.toNat lat]
/-- The data-invalid indication of an operation that checks packed or zoned data: qDQ, under DX = 0 and DQ not 0 (R97). -/
def Dev.dqEffs (d : Dev) (y : Syl) (invalid : Bool) (lat : Nat) : List Eff :=
  let c := d.decNow y
  if decDX c ∨ decDQ c = 0 then [] else [.land (.q (d.home y).mbank (decDQ c)) (b2n invalid) lat]
/-- An outcome delivered: its trap, or the result and the flags (R95). -/
def Dev.decOut (d : Dev) (y : Syl) (t : Dest) (v lat : Nat) (f : DFlags) (more : List Eff) : SylOut :=
  match decTrap (d.decNow y) f with
  | some r => .exc 0x0B r 0 0
  | none => .done (.land t v lat :: decEffs f lat ++ more)
/-- A decimal result. -/
def Dev.decR (d : Dev) (y : Syl) (r : DReg) (lat : Nat) (o : DOut) : SylOut := d.decOut y (.d r.toNat) o.val.toNat lat o.fl []
/-- The data check of packed operands A and B (R98): the reason of the first error. -/
def packedCheck2 (a : QWord) (b : Option QWord) : Option Nat := (packedCheck true a.toNat).or (b.bind (fun v => packedCheck false v.toNat))
/-- An operation that checks its packed operands: the exception under DX, the substitute, or the result (R95, R97). -/
def Dev.checked (d : Dev) (y : Syl) (t : Dest) (lat : Nat) (err : Option Nat) (subst : Nat) (v : Nat) (f : DFlags) : SylOut :=
  match err with
  | some r => if decDX (d.decNow y) then .exc 0x0A r 0 0 else .done ([.land t subst lat, .land .decctl 32 lat] ++ d.dqEffs y true lat)
  | none => d.decOut y t v lat f (d.dqEffs y false lat)
/-- A packed result of one operand. -/
def Dev.packed1 (d : Dev) (y : Syl) (r : DReg) (lat : Nat) (a subst : QWord) (o : DOut) : SylOut :=
  d.checked y (.d r.toNat) lat (packedCheck2 a none) subst.toNat o.val.toNat o.fl
/-- A packed result of two operands. -/
def Dev.packed2 (d : Dev) (y : Syl) (r : DReg) (lat : Nat) (a b : QWord) (o : DOut) : SylOut :=
  d.checked y (.d r.toNat) lat (packedCheck2 a (some b)) invalidPacked.toNat o.val.toNat o.fl
/-- The rounding mode of a syllable. -/
def Dev.rm (d : Dev) (y : Syl) : Nat := decRM (d.decNow y)
/-- The format of DCMP. -/
def fmtOf (w : Bool) : DFmt := if w then .d128 else .d64

/-! ## Decimal memory (Table 3.10) -/

/-- A decimal load of latency 3. -/
def Dev.decLoad (d : Dev) (y : Syl) (r : DReg) (va : Word) (size : Nat) (mk : List Byte → Nat) : SylOut :=
  d.loadOut y.core.toNat y.bay.toNat va.toNat size false (.d r.toNat) 3 mk []
/-- A decimal store of the low bytes of dD. -/
def Dev.decStore (d : Dev) (y : Syl) (r : DReg) (va : Word) (size : Nat) : SylOut :=
  d.storeOut y.core.toNat y.bay.toNat va.toNat false (toLe size (d.dsrc y r).toNat) []
/-- STP: the overflow check comes before the store's (R107). -/
def Dev.stpSyl (d : Dev) (y : Syl) (r : DReg) (va : Word) (l : Nat) : SylOut :=
  let o := stpOut l (d.dsrc y r)
  let f : DFlags := { of := o.2 }
  match decTrap (d.decNow y) f with
  | some k => .exc 0x0B k 0 0
  | none => d.storeOut y.core.toNat y.bay.toNat va.toNat false o.1 (decEffs f 1)
/-- STZ: data check, overflow check, store (R107). -/
def Dev.stzSyl (d : Dev) (y : Syl) (r : DReg) (va : Word) (n : Nat) : SylOut :=
  let v := d.dsrc y r
  let o := stzOut n v
  let bad := packedCheck true v.toNat
  let f : DFlags := { df := bad.isSome, of := o.2 }
  match bad, decDX (d.decNow y), decTrap (d.decNow y) f with
  | some k, true, _ => .exc 0x0A k 0 0
  | _, _, some k => .exc 0x0B k 0 0
  | some _, false, none => .done (decEffs f 1 ++ d.dqEffs y true 1)
  | none, _, none => d.storeOut y.core.toNat y.bay.toNat va.toNat false o.1 (decEffs f 1 ++ d.dqEffs y false 1)

/-- LDZ: every byte is checked once the field is read (R107). -/
def Dev.ldzSyl (d : Dev) (y : Syl) (r : DReg) (va : Word) (n : Nat) : SylOut :=
  let lvl := (d.home y).level
  match d.reach y.core.toNat y.bay.toNat lvl .load false va.toNat n with
  | .error o => o
  | .ok hs => match d.unreadable va.toNat hs with
    | some o => o
    | none =>
      let o := ldzOut (d.loadHalves y.core.toNat hs)
      if o.2 && decDX (d.decNow y) then .exc 0x0A 5 0 0
      else .done (.land (.d r.toNat) o.1.toNat 5 :: decEffs { df := o.2 } 5 ++ d.dqEffs y o.2 5 ++ d.missEffs y.core.toNat y.bay.toNat lvl va.toNat hs)

/-! ## Decimal arithmetic (Table 3.8) -/
/-- DADD. -/
def execDadd (y : Syl) (d a b : DReg) (s : State) : Host.Outcome State Fault Refusal :=
  .next (s.run (fun e => e.runSyl y (.dadd y d a b) (fun v => v.decR y d 3 (decAdd .d64 (v.rm y) (v.dsrc y a) (v.dsrc y b)))))
/-- DSUB. -/
def execDsub (y : Syl) (d a b : DReg) (s : State) : Host.Outcome State Fault Refusal :=
  .next (s.run (fun e => e.runSyl y (.dsub y d a b) (fun v => v.decR y d 3 (decSub .d64 (v.rm y) (v.dsrc y a) (v.dsrc y b)))))
/-- DMUL. -/
def execDmul (y : Syl) (d a b : DReg) (s : State) : Host.Outcome State Fault Refusal :=
  .next (s.run (fun e => e.runSyl y (.dmul y d a b) (fun v => v.decR y d 3 (decMul .d64 (v.rm y) (v.dsrc y a) (v.dsrc y b)))))
/-- DDIV. -/
def execDdiv (y : Syl) (d a b : DReg) (s : State) : Host.Outcome State Fault Refusal :=
  .next (s.run (fun e => e.runSyl y (.ddiv y d a b) (fun v => v.decR y d 22 (decDiv .d64 (v.rm y) (v.dsrc y a) (v.dsrc y b)))))
/-- DQUA. -/
def execDqua (y : Syl) (d a b : DReg) (s : State) : Host.Outcome State Fault Refusal :=
  .next (s.run (fun e => e.runSyl y (.dqua y d a b) (fun v => v.decR y d 3 (decQua .d64 (v.rm y) (v.dsrc y a) (v.dsrc y b)))))
/-- DRNI. -/
def execDrni (y : Syl) (d a : DReg) (s : State) : Host.Outcome State Fault Refusal :=
  .next (s.run (fun e => e.runSyl y (.drni y d a) (fun v => v.decR y d 3 (decRni .d64 (v.rm y) (v.dsrc y a)))))
/-- DNEG. -/
def execDneg (y : Syl) (d a : DReg) (s : State) : Host.Outcome State Fault Refusal :=
  .next (s.run (fun e => e.runSyl y (.dneg y d a) (fun v => v.decR y d 1 (decNeg .d64 (v.dsrc y a)))))
/-- DABS. -/
def execDabs (y : Syl) (d a : DReg) (s : State) : Host.Outcome State Fault Refusal :=
  .next (s.run (fun e => e.runSyl y (.dabs y d a) (fun v => v.decR y d 1 (decAbs .d64 (v.dsrc y a)))))
/-- DCPS. -/
def execDcps (y : Syl) (d a b : DReg) (s : State) : Host.Outcome State Fault Refusal :=
  .next (s.run (fun e => e.runSyl y (.dcps y d a b) (fun v => v.decR y d 1 (decCps .d64 (v.dsrc y a) (v.dsrc y b)))))
/-- DADD.X. -/
def execDaddX (y : Syl) (d a b : DReg) (s : State) : Host.Outcome State Fault Refusal :=
  .next (s.run (fun e => e.runSyl y (.daddX y d a b) (fun v => v.decR y d 4 (decAdd .d128 (v.rm y) (v.dsrc y a) (v.dsrc y b)))))
/-- DSUB.X. -/
def execDsubX (y : Syl) (d a b : DReg) (s : State) : Host.Outcome State Fault Refusal :=
  .next (s.run (fun e => e.runSyl y (.dsubX y d a b) (fun v => v.decR y d 4 (decSub .d128 (v.rm y) (v.dsrc y a) (v.dsrc y b)))))
/-- DMUL.X. -/
def execDmulX (y : Syl) (d a b : DReg) (s : State) : Host.Outcome State Fault Refusal :=
  .next (s.run (fun e => e.runSyl y (.dmulX y d a b) (fun v => v.decR y d 7 (decMul .d128 (v.rm y) (v.dsrc y a) (v.dsrc y b)))))
/-- DDIV.X. -/
def execDdivX (y : Syl) (d a b : DReg) (s : State) : Host.Outcome State Fault Refusal :=
  .next (s.run (fun e => e.runSyl y (.ddivX y d a b) (fun v => v.decR y d 40 (decDiv .d128 (v.rm y) (v.dsrc y a) (v.dsrc y b)))))
/-- DQUA.X. -/
def execDquaX (y : Syl) (d a b : DReg) (s : State) : Host.Outcome State Fault Refusal :=
  .next (s.run (fun e => e.runSyl y (.dquaX y d a b) (fun v => v.decR y d 4 (decQua .d128 (v.rm y) (v.dsrc y a) (v.dsrc y b)))))
/-- DRNI.X. -/
def execDrniX (y : Syl) (d a : DReg) (s : State) : Host.Outcome State Fault Refusal :=
  .next (s.run (fun e => e.runSyl y (.drniX y d a) (fun v => v.decR y d 4 (decRni .d128 (v.rm y) (v.dsrc y a)))))
/-- DNEG.X. -/
def execDnegX (y : Syl) (d a : DReg) (s : State) : Host.Outcome State Fault Refusal :=
  .next (s.run (fun e => e.runSyl y (.dnegX y d a) (fun v => v.decR y d 1 (decNeg .d128 (v.dsrc y a)))))
/-- DABS.X. -/
def execDabsX (y : Syl) (d a : DReg) (s : State) : Host.Outcome State Fault Refusal :=
  .next (s.run (fun e => e.runSyl y (.dabsX y d a) (fun v => v.decR y d 1 (decAbs .d128 (v.dsrc y a)))))
/-- DCPS.X. -/
def execDcpsX (y : Syl) (d a b : DReg) (s : State) : Host.Outcome State Fault Refusal :=
  .next (s.run (fun e => e.runSyl y (.dcpsX y d a b) (fun v => v.decR y d 1 (decCps .d128 (v.dsrc y a) (v.dsrc y b)))))
/-- CVT.X. -/
def execCvtX (y : Syl) (d a : DReg) (s : State) : Host.Outcome State Fault Refusal :=
  .next (s.run (fun e => e.runSyl y (.cvtX y d a) (fun v => v.decR y d 2 (decWiden (v.rm y) (v.dsrc y a)))))
/-- CVT.D. -/
def execCvtD (y : Syl) (d a : DReg) (s : State) : Host.Outcome State Fault Refusal :=
  .next (s.run (fun e => e.runSyl y (.cvtD y d a) (fun v => v.decR y d 3 (decNarrow (v.rm y) (v.dsrc y a)))))
/-- CVID. -/
def execCvid (y : Syl) (d : DReg) (a : Reg) (s : State) : Host.Outcome State Fault Refusal :=
  .next (s.run (fun e => e.runSyl y (.cvid y d a) (fun v => v.decR y d 3 (decFromInt (v.rm y) (v.src y a)))))
/-- CVDI. -/
def execCvdi (y : Syl) (d : Reg) (a : DReg) (s : State) : Host.Outcome State Fault Refusal :=
  .next (s.run (fun e => e.runSyl y (.cvdi y d a) (fun v => v.decOut y ((v.home y).intDest d) (decToInt (v.rm y) (v.dsrc y a)).1.toNat 3 (decToInt (v.rm y) (v.dsrc y a)).2 [])))
/-- CVPD. -/
def execCvpd (y : Syl) (d a : DReg) (n : BitVec 5) (s : State) : Host.Outcome State Fault Refusal :=
  .next (s.run (fun e => e.runSyl y (.cvpd y d a n) (fun v => v.packed1 y d 3 (v.dsrc y a) (BitVec.ofNat 128 (DFmt.d64.encode .dataNan)) (decFromPacked .d64 (v.rm y) n.toNat (v.dsrc y a)))))
/-- CVPX. -/
def execCvpx (y : Syl) (d a : DReg) (n : BitVec 5) (s : State) : Host.Outcome State Fault Refusal :=
  .next (s.run (fun e => e.runSyl y (.cvpx y d a n) (fun v => v.packed1 y d 3 (v.dsrc y a) (BitVec.ofNat 128 (DFmt.d128.encode .dataNan)) (decFromPacked .d128 (v.rm y) n.toNat (v.dsrc y a)))))
/-- CVDP. -/
def execCvdp (y : Syl) (d a : DReg) (n : BitVec 5) (s : State) : Host.Outcome State Fault Refusal :=
  .next (s.run (fun e => e.runSyl y (.cvdp y d a n) (fun v => v.decR y d 4 (decToPacked .d64 (v.rm y) n.toNat (v.dsrc y a)))))
/-- CVXP. -/
def execCvxp (y : Syl) (d a : DReg) (n : BitVec 5) (s : State) : Host.Outcome State Fault Refusal :=
  .next (s.run (fun e => e.runSyl y (.cvxp y d a n) (fun v => v.decR y d 4 (decToPacked .d128 (v.rm y) n.toNat (v.dsrc y a)))))
/-- PADD. -/
def execPadd (y : Syl) (d a b : DReg) (s : State) : Host.Outcome State Fault Refusal :=
  .next (s.run (fun e => e.runSyl y (.padd y d a b) (fun v => v.packed2 y d 3 (v.dsrc y a) (v.dsrc y b) (packedAdd (v.dsrc y a) (v.dsrc y b)))))
/-- PSUB. -/
def execPsub (y : Syl) (d a b : DReg) (s : State) : Host.Outcome State Fault Refusal :=
  .next (s.run (fun e => e.runSyl y (.psub y d a b) (fun v => v.packed2 y d 3 (v.dsrc y a) (v.dsrc y b) (packedSub (v.dsrc y a) (v.dsrc y b)))))
/-- PSHL. -/
def execPshl (y : Syl) (d a : DReg) (n : BitVec 5) (s : State) : Host.Outcome State Fault Refusal :=
  .next (s.run (fun e => e.runSyl y (.pshl y d a n) (fun v => v.packed1 y d 2 (v.dsrc y a) invalidPacked (packedShl n.toNat (v.dsrc y a)))))
/-- PSHR. -/
def execPshr (y : Syl) (d a : DReg) (n : BitVec 5) (s : State) : Host.Outcome State Fault Refusal :=
  .next (s.run (fun e => e.runSyl y (.pshr y d a n) (fun v => v.packed1 y d 3 (v.dsrc y a) invalidPacked (packedShr (v.rm y) n.toNat (v.dsrc y a)))))
/-- PCHK. -/
def execPchk (y : Syl) (d a : DReg) (s : State) : Host.Outcome State Fault Refusal :=
  .next (s.run (fun e => e.runSyl y (.pchk y d a) (fun v => v.packed1 y d 2 (v.dsrc y a) invalidPacked (packedChk (v.dsrc y a)))))
/-- DCMP. -/
def execDcmp (y : Syl) (qt : Pred) (sg : Bool) (a b : DReg) (cond : BitVec 3) (w : Bool) (s : State) : Host.Outcome State Fault Refusal :=
  .next (s.run (fun e => e.runSyl y (.dcmp y qt sg a b cond w) (fun v => v.decOut y ((v.home y).predDest qt) (b2n (decCompare (fmtOf w) sg cond.toNat (v.dsrc y a) (v.dsrc y b)).1) 2 (decCompare (fmtOf w) sg cond.toNat (v.dsrc y a) (v.dsrc y b)).2 [])))
/-- PCMP. -/
def execPcmp (y : Syl) (qt : Pred) (a b : DReg) (cond : BitVec 3) (s : State) : Host.Outcome State Fault Refusal :=
  .next (s.run (fun e => e.runSyl y (.pcmp y qt a b cond) (fun v => v.checked y ((v.home y).predDest qt) 2 (packedCheck2 (v.dsrc y a) (some (v.dsrc y b))) 0 (b2n (packedCompare cond.toNat (v.dsrc y a) (v.dsrc y b))) {})))

/-! ## Decimal loads and stores -/
/-- LDD. -/
def execLdd (y : Syl) (d : DReg) (a : Reg) (disp : BitVec 6) (p : Option Limm) (s : State) : Host.Outcome State Fault Refusal :=
  .next (s.run (fun e => e.runSyl y (.ldd y d a disp p) (fun v => v.decLoad y d (effAddrD (v.src y a) disp p 8) 8 fromLe)))
/-- LDD.X. -/
def execLddX (y : Syl) (d : DReg) (a : Reg) (disp : BitVec 6) (p : Option Limm) (s : State) : Host.Outcome State Fault Refusal :=
  .next (s.run (fun e => e.runSyl y (.lddX y d a disp p) (fun v => v.decLoad y d (effAddrD (v.src y a) disp p 16) 16 fromLe)))
/-- STD. -/
def execStd (y : Syl) (d : DReg) (a : Reg) (disp : BitVec 6) (p : Option Limm) (s : State) : Host.Outcome State Fault Refusal :=
  .next (s.run (fun e => e.runSyl y (.std y d a disp p) (fun v => v.decStore y d (effAddrD (v.src y a) disp p 8) 8)))
/-- STD.X. -/
def execStdX (y : Syl) (d : DReg) (a : Reg) (disp : BitVec 6) (p : Option Limm) (s : State) : Host.Outcome State Fault Refusal :=
  .next (s.run (fun e => e.runSyl y (.stdX y d a disp p) (fun v => v.decStore y d (effAddrD (v.src y a) disp p 16) 16)))
/-- LDP. -/
def execLdp (y : Syl) (d : DReg) (a : Reg) (len : BitVec 5) (s : State) : Host.Outcome State Fault Refusal :=
  .next (s.run (fun e => e.runSyl y (.ldp y d a len) (fun v => v.decLoad y d (v.src y a) len.toNat (fun bs => (packedLoad bs).toNat))))
/-- STP. -/
def execStp (y : Syl) (d : DReg) (a : Reg) (len : BitVec 5) (s : State) : Host.Outcome State Fault Refusal :=
  .next (s.run (fun e => e.runSyl y (.stp y d a len) (fun v => v.stpSyl y d (v.src y a) len.toNat)))
/-- LDZ. -/
def execLdz (y : Syl) (d : DReg) (a : Reg) (len : BitVec 5) (s : State) : Host.Outcome State Fault Refusal :=
  .next (s.run (fun e => e.runSyl y (.ldz y d a len) (fun v => v.ldzSyl y d (v.src y a) len.toNat)))
/-- STZ. -/
def execStz (y : Syl) (d : DReg) (a : Reg) (len : BitVec 5) (s : State) : Host.Outcome State Fault Refusal :=
  .next (s.run (fun e => e.runSyl y (.stz y d a len) (fun v => v.stzSyl y d (v.src y a) len.toNat)))

end Sys2Proof.Machine
end

