-- ==== Sys2Proof/Machine/Streams.lean ====
section
/-! DEFINITION. The multiply-accumulate streams, element by element, and what streams and microcoded instructions share (R109 to R114, R129). -/

namespace Sys2Proof.Machine

/-! ## Instructions that take several steps -/

/-- The instruction under way in a bay that can take its next step: the core is up, the bay runs, and no exception waits. -/
def Dev.stepping (d : Dev) (n b : Nat) : Option Prog :=
  let x := d.bay n b
  if (d.core n).up && x.st == .running && x.exc.isNone && !d.pw.pfail then x.prog else none
/-- A step that does not complete: a wait keeps the progress made, and an exception stops the instruction at this step (R113, R129). Its detail gives position 0 and length 0. -/
def Dev.progStopped (d : Dev) (n b : Nat) (o : SylOut) : Dev :=
  match o with
  | .hold st w => d.modBay n b (fun x => { x with st := st, wait := w })
  | _ => match d.excFor n b 0 { pc := (d.bay n b).pc, len := 1 } o with
    | some (d1, e) => d1.modBay n b (fun x => { x.stopProg with exc := some e })
    | none => d
/-- The miss a step met, applied once the step stands (R264, R265). -/
def Dev.progMiss (d : Dev) (n b : Nat) (m : Option Bool) : Dev :=
  match m with
  | some long => (d.apply n b 0 (.miss long)).tickFree
  | none => d.tickFree
/-- Two misses met in one step. -/
def missBoth (a b : Option Bool) : Option Bool :=
  match a, b with
  | none, m => m
  | m, none => m
  | some x, some y => some (x || y)
/-- A field read for a step: its bytes and the miss, or what stands in the way. -/
def Dev.fieldIn (d : Dev) (n b va size : Nat) : Except SylOut (List Byte × Option Bool) :=
  let lvl := (d.bay n b).level
  match d.reach n b lvl .load false va size with
  | .error o => .error o
  | .ok hs => match d.unreadable va hs with
    | some o => .error o
    | none =>
      .ok (d.loadHalves n hs, d.missOf n b lvl va hs)
/-- A step's store: its halves, where the store buffer has room. -/
def Dev.fieldOut (d : Dev) (n b va size : Nat) : Except SylOut (List (Nat × Nat)) :=
  match d.reach n b (d.bay n b).level .store false va size with
  | .error o => .error o
  | .ok hs => if 16 < (d.core n).sb.length + hs.length then .error (d.sbHold n) else .ok hs
/-- The bytes of a step's store put into the store buffer. -/
def Dev.emit (d : Dev) (n b : Nat) (hs : List (Nat × Nat)) (bs : List Byte) : Dev :=
  (d.storeEffs hs bs).foldl (fun (e : Dev) f => e.apply n b (e.bay n b).level f) d

/-! ## Streams -/

/-- A stream syllable: nothing for a count of 0, otherwise its elements follow (R110, R114). -/
def Dev.streamOut (d : Dev) (y : Syl) (k : ProgKind) (dk : DReg) (a b c : Reg) : SylOut :=
  if d.src y c = 0 then .done []
  else .begin (d.modBay y.core.toNat y.bay.toNat (fun x => { x with prog := some { kind := k, syl := y, rd := dk, ra := a, rb := b, rc := c, desc := { src := d.src y a, dst := d.src y b, len := d.src y c } } }))
/-- Bytes of x and of the second operand of an element. -/
def streamSizes : ProgKind → Nat × Nat
  | .macsD => (8, 8)
  | .macuD => (8, 16)
  | .macsB => (4, 4)
  | _ => (4, 8)
/-- Whether a stream updates memory rather than its accumulator. -/
def streamUpdates (k : ProgKind) : Bool := k == .macuD || k == .macuB
/-- One element: the new accumulator or memory value, the decimal flags, and OV (R110). `cur` is dK of a sum, the datum in memory of an update. -/
def element (k : ProgKind) (ctl : Nat) (x z : Nat) (dk : QWord) : Nat × DFlags × Bool :=
  let bfs := 2 ^ decBFS ctl
  match k with
  | .macsD =>
    let r := macD (decRM ctl) (DFmt.d128.decode dk.toNat) (DFmt.d64.decode x) (DFmt.d64.decode z)
    (DFmt.d128.encode r.1, r.2, false)
  | .macuD =>
    let r := macD (decRM ctl) (DFmt.d128.decode z) (DFmt.d64.decode x) (DFmt.d64.decode dk.toNat)
    (DFmt.d128.encode r.1, r.2, false)
  | .macsB => ((BitVec.ofInt 128 (dk.toInt + sextI 32 x * sextI 32 z / bfs)).toNat, {}, false)
  | _ =>
    let v := sextI 64 z + sextI 32 x * sextI 32 (dk.toNat % 2 ^ 32) / bfs
    ((BitVec.ofInt 64 v).toNat, {}, decide (v < -(2 ^ 63)) || decide (2 ^ 63 ≤ v))
/-- The bay after an element: A, B, C and the flags (R110, R112). -/
def Bay.elementDone (x : Bay) (p : Prog) (s1 s2 : Nat) (f : DFlags) (ov : Bool) : Bay :=
  let q := { p with desc := { p.desc with src := p.desc.src + BitVec.ofNat 32 s1, dst := p.desc.dst + BitVec.ofNat 32 s2, len := p.desc.len - 1 } }
  let y := ((x.land (.ir (x.phys p.ra.toNat)) q.desc.src.toNat).land (.ir (x.phys p.rb.toNat)) q.desc.dst.toNat).land (.ir (x.phys p.rc.toNat)) q.desc.len.toNat
  { (y.land .decctl f.toWord.toNat).land .asr (asrOV * b2n ov) with prog := if q.desc.len = 0 then none else some q }
/-- An element whose operands are read and whose store, if any, can be made. -/
def Dev.elementRun (d : Dev) (n b : Nat) (p : Prog) (x z : Nat) (hs : List (Nat × Nat)) (m : Option Bool) : Dev :=
  let y := d.bay n b
  let ctl := y.decctlNow
  let sz := streamSizes p.kind
  let (v, f, ov) := element p.kind ctl x z (y.dec d.free p.rd)
  match decTrap ctl f with
  | some r => d.progStopped n b (.exc 0x0B r 0 0)
  | none =>
    let d1 := if streamUpdates p.kind then d.emit n b hs (toLe sz.2 v) else d.setBay n b (y.land (.d p.rd.toNat) v)
    let d2 := d1.modBay n b (fun w => w.elementDone p sz.1 sz.2 f ov)
    (if (d2.bay n b).prog.isNone then d2.sylDone n b [] [] else d2).progMiss n b m
/-- STREAM_ELEMENT: the loads of one element, its store's checks, its effect. -/
def Dev.streamElement (d : Dev) (n b : Nat) : Dev :=
  match d.stepping n b with
  | none => d
  | some p =>
    if p.kind.opf.isSome then d
    else
      let sz := streamSizes p.kind
      match d.fieldIn n b p.desc.src.toNat sz.1 with
      | .error o => d.progStopped n b o
      | .ok (x, m1) => match d.fieldIn n b p.desc.dst.toNat sz.2 with
        | .error o => d.progStopped n b o
        | .ok (z, m2) => match (if streamUpdates p.kind then d.fieldOut n b p.desc.dst.toNat sz.2 else .ok []) with
          | .error o => d.progStopped n b o
          | .ok hs => d.elementRun n b p (fromLe x) (fromLe z) hs (missBoth m1 m2)

/-- MACS.D. -/
def execMacsD (y : Syl) (k : DReg) (a b c : Reg) (s : State) : Host.Outcome State Fault Refusal :=
  .next (s.run (fun e => e.runSyl y (.macsD y k a b c) (fun v => v.streamOut y .macsD k a b c)))
/-- MACU.D. -/
def execMacuD (y : Syl) (k : DReg) (a b c : Reg) (s : State) : Host.Outcome State Fault Refusal :=
  .next (s.run (fun e => e.runSyl y (.macuD y k a b c) (fun v => v.streamOut y .macuD k a b c)))
/-- MACS.B. -/
def execMacsB (y : Syl) (k : DReg) (a b c : Reg) (s : State) : Host.Outcome State Fault Refusal :=
  .next (s.run (fun e => e.runSyl y (.macsB y k a b c) (fun v => v.streamOut y .macsB k a b c)))
/-- MACU.B. -/
def execMacuB (y : Syl) (k : DReg) (a b c : Reg) (s : State) : Host.Outcome State Fault Refusal :=
  .next (s.run (fun e => e.runSyl y (.macuB y k a b c) (fun v => v.streamOut y .macuB k a b c)))
/-- STREAM_ELEMENT. -/
def execStreamElement (core : CoreNo) (bay : BayNo) (s : State) : Host.Outcome State Fault Refusal := .next (s.run (fun d => d.streamElement core.toNat bay.toNat))

end Sys2Proof.Machine
end

