-- ==== Sys2Proof/Machine/Micro.lean ====
section
/-! DEFINITION. The micro-store and its sequencer: dispatch, match entries, patch RAM, nano-words and the next microword address (R137 to R140, R142, Tables 4.8, 4.10 and 4.11), and what the string instructions and the sequencer share. -/

namespace Sys2Proof.Machine

/-! ## Steps and chunks -/

/-- PARAM [31:24]. -/
def Desc.pad (q : Desc) : Byte := BitVec.ofNat 8 (bits q.param.toNat 31 24)
/-- Whether an instruction has no step left at its step count (R122). -/
def Desc.finished (q : Desc) (k : ProgKind) (n : Nat) : Bool :=
  match k with
  | .mvs => decide (q.dlen.toNat ≤ n)
  | .cms => decide (Nat.max q.len.toNat q.dlen.toNat ≤ n)
  | .edit => decide (q.len.toNat ≤ n % 512)
  | _ => decide (q.len.toNat ≤ n)
/-- Whether the destination of a TRS overlaps its table. -/
def Desc.overTable (q : Desc) : Bool := decide ((q.dst - q.aux).toNat < 256) || decide ((q.aux - q.dst).toNat < q.len.toNat)
/-- The length of the next chunk: up to 16 bytes, to the first line boundary of either operand; one byte for a TRS over its table (Table 4.9). -/
def Bay.chunk (x : Bay) (p : Prog) : Nat :=
  let k := x.spCnt.toNat
  let room := fun (v : Word) (used : Bool) => if used then Nat.min 16 (64 - v.toNat % 64) else 16
  if p.kind = .trs ∧ p.desc.overTable then 1
  else
    let s := match p.kind with
      | .mvs => decide (k < p.desc.len.toNat)
      | .cms => decide (k < p.desc.len.toNat)
      | _ => true
    let t := match p.kind with
      | .mvs => true
      | .trs => true
      | .cms => decide (k < p.desc.dlen.toNat)
      | _ => false
    Nat.min (room x.spSrc s) (room x.spDst t)

/-! ## The arrays (Table 4.8) -/

/-- The dispatch index of a string or edit instruction: OP [3:0] and F (Table 4.8). -/
def ProgKind.dispatchIndex : ProgKind → Nat
  | .edit => 0x2C0
  | k => 0x280 + k.opf.getD 0
/-- A dispatch entry in force: the patch's, or the ROM default (R141, R143). -/
def Core.dispatchEntry (c : Core) (i : Nat) : Nat := (Tab.get c.disp i (Config.romDispatch i)).toNat
/-- The microword where an instruction starts; none for a hardwired operation (MC = 0). -/
def Core.firstWord (c : Core) (k : ProgKind) : Option Nat :=
  let e := c.dispatchEntry k.dispatchIndex
  if bit e 15 then some (e % 0x4000) else none
/-- A fixed microword: nano-word address, CSEL and NEXT in their places. -/
def romWord (a : Nat) : Nat :=
  let w := Config.romMicro a
  w.1.toNat * 2 ^ 13 + w.2.1.toNat * 2 ^ 10 + w.2.2.toNat
/-- A word of the microword patch RAM. -/
def Core.ramWord (c : Core) (i : Nat) : Nat :=
  match Tab.find c.patchRam i with
  | some w => w.toNat
  | none => romWord (0x2000 + i)
/-- The microword the sequencer executes at an address: a ROM word with a match entry gives way to the patch RAM word it names (R138). -/
def Core.microAt (c : Core) (a : Nat) : Nat :=
  if a < 0x2000 then
    match c.matches_.find? (fun m => m.1 == a) with
    | some m => c.ramWord m.2
    | none => romWord a
  else if a < 0x2400 then c.ramWord (a - 0x2000)
  else romWord a
/-- A nano-word; none from 0x480 to 0x7FF (R139). -/
def Core.nanoAt (c : Core) (w : Nat) : Option Nat :=
  if w < 0x400 then some (Config.romNano w).toNat
  else if w < 0x480 then some (Tab.get c.nanoRam (w - 0x400) (Config.romNano w)).toNat
  else none

/-! ## Condition groups (Table 4.10) -/

/-- The byte a virtual address holds where the sequencer's buffers have it; 0 where it cannot be read. -/
def Dev.peek (d : Dev) (n b va : Nat) : Nat :=
  match d.accessHalf n b (d.bay n b).level .load false (va % 2 ^ 32) 1 with
  | .ok pa => fromLe (d.loadBytes n pa 1)
  | _ => 0
/-- The class of a pattern byte: run, control, reserved, conditional literal. -/
def patternClass (c : Nat) : Nat :=
  if 0xC0 ≤ c ∧ c < 0xF0 then 0 else if 0xF0 ≤ c ∧ c ≤ 0xF6 then 1 else if c < 0x20 ∨ 0xF6 < c then 2 else 3
/-- Whether the byte `i` of the current chunk shows a difference or a hit. -/
def Dev.chunkHit (d : Dev) (n b : Nat) (p : Prog) (i : Nat) : Bool :=
  let x := d.bay n b
  let k := x.spCnt.toNat + i
  let u := if k < p.desc.len.toNat then d.peek n b (x.spSrc.toNat + i) else p.desc.pad.toNat
  match p.kind with
  | .cms => u != (if k < p.desc.dlen.toNat then d.peek n b (x.spDst.toNat + i) else p.desc.pad.toNat)
  | .scn => decide (k < p.desc.len.toNat) && d.peek n b (p.desc.aux.toNat + u) != 0
  | .scne => decide (k < p.desc.len.toNat) && u == bits p.desc.param.toNat 7 0
  | _ => false
/-- The condition bits a CSEL selects, right-aligned. -/
def Dev.condBits (d : Dev) (n b : Nat) (p : Prog) (csel : Nat) : Nat :=
  let x := d.bay n b
  let s := x.spState.toNat
  let cnt := x.spCnt.toNat
  let c := d.peek n b (p.desc.aux.toNat + cnt % 512)
  let byte := d.peek n b x.spSrc.toNat
  let digit := if bit s 25 then byte % 16 else byte / 16
  match csel with
  | 0 => 0
  | 1 => b2n x.nextEvent.isSome
  | 2 => b2n (p.desc.finished p.kind cnt)
  | 3 => patternClass c
  | 4 => if patternClass c = 0 then bits c 5 4 * 2 + b2n (decide (c % 16 ≤ bits cnt 19 16)) else bits c 2 0
  | 5 => 2 * b2n (bit s 24) + b2n (digit == 0)
  | 6 => 2 * b2n (bit s 23) + b2n (bit s 22)
  | _ => b2n ((List.range (x.chunk p)).any (d.chunkHit n b p))

/-! ## The sequencer (R137) -/

/-- The next microword address: FAR where the nano-word says so, otherwise the page of the current word, with NEXT or the condition bits in it. -/
def nextWord (cur word nano cond : Nat) : Nat :=
  if bit nano 145 then bits nano 159 146 else cur / 1024 % 16 * 1024 + (bits word 9 0 ||| cond)
/-- Whether a nano-word ends a step or the instruction: STEP or ENDI (Table 4.11). -/
def nanoStops (nano : Nat) : Bool := bit nano 143 || bit nano 144
/-- The microwords of one step from an address, `k` at most (R140): the address after the word that ends the step, or none where a word names a nano-word that does not exist (R139). -/
def Dev.sequence (d : Dev) (n b : Nat) (p : Prog) : Nat → Nat → Option Nat
  | 0, a => some a
  | k + 1, a =>
    let c := d.core n
    let w := c.microAt a
    match c.nanoAt (bits w 23 13) with
    | none => none
    | some m =>
      let next := nextWord a w m (d.condBits n b p (bits w 12 10))
      if nanoStops m then some next else Dev.sequence d n b p k next
/-- The cycles between two step boundaries (R140). -/
def stepBound : Nat := 20
/-- The words of an instruction's next step: where the sequencer then stands, none inside for a hardwired operation; none where a word names no nano-word. -/
def Dev.microNext (d : Dev) (n b : Nat) (p : Prog) : Option (Option Nat) :=
  match p.mwa with
  | none => some none
  | some a => (d.sequence n b p stepBound a).map some

/-- A micro-store check error at a step: cause 0x15, with the progress of the last step boundary (R139). -/
def Dev.microError (d : Dev) (n b : Nat) : Dev :=
  (d.progStopped n b (.exc 0x15 1 0 (BitVec.ofNat 32 (Config.arrayNo d.free)))).record (0x1000 + n) 1 (coreDetail ((d.bay n b).level * 2 ^ 28 + 0x150001) 0)
/-- The sequencer moves on to a microword; while the step waits for a walk or for the store buffer it stays where it is (R137, WAITM of Table 4.11). -/
def Dev.sequencerTo (d : Dev) (n b : Nat) (a : Option Nat) : Dev :=
  match (d.bay n b).wait with
  | .walk _ _ _ _ => d
  | .storeBuffer => d
  | _ => d.modBay n b (fun x => { x with prog := x.prog.map (fun q => { q with mwa := a }) })
/-- A step of a microcoded instruction, run by its microwords (R137). -/
def Dev.microRun (d : Dev) (n b : Nat) (p : Prog) (f : Dev → Dev) : Dev :=
  match d.microNext n b p with
  | none => d.microError n b
  | some a => (f d).sequencerTo n b a
/-- The next step of a microcoded instruction may run: no event is taken first, unless a wait holds it inside a chunk (R129). -/
def Dev.microStep (d : Dev) (n b : Nat) : Option Prog :=
  match d.stepping n b with
  | some p => if p.kind.opf.isSome ∧ (p.left ≠ 0 ∨ (d.bay n b).nextEvent = none) then some p else none
  | none => none

end Sys2Proof.Machine
end

