-- ==== Sys2Proof/Machine/Strings.lean ====
section
/-! DEFINITION. The string instructions, byte by byte within a chunk (R118 to R123, R128 to R136, R274). -/

namespace Sys2Proof.Machine

/-- A descriptor's 32 bytes as its fields (Table 4.2). -/
def Desc.ofBytes (bs : List Byte) : Desc :=
  let w := fun (o : Nat) => BitVec.ofNat 32 (leAt bs o 4)
  { src := w 0, dst := w 4, len := w 8, dlen := w 12, aux := w 16, param := w 20 }
/-- Whether an instruction resumes: first bundle after an exception return, V set, its own OPF (R130). -/
def Bay.resumes (x : Bay) (k : ProgKind) : Bool := x.afterRet && x.spState.getLsbD 31 && k.opf == some (bits x.spState.toNat 30 26)
/-- The string-progress registers of a fresh start (R126, Table 4.6). -/
def Bay.freshSp (x : Bay) (k : ProgKind) (q : Desc) : Bay :=
  { x with spSrc := q.src, spDst := q.dst, spCnt := 0, spState := if k = ProgKind.edit then BitVec.ofNat 32 (2 ^ 24 + bits q.param.toNat 31 24) else 0 }.soil 16
/-- What one byte of a string instruction answers. -/
inductive ByteOut where
  /-- The byte stands: the machine with its progress, the miss met. -/
  | next (d : Dev) (miss : Option Bool)
  /-- A difference or a hit: D, qT, q(T xor 1), the result byte, the miss met. -/
  | hit (v : Nat) (q : Bool) (p : Bool) (t : Nat) (miss : Option Bool)
  | stop (o : SylOut)
  deriving DecidableEq, Repr

/-- The store-buffer entry a chunk is filling, one byte longer; a new entry for its first byte. -/
def Core.pushByte (c : Core) (b lvl pa : Nat) (v : Byte) (first : Bool) (born : Nat) : Core :=
  let one : SbE := { bay := b, pa := pa, data := [v], lvl := lvl, born := born }
  match c.sb.getLast? with
  | some e => if !first && decide (e.pa + e.data.length = pa) then { c with sb := c.sb.dropLast ++ [{ e with data := e.data ++ [v], born := born }] } else { c with sb := c.sb ++ [one] }
  | none => { c with sb := [one] }
/-- A byte of output at an address; the chunk's first needs an entry of the store buffer. -/
def Dev.byteOut (d : Dev) (n b va : Nat) (v : Byte) (first : Bool) : Except SylOut Dev :=
  match d.reach n b (d.bay n b).level .store false va 1 with
  | .error o => .error o
  | .ok hs =>
    if first && decide (16 ≤ (d.core n).sb.length) then .error (d.sbHold n)
    else .ok (d.modCore n (fun c => c.pushByte b (d.bay n b).level (hs.headD (0, 0)).1 v first d.free))
/-- The progress of one more step. -/
def Dev.spStep (d : Dev) (n b : Nat) (src dst : Bool) : Dev :=
  d.modBay n b (fun x => { x with spSrc := x.spSrc + BitVec.ofNat 32 (b2n src), spDst := x.spDst + BitVec.ofNat 32 (b2n dst), spCnt := x.spCnt + 1 }.soil 16)
/-- The byte at an address as a number, with its miss. -/
def Dev.byteIn (d : Dev) (n b va : Nat) : Except SylOut (Nat × Option Bool) := (d.fieldIn n b (va % 2 ^ 32) 1).map (fun r => (fromLe r.1, r.2))

/-- One byte of MVS. -/
def Dev.mvsByte (d : Dev) (n b : Nat) (q : Desc) (first : Bool) : ByteOut :=
  let x := d.bay n b
  let more := decide (x.spCnt.toNat < q.len.toNat)
  match (if more then d.byteIn n b x.spSrc.toNat else .ok (q.pad.toNat, none)) with
  | .error o => .stop o
  | .ok (v, m) => match d.byteOut n b x.spDst.toNat (BitVec.ofNat 8 v) first with
    | .error o => .stop o
    | .ok e => .next (e.spStep n b more true) m
/-- One byte of TRS. -/
def Dev.trsByte (d : Dev) (n b : Nat) (q : Desc) (first : Bool) : ByteOut :=
  let x := d.bay n b
  match d.byteIn n b x.spSrc.toNat with
  | .error o => .stop o
  | .ok (v, m) => match d.byteIn n b (q.aux.toNat + v) with
    | .error o => .stop o
    | .ok (t, m2) => match d.byteOut n b x.spDst.toNat (BitVec.ofNat 8 t) first with
      | .error o => .stop o
      | .ok e => .next (e.spStep n b true true) (missBoth m m2)
/-- One byte of CMS. -/
def Dev.cmsByte (d : Dev) (n b : Nat) (q : Desc) : ByteOut :=
  let x := d.bay n b
  let k := x.spCnt.toNat
  let ma := decide (k < q.len.toNat)
  let mb := decide (k < q.dlen.toNat)
  match (if ma then d.byteIn n b x.spSrc.toNat else .ok (q.pad.toNat, none)) with
  | .error o => .stop o
  | .ok (u, m) => match (if mb then d.byteIn n b x.spDst.toNat else .ok (q.pad.toNat, none)) with
    | .error o => .stop o
    | .ok (v, m2) => if u = v then .next (d.spStep n b ma mb) (missBoth m m2) else .hit k false (decide (u < v)) 0 (missBoth m m2)
/-- One byte of SCN or SCNE. -/
def Dev.scnByte (d : Dev) (n b : Nat) (p : Prog) : ByteOut :=
  let x := d.bay n b
  match d.byteIn n b x.spSrc.toNat with
  | .error o => .stop o
  | .ok (v, m) => match (if p.kind = .scn then d.byteIn n b (p.desc.aux.toNat + v) else .ok (b2n (v == bits p.desc.param.toNat 7 0), none)) with
    | .error o => .stop o
    | .ok (t, m2) =>
      if t = 0 then .next (d.spStep n b true false) (missBoth m m2)
      else .hit x.spCnt.toNat true false (if p.kind = .scn then t else 0) (missBoth m m2)
/-- One byte of a string instruction. -/
def Dev.strByte (d : Dev) (n b : Nat) (p : Prog) (first : Bool) : ByteOut :=
  match p.kind with
  | .mvs => d.mvsByte n b p.desc first
  | .trs => d.trsByte n b p.desc first
  | .cms => d.cmsByte n b p.desc
  | _ => d.scnByte n b p

/-- An instruction that completes: SP_STATE as R123 gives, and results at distance 1. -/
def Dev.progDone (d : Dev) (n b state : Nat) (effs : List Eff) : Dev :=
  (d.modBay n b (fun x => { x with prog := none, spState := BitVec.ofNat 32 state }.soil 16)).sylDone n b effs []
/-- A string instruction completes with its results. -/
def Dev.strDone (d : Dev) (n b : Nat) (p : Prog) (v : Nat) (q r : Bool) (t : Nat) : Dev :=
  let x := d.bay n b
  let one := [Eff.land (x.intDest p.rd) v 1, .land (x.predDest p.qt) (b2n q) 1]
  d.progDone n b t (match p.kind with
    | .mvs => []
    | .trs => []
    | .cms => one ++ [.land (x.predDest (partner p.qt)) (b2n r) 1]
    | _ => one)
/-- The result of an instruction that ran to its end without a difference or hit. -/
def Dev.strEnd (d : Dev) (n b : Nat) (p : Prog) : Dev :=
  match p.kind with
  | .cms => d.strDone n b p (Nat.max p.desc.len.toNat p.desc.dlen.toNat) true false 0
  | _ => d.strDone n b p p.desc.len.toNat false false 0

/-- A chunk that a wait holds after its first byte, with the bytes still to come; a fault ends the instruction instead. -/
def Dev.midChunk (d : Dev) (n b left : Nat) (o : SylOut) : Dev :=
  match o with
  | .hold _ _ => d.modBay n b (fun x => { x with prog := x.prog.map (fun q => { q with left := left }) })
  | _ => d
/-- The bytes of one chunk (R129, R133): a fault or a wait leaves the bytes before it done, and their miss stands (R274). -/
def Dev.strLoop (n b : Nat) (p : Prog) : Nat → Bool → Option Bool → Dev → Dev
  | 0, _, m, d => (if p.desc.finished p.kind (d.bay n b).spCnt.toNat then d.strEnd n b p else d).progMiss n b m
  | f + 1, first, m, d =>
    if p.desc.finished p.kind (d.bay n b).spCnt.toNat then (d.strEnd n b p).progMiss n b m
    else match d.strByte n b p first with
      | .next e m2 => Dev.strLoop n b p f false (missBoth m m2) e
      | .hit v q r t m2 => (d.strDone n b p v q r t).progMiss n b (missBoth m m2)
      | .stop o => ((if first then d else d.midChunk n b (f + 1) o).progStopped n b o).progMiss n b m

/-- The miss of a table load, over the lines of the table that translate; a line that does not is met by the byte that needs it (R133, R274). -/
def Dev.tableMiss (d : Dev) (n b aux : Nat) : Option Bool :=
  let lvl := (d.bay n b).level
  (List.range (if aux % 64 = 0 then 4 else 5)).foldl (fun m i =>
    let va := (aux - aux % 64 + 64 * i) % 2 ^ 32
    match d.accessHalf n b lvl .load false va 1 with
    | .ok pa => missBoth m (d.missAt n b lvl va pa)
    | _ => m) none

/-- The set-up of a string or edit instruction: the descriptor read and checked, then a fresh start or a resume (R120, R121, R130, R131). Its microwords run from the dispatch entry (R137). -/
def Dev.stringSetup (d : Dev) (y : Syl) (k : ProgKind) (rd ra : Reg) (qt : Pred) : SylOut :=
  let n := y.core.toNat
  let b := y.bay.toNat
  let va := (d.src y ra).toNat
  if va % 32 ≠ 0 then .exc 4 2 (BitVec.ofNat 32 va) 0
  else match d.fieldIn n b va 32 with
    | .error o => o
    | .ok (bs, m) =>
      let q := Desc.ofBytes bs
      if leAt bs 24 8 ≠ 0 ∨ (k = .edit ∧ (q.len.toNat = 0 ∨ 256 < q.len.toNat)) then .exc 2 7 0 0
      else
        let p : Prog := { kind := k, syl := y, rd := rd, ra := ra, qt := qt, desc := q, mwa := (d.core n).firstWord k }
        let d1 := d.modBay n b (fun x => { (if x.resumes k then x else x.freshSp k q) with prog := some p })
        .begin (d1.microRun n b p (fun d1 => (if k ≠ .edit ∧ q.finished k (d1.bay n b).spCnt.toNat then d1.strEnd n b p else d1).progMiss n b m))

/-- STRING_STEP: the table load of TRS and SCN, or one chunk. -/
def Dev.stringStep (d : Dev) (n b : Nat) (chk : Bool) : Dev :=
  match d.microStep n b with
  | none => d
  | some p =>
    if p.kind = .edit then d
    else if chk then d.microError n b
    else Dev.claim (d.microRun n b p (fun e =>
      if (p.kind = .trs ∨ p.kind = .scn) ∧ p.tableRead = false then
        (e.modBay n b (fun x => { x with prog := some { p with tableRead := true } })).progMiss n b (e.tableMiss n b p.desc.aux.toNat)
      else if p.left = 0 then Dev.strLoop n b p ((e.bay n b).chunk p) true none e
      else Dev.strLoop n b p p.left true none (e.modBay n b (fun x => { x with prog := some { p with left := 0 } })))) n b

/-- MVS. -/
def execMvs (y : Syl) (a : Reg) (s : State) : Host.Outcome State Fault Refusal := .next (s.run (fun e => e.runSyl y (.mvs y a) (fun v => v.stringSetup y .mvs 0 a 0)))
/-- TRS. -/
def execTrs (y : Syl) (a : Reg) (s : State) : Host.Outcome State Fault Refusal := .next (s.run (fun e => e.runSyl y (.trs y a) (fun v => v.stringSetup y .trs 0 a 0)))
/-- CMS. -/
def execCms (y : Syl) (d a : Reg) (qt : Pred) (s : State) : Host.Outcome State Fault Refusal := .next (s.run (fun e => e.runSyl y (.cms y d a qt) (fun v => v.stringSetup y .cms d a qt)))
/-- SCN. -/
def execScn (y : Syl) (d a : Reg) (qt : Pred) (s : State) : Host.Outcome State Fault Refusal := .next (s.run (fun e => e.runSyl y (.scn y d a qt) (fun v => v.stringSetup y .scn d a qt)))
/-- SCNE. -/
def execScne (y : Syl) (d a : Reg) (qt : Pred) (s : State) : Host.Outcome State Fault Refusal := .next (s.run (fun e => e.runSyl y (.scne y d a qt) (fun v => v.stringSetup y .scne d a qt)))
/-- EDIT. -/
def execEdit (y : Syl) (d a : Reg) (qt : Pred) (s : State) : Host.Outcome State Fault Refusal := .next (s.run (fun e => e.runSyl y (.edit y d a qt) (fun v => v.stringSetup y .edit d a qt)))
/-- STRING_STEP. -/
def execStringStep (core : CoreNo) (bay : BayNo) (chk : Bool) (s : State) : Host.Outcome State Fault Refusal := .next (s.run (fun d => d.stringStep core.toNat bay.toNat chk))

end Sys2Proof.Machine
end

