-- ==== Sys2Proof/Machine/Edit.lean ====
section
/-! DEFINITION. EDIT_STEP: one prescan, one pattern unit, or one digit of a run (R124 to R127, R135). -/

namespace Sys2Proof.Machine

/-- What EDIT holds in SP_CNT and SP_STATE, field by field (R128). -/
structure EditSt where
  nib : Bool
  lead : Bool
  neg : Bool
  nz : Bool
  fld : Bool
  mv : Bool
  anz : Bool
  bad : Bool
  pad : Nat
  mark : Nat
  run : Nat
  used : Nat
  deriving DecidableEq, Repr

/-- The EDIT fields of a bay. -/
def Bay.editSt (x : Bay) : EditSt :=
  let s := x.spState.toNat
  let c := x.spCnt.toNat
  { nib := bit s 25, lead := bit s 24, neg := bit s 23, nz := bit s 22, fld := bit s 21, mv := bit s 20, anz := bit s 11, bad := bit s 10, pad := bits s 7 0
    mark := bits c 31 20, run := bits c 19 16, used := bits c 8 0 }
/-- SP_STATE of EDIT fields, V and OPF zero. -/
def EditSt.state (e : EditSt) : Nat :=
  2 ^ 25 * b2n e.nib + 2 ^ 24 * b2n e.lead + 2 ^ 23 * b2n e.neg + 2 ^ 22 * b2n e.nz + 2 ^ 21 * b2n e.fld + 2 ^ 20 * b2n e.mv + 2 ^ 11 * b2n e.anz + 2 ^ 10 * b2n e.bad + e.pad % 256
/-- SP_CNT of EDIT fields. -/
def EditSt.cnt (e : EditSt) : Nat := e.mark % 4096 * 2 ^ 20 + e.run % 16 * 2 ^ 16 + e.used % 512

/-- What a prescan reads: the bytes up to the first sign, 16 at most, and the miss. -/
def Dev.prescanRead (d : Dev) (n b : Nat) : Nat → Nat → Except SylOut (List Nat × Option Bool)
  | 0, _ => .ok ([], none)
  | k + 1, va => match d.byteIn n b va with
    | .error o => .error o
    | .ok (v, m) =>
      if 10 ≤ v % 16 then .ok ([v], m)
      else match Dev.prescanRead d n b k (va + 1) with
        | .error o => .error o
        | .ok (vs, m2) => .ok (v :: vs, missBoth m m2)
/-- The digit nibbles of prescanned bytes, from the nibble NIB names; the sign is none of them. -/
def prescanDigits (nib : Bool) (vs : List Nat) : List Nat :=
  let all := vs.flatMap (fun v => if 10 ≤ v % 16 then [v / 16] else [v / 16, v % 16])
  if nib then all.drop 1 else all
/-- What a prescan finds: the reason of an invalid field, or whether it is negative and whether a digit is not zero (R125). -/
def prescan (nib : Bool) (vs : List Nat) : Except Nat (Bool × Bool) :=
  let ds := prescanDigits nib vs
  match vs.getLast? with
  | none => .error 6
  | some l =>
    if ds.any (fun v => decide (9 < v)) then .error 1
    else if l % 16 < 10 then .error 6
    else .ok (l % 16 == 0xB || l % 16 == 0xD, ds.any (fun v => v != 0))

/-- The next state of a step: EDIT fields, SP_SRC, the output byte, DF. -/
structure EditOut where
  e : EditSt
  src : Word
  out : Option Nat := none
  df : Bool := false
  deriving DecidableEq, Repr

/-- A digit read (R125): the digit, and the fields and SP_SRC after it. -/
def editDigit (e : EditSt) (src : Word) (v : Nat) : Nat × EditSt × Word :=
  if e.nib then (v % 16, { e with nib := false }, src + 1)
  else if 10 ≤ v % 16 then (v / 16, { e with fld := false }, src + 1)
  else (v / 16, { e with nib := true }, src)
/-- One digit of a run done: RUN, or the pattern byte consumed (R124). -/
def EditSt.ranOne (e : EditSt) (len : Nat) : EditSt := if len ≤ e.run + 1 then { e with run := 0, used := e.used + 1 } else { e with run := e.run + 1 }
/-- The output of a valid digit: MARK at the first that prints as 0x30 + d. `at_` is the offset from DST (R126). -/
def EditSt.digitOut (e : EditSt) (kind d at_ : Nat) : EditSt × Option Nat :=
  if kind = 0xE then (e, none)
  else if kind = 0xC ∧ e.lead ∧ d = 0 then (e, some e.pad)
  else ({ e with lead := false, mv := true, mark := if e.mv then e.mark else at_ % 4096 }, some (0x30 + d))

/-- A pattern unit that reads no digit: the fields and the output (Table 4.3). `v` is the operand byte of a two-byte unit. -/
def EditSt.unit (e : EditSt) (c v : Nat) (q : Desc) : EditSt × Option Nat :=
  let one := { e with used := e.used + 1 }
  let two := { e with used := e.used + 2 }
  let minus := e.neg && e.nz
  let sign := fun (x : Nat) => if e.bad then 0x3F else x
  match c with
  | 0xF0 => ({ one with lead := false }, none)
  | 0xF1 => ({ one with lead := true }, none)
  | 0xF2 => (one, some (sign (if minus then bits q.param.toNat 23 16 else bits q.param.toNat 15 8)))
  | 0xF3 => (two, some (sign (if minus then v else e.pad)))
  | 0xF4 => (two, some (sign (if minus then e.pad else v)))
  | 0xF5 => (two, some v)
  | 0xF6 => ({ two with pad := v }, none)
  | _ => (one, some (if e.lead && !e.bad then e.pad else c))

/-- EDIT completes: D, qT and qDQ (R126, R127, R135). Where DECCTL.DQ names qT, both land at one distance and the value of qDQ stands (DESIGN CHOICE, log entry 35). -/
def Dev.editDone (d : Dev) (n b : Nat) (p : Prog) : Dev :=
  let x := d.bay n b
  let e := x.editSt
  let ctl := x.decctlNow
  d.progDone n b 0
    ([.land (x.intDest p.rd) (if e.mv && !e.bad then e.mark else 0xFFFFFFFF) 1, .land (x.predDest p.qt) (b2n ((e.anz || e.nz) && !e.bad)) 1]
      ++ (if decDX ctl ∨ decDQ ctl = 0 then [] else [.land (.q x.mbank (decDQ ctl)) (b2n e.bad) 1]))
/-- A step's state and output applied, and completion after the last unit. -/
def Dev.editApply (d : Dev) (n b : Nat) (p : Prog) (o : EditOut) (m : Option Bool) : Dev :=
  let x := d.bay n b
  match (match o.out with | some v => d.byteOut n b x.spDst.toNat (BitVec.ofNat 8 v) true | none => .ok d) with
  | .error s => d.progStopped n b s
  | .ok d1 =>
    let d2 := d1.modBay n b (fun z => ({ z with
      spSrc := o.src, spDst := z.spDst + BitVec.ofNat 32 (b2n o.out.isSome), spCnt := BitVec.ofNat 32 o.e.cnt, spState := BitVec.ofNat 32 o.e.state }.soil 16).land .decctl (32 * b2n o.df))
    (if p.desc.finished .edit o.e.used then d2.editDone n b p else d2).progMiss n b m
/-- Invalid source data: the exception, or the field poisoned; a digit of a run then prints as 0x3F (R127). -/
def Dev.editInvalid (d : Dev) (n b : Nat) (p : Prog) (reason : Nat) (o : EditOut) (m : Option Bool) : Dev :=
  if decDX (d.bay n b).decctlNow then d.progStopped n b (.exc 0x0A reason 0 0) else d.editApply n b p { o with df := true, e := { o.e with bad := true } } m
/-- A digit of a run: `kind` is the pattern byte's high nibble, `len` its count. -/
def Dev.editRun (d : Dev) (n b : Nat) (p : Prog) (kind len : Nat) (m : Option Bool) : Dev :=
  let x := d.bay n b
  let e := x.editSt
  if e.bad then d.editApply n b p { e := e.ranOne len, src := x.spSrc, out := if kind = 0xE then none else some 0x3F } m
  else if !e.fld then
    match d.prescanRead n b 16 x.spSrc.toNat with
    | .error o => d.progStopped n b o
    | .ok (vs, m2) => match prescan e.nib vs with
      | .error r => d.editInvalid n b p r { e := e, src := x.spSrc } (missBoth m m2)
      | .ok (neg, nz) => d.editApply n b p { e := { e with neg := neg, nz := nz, anz := e.anz || nz, fld := true }, src := x.spSrc } (missBoth m m2)
  else match d.byteIn n b x.spSrc.toNat with
    | .error o => d.progStopped n b o
    | .ok (v, m2) =>
      let (k, e1, src) := editDigit e x.spSrc v
      if 9 < k then d.editInvalid n b p 1 { e := e1.ranOne len, src := src, out := if kind = 0xE then none else some 0x3F } (missBoth m m2)
      else
        let (e2, out) := e1.digitOut kind k (x.spDst - p.desc.dst).toNat
        d.editApply n b p { e := e2.ranOne len, src := src, out := out } (missBoth m m2)
/-- EDIT_STEP. -/
def Dev.editStep (d : Dev) (n b : Nat) (chk : Bool) : Dev :=
  match d.microStep n b with
  | none => d
  | some p =>
    let x := d.bay n b
    let e := x.editSt
    let len := p.desc.len.toNat
    if p.kind ≠ .edit then d
    else if chk then d.microError n b
    else Dev.claim (d.microRun n b p (fun d => if p.desc.finished .edit e.used then d.editDone n b p
    else match d.byteIn n b (p.desc.aux.toNat + e.used) with
      | .error o => d.progStopped n b o
      | .ok (c, m) =>
        if c < 0x20 ∨ 0xF6 < c ∨ (0xF3 ≤ c ∧ len ≤ e.used + 1) then d.progStopped n b (.exc 2 6 0 0)
        else if 0xC0 ≤ c ∧ c < 0xF0 then d.editRun n b p (c / 16) (c % 16 + 1) m
        else match (if 0xF3 ≤ c then d.byteIn n b (p.desc.aux.toNat + e.used + 1) else .ok (0, none)) with
          | .error o => d.progStopped n b o
          | .ok (v, m2) =>
            let (e1, out) := e.unit c v p.desc
            d.editApply n b p { e := e1, src := x.spSrc, out := out } (missBoth m m2))) n b
/-- EDIT_STEP. -/
def execEditStep (core : CoreNo) (bay : BayNo) (chk : Bool) (s : State) : Host.Outcome State Fault Refusal := .next (s.run (fun d => d.editStep core.toNat bay.toNat chk))

end Sys2Proof.Machine
end

