-- ==== Sys2Proof/Machine/Journal.lean ====
section
/-! DEFINITION. The commands of the journal that touch no bundle (R149, R164, R166, R176 to R180). -/

namespace Sys2Proof.Machine

/-- Offset of JS_CTL of a stream in the device-register region. -/
def jsCtlOff (s : Nat) : Nat := 0x0E001004 + 0x80 * s
/-- JS_CTL_WRITE. -/
def execJsCtlWrite (who : Agent) (stream : BitVec 6) (value : Word) (s : State) : Host.Outcome State Fault Refusal :=
  .next (s.run (fun d => if d.allowed who (jsCtlOff stream.toNat) true then d.writeJsCtl stream.toNat value.toNat else d))
/-- JS_CTL_REOPEN: REOPEN written with every other field as it stands. -/
def execJsCtlReopen (who : Agent) (stream : BitVec 6) (s : State) : Host.Outcome State Fault Refusal :=
  .next (s.run (fun d => if d.allowed who (jsCtlOff stream.toNat) true then d.writeJsCtl stream.toNat (2 ^ 30 + d.regValue .pupor (jsCtlOff stream.toNat)) else d))
/-- DIGEST_SEAL. -/
def execDigestSeal (stream : BitVec 6) (s : State) : Host.Outcome State Fault Refusal := .next (s.run (fun d => d.sealDigest stream.toNat))
/-- DIGEST_COMPARE. -/
def execDigestCompare (stream : BitVec 6) (bridge : Bool) (origin : BitVec 4) (s : State) : Host.Outcome State Fault Refusal :=
  .next (s.run (fun d => d.compareDigest stream.toNat bridge origin.toNat))
/-- DIGEST_WAIT_EXPIRY. -/
def execDigestWaitExpiry (stream : BitVec 6) (s : State) : Host.Outcome State Fault Refusal := .next (s.run (fun d => d.waitOut stream.toNat))
/-- POWER_FAIL. -/
def execPowerFail (s : State) : Host.Outcome State Fault Refusal := .next (s.run (fun d => d.registerFailure))
/-- The end of the power-fail sequence; a reset that waited for it follows (R373). -/
def Dev.powerFailEnd (d : Dev) : Dev := let e := d.failureEnd; if e.pw.rstWant ∧ e.pw.pfDone then e.deviceReset else e
/-- POWER_FAIL_SEQUENCE_END. -/
def execPowerFailSequenceEnd (s : State) : Host.Outcome State Fault Refusal := .next (s.run (fun d => d.powerFailEnd))
/-- RECOVERY_SCAN_END. -/
def execRecoveryScanEnd (s : State) : Host.Outcome State Fault Refusal := .next (s.run (fun d => if d.jr.scanning then d.recoverAll else d))

end Sys2Proof.Machine
end

