-- ==== Sys2Proof/Machine/JournalSylls.lean ====
section
/-! DEFINITION. JAPP, JWAIT, JDUR and JREL, and the journal events that move a bay on (R152 to R159). -/

namespace Sys2Proof.Machine

/-- The first check of a journal operation, as the syllable's answer. -/
def Dev.journalRefusal (d : Dev) (y : Syl) (bv : Word) : Option SylOut :=
  (d.journalCheck y.core.toNat y.bay.toNat bv).map (fun r => .exc 0x16 r 0 0)
/-- Whether 128 bytes lie in Loam. -/
def Dev.inLoam (d : Dev) (pa : Nat) : Bool := d.region pa == .loam && d.region (pa + 127) == .loam
/-- The source of a JAPP translated and checked: its address, or what stands in the way; a range outside Loam comes before level, permission and key (R153). -/
def Dev.jappSource (d : Dev) (n b va : Nat) : Except SylOut Nat :=
  let lvl := (d.bay n b).level
  if va % 128 ≠ 0 then .error (.exc 4 3 (BitVec.ofNat 32 va) 0)
  else match d.accessHalf n b lvl .load false va 128 with
    | .walk v => .error (.hold (if d.walkLong n ((d.bay n b).tag lvl) v then .miss else .frozen) (.walk v .load false 128))
    | .ok pa => if d.inLoam pa then .ok pa else .error (.exc 0x16 5 0 0)
    | .fault c r v =>
      let away : Bool := match d.probe n b lvl va false with
        | .ok e => !d.inLoam (e.physical va)
        | .error _ => false
      .error (if (c = 6 ∨ c = 7) ∧ away then .exc 0x16 5 0 0 else d.faultOut n b lvl .load c r v)
/-- JAPP. -/
def Dev.jappOut (d : Dev) (y : Syl) (rd ra rb : Reg) : SylOut :=
  let n := y.core.toNat
  let b := y.bay.toNat
  let bv := d.src y rb
  let va := (d.src y ra).toNat
  match d.journalRefusal y bv with
  | some o => o
  | none => match d.jappSource n b va with
    | .error o => o
    | .ok pa => match d.unreadable va [(pa, 128)] with
      | some o => o
      | none =>
        let r := d.loadBytes n pa 128
        match d.recordCheck bv.toNat r with
        | some k => appendRefusal bv.toNat k
        | none => .done [.japp bv.toNat r ((d.home y).intDest rd)]
/-- JWAIT: done where the JSEQ is durable, otherwise the bay parks (R155). -/
def Dev.jwaitOut (d : Dev) (y : Syl) (ra rb : Reg) : SylOut :=
  let bv := d.src y rb
  match d.journalRefusal y bv with
  | some o => o
  | none =>
    let dur := (d.stream bv.toNat).dur
    let k := seqNear dur (d.src y ra)
    if k ≤ dur.toNat then .done [] else .hold .waiting (.jwait bv.toNat k.toNat)
/-- JDUR. -/
def Dev.jdurOut (d : Dev) (y : Syl) (rd rb : Reg) : SylOut :=
  let bv := d.src y rb
  match d.journalRefusal y bv with
  | some o => o
  | none => .done [d.toInt y rd (BitVec.ofNat 32 (d.stream bv.toNat).dur.toNat) 3]
/-- JREL. -/
def Dev.jrelOut (d : Dev) (y : Syl) (ra rb : Reg) : SylOut :=
  let bv := d.src y rb
  match d.journalRefusal y bv with
  | some o => o
  | none =>
    let x := d.stream bv.toNat
    let k := seqNear x.dur (d.src y ra)
    if k < x.rel.toNat ∨ x.dur.toNat < k then .exc 0x16 0xB 0 0 else .done [.jrel bv.toNat k.toNat]

/-- JAPP. -/
def execJapp (y : Syl) (d a b : Reg) (s : State) : Host.Outcome State Fault Refusal := .next (s.run (fun e => e.runSyl y (.japp y d a b) (fun v => v.jappOut y d a b)))
/-- JWAIT. -/
def execJwait (y : Syl) (a b : Reg) (s : State) : Host.Outcome State Fault Refusal := .next (s.run (fun e => e.runSyl y (.jwait y a b) (fun v => v.jwaitOut y a b)))
/-- JDUR. -/
def execJdur (y : Syl) (d b : Reg) (s : State) : Host.Outcome State Fault Refusal := .next (s.run (fun e => e.runSyl y (.jdur y d b) (fun v => v.jdurOut y d b)))
/-- JREL. -/
def execJrel (y : Syl) (a b : Reg) (s : State) : Host.Outcome State Fault Refusal := .next (s.run (fun e => e.runSyl y (.jrel y a b) (fun v => v.jrelOut y a b)))

/-! ## Room in the queue, and durability -/

/-- A bay whose append waited for room goes on (R158). -/
def Dev.wakeAppend (d : Dev) (site : Nat) : Dev :=
  d.modBay (site / 4) (site % 4) (fun x => if x.st = .waiting ∧ x.wait = .jqueue then x.resume else x)
/-- The oldest held append enters the write queue where it has room, and before a power failure is registered (R158, R164). -/
def Dev.queueSpace (d : Dev) : Dev :=
  match d.jr.heldq with
  | q :: qs => if d.jr.queue.length < 512 ∧ ¬ d.pw.pfail then ({ d with jr := { d.jr with queue := d.jr.queue ++ [q], heldq := qs } }).wakeAppend q.site else d
  | [] => d
/-- A bay parked in JWAIT goes on once its JSEQ is durable: its bundle completes and it is READY (R155). -/
def Dev.wakeJwait (d : Dev) (n b s : Nat) : Dev :=
  let x := d.bay n b
  match x.wait with
  | .jwait t k => if x.st = .waiting ∧ t = s ∧ k ≤ (d.stream s).dur.toNat then (d.setBay n b { x with st := .ready, wait := .none }).sylDone n b [] [] else d
  | _ => d
/-- RECORD_DURABLE: the stream's oldest queued record. -/
def Dev.recordDurable (d : Dev) (s : Nat) : Dev :=
  match takeQueued s d.jr.queue with
  | none => d
  | some (q, rest) =>
    let d1 := ({ d with jr := { d.jr with queue := rest } }).durable q
    (d1.cores.map (fun p => p.1)).foldl (fun (e : Dev) n => (List.range 4).foldl (fun (f : Dev) b => f.wakeJwait n b s) e) d1
/-- JOURNAL_QUEUE_SPACE. -/
def execJournalQueueSpace (s : State) : Host.Outcome State Fault Refusal := .next (s.run (fun d => d.queueSpace))
/-- RECORD_DURABLE. -/
def execRecordDurable (stream : BitVec 6) (s : State) : Host.Outcome State Fault Refusal := .next (s.run (fun d => d.recordDurable stream.toNat))

end Sys2Proof.Machine
end

