-- ==== Sys2Proof/Machine/Tasks.lean ====
section
/-! DEFINITION. The meanings of major 0x35, and the ends of evictions and loads (R196 to R204, R211 to R215). -/

namespace Sys2Proof.Machine

/-- Argument `i` of a gate call: w16 to w23 are codes 24 to 31. -/
def Dev.gateArg (d : Dev) (y : Syl) (i : Nat) : Nat := (d.src y (BitVec.ofNat 5 (24 + i))).toNat
/-- The failure of one page of a pointer argument: its reason (R214). -/
def Dev.probePage (d : Dev) (n b va : Nat) (write : Bool) : Option Nat :=
  let x := d.bay n b
  match d.probe n b x.level va false with
  | .error (c, _) => some (if c = 5 then 6 else 9)
  | .ok e =>
    let pa := e.physical va
    let rg := d.region pa
    if (x.level = 0 ∧ !e.perm.getLsbD 4) ∨ !e.perm.getLsbD (if write then 2 else 1) then some 7
    else if d.keysOn ∧ x.level ≠ 3 ∧ (rg = .loam ∨ rg = .ddr) ∧ (d.keyRefusal x.kmask write pa).isSome then some 8
    else none
/-- The pages of a range in ascending order: the first byte that fails and the reason. -/
def Dev.probePages (d : Dev) (n b : Nat) (write : Bool) (last : Nat) : Nat → Nat → Option (Nat × Nat)
  | 0, _ => none
  | k + 1, va =>
    if last < va then none
    else match d.probePage n b va write with
      | some r => some (va, r)
      | none => Dev.probePages d n b write last k (va - va % 4096 + 4096)
/-- The class of argument `i` in a gate's word 1. -/
def argClass (w1 i : Nat) : Nat := bits w1 (2 * i + 1) (2 * i)
/-- A pointer argument's failure: argument, reason, first failing byte, value. -/
def Dev.argFault (d : Dev) (y : Syl) (w1 i : Nat) : Option (Nat × Nat × Nat × Nat) :=
  let p := d.gateArg y i
  let n := d.gateArg y (i + 1)
  if argClass w1 i < 2 ∨ n = 0 then none
  else if 0x100000 < n ∨ 2 ^ 32 < p + n then some (i, 5, p, p)
  else (d.probePages y.core.toNat y.bay.toNat (argClass w1 i == 3) (p + n - 1) 257 p).map (fun q => (i, q.2, q.1, p))
/-- The first check of a gate call that fails (R214). -/
def Dev.gateRefusal (d : Dev) (y : Syl) (g : Nat) : Option (Nat × Nat × Nat × Nat) :=
  let x := d.home y
  let w1 := (d.inForce (midGate g 1)).toNat
  let lvl := bits w1 29 28
  let no := fun (r : Nat) => some (0, r, 0, 0)
  if !bit w1 31 then no 1
  else if (lvl ≠ 1 ∧ lvl ≠ 3) ∨ (List.range 8).any (fun i => decide (2 ≤ argClass w1 i) && (decide (i = 7) || argClass w1 (i + 1) != 1)) then no 2
  else if x.level = 3 ∧ lvl ≠ 3 then no 3
  else if (x.level = 1 ∧ !bit w1 27) ∨ (x.level = 0 ∧ !bit w1 26) then no 3
  else if x.gates.length = 8 ∨ x.gates.any (fun f => f.gate == g) then no 4
  else (List.range 7).findSome? (fun i => d.argFault y w1 i)
/-- GCALL. -/
def Dev.gcallOut (d : Dev) (y : Syl) (g : Nat) : SylOut :=
  match d.gateRefusal y g with
  | some (i, r, fa, v) => .raw 0x0F (i * 2 ^ 13 + r) (BitVec.ofNat 32 fa) (BitVec.ofNat 32 v)
  | none =>
    let args := (List.range 8).foldl (fun a i => a + d.gateArg y i * 2 ^ (32 * i)) 0
    let lvl := bits (d.inForce (midGate g 1)).toNat 29 28
    firstOut [if lvl = 1 then (d.home y).needAdvance else none] (.done [.act .gcall g args 0])
/-- GRET: the innermost gate's level is that of its descriptor (R215). -/
def Dev.gretOut (d : Dev) (y : Syl) : SylOut :=
  let x := d.home y
  match x.gates.getLast? with
  | none => .exc 2 9 0 0
  | some f =>
    let lvl := bits (d.inForce (midGate f.gate 1)).toNat 29 28
    firstOut [if x.level ≠ lvl then some (.exc 3 1 0 0) else none, if lvl = 1 then x.needRetreat else none] (.done [.act .gret 0 0 0])
/-- A frame as the return reads it. -/
def Dev.retFrame (d : Dev) (y : Syl) (a : Nat) : Option SylOut := d.unreadable a [(a, 64)]
/-- PL in a frame's STATUS. -/
def Dev.framePl (d : Dev) (y : Syl) (a : Nat) : Nat := leAt (d.loadBytes y.core.toNat (a + 4) 4) 0 4 % 4
/-- SRET (R211). -/
def Dev.sretOut (d : Dev) (y : Syl) : SylOut :=
  let x := d.home y
  let a := x.tsbp.toNat
  firstOut [x.below 1, d.retFrame y a, if 2 ≤ d.framePl y a then some (.exc 3 3 0 0) else none, x.needRetreat]
    (.done [.act .sret (fromLe (d.loadBytes y.core.toNat a 64)) 0 0])
/-- MRET (R211). -/
def Dev.mretOut (d : Dev) (y : Syl) : SylOut :=
  let x := d.home y
  let a := x.tsbp.toNat + 0x40
  firstOut [x.below 3, d.retFrame y a, if d.framePl y a = 2 then some (.exc 3 3 0 0) else none]
    (.done [.act .mret (fromLe (d.loadBytes y.core.toNat a 64)) 0 0])
/-- SCALL (R213). -/
def Dev.scallOut (d : Dev) (y : Syl) (n : Nat) : SylOut :=
  let e := (Tab.get (d.home y).se n 0).toNat
  if bit e 0 then .done [.act .scall (e - e % 4) 0 0] else .exc 0x10 n 0 0
/-- FRET (R213). -/
def Dev.fretOut (d : Dev) (y : Syl) : SylOut :=
  let x := d.home y
  firstOut [x.below 1, if 2 ≤ bits x.status.toNat 7 6 then some (.exc 3 3 0 0) else none] (.done [.act .fret 0 0 0])
/-- WAIT: whether it parks is decided as its bundle takes effect (R203). -/
def Dev.waitSyl (d : Dev) (y : Syl) : SylOut := .done [.act .wait (d.home y).pc.toNat 0 0]
/-- SIGNAL (R204). -/
def Dev.signalOut (d : Dev) (y : Syl) (ra : Reg) (imm : Nat) : SylOut :=
  let v := (d.src y ra).toNat
  firstOut [(d.home y).below 1] (.done [.act .signal (bits v 8 2) (bits v 1 0) (y.core.toNat * 256 + imm)])
/-- TEVICT: the eviction is asked for once the whole bundle has executed without an exception (R44, R196). -/
def Dev.tevictOut (d : Dev) (y : Syl) (t : Nat) : SylOut :=
  firstOut [(d.home y).below 1, if d.tevictBad y.core.toNat y.bay.toNat t then some (.exc 2 0xB 0 0) else none] (.done [.act .tevict t 0 0])
/-- TLOAD: the load is asked for once the whole bundle has executed without an exception (R44, R198). -/
def Dev.tloadOut (d : Dev) (y : Syl) (t : Nat) (ra : Reg) : SylOut :=
  let v := d.src y ra
  firstOut [(d.home y).below 1, if (d.bay y.core.toNat t).st ≠ .empty then some (.exc 2 0xC 0 0) else none,
      if bits v.toNat 11 0 ≠ 0 ∨ 0x08000000 ≤ v.toNat then some (.exc 6 0x10 v 0) else none]
    (.done [.act .tload t v.toNat 0])

/-- TEVICT. -/
def execTevict (y : Syl) (bay : BayNo) (s : State) : Host.Outcome State Fault Refusal := .next (s.run (fun e => e.runSyl y (.tevict y bay) (fun v => v.tevictOut y bay.toNat)))
/-- TLOAD. -/
def execTload (y : Syl) (bay : BayNo) (a : Reg) (s : State) : Host.Outcome State Fault Refusal := .next (s.run (fun e => e.runSyl y (.tload y bay a) (fun v => v.tloadOut y bay.toNat a)))
/-- WAIT. -/
def execWaitt (y : Syl) (s : State) : Host.Outcome State Fault Refusal := .next (s.run (fun e => e.runSyl y (.waitt y) (fun v => v.waitSyl y)))
/-- YIELD. -/
def execYield (y : Syl) (s : State) : Host.Outcome State Fault Refusal := .next (s.run (fun e => e.runSyl y (.yield y) (fun _ => .done [.act .yield 0 0 0])))
/-- SIGNAL. -/
def execSignal (y : Syl) (a : Reg) (imm : BitVec 8) (s : State) : Host.Outcome State Fault Refusal := .next (s.run (fun e => e.runSyl y (.signal y a imm) (fun v => v.signalOut y a imm.toNat)))
/-- SCALL. -/
def execScall (y : Syl) (n : BitVec 8) (s : State) : Host.Outcome State Fault Refusal := .next (s.run (fun e => e.runSyl y (.scall y n) (fun v => v.scallOut y n.toNat)))
/-- FRET. -/
def execFret (y : Syl) (s : State) : Host.Outcome State Fault Refusal := .next (s.run (fun e => e.runSyl y (.fret y) (fun v => v.fretOut y)))
/-- GCALL. -/
def execGcall (y : Syl) (n : BitVec 8) (s : State) : Host.Outcome State Fault Refusal := .next (s.run (fun e => e.runSyl y (.gcall y n) (fun v => v.gcallOut y n.toNat)))
/-- GRET. -/
def execGret (y : Syl) (s : State) : Host.Outcome State Fault Refusal := .next (s.run (fun e => e.runSyl y (.gret y) (fun v => v.gretOut y)))
/-- SRET. -/
def execSret (y : Syl) (s : State) : Host.Outcome State Fault Refusal := .next (s.run (fun e => e.runSyl y (.sret y) (fun v => v.sretOut y)))
/-- MRET. -/
def execMret (y : Syl) (s : State) : Host.Outcome State Fault Refusal := .next (s.run (fun e => e.runSyl y (.mret y) (fun v => v.mretOut y)))

/-! ## The ends of evictions and loads -/

/-- The bundle of a bay that waited for an eviction or a load takes effect, or reports what that met. -/
def Dev.askerDone (d : Dev) (n a : Nat) (o : Option SylOut) : Dev :=
  let d1 := d.modBay n a (fun x => { x with st := .ready, wait := .none })
  match (d1.bay n a).bundle with
  | none => d1
  | some u =>
    let pos := u.posOf meetsLate
    let left := { u with effs := u.effs.filter (fun e => !e.asks) }
    match o.bind (fun r => d1.excFor n a pos u r) with
    | some (d2, e) => (d2.modBay n a (fun x => { x with bundle := some { left with excs := left.excs ++ [(pos, e)] } })).finish n a
    | none => (d1.modBay n a (fun x => { x with bundle := some left })).finish n a
/-- A bus error at a physical address, as a syllable's answer. -/
def busError (a : Nat) : SylOut := .raw 0x14 (Config.busDetail a) (BitVec.ofNat 32 a) 0
/-- TEVICT_COMPLETE: the task is written and the bay EMPTY, or it stays loaded and as it was (R196). -/
def Dev.tevictComplete (d : Dev) (n b : Nat) (fab : Bool) : Dev :=
  match (d.bay n b).st, (d.bay n b).wait with
  | .moving, .evicting a => match d.evictTask n b fab false with
    | some d1 => d1.askerDone n a none
    | none => (d.modBay n b Bay.kept).askerDone n a (some (busError (d.bay n b).tsbp.toNat))
  | _, _ => d
/-- A load that came from the task table: RES and BAY set, RDY clear, the load counted (R202). -/
def Dev.autoLoaded (d : Dev) (n b i : Nat) : Dev := (d.setTask n i (fun w => setBits (setBits (setBits w 30 30 0) 29 29 1) 5 4 b)).countLoad n i
/-- A task-table entry whose image is refused: V := 0, counted in EVDROP (R202). -/
def Dev.autoRefused (d : Dev) (n b i : Nat) : Dev :=
  ((d.modBay n b (fun x => { x with st := .empty, wait := .none })).setTask n i (fun w => setBits w 31 31 0)).modCore n (fun c => { c with evdrop := satAdd c.evdrop 1 })
/-- What a refused load answers at the TLOAD syllable. -/
def loadError (a c r : Nat) : SylOut := if c = 0x14 then busError a else if c = 0x15 then .bad a a else .exc c r (if c = 6 then BitVec.ofNat 32 a else 0) 0
/-- TLOAD_COMPLETE: the bay is READY with its task, or EMPTY again (R198). -/
def Dev.tloadComplete (d : Dev) (n b : Nat) (fab : Bool) : Dev :=
  match (d.bay n b).st, (d.bay n b).wait with
  | .moving, .loading (some q) a _ => match d.loadTask n b a ((d.bay n q).level == 1) fab none with
    | .ok d1 => d1.askerDone n q none
    | .error (c, r) => (d.modBay n b (fun x => { x with st := .empty, wait := .none })).askerDone n q (some (loadError a c r))
  | .moving, .loading none a i => match d.loadTask n b a false fab (some i) with
    | .ok d1 => d1.autoLoaded n b i
    | .error _ => d.autoRefused n b i
  | _, _ => d
/-- TEVICT_COMPLETE. -/
def execTevictComplete (core : CoreNo) (bay : BayNo) (fab : Bool) (s : State) : Host.Outcome State Fault Refusal := .next (s.run (fun d => d.tevictComplete core.toNat bay.toNat fab))
/-- TLOAD_COMPLETE. -/
def execTloadComplete (core : CoreNo) (bay : BayNo) (fab : Bool) (s : State) : Host.Outcome State Fault Refusal := .next (s.run (fun d => d.tloadComplete core.toNat bay.toNat fab))

end Sys2Proof.Machine
end

