-- ==== Sys2Proof/Machine/Exceptions.lean ====
section
/-! DEFINITION. Taking an exception: EXCEPTION_ENTRY, the frame, the levels, escalation and lockup (R44, R72, R201, R206 to R210, R216). -/

namespace Sys2Proof.Machine

/-! ## The store buffer (R227, R256, R268) -/

/-- Whether a buffered store overlaps a range. -/
def SbE.overlaps (e : SbE) (a len : Nat) : Bool := decide (e.pa < a + len) && decide (a < e.pa + e.data.length)
/-- Entries drained until none overlaps a range the bay is about to write: its own accesses to one address keep their order (R255). -/
def Dev.settle (n a len k : Nat) (d : Dev) : Dev := Dev.drainWhile n (fun c => c.sb.any (fun e => e.overlaps a len)) (fun e => e.drainHead n false) k d
/-- STORE_BUFFER_DRAIN. -/
def execStoreBufferDrain (core : CoreNo) (fab : Bool) (s : State) : Host.Outcome State Fault Refusal := .next (s.run (fun d => d.drainOne core.toNat fab))

/-! ## Entry -/

/-- What an entry is for: synchronous or not, its cause and detail, and what the frame holds. -/
structure Entry where
  async : Bool
  cause : Nat
  detail : Nat
  more : Bool
  epc : Word
  faddr : Word
  aux : Word
  repc : Word
  escalated : Bool := false
  deriving DecidableEq, Repr

/-- The CAUSE word of an entry (R207). -/
def Entry.word (e : Entry) (frm : Nat) : Nat := b2n e.async * 2 ^ 31 + b2n e.more * 2 ^ 30 + frm * 2 ^ 28 + e.cause * 2 ^ 16 + e.detail % 65536
/-- The 64 bytes of a frame (Table 6.6). -/
def Bay.frame (x : Bay) (e : Entry) (word : Nat) : List Byte :=
  toLe 4 e.epc.toNat ++ toLe 4 x.status.toNat ++ toLe 4 word ++ toLe 4 e.faddr.toNat ++ toLe 4 e.repc.toNat ++ toLe 4 e.aux.toNat
    ++ toLe 4 x.spSrc.toNat ++ toLe 4 x.spDst.toNat ++ toLe 4 x.spCnt.toNat ++ toLe 4 x.spState.toNat ++ toLe 4 x.winctl ++ toLe 20 0
/-- The bay with the frame's values in the bank of the level it enters. -/
def Bay.bankFrame (x : Bay) (lvl : Nat) (word : Nat) (e : Entry) : Bay :=
  if lvl = 3 then { x with causeM := BitVec.ofNat 32 word, epcM := e.epc, faddrM := e.faddr } else { x with causeS := BitVec.ofNat 32 word, epcS := e.epc, faddrS := e.faddr }
/-- STATUS after an entry: FPL kept, STEP 0, IM 1, the level. -/
def enteredStatus (old : Word) (lvl : Nat) : Word := BitVec.ofNat 32 (bits old.toNat 7 6 * 64 + 8 * b2n (lvl == 3) + 4 + lvl)
/-- The bay after a successful entry. -/
def Bay.entered (x : Bay) (lvl : Nat) (word : Nat) (e : Entry) (vec : Word) : Bay :=
  let y := x.bankFrame lvl word e
  { (if lvl = 1 then y.advance else y) with status := enteredStatus x.status lvl, pc := vec &&& 0xFFFFFFFC, repc := e.repc, afterRet := false, walkFault := none, exc := none }

/-- A bay of a core that locks up. -/
def Bay.lockUp (x : Bay) : Bay := { x with st := .locked, wait := .none, bundle := none, prog := none, flight := [], exc := none, walkFault := none, held := none, dataDue := false }
/-- The core locks up: the record, CORE_LOCK_N, and the event (R216, R217). -/
def Dev.lockup (d : Dev) (n b lvl : Nat) (word : Nat) (e : Entry) (fail : Nat) : Dev :=
  let f := (d.bay n b).tsbp.toNat
  let r : LkRec := { v := true, fail := fail, level := lvl, bay := b, cause := BitVec.ofNat 32 word, epc := e.epc, tsbp := BitVec.ofNat 32 f, bank := f / 0x1000000 }
  let d1 := (List.range 4).foldl (fun (g : Dev) i => g.modBay n i Bay.lockUp) d
  let d2 := { d1 with pw := { d1.pw with lkrec := Tab.set d1.pw.lkrec n r } }
  let d3 := d2.modCore n (fun c => { c with locks := c.locks ++ [d.rc.opt] })
  d3.driveLock.record (0x1000 + n) 0x10 (toLe 4 (r.word0 n) ++ toLe 4 word ++ toLe 4 e.epc.toNat ++ toLe 4 f)

/-- The frame written and the handler entered, or the lockup (R210). -/
def Dev.enter (d : Dev) (n b lvl : Nat) (e : Entry) (fab : Bool) : Dev :=
  let f := (d.bay n b).tsbp.toNat + (if lvl = 3 then 0x40 else 0)
  let d0 := Dev.settle n f 64 16 d
  let x := d0.bay n b
  let word := e.word x.level
  if fab ∨ ¬ d0.servedAt f then d0.lockup n b lvl word e (if e.escalated then 3 else if d0.servedAt f then 2 else 1)
  else
    let vec := if lvl = 3 then d0.inForce (midEVECM n b) else x.evecS
    (d0.put f (x.frame e word)).modBay n b (fun y => y.entered lvl word e vec)
/-- The entry to M with cause 0x0E in place of one to S that finds no slot (R210). -/
def Entry.escalate (e : Entry) (x : Bay) : Entry :=
  { e with async := false, cause := 0x0E, detail := (if e.async then 0 else e.detail / 1024 % 64 * 1024) + x.sfWhy, more := false, faddr := 0, aux := x.stopEntry, escalated := true }
/-- An entry to the level its cause is routed to: it waits for a slot, escalates, or is made. -/
def Dev.takeEntry (d : Dev) (n b lvl : Nat) (e : Entry) (fab : Bool) (clear : Bay → Bay) : Dev :=
  let x := d.bay n b
  if lvl = 1 ∧ x.res = 10 then
    if x.sf then d.enter n b 3 (e.escalate x) fab
    else d.modBay n b (fun y => { y with st := .frozen, wait := .window })
  else (d.modBay n b clear).enter n b lvl e fab
/-- The synchronous exception of a bay entered (R207, R210, R212). -/
def Dev.syncEntry (d : Dev) (n b : Nat) (e : Exc) (fab : Bool) : Dev :=
  let x := (d.bay n b).landAll
  let repc := if e.repc.getLsbD 31 then e.repc else x.repc &&& 0x7FFFFFFF
  (d.setBay n b x).takeEntry n b (x.route e.cause)
    { async := false, cause := e.cause, detail := e.detail.toNat, more := false, epc := e.pc, faddr := e.faddr, aux := e.aux, repc := repc } fab id
/-- PEND and its detail after an event is taken (R201). -/
def Bay.eventTaken (x : Bay) (k : Nat) : Bay := { x with pend := x.pend &&& ~~~(BitVec.ofNat 32 (2 ^ k + 2 ^ (16 + k))) }
/-- An asynchronous event entered at a boundary (R201, R207, R210). -/
def Dev.asyncEntry (d : Dev) (n b c : Nat) (fab : Bool) : Dev :=
  let x := ((d.bay n b).stopProg).landAll
  let k := pendBit c
  (d.setBay n b x).takeEntry n b (if x.toM c then 3 else 1)
    { async := true, cause := c, detail := (Tab.get x.pendDet k 0).toNat, more := x.pend.getLsbD (16 + k), epc := x.pc, faddr := 0, aux := 0, repc := x.repc &&& 0x7FFFFFFF } fab (fun y => y.eventTaken k)
/-- EXCEPTION_ENTRY: the synchronous exception that waits, or at a boundary the event taken first. -/
def Dev.exceptionEntry (d : Dev) (n b : Nat) (fab : Bool) : Dev :=
  let x := d.bay n b
  if (d.core n).up ∧ x.st = .running ∧ ¬ d.pw.pfail then
    match x.exc with
    | some e => (d.syncEntry n b e fab).claim n b
    | none => match x.nextEvent with
      | some c => if x.bundle.isNone ∨ x.betweenSteps then d.asyncEntry n b c fab else d
      | none => d
  else d
/-- EXCEPTION_ENTRY. -/
def execExceptionEntry (core : CoreNo) (bay : BayNo) (fab : Bool) (s : State) : Host.Outcome State Fault Refusal := .next (s.run (fun d => d.exceptionEntry core.toNat bay.toNat fab))

end Sys2Proof.Machine
end

