-- ==== Sys2Proof/Machine/Fetch.lean ====
section
/-! DEFINITION. Fetching a bundle through the ITLB and the L1 instruction cache, and BUNDLE_FETCH (R28, R29, R235, R259, R266). -/

namespace Sys2Proof.Machine

/-- What the fetch of a bundle's words meets. -/
inductive Fetched where
  | words (ws : List Nat)
  | walk (va : Nat)
  | fault (e : Exc)
  deriving DecidableEq, Repr

/-- A 32-byte block of instructions as a core sees it: the cached copy, which a flush may or may not have reached, or none (R259). -/
def Dev.cached (d : Dev) (n blk : Nat) : Option (List Byte) :=
  let c := d.core n
  match c.icache.find? (fun l => l.1 == blk) with
  | some l => if c.iflushed.any (fun p => p.2 == blk) && !Config.fetchOld d.free blk then none else some l.2
  | none => none
/-- A block filled from memory; the free choice evicts others, never those the bundle needs. -/
def Dev.fillBlock (d : Dev) (n blk : Nat) (need : List Nat) : Dev :=
  d.modCore n (fun c => { c with icache := (blk, d.bytes (32 * blk) 32) :: c.icache.filter (fun l => l.1 != blk && (need.contains l.1 || !Config.lineEvict d.free l.1)) })
/-- The exception of a fetch. -/
def fetchExc (pc : Word) (cause low : Nat) (fa aux : Word) : Exc := { cause := cause, detail := BitVec.ofNat 32 low, faddr := fa, aux := aux, pc := pc }

/-- Whether a miss is long, added to what was met so far (R264). -/
def longer (m : Option Bool) (long : Bool) : Option Bool := some (long || m.getD false)

/-- The words of the bundle at `pc` from the `i`-th on, blocks filled on the way, and the miss met (R28, R29). -/
def Dev.fetchWords (n b : Nat) (pc : Word) : Nat → Nat → List Nat → List Nat → Option Bool → Dev → Dev × Fetched × Option Bool
  | 0, _, ws, _, m, d => (d, .words ws, m)
  | k + 1, i, ws, need, m, d =>
    let va := (pc.toNat + 4 * i) % 2 ^ 32
    match d.accessHalf n b (d.bay n b).level .fetch false va 4 with
    | .walk v => (d, .walk v, m)
    | .fault c r v => (d, .fault (fetchExc pc c (0x300 + r) (BitVec.ofNat 32 v) 0), m)
    | .ok pa =>
      let blk := pa / 32
      let go := fun (bs : List Byte) (m' : Option Bool) (e : Dev) =>
        let w := leAt bs (pa % 32) 4
        if bit w 31 then (e, Fetched.words (ws ++ [w]), m') else Dev.fetchWords n b pc k (i + 1) (ws ++ [w]) (blk :: need) m' e
      match d.cached n blk with
      | some bs => go bs m d
      | none =>
        if !d.servedAt pa then (d, .fault (fetchExc pc 0x14 (Config.busDetail pa) (BitVec.ofNat 32 va) 0), m)
        else if d.poisoned pa 4 then (d.recordBadData pa, .fault (fetchExc pc 0x15 3 (BitVec.ofNat 32 va) (BitVec.ofNat 32 (Config.arrayNo pa))), m)
        else go (d.bytes (32 * blk) 32) (longer m ((d.missAt n b (d.bay n b).level va pa).getD false)) (d.fillBlock n blk need)

/-- The running bay of a core. -/
def Dev.runningBay (d : Dev) (n : Nat) : Option Nat := (List.range 4).find? (fun b => (d.bay n b).st == .running)

/-- The words of a bundle decoded, and the bundle opened or refused (R75 to R77). -/
def Dev.openWords (d : Dev) (n b : Nat) (ws : List Nat) : Dev :=
  let x := d.bay n b
  if !(ws.any (fun w => bit w 31)) then d.refuseBundle n b x.pc 1 7 8 1
  else match decodeBundle (BitVec.ofNat 7 n) (BitVec.ofNat 2 b) x.level x.tooNear ws with
    | .error (c, p, r) => d.refuseBundle n b x.pc c p ws.length r
    | .ok is_ => d.openBundle n b ws.length is_

/-- The next bundle of a bay fetched and opened, or what stands in the way. -/
def Dev.fetchBundle (d : Dev) (n b : Nat) : Dev :=
  let x := d.bay n b
  match Dev.fetchWords n b x.pc 8 0 [] [] none d with
  | (d1, .walk _, some true) => (d1.setBay n b (x.waitFor .miss .data)).tickFree
  | (d1, .walk v, _) => d1.setBay n b (x.waitFor (if d1.walkLong n (x.tag x.level) v then .miss else .frozen) (.walk v .fetch false 4))
  | (d1, .fault e, _) => d1.modBay n b (fun z => { z with exc := some e })
  | (d1, .words _, some long) => (d1.setBay n b (x.waitFor (if long then .miss else .frozen) .data)).tickFree
  | (d1, .words ws, none) => d1.openWords n b ws

/-- A register that an opened bundle reads fails its check: the bundle has no effect, cause 0x15 is taken at it, and the core records the error (R221, R353, Table 6.11). -/
def Dev.registerCheck (d : Dev) (n b : Nat) : Dev :=
  let x := d.bay n b
  match x.bundle with
  | some u => (d.setBay n b { x with bundle := none, exc := some { cause := 0x15, detail := detailOf 0 u.len 2, aux := BitVec.ofNat 32 (Config.arrayNo d.free), pc := u.pc } }).tickFree.record (0x1000 + n) 2 (coreDetail (x.level * 2 ^ 28 + 0x150002) 0)
  | none => d
/-- BUNDLE_FETCH: the running bay's next bundle, opened unless a register it reads fails its check. -/
def Dev.bundleFetch (d : Dev) (n : Nat) (chk : Bool) : Dev :=
  match d.runningBay n with
  | some b => if d.mayOpen n b then (if chk then (d.fetchBundle n b).registerCheck n b else d.fetchBundle n b) else d
  | none => d
/-- BUNDLE_FETCH. -/
def execBundleFetch (core : FetchAt) (s : State) : Host.Outcome State Fault Refusal := .next (s.run (fun d => d.bundleFetch core.core.toNat core.chk))

end Sys2Proof.Machine
end

