-- ==== Sys2Proof/Machine/Engine.lean ====
section
/-! DEFINITION. What a core does beside its bundles: the window engine, the scheduler, misses, walks, invalidations, the task table (R189, R199 to R202, R232, R240, R265). -/

namespace Sys2Proof.Machine

/-! ## The window engine -/

/-- WINDOW_SPILL. -/
def execWindowSpill (core : CoreNo) (bay : BayNo) (fab : Bool) (s : State) : Host.Outcome State Fault Refusal :=
  .next (s.run (fun d => if (d.core core.toNat).up then d.spill core.toNat bay.toNat fab else d))
/-- WINDOW_FILL. -/
def execWindowFill (core : CoreNo) (bay : BayNo) (fab : Bool) (s : State) : Host.Outcome State Fault Refusal :=
  .next (s.run (fun d => if (d.core core.toNat).up then d.fill core.toNat bay.toNat fab else d))

/-! ## The scheduler -/

/-- Whether a core issues at all. -/
def Dev.live (d : Dev) (n : Nat) : Bool := (d.core n).up && !d.pw.pfail
/-- The READY bays of a core. -/
def Dev.readyBays (d : Dev) (n : Nat) : List Nat := (List.range 4).filter (fun b => (d.bay n b).st == .ready)
/-- The bays the scheduler may take: highest PRI, and among those the least recently run (R199). -/
def Dev.candidates (d : Dev) (n : Nat) : List Nat :=
  let r := d.readyBays n
  let p := r.filter (fun b => r.all (fun c => decide ((d.bay n c).pri ≤ (d.bay n b).pri)))
  p.filter (fun b => p.all (fun c => decide ((d.bay n b).lastRun ≤ (d.bay n c).lastRun)))
/-- Whether no bay holds the core: none runs and none is frozen. -/
def Dev.coreFree (d : Dev) (n : Nat) : Bool := (List.range 4).all (fun b => (d.bay n b).st != .running && (d.bay n b).st != .frozen)
/-- A bay selected. -/
def Dev.select (d : Dev) (n b : Nat) : Dev :=
  let t := (d.core n).tick + 1
  ((d.modCore n (fun c => { c with tick := t })).modBay n b (fun x => { x with st := .running, lastRun := t, issued := 0 })).tickFree
/-- SCHEDULER_SELECT. -/
def Dev.schedule (d : Dev) (n : Nat) : Dev :=
  if d.live n && d.coreFree n then
    let cs := d.candidates n
    match cs[Config.tie d.free % cs.length]? with
    | some b => d.select n b
    | none => d
  else d
/-- The running bay gives way at its boundary where a READY bay satisfies a condition on the two priorities. -/
def Dev.giveWay (d : Dev) (n : Nat) (ok : Bay → Bool) (rel : Nat → Nat → Bool) : Dev :=
  match d.runningBay n with
  | none => d
  | some b =>
    let x := d.bay n b
    if d.live n && ok x && x.atBoundary && x.exc.isNone && (d.readyBays n).any (fun c => rel x.pri (d.bay n c).pri) then d.setBay n b { x with st := .ready } else d
/-- SCHEDULER_SELECT. -/
def execSchedulerSelect (core : CoreNo) (s : State) : Host.Outcome State Fault Refusal := .next (s.run (fun d => d.schedule core.toNat))
/-- PREEMPTION (R200). -/
def execPreemption (core : CoreNo) (s : State) : Host.Outcome State Fault Refusal :=
  .next (s.run (fun d => d.giveWay core.toNat (fun _ => true) (fun p q => decide (p < q))))
/-- QUANTUM_EXPIRY (R200). -/
def execQuantumExpiry (core : CoreNo) (s : State) : Host.Outcome State Fault Refusal :=
  .next (s.run (fun d =>
    let q := bits (d.core core.toNat).schctl.toNat 15 8
    d.giveWay core.toNat (fun x => decide (q ≠ 0) && decide (q * 256 ≤ x.issued)) (fun p r => p == r)))

/-- A bay of a core that is being loaded from the task table. -/
def Dev.autoLoading (d : Dev) (n : Nat) : Bool :=
  (List.range 4).any (fun b => match (d.bay n b).wait with | .loading none _ _ => true | _ => false)
/-- AUTOMATIC_LOAD: the lowest EMPTY bay starts to load the entry the rule takes; a draining pair starts none (R202, R380). -/
def Dev.automaticLoad (d : Dev) (n : Nat) : Dev :=
  if d.live n && d.domState (n / 2) == 1 && !d.autoLoading n then
    match (List.range 4).find? (fun b => (d.bay n b).st == .empty), d.nextTask n with
    | some b, some i => d.modBay n b (fun x => { x with st := .moving, wait := .loading none (d.num ((d.core n).ttEntry i) 4) i })
    | _, _ => d
  else d
/-- AUTOMATIC_LOAD. -/
def execAutomaticLoad (core : CoreNo) (s : State) : Host.Outcome State Fault Refusal := .next (s.run (fun d => d.automaticLoad core.toNat))

/-! ## Misses, walks and invalidations -/

/-- MISS_DATA_RETURN: a frozen bay runs on, a switched-out one is READY (R264, R265). -/
def Dev.dataReturn (d : Dev) (n b : Nat) : Dev :=
  let x := d.bay n b
  match x.st, x.wait with
  | .frozen, .data => (d.setBay n b { x with st := .running, wait := .none }).claim n b
  | .miss, .data => (d.setBay n b { x with st := .ready, wait := .none }).claim n b
  | _, _ => if x.dataDue then (d.setBay n b { x with dataDue := false }).claim n b else d
/-- MISS_DATA_RETURN. -/
def execMissDataReturn (core : CoreNo) (bay : BayNo) (s : State) : Host.Outcome State Fault Refusal := .next (s.run (fun d => d.dataReturn core.toNat bay.toNat))
/-- PAGE_WALK: the walk a frozen bay, or one that a long walk has switched out, waits for (R232, R267). -/
def Dev.walkStep (d : Dev) (n b : Nat) (fab : Bool) : Dev :=
  let x := d.bay n b
  match x.st, x.wait with
  | .frozen, .walk va k form size => d.pageWalk n b va k form size fab
  | .miss, .walk va k form size => d.pageWalk n b va k form size fab
  | _, _ => d
/-- PAGE_WALK. -/
def execPageWalk (core : CoreNo) (bay : BayNo) (fab : Bool) (s : State) : Host.Outcome State Fault Refusal := .next (s.run (fun d => d.walkStep core.toNat bay.toNat fab))
/-- An invalidation of a bay complete at a target: nothing that used what it removed is left, or the target is locked or out of service (R240, R380). -/
def Dev.invalidated (d : Dev) (n b t : Nat) : Dev :=
  match (d.core n).invs.find? (fun i => i.1 == b && i.2.1 == t && (!d.oldStores t i.2.2 || d.coreLocked t || d.domState (t / 2) != 1)) with
  | none => d
  | some i =>
    let d1 := d.modCore n (fun c => { c with invs := c.invs.erase i })
    if (d1.core n).invs.any (fun j => j.1 == b) then d1
    else d1.modBay n b (fun x => if x.st = .waiting ∧ x.wait = .syncT then x.resume else x)
/-- TLB_INVALIDATION_COMPLETE. -/
def execTlbInvalidationComplete (core : CoreNo) (bay : BayNo) (target : CoreNo) (s : State) : Host.Outcome State Fault Refusal :=
  .next (s.run (fun d => d.invalidated core.toNat bay.toNat target.toNat))

end Sys2Proof.Machine
end

