-- ==== Sys2Proof/Machine/Epoch.lean ====
section
/-! DEFINITION. The commands of the epoch block (R167 to R174). -/

namespace Sys2Proof.Machine

/-- TICK_IN. -/
def execTickIn (epochIn : Bool) (s : State) : Host.Outcome State Fault Refusal := .next (s.run (fun d => d.tickIn epochIn))
/-- EPLOSS has passed without an update (R169). -/
def Dev.sourceLoss (d : Dev) (altLive : Bool) : Dev :=
  let x := d.ep
  let alt := bits x.ctl.toNat 27 25
  if ¬ x.on ∨ x.loss = 0 then d
  else
    let d1 := ({ d with ep := (x.mark 27).live false }).epochEvent 1
    if altLive && decide (alt < 5) && alt != x.cur then ({ d1 with ep := (d1.ep.mark 26).follow alt }).epochEvent 2 else d1
/-- EPOCH_SOURCE_LOSS: `altLive` tells whether the source ALT names is delivering updates. -/
def execEpochSourceLoss (altLive : Bool) (s : State) : Host.Outcome State Fault Refusal := .next (s.run (fun d => d.sourceLoss altLive))
/-- EPCTL_WRITE. -/
def execEpctlWrite (who : Agent) (value : Word) (s : State) : Host.Outcome State Fault Refusal :=
  .next (s.run (fun d => if d.allowed who 0x0C000000 true then d.writeEpctl value.toNat else d))
/-- ES_CTL_WRITE. -/
def execEsCtlWrite (who : Agent) (slot : BitVec 8) (value : Word) (s : State) : Host.Outcome State Fault Refusal :=
  .next (s.run (fun d => if d.allowed who (0x0C00100C + 16 * slot.toNat) true then d.writeSlot slot.toNat 0xC value.toNat else d))
/-- EVENT_SLOT_FIRE. -/
def execEventSlotFire (s : State) : Host.Outcome State Fault Refusal := .next (s.run (fun d => d.fireSlot))

end Sys2Proof.Machine
end

