-- ==== Sys2Proof/Machine/Pupor.lean ====
section
/-! DEFINITION. The Pupor controller running a site extension (R384, R385), and lockup recovery by Pupor (R383). -/

namespace Sys2Proof.Machine

/-! ## Memory and runs -/

/-- A byte of the controller's address space: ROM below 0xC000, RAM from there. -/
def Pupor.byte (p : Pupor) (a : Nat) : Byte := let x := a % 0x10000; if x < 0xC000 then Config.romByte x else Tab.get p.ram x 0
/-- The machine with the controller changed. -/
def Dev.modPu (d : Dev) (f : Pupor → Pupor) : Dev := { d with pu := f d.pu }
/-- Instructions a run may execute without STOP. -/
def puLimit : Nat := 16777216

/-- Whether an extension slot holds an image that may run. -/
def Dev.extGood (d : Dev) (slot : Nat) : Bool := decide (slot < 6) && d.bankGood 3 (8 + slot)
/-- A run started: the body at 0xE000, the registers zero, the arguments in ARG0 to ARG15. -/
def Dev.startRun (d : Dev) (slot : Nat) (args : List Byte) (byMbox : Bool) : Dev :=
  let im := (d.imgBank (8 + slot)).data
  let body := (im.drop 256).take (imgLen im)
  d.modPu (fun p => { p with
    acc := 0, cnt := 0, j := 0, k := 0, stk := 0, cy := false, zf := false, sf := false, vf := false
    pc := BitVec.ofNat 16 (imgEntry im)
    ram := body.zipIdx.foldl (fun t q => Tab.set t (0xE000 + q.2) q.1) p.ram
    args := (padTo 16 args).zipIdx.map (fun q => (q.2, q.1))
    run := some slot, byMbox := byMbox, waiting := 0, count := 0, aborted := false })
/-- A run asked for: it starts where the slot's image passes its checks, and the failure is recorded where not (R377). -/
def Dev.runExt (d : Dev) (slot : Nat) (args : List Byte) (byMbox : Bool) : Dev :=
  if d.extGood slot then d.startRun slot args byMbox else if slot < 6 then d.recordBad 3 (8 + slot) else d
/-- RES0 to RES15. -/
def Pupor.results (p : Pupor) : List Byte := (List.range 16).map (fun i => Tab.get p.res i 0)
/-- A run ended; a mailbox request that waits for it is answered. -/
def Dev.endRun (d : Dev) (aborted : Bool) : Dev :=
  let d1 := d.modPu (fun p => { p with run := none, waiting := 0, aborted := aborted, byMbox := false })
  if d.pu.byMbox ∧ d.pu.mbox.state = 1 then (if aborted then d1.mboxReply 5 [] else d1.mboxReply 0 d.pu.results) else d1
/-- A run aborted (R385). -/
def Dev.abortRun (d : Dev) : Dev := d.endRun true

/-- Whether the run meets these bytes at PC, is not waiting and has instructions left. -/
def Dev.puAt (d : Dev) (bs : List Byte) : Bool :=
  d.pu.run.isSome && d.pu.waiting == 0 && decide (d.pu.count < puLimit) && bs.zipIdx.all (fun q => d.pu.byte (d.pu.pc.toNat + q.2) == q.1)
/-- One instruction of the run: PC moves past it, it is counted, it acts. -/
def Dev.puDo (d : Dev) (bs : List Byte) (act : Dev → Dev) : Dev :=
  if d.puAt bs then act (d.modPu (fun p => { p with pc := p.pc + BitVec.ofNat 16 bs.length, count := p.count + 1 })) else d
/-- An instruction that changes only the controller's registers. -/
def Dev.puReg (d : Dev) (bs : List Byte) (f : Pupor → Pupor) : Dev := d.puDo bs (fun e => e.modPu f)

/-- A load in site mode: from 0xC000 to 0xDFFF it aborts the run (R385). -/
def Dev.puLoad (d : Dev) (a : Nat) (k : Dev → Byte → Dev) : Dev :=
  let x := a % 0x10000
  if 0xC000 ≤ x ∧ x < 0xE000 then d.abortRun else k d (d.pu.byte x)
/-- A store in site mode: below 0xE000 it aborts the run (R385). -/
def Dev.puStore (d : Dev) (a : Nat) (v : Byte) (k : Dev → Dev) : Dev :=
  let x := a % 0x10000
  if x < 0xE000 then d.abortRun else k (d.modPu (fun p => { p with ram := Tab.set p.ram x v }))

/-! ## Flags (R384) -/

/-- ZF and SF from a result. -/
def Pupor.zs (p : Pupor) (r : Byte) : Pupor := { p with zf := r == 0, sf := r.msb }
/-- A value into ACC, with ZF and SF. -/
def Pupor.put (p : Pupor) (r : Byte) : Pupor := ({ p with acc := r }).zs r
/-- ACC plus a byte and a carry: CY, VF, ZF, SF. -/
def Pupor.plus (p : Pupor) (v : Byte) (c : Nat) : Pupor :=
  let t := p.acc.toNat + v.toNat + c
  let i := p.acc.toInt + v.toInt + c
  ({ p with cy := decide (256 ≤ t), vf := decide (i < -128) || decide (127 < i) }).put (BitVec.ofNat 8 t)
/-- ACC minus a byte and a borrow: CY, VF, ZF, SF; `keep` leaves ACC as it was. -/
def Pupor.minus (p : Pupor) (v : Byte) (c : Nat) (keep : Bool) : Pupor :=
  let r := BitVec.ofNat 8 (p.acc.toNat + 512 - v.toNat - c)
  let i := p.acc.toInt - v.toInt - c
  let q := ({ p with cy := decide (p.acc.toNat < v.toNat + c), vf := decide (i < -128) || decide (127 < i) }).zs r
  if keep then q else { q with acc := r }
/-- The carry as a number. -/
def Pupor.carry (p : Pupor) : Nat := b2n p.cy

/-! ## Addresses and branches -/

/-- The bytes of an instruction with a 16-bit operand. -/
def op16 (o : Byte) (w : Half) : List Byte := o :: toLe 2 w.toNat
/-- A branch by a signed offset from the next instruction, where it is taken. -/
def Pupor.branch (p : Pupor) (taken : Bool) (r : Byte) : Pupor := if taken then { p with pc := p.pc + r.signExtend 16 } else p
/-- A byte pushed. -/
def Dev.puPush (d : Dev) (v : Byte) (k : Dev → Dev) : Dev :=
  let s := d.pu.stk - 1
  (d.modPu (fun p => { p with stk := s })).puStore s.toNat v k
/-- A byte popped. -/
def Dev.puPop (d : Dev) (k : Dev → Byte → Dev) : Dev :=
  d.puLoad d.pu.stk.toNat (fun e v => k (e.modPu (fun p => { p with stk := p.stk + 1 })) v)

/-! ## Instructions (Table 13.12) -/

/-- PUPOR_LD_IMM. -/
def execPuporLdImm (i : Byte) (s : State) : Host.Outcome State Fault Refusal := .next (s.run (fun d => d.puReg [0x40, i] (fun p => p.put i)))
/-- PUPOR_LD_ABS. -/
def execPuporLdAbs (a : Half) (s : State) : Host.Outcome State Fault Refusal :=
  .next (s.run (fun d => d.puDo (op16 0x41 a) (fun e => e.puLoad a.toNat (fun g v => g.modPu (fun p => p.put v)))))
/-- PUPOR_LD_J. -/
def execPuporLdJ (disp : Byte) (s : State) : Host.Outcome State Fault Refusal :=
  .next (s.run (fun d => d.puDo [0x42, disp] (fun e => e.puLoad (e.pu.j.toNat + disp.toNat) (fun g v => g.modPu (fun p => p.put v)))))
/-- PUPOR_LD_K. -/
def execPuporLdK (s : State) : Host.Outcome State Fault Refusal :=
  .next (s.run (fun d => d.puDo [0x43] (fun e => e.puLoad e.pu.k.toNat (fun g v => g.modPu (fun p => ({ p with k := p.k + 1 }).put v)))))
/-- PUPOR_ST_ABS. -/
def execPuporStAbs (a : Half) (s : State) : Host.Outcome State Fault Refusal :=
  .next (s.run (fun d => d.puDo (op16 0x44 a) (fun e => e.puStore a.toNat e.pu.acc (fun g => g))))
/-- PUPOR_ST_J. -/
def execPuporStJ (disp : Byte) (s : State) : Host.Outcome State Fault Refusal :=
  .next (s.run (fun d => d.puDo [0x45, disp] (fun e => e.puStore (e.pu.j.toNat + disp.toNat) e.pu.acc (fun g => g))))
/-- PUPOR_ST_K. -/
def execPuporStK (s : State) : Host.Outcome State Fault Refusal :=
  .next (s.run (fun d => d.puDo [0x46] (fun e => e.puStore e.pu.k.toNat e.pu.acc (fun g => g.modPu (fun p => { p with k := p.k + 1 })))))
/-- PUPOR_LDJ_IMM. -/
def execPuporLdjImm (a : Half) (s : State) : Host.Outcome State Fault Refusal := .next (s.run (fun d => d.puReg (op16 0x47 a) (fun p => { p with j := a })))
/-- PUPOR_LDK_IMM. -/
def execPuporLdkImm (a : Half) (s : State) : Host.Outcome State Fault Refusal := .next (s.run (fun d => d.puReg (op16 0x48 a) (fun p => { p with k := a })))
/-- PUPOR_LDJ_ABS. -/
def execPuporLdjAbs (a : Half) (s : State) : Host.Outcome State Fault Refusal :=
  .next (s.run (fun d => d.puDo (op16 0x49 a) (fun e => e.puLoad a.toNat (fun g lo => g.puLoad (a.toNat + 1) (fun h hi =>
    h.modPu (fun p => { p with j := BitVec.ofNat 16 (lo.toNat + 256 * hi.toNat) }))))))
/-- PUPOR_STJ. -/
def execPuporStj (a : Half) (s : State) : Host.Outcome State Fault Refusal :=
  .next (s.run (fun d => d.puDo (op16 0x4A a) (fun e =>
    e.puStore a.toNat (BitVec.ofNat 8 e.pu.j.toNat) (fun g => g.puStore (a.toNat + 1) (BitVec.ofNat 8 (e.pu.j.toNat / 256)) (fun h => h)))))
/-- PUPOR_SWJK. -/
def execPuporSwjk (s : State) : Host.Outcome State Fault Refusal := .next (s.run (fun d => d.puReg [0x4B] (fun p => { p with j := p.k, k := p.j })))
/-- PUPOR_ADJ. -/
def execPuporAdj (s : State) : Host.Outcome State Fault Refusal := .next (s.run (fun d => d.puReg [0x4C] (fun p => { p with j := p.j + p.acc.setWidth 16 })))
/-- PUPOR_MOV_CNT_ACC. -/
def execPuporMovCntAcc (s : State) : Host.Outcome State Fault Refusal := .next (s.run (fun d => d.puReg [0x4D] (fun p => { p with cnt := p.acc })))
/-- PUPOR_MOV_ACC_CNT. -/
def execPuporMovAccCnt (s : State) : Host.Outcome State Fault Refusal := .next (s.run (fun d => d.puReg [0x4E] (fun p => p.put p.cnt)))
/-- PUPOR_ADD_IMM. -/
def execPuporAddImm (i : Byte) (s : State) : Host.Outcome State Fault Refusal := .next (s.run (fun d => d.puReg [0x50, i] (fun p => p.plus i 0)))
/-- PUPOR_ADD_ABS. -/
def execPuporAddAbs (a : Half) (s : State) : Host.Outcome State Fault Refusal :=
  .next (s.run (fun d => d.puDo (op16 0x51 a) (fun e => e.puLoad a.toNat (fun g v => g.modPu (fun p => p.plus v 0)))))
/-- PUPOR_ADDC. -/
def execPuporAddc (a : Half) (s : State) : Host.Outcome State Fault Refusal :=
  .next (s.run (fun d => d.puDo (op16 0x52 a) (fun e => e.puLoad a.toNat (fun g v => g.modPu (fun p => p.plus v p.carry)))))
/-- PUPOR_SUB_IMM. -/
def execPuporSubImm (i : Byte) (s : State) : Host.Outcome State Fault Refusal := .next (s.run (fun d => d.puReg [0x53, i] (fun p => p.minus i 0 false)))
/-- PUPOR_SUB_ABS. -/
def execPuporSubAbs (a : Half) (s : State) : Host.Outcome State Fault Refusal :=
  .next (s.run (fun d => d.puDo (op16 0x54 a) (fun e => e.puLoad a.toNat (fun g v => g.modPu (fun p => p.minus v 0 false)))))
/-- PUPOR_SUBC. -/
def execPuporSubc (a : Half) (s : State) : Host.Outcome State Fault Refusal :=
  .next (s.run (fun d => d.puDo (op16 0x55 a) (fun e => e.puLoad a.toNat (fun g v => g.modPu (fun p => p.minus v p.carry false)))))
/-- PUPOR_AND. -/
def execPuporAnd (i : Byte) (s : State) : Host.Outcome State Fault Refusal := .next (s.run (fun d => d.puReg [0x56, i] (fun p => p.put (p.acc &&& i))))
/-- PUPOR_IOR. -/
def execPuporIor (i : Byte) (s : State) : Host.Outcome State Fault Refusal := .next (s.run (fun d => d.puReg [0x57, i] (fun p => p.put (p.acc ||| i))))
/-- PUPOR_XOR. -/
def execPuporXor (i : Byte) (s : State) : Host.Outcome State Fault Refusal := .next (s.run (fun d => d.puReg [0x58, i] (fun p => p.put (p.acc ^^^ i))))
/-- PUPOR_CMP_IMM. -/
def execPuporCmpImm (i : Byte) (s : State) : Host.Outcome State Fault Refusal := .next (s.run (fun d => d.puReg [0x59, i] (fun p => p.minus i 0 true)))
/-- PUPOR_CMP_ABS. -/
def execPuporCmpAbs (a : Half) (s : State) : Host.Outcome State Fault Refusal :=
  .next (s.run (fun d => d.puDo (op16 0x5A a) (fun e => e.puLoad a.toNat (fun g v => g.modPu (fun p => p.minus v 0 true)))))
/-- PUPOR_SHL. -/
def execPuporShl (s : State) : Host.Outcome State Fault Refusal := .next (s.run (fun d => d.puReg [0x5B] (fun p => ({ p with cy := p.acc.msb }).put (p.acc <<< 1))))
/-- PUPOR_SHR. -/
def execPuporShr (s : State) : Host.Outcome State Fault Refusal := .next (s.run (fun d => d.puReg [0x5C] (fun p => ({ p with cy := p.acc.getLsbD 0 }).put (p.acc >>> 1))))
/-- PUPOR_INC. -/
def execPuporInc (s : State) : Host.Outcome State Fault Refusal := .next (s.run (fun d => d.puReg [0x5D] (fun p => p.put (p.acc + 1))))
/-- PUPOR_DEC. -/
def execPuporDec (s : State) : Host.Outcome State Fault Refusal := .next (s.run (fun d => d.puReg [0x5E] (fun p => p.put (p.acc - 1))))
/-- PUPOR_JMP. -/
def execPuporJmp (a : Half) (s : State) : Host.Outcome State Fault Refusal := .next (s.run (fun d => d.puReg (op16 0x60 a) (fun p => { p with pc := a })))
/-- PUPOR_CALL: the high byte of the return address is pushed first. -/
def execPuporCall (a : Half) (s : State) : Host.Outcome State Fault Refusal :=
  .next (s.run (fun d => d.puDo (op16 0x61 a) (fun e =>
    let n := e.pu.pc.toNat
    e.puPush (BitVec.ofNat 8 (n / 256)) (fun g => g.puPush (BitVec.ofNat 8 n) (fun h => h.modPu (fun p => { p with pc := a }))))))
/-- PUPOR_RET: the low byte is popped first. -/
def execPuporRet (s : State) : Host.Outcome State Fault Refusal :=
  .next (s.run (fun d => d.puDo [0x62] (fun e => e.puPop (fun g lo => g.puPop (fun h hi => h.modPu (fun p => { p with pc := BitVec.ofNat 16 (lo.toNat + 256 * hi.toNat) }))))))
/-- PUPOR_JZ. -/
def execPuporJz (r : Byte) (s : State) : Host.Outcome State Fault Refusal := .next (s.run (fun d => d.puReg [0x63, r] (fun p => p.branch p.zf r)))
/-- PUPOR_JNZ. -/
def execPuporJnz (r : Byte) (s : State) : Host.Outcome State Fault Refusal := .next (s.run (fun d => d.puReg [0x64, r] (fun p => p.branch (!p.zf) r)))
/-- PUPOR_JC. -/
def execPuporJc (r : Byte) (s : State) : Host.Outcome State Fault Refusal := .next (s.run (fun d => d.puReg [0x65, r] (fun p => p.branch p.cy r)))
/-- PUPOR_JNC. -/
def execPuporJnc (r : Byte) (s : State) : Host.Outcome State Fault Refusal := .next (s.run (fun d => d.puReg [0x66, r] (fun p => p.branch (!p.cy) r)))
/-- PUPOR_JS. -/
def execPuporJs (r : Byte) (s : State) : Host.Outcome State Fault Refusal := .next (s.run (fun d => d.puReg [0x67, r] (fun p => p.branch p.sf r)))
/-- PUPOR_LOOP. -/
def execPuporLoop (r : Byte) (s : State) : Host.Outcome State Fault Refusal :=
  .next (s.run (fun d => d.puReg [0x68, r] (fun p => ({ p with cnt := p.cnt - 1 }).branch (p.cnt - 1 != 0) r)))
/-- PUPOR_PUSH. -/
def execPuporPush (s : State) : Host.Outcome State Fault Refusal := .next (s.run (fun d => d.puDo [0x69] (fun e => e.puPush e.pu.acc (fun g => g))))
/-- PUPOR_POP. -/
def execPuporPop (s : State) : Host.Outcome State Fault Refusal :=
  .next (s.run (fun d => d.puDo [0x6A] (fun e => e.puPop (fun g v => g.modPu (fun p => p.put v)))))

/-! ## Ports (Table 13.13) -/

/-- A port read by an extension: its value, or none for a port outside the table. MS0 reads OPT as it latches it. -/
def Dev.puPort (d : Dev) (n : Nat) : Option Nat :=
  let p := d.pu
  if n < 6 then some (Tab.get p.da n 0).toNat
  else if n < 10 then some (Tab.get p.dd (n - 6) 0).toNat
  else if n = 10 then some (b2n p.busy * 128 + b2n p.refused * 2 + b2n p.err)
  else if 0x20 ≤ n ∧ n < 0x30 then some (Tab.get p.args (n - 0x20) 0).toNat
  else if 0x30 ≤ n ∧ n < 0x40 then some (Tab.get p.res (n - 0x30) 0).toNat
  else if n = 0x40 then some (bits d.rc.opt 7 0)
  else if 0x40 < n ∧ n < 0x44 then some (bits p.ms.toNat (8 * (n - 0x40) + 7) (8 * (n - 0x40)))
  else none
/-- PUPOR_IN: no flag changes; reading MS0 latches the rest. -/
def execPuporIn (p : Byte) (s : State) : Host.Outcome State Fault Refusal :=
  .next (s.run (fun d => d.puDo [0x70, p] (fun e => match e.puPort p.toNat with
    | none => e.abortRun
    | some v => e.modPu (fun q => { q with acc := BitVec.ofNat 8 v, ms := if p = 0x40 then BitVec.ofNat 32 e.rc.opt else q.ms }))))
/-- A value written to a port that has no act of its own; none where the write aborts the run. -/
def Pupor.portWrite (p : Pupor) (n : Nat) : Option Pupor :=
  if n < 5 then some { p with da := Tab.set p.da n p.acc }
  else if n = 5 then some { p with da := Tab.set p.da n (p.acc &&& 0x3F) }
  else if n < 10 then some { p with dd := Tab.set p.dd (n - 6) p.acc }
  else if n = 10 then some p
  else if 0x30 ≤ n ∧ n < 0x40 then some { p with res := Tab.set p.res (n - 0x30) p.acc }
  else none
/-- PUPOR_OUT: DCTL with 0x01 or 0x02 has rows of its own. -/
def execPuporOut (p : Byte) (s : State) : Host.Outcome State Fault Refusal :=
  .next (s.run (fun d => if p = 0x0A ∧ (d.pu.acc = 1 ∨ d.pu.acc = 2) then d
    else d.puDo [0x71, p] (fun e => match e.pu.portWrite p.toNat with
      | some q => { e with pu := q }
      | none => e.abortRun)))
/-- The address in DA0 to DA5. -/
def Pupor.devAddr (p : Pupor) : Nat := fromLe ((List.range 6).map (fun i => Tab.get p.da i 0))
/-- The word in DD0 to DD3. -/
def Pupor.devData (p : Pupor) : Nat := fromLe ((List.range 4).map (fun i => Tab.get p.dd i 0))
/-- Whether a device write of an extension is permitted (R385). -/
def puWriteOk (a : Nat) : Bool :=
  decide (devBase ≤ a) && decide (a < 0x20000000) && !(decide (0x1F000400 ≤ a) && decide (a ≤ 0x1F000413)) && !(decide (0x1D010080 ≤ a) && decide (a < 0x1D010088))
/-- A device access begun; one that is under way is not disturbed. -/
def Pupor.startAccess (p : Pupor) (write : Bool) : Pupor :=
  if p.busy then p
  else if write && !puWriteOk p.devAddr then { p with refused := true, err := false }
  else { p with busy := true, refused := false, err := false, dacc := some (write, p.devAddr, p.devData) }
/-- PUPOR_DEVICE_READ. -/
def execPuporDeviceRead (s : State) : Host.Outcome State Fault Refusal :=
  .next (s.run (fun d => if d.pu.acc = 1 then d.puReg [0x71, 0x0A] (fun p => p.startAccess false) else d))
/-- PUPOR_DEVICE_WRITE. -/
def execPuporDeviceWrite (s : State) : Host.Outcome State Fault Refusal :=
  .next (s.run (fun d => if d.pu.acc = 2 then d.puReg [0x71, 0x0A] (fun p => p.startAccess true) else d))
/-- Whether a word access of Pupor fails: no storage there, a misaligned address, an uncorrectable error. -/
def Dev.puFault (d : Dev) (a : Nat) : Bool := a % 4 != 0 || d.region a == .hole || !d.servedAt a || d.poisoned a 4
/-- The access made. -/
def Dev.puAccess (d : Dev) (write : Bool) (a v : Nat) : Dev :=
  if write then d.regWrite .pupor (a - devBase) v
  else
    let r := if d.region a = .devreg then d.regValue .pupor (a - devBase) else d.num a 4
    let d1 := if d.region a = .devreg then d.regTouch (a - devBase) else d
    d1.modPu (fun p => { p with dd := (toLe 4 r).zipIdx.map (fun q => (q.2, q.1)) })
/-- The DCTL access ends: it is made, or ERR is set. -/
def Dev.puAccessEnd (d : Dev) (err : Bool) : Dev :=
  match d.pu.dacc with
  | none => d
  | some (w, a, v) =>
    let d1 := d.modPu (fun p => { p with busy := false, dacc := none })
    if err || d.puFault a then d1.modPu (fun p => { p with err := true }) else d1.puAccess w a v
/-- PUPOR_DEVICE_ACCESS_END: `err` tells whether the fabric answered with an error. -/
def execPuporDeviceAccessEnd (err : Bool) (s : State) : Host.Outcome State Fault Refusal := .next (s.run (fun d => d.puAccessEnd err))

/-! ## Waits and the end of a run -/

/-- PUPOR_SYS_WAIT: service 0x01 waits; every other code aborts the run. -/
def execPuporSysWait (i : Byte) (s : State) : Host.Outcome State Fault Refusal :=
  .next (s.run (fun d => d.puDo [0x72, i] (fun e => if i = 1 then e.modPu (fun p => { p with waiting := 1 }) else e.abortRun)))
/-- PUPOR_SYS_WAIT_END. -/
def execPuporSysWaitEnd (s : State) : Host.Outcome State Fault Refusal := .next (s.run (fun d => if d.pu.waiting = 1 then d.modPu (fun p => { p with waiting := 0 }) else d))
/-- PUPOR_IDLE. -/
def execPuporIdle (s : State) : Host.Outcome State Fault Refusal := .next (s.run (fun d => d.puReg [0x73] (fun p => { p with waiting := 2 })))
/-- PUPOR_IDLE_WAKE. -/
def execPuporIdleWake (s : State) : Host.Outcome State Fault Refusal := .next (s.run (fun d => if d.pu.waiting = 2 then d.modPu (fun p => { p with waiting := 0 }) else d))
/-- PUPOR_STOP. -/
def execPuporStop (s : State) : Host.Outcome State Fault Refusal := .next (s.run (fun d => d.puDo [0x74] (fun e => e.endRun false)))
/-- PUPOR_NOP. -/
def execPuporNop (s : State) : Host.Outcome State Fault Refusal := .next (s.run (fun d => d.puReg [0x75] (fun p => p)))
/-- Whether Table 13.12 lists an opcode. -/
def puListed (op : Nat) : Bool :=
  (decide (0x40 ≤ op) && decide (op ≤ 0x4E)) || (decide (0x50 ≤ op) && decide (op ≤ 0x5E)) || (decide (0x60 ≤ op) && decide (op ≤ 0x6A)) || (decide (0x70 ≤ op) && decide (op ≤ 0x75))
/-- PUPOR_RESERVED_OPCODE. -/
def execPuporReservedOpcode (op : Byte) (s : State) : Host.Outcome State Fault Refusal :=
  .next (s.run (fun d => if puListed op.toNat then d else d.puDo [op] (fun e => e.abortRun)))
/-- EXTENSION_INSTRUCTION_LIMIT. -/
def execExtensionInstructionLimit (s : State) : Host.Outcome State Fault Refusal :=
  .next (s.run (fun d => if d.pu.run.isSome ∧ puLimit ≤ d.pu.count then d.abortRun else d))

/-! ## Lockup recovery (R383) -/

/-- Lockups of a core within the last second. -/
def Dev.recentLocks (d : Dev) (n : Nat) : Nat := ((d.core n).locks.filter (fun t => decide (d.rc.opt < t + 1000))).length
/-- What Pupor does about a locked core: the extension under XV, the recovery under AUTO. -/
def Dev.autoRecover (d : Dev) (n : Nat) : Dev :=
  let r := d.lkRec n
  let c := d.pw.lkctl.toNat
  if ¬ d.coreLocked n then d
  else if bit c 7 then (if d.pu.run.isNone then d.runExt (bits c 2 0) [BitVec.ofNat 8 n] false else d)
  else if ¬ bit c 31 ∨ (r.v ∧ r.fail = 1 ∧ d.domState (72 + r.bank) ≠ 1) ∨ 4 ≤ d.recentLocks n then d
  else d.recoverCore n
/-- LOCKUP_AUTO_RECOVER. -/
def execLockupAutoRecover (core : CoreNo) (s : State) : Host.Outcome State Fault Refusal := .next (s.run (fun d => d.autoRecover core.toNat))

end Sys2Proof.Machine
end

