-- ==== Sys2Proof/Machine/Mailbox.lean ====
section
/-! DEFINITION. The SMBus mailbox of the board management controller (R386, R400). -/

namespace Sys2Proof.Machine

/-- A request accepted while the mailbox is idle (R386). -/
def Dev.mboxTake (d : Dev) (op : Nat) (tag : Byte) (act : Dev → Dev) : Dev :=
  if d.pu.mbox.state = 0 then act (d.modPu (fun p => { p with mbox := { state := 1, resp := [], tag := tag.toNat, op := op } })) else d
/-- A request answered BADREQ unless its arguments have the form it needs. -/
def Dev.mboxForm (d : Dev) (ok : Bool) (act : Dev → Dev) : Dev := if ok then act d else d.mboxReply 1 []

/-- STATUS: DEVID, the power state, BOOT, ARMED, LK_SUM0 to LK_SUM3. -/
def execStatus (tag : Byte) (args : List Byte) (s : State) : Host.Outcome State Fault Refusal :=
  .next (s.run (fun d => d.mboxTake 1 tag (fun e => e.mboxForm (args == []) (fun g =>
    g.mboxReply 0 (toLe 4 g.pw.devid.toNat ++ toLe 1 g.pw.pstate ++ toLe 4 (g.readPower 0x10) ++ toLe 1 (b2n g.mi.armed) ++ (List.range 4).flatMap (fun j => toLe 4 (g.lkSum j)))))))
/-- RREC. -/
def execRrec (tag : Byte) (args : List Byte) (s : State) : Host.Outcome State Fault Refusal :=
  .next (s.run (fun d => d.mboxTake 2 tag (fun e =>
    let o := leAt args 0 4
    let n := leAt args 4 1
    e.mboxForm (args.length == 5 && decide (1 ≤ n) && decide (n ≤ 56) && decide (o + n ≤ 0x80000)) (fun g => g.mboxReply 0 (g.bytes (recBase + o) n)))))
/-- PDREQ: answered when the request ends, at once where it is refused. -/
def execPdreq (tag : Byte) (args : List Byte) (s : State) : Host.Outcome State Fault Refusal :=
  .next (s.run (fun d => d.mboxTake 3 tag (fun e => e.mboxForm (args.length == 4) (fun g =>
    let v := leAt args 0 4
    match g.pdCheck v with
    | some r => let h := g.pdRefuse (bits v 31 28) (bits v 6 0) r; h.mboxReply (resultStatus r) (toLe 4 h.pw.res.toNat)
    | none => g.pdStart v))))
/-- PDSTAT. -/
def execPdstat (tag : Byte) (args : List Byte) (s : State) : Host.Outcome State Fault Refusal :=
  .next (s.run (fun d => d.mboxTake 4 tag (fun e =>
    let n := leAt args 0 1
    e.mboxForm (args.length == 1 && decide (n < 96)) (fun g => g.mboxReply 0 (toLe 4 ((g.dom n).last * 16 + g.domState n) ++ toLe 4 g.pw.tres.toNat)))))
/-- LKREC. -/
def execLkrec (tag : Byte) (args : List Byte) (s : State) : Host.Outcome State Fault Refusal :=
  .next (s.run (fun d => d.mboxTake 5 tag (fun e =>
    let n := leAt args 0 1
    let r := e.lkRec n
    e.mboxForm (args.length == 1 && decide (n < 128)) (fun g => g.mboxReply 0 (toLe 4 (r.word0 n) ++ toLe 4 r.cause.toNat ++ toLe 4 r.epc.toNat ++ toLe 4 r.tsbp.toNat)))))
/-- STAGE. -/
def execStage (tag : Byte) (args : List Byte) (s : State) : Host.Outcome State Fault Refusal :=
  .next (s.run (fun d => d.mboxTake 6 tag (fun e =>
    let id := leAt args 0 4
    e.mboxForm (args.length == 8 && isMirror id) (fun g =>
      let h := g.mirrorWrite .pupor id (BitVec.ofNat 32 (leAt args 4 4))
      h.mboxReply 0 (toLe 4 (h.bank .pupor).last.toNat)))))
/-- CSIGN. -/
def execCsign (tag : Byte) (args : List Byte) (s : State) : Host.Outcome State Fault Refusal :=
  .next (s.run (fun d => d.mboxTake 7 tag (fun e => e.mboxForm (args.length == 12) (fun g =>
    let h := (g.setBank .pupor { g.bank .pupor with val := BitVec.ofNat 32 (leAt args 0 4), mask := BitVec.ofNat 16 (leAt args 4 4) }).mcsWrite .pupor (leAt args 8 4)
    h.mboxReply 0 (toLe 4 (h.bank .pupor).res)))))
/-- RUNEXT: answered by the end of the run. -/
def execRunext (tag : Byte) (args : List Byte) (s : State) : Host.Outcome State Fault Refusal :=
  .next (s.run (fun d => d.mboxTake 8 tag (fun e =>
    let slot := leAt args 0 1
    e.mboxForm (decide (1 ≤ args.length) && decide (args.length ≤ 17) && decide (slot < 6)) (fun g =>
      if g.pu.run.isSome then g.mboxReply 2 []
      else if g.extGood slot then g.runExt slot (args.drop 1) true
      else (g.runExt slot (args.drop 1) true).mboxReply 4 []))))
/-- IMGOPEN: kind and slot. -/
def execImgopen (tag : Byte) (args : List Byte) (s : State) : Host.Outcome State Fault Refusal :=
  .next (s.run (fun d => d.mboxTake 9 tag (fun e =>
    let kind := leAt args 0 1
    let slot := leAt args 1 1
    e.mboxForm (args.length == 2 && openFormOk kind slot) (fun g =>
      if g.pw.imgBusy ∨ g.pw.img.isSome ∨ g.pw.mimg.isSome then g.mboxReply 2 []
      else ({ g with pw := { g.pw with mimg := some { kind := kind, slot := g.openTarget kind slot } } }).mboxReply 0 []))))
/-- IMGDATA. -/
def execImgdata (tag : Byte) (args : List Byte) (s : State) : Host.Outcome State Fault Refusal :=
  .next (s.run (fun d => d.mboxTake 0xA tag (fun e => e.mboxForm (decide (args.length ≤ 60)) (fun g =>
    match g.pw.mimg with
    | some u => ({ g with pw := { g.pw with mimg := some (u.append args) } }).mboxReply 0 []
    | none => g.mboxReply 2 []))))
/-- IMGCLOSE: answered by the end of the checks. -/
def execImgclose (tag : Byte) (args : List Byte) (s : State) : Host.Outcome State Fault Refusal :=
  .next (s.run (fun d => d.mboxTake 0xB tag (fun e => e.mboxForm (args == []) (fun g =>
    match g.pw.mimg with
    | some u => if g.pw.imgBusy then g.mboxReply 2 [] else { g with pw := { g.pw with mimg := none, imgBusy := true, imgClose := some u, imgMbox := true } }
    | none => g.mboxReply 2 []))))
/-- SMBUS_RCLR. -/
def execSmbusRclr (tag : Byte) (args : List Byte) (s : State) : Host.Outcome State Fault Refusal :=
  .next (s.run (fun d => d.mboxTake 0xC tag (fun e => e.mboxForm (args.length == 1) (fun g => (g.clearRecorder (leAt args 0 1) 3).mboxReply 0 []))))
/-- DEVRST: the device reset follows the response. -/
def execDevrst (tag : Byte) (args : List Byte) (s : State) : Host.Outcome State Fault Refusal :=
  .next (s.run (fun d => d.mboxTake 0xD tag (fun e => e.mboxForm (args == [0x5A, 0xA5]) (fun g => ({ g with pw := { g.pw with rstWant := true } }).mboxReply 0 []))))
/-- MAILBOX_BADREQ. -/
def execMailboxBadreq (tag opcode : Byte) (s : State) : Host.Outcome State Fault Refusal :=
  .next (s.run (fun d => if 1 ≤ opcode.toNat ∧ opcode.toNat ≤ 0xD then d else d.mboxTake opcode.toNat tag (fun e => e.mboxReply 1 [])))
/-- SMBUS_TIMEOUT: the request is abandoned (R400). -/
def execSmbusTimeout (s : State) : Host.Outcome State Fault Refusal :=
  .next (s.run (fun d => { d.modPu (fun p => { p with mbox := {}, byMbox := false }) with pw := { d.pw with rstWant := false } }))
/-- MAILBOX_RESPONSE_READ: the mailbox is idle again; a device reset asked for follows. -/
def execMailboxResponseRead (s : State) : Host.Outcome State Fault Refusal :=
  .next (s.run (fun d => if d.pu.mbox.state ≠ 2 then d
    else
      let e := d.modPu (fun p => { p with mbox := {} })
      if d.pw.rstWant then e.deviceReset else e))

end Sys2Proof.Machine
end

