-- ==== Sys2Proof/Machine/MirrorCmds.lean ====
section
/-! DEFINITION. The commands of dual control (R248 to R254). -/

namespace Sys2Proof.Machine

/-- Whether the window of the PF is open: HOSTORG accepted and the function reached (R285). -/
def Dev.windowOpen (d : Dev) : Bool := d.hostUp 0 && (d.fn 0).has 8
/-- Whether an origin reaches the countersign registers. -/
def Dev.originOk (d : Dev) (o : Origin) : Bool := match o with | .host => d.windowOpen | _ => true
/-- MIRROR_STAGE. -/
def execMirrorStage (who : Agent) (id value : Word) (s : State) : Host.Outcome State Fault Refusal :=
  .next (s.run (fun d => if who = .host 0 ∧ ¬ d.windowOpen then d else d.mirrorWrite who id.toNat value))
/-- MCS_COUNTERSIGN. -/
def execMcsCountersign (org : Origin) (slot : BitVec 4) (ticket : Half) (s : State) : Host.Outcome State Fault Refusal :=
  .next (s.run (fun d => if d.originOk org then d.countersign org slot.toNat ticket.toNat else d))
/-- MCS_REJECT. -/
def execMcsReject (org : Origin) (slot : BitVec 4) (ticket : Half) (s : State) : Host.Outcome State Fault Refusal :=
  .next (s.run (fun d => if d.originOk org then d.rejectStage org slot.toNat ticket.toNat else d))
/-- MCS_GROUP_COUNTERSIGN. -/
def execMcsGroupCountersign (org : Origin) (s : State) : Host.Outcome State Fault Refusal :=
  .next (s.run (fun d => if d.originOk org then d.countersignGroup org else d))
/-- STAGE_EXPIRY. -/
def execStageExpiry (slot : BitVec 4) (s : State) : Host.Outcome State Fault Refusal := .next (s.run (fun d => d.expireStage slot.toNat))
/-- COMMITTED_VALUE_APPLIED. -/
def execCommittedValueApplied (s : State) : Host.Outcome State Fault Refusal := .next (s.run (fun d => d.applyCommitted))

end Sys2Proof.Machine
end

