-- ==== Sys2Proof/Machine/MulDiv.lean ====
section
/-! DEFINITION. The meanings of the multiply and divide syllables (R56, R57). -/

namespace Sys2Proof.Machine

/-- A divide-class result: latency 20, the trap under ZT decided at issue (R57). -/
def Dev.divOut (d : Dev) (y : Syl) (r : Reg) (signed quotient : Bool) (a b : Word) : SylOut :=
  let o := divide signed a b
  if b = 0 ∧ decZT (d.home y).decctlNow then .exc 0x0C 1 0 0
  else .done (d.toInt y r (if quotient then o.1 else o.2.1) 20 :: asrEffs (asrOV * b2n (quotient && o.2.2.1) + asrDZ * b2n o.2.2.2) 20)

/-- MUL. -/
def execMul (y : Syl) (d a b : Reg) (s : State) : Host.Outcome State Fault Refusal :=
  .next (s.run (fun e => e.runSyl y (.mul y d a b) (fun v => .done [v.toInt y d (v.src y a * v.src y b) 3])))
/-- MULH. -/
def execMulh (y : Syl) (d a b : Reg) (s : State) : Host.Outcome State Fault Refusal :=
  .next (s.run (fun e => e.runSyl y (.mulh y d a b) (fun v => .done [v.toInt y d (BitVec.ofInt 32 ((v.src y a).toInt * (v.src y b).toInt / 2 ^ 32)) 3])))
/-- MULHU. -/
def execMulhu (y : Syl) (d a b : Reg) (s : State) : Host.Outcome State Fault Refusal :=
  .next (s.run (fun e => e.runSyl y (.mulhu y d a b) (fun v => .done [v.toInt y d (BitVec.ofNat 32 ((v.src y a).toNat * (v.src y b).toNat / 2 ^ 32)) 3])))
/-- MULV. -/
def execMulv (y : Syl) (d a b : Reg) (s : State) : Host.Outcome State Fault Refusal :=
  .next (s.run (fun e => e.runSyl y (.mulv y d a b) (fun v => .done (v.toInt y d (v.src y a * v.src y b) 3 :: asrEffs (asrOV * b2n (overflows ((v.src y a).toInt * (v.src y b).toInt))) 3))))
/-- DIV. -/
def execDiv (y : Syl) (d a b : Reg) (s : State) : Host.Outcome State Fault Refusal :=
  .next (s.run (fun e => e.runSyl y (.div y d a b) (fun v => v.divOut y d true true (v.src y a) (v.src y b))))
/-- DIVU. -/
def execDivu (y : Syl) (d a b : Reg) (s : State) : Host.Outcome State Fault Refusal :=
  .next (s.run (fun e => e.runSyl y (.divu y d a b) (fun v => v.divOut y d false true (v.src y a) (v.src y b))))
/-- REM. -/
def execRem (y : Syl) (d a b : Reg) (s : State) : Host.Outcome State Fault Refusal :=
  .next (s.run (fun e => e.runSyl y (.rem y d a b) (fun v => v.divOut y d true false (v.src y a) (v.src y b))))
/-- REMU. -/
def execRemu (y : Syl) (d a b : Reg) (s : State) : Host.Outcome State Fault Refusal :=
  .next (s.run (fun e => e.runSyl y (.remu y d a b) (fun v => v.divOut y d false false (v.src y a) (v.src y b))))

end Sys2Proof.Machine
end

