-- ==== Sys2Proof/Machine/Recorder.lean ====
section
/-! DEFINITION. The commands of the event recorder (R353 to R366) and the sampled measurements (R356, R394, R395). -/

namespace Sys2Proof.Machine

/-- Whether Table 12.1, with the instances of Table 14.6, lists a source and kind; other events are not recorded (R353, R393). -/
def eventListed (source kind : Nat) : Bool :=
  let i := source % 0x1000
  match source / 0x1000 with
  | 0x1 => decide (i < 128) && (kind == 1 || kind == 2 || kind == 3 || kind == 0x10 || kind == 0x11)
  | 0x2 => decide (i < 8) && (kind == 1 || kind == 2 || kind == 3)
  | 0x3 => decide (i < 8) && (kind == 1 || kind == 2 || kind == 3)
  | 0x4 => decide (i < 12) && decide (1 ≤ kind) && decide (kind ≤ 4)
  | 0x5 => decide (i < 4) && ((decide (1 ≤ kind) && decide (kind ≤ 9)) || kind == 0x20 || kind == 0x21 || kind == 0x22)
  | 0x6 => decide (i < 64) && (kind == 1 || kind == 2 || kind == 3 || kind == 0x10 || kind == 0x11)
  | 0x7 => decide (i < 4) && decide (1 ≤ kind) && decide (kind ≤ 6)
  | 0x8 => if i = 0x40 then kind == 1 || kind == 2 else decide (i < 64) && (kind == 4 || kind == 5 || kind == 6)
  | 0x9 => i == 0 && decide (1 ≤ kind) && decide (kind ≤ 4)
  | 0xA =>
    if kind = 4 then i == 0
    else if kind = 3 then decide (1 ≤ i) && decide (i ≤ 9)
    else (kind == 1 || kind == 2) && decide (0x10 ≤ i) && decide (i ≤ 0x18)
  | 0xB => i == 0 && decide (1 ≤ kind) && decide (kind ≤ 4)
  | _ => false
/-- Codewords of a port's FEC counted as corrected or uncorrectable (R333, Table 11.7). -/
def Dev.countFec (d : Dev) (p c u : Nat) : Dev := d.setPort p { d.port p with fecc := satAdd (d.port p).fecc c, fecu := satAdd (d.port p).fecu u }
/-- A reported event: an error of a memory channel, and an uncorrectable codeword of a Derrik port, are counted there too. -/
def Dev.report (d : Dev) (source kind : Nat) (detail : List Byte) : Dev :=
  let d1 := if source / 0x1000 = 4 then d.countEcc (source % 0x1000) kind (leAt detail 0 8)
    else if source / 0x1000 = 5 ∧ kind = 0x22 then d.countFec (source % 0x1000) 0 1 else d
  d1.record source kind detail
/-- The order of the reports of one cycle. -/
def reportKey (x : Report) : Nat := x.source.toNat * 256 + x.kind.toNat
/-- A report put among reports in rising order, behind its equals. -/
def insertReport (x : Report) : List Report → List Report
  | [] => [x]
  | y :: ys => if reportKey x < reportKey y then x :: y :: ys else y :: insertReport x ys
/-- The reports of one Pupor cycle counted in one act, in ascending order of source and kind (R355). -/
def Dev.reportAll (d : Dev) (xs : List Report) : Dev :=
  (xs.foldl (fun l x => insertReport x l) []).foldl (fun (e : Dev) x =>
    if eventListed x.source.toNat x.kind.toNat then e.report x.source.toNat x.kind.toNat x.detail else e) d
/-- EVENT_RECORDED: the report it names and the others that reach the recorder in the same Pupor cycle (R353 to R355). -/
def execEventRecorded (source : BitVec 16) (kind : BitVec 8) (detail : EventData) (s : State) : Host.Outcome State Fault Refusal :=
  .next (s.run (fun d => d.reportAll ({ source := source, kind := kind, detail := detail.bytes } :: detail.others)))

/-- Whether the unit of a measurement channel is powered, that is its domain not OFF, so that it takes samples (R356, R394). -/
def Dev.chSampled (d : Dev) (ch : Nat) : Bool :=
  if ch < 8 then d.domState (64 + ch) != 0
  else if ch = 8 then true
  else if ch < 17 then d.domState (64 + (ch - 9)) != 0
  else if ch = 17 then d.pw.pstate == 2
  else if ch = 18 then true
  else if ch < 25 then d.domState (80 + (ch - 19)) != 0
  else if ch < 29 then d.domState (86 + (ch - 25)) != 0
  else false
/-- A sample counted in the active buffer's block. -/
def Dev.sampleIn (d : Dev) (ch : Nat) (v : Word) : Dev :=
  let a := d.rc.active
  { d with rc := d.rc.setActive { a with meas := Tab.set a.meas ch ((a.block ch).sample v) } }
/-- A temperature reading: kind 0x01 at 100 °C, once until below 95 °C; units of 0.125 °C (R395). -/
def Dev.heat (d : Dev) (ch : Nat) (v : Int) : Dev :=
  let was := Tab.get d.pw.hot ch false
  let d1 := { d with pw := { d.pw with temp := Tab.set d.pw.temp ch v, hot := Tab.set d.pw.hot ch (if was then decide (760 ≤ v) else decide (800 ≤ v)) } }
  if !was && decide (800 ≤ v) then d1.record (0xA010 + ch) 1 [] else d1
/-- 110 °C or more: the pin, the log record, queued whatever LOGSEV is, and a power failure (R362, R396). -/
def Dev.overheat (d : Dev) (ch : Nat) : Dev :=
  let d1 := d.recordLogged false (0xA010 + ch) 2 []
  { d1 with pw := { d1.pw with thermtrip := true } }.registerFailure
/-- A reading of sensor 0 to 8 (R395, R396). -/
def Dev.reading (d : Dev) (ch : Nat) (v : Int) : Dev :=
  let d1 := d.heat ch v
  if 880 ≤ v then d1.overheat ch else d1
/-- A sample of a channel. -/
def Dev.measure (d : Dev) (ch : Nat) (v : Word) : Dev :=
  if ¬ d.chSampled ch then d
  else
    let d1 := d.sampleIn ch v
    if ch < 9 then d1.reading ch v.toInt else if 25 ≤ ch then d1.countFec (ch - 25) v.toInt.toNat 0 else d1
/-- MEASUREMENT_SAMPLE. -/
def execMeasurementSample (ch : BitVec 5) (value : Word) (s : State) : Host.Outcome State Fault Refusal :=
  .next (s.run (fun d => d.measure ch.toNat value))

/-- RC_CTL_SNAP: RC_CTL written back with SNAP = 1. -/
def execRcCtlSnap (who : Agent) (s : State) : Host.Outcome State Fault Refusal :=
  .next (s.run (fun d => if d.allowed who 0x0D000000 true then d.snap (snapTrigger who) else d))
/-- SNAPSHOT_PERIOD_EXPIRY. -/
def execSnapshotPeriodExpiry (s : State) : Host.Outcome State Fault Refusal :=
  .next (s.run (fun d => if bits d.rc.ctl.toNat 15 0 = 0 then d else d.snap 3))
/-- SNAPSHOT_WRITE_END. -/
def execSnapshotWriteEnd (s : State) : Host.Outcome State Fault Refusal := .next (s.run (fun d => d.frameDone))
/-- RC_CTL_WRITE. -/
def execRcCtlWrite (who : Agent) (value : Word) (s : State) : Host.Outcome State Fault Refusal :=
  .next (s.run (fun d => if d.allowed who 0x0D000000 true then d.writeRcCtl who value.toNat else d))
/-- RECORDER_CLEAR. -/
def execRecorderClear (who : Agent) (value : Word) (s : State) : Host.Outcome State Fault Refusal :=
  .next (s.run (fun d => if d.allowed who 0x0D000038 true then d.writeRecorder who 0x38 value.toNat else d))
/-- RECORDER_CLEAR_END: the log record, the waiting seal, and the RCLR commands that wait. -/
def execRecorderClearEnd (s : State) : Host.Outcome State Fault Refusal :=
  .next (s.run (fun d => if d.rc.clearing ≠ [] then d.clearDone.answerClears else d))
/-- OPT_SAVE. -/
def execOptSave (s : State) : Host.Outcome State Fault Refusal := .next (s.run (fun d => { d with rc := { d.rc with optSaved := d.rc.opt } }))
/-- RC_OPT_L_READ. -/
def execRcOptLRead (who : Agent) (s : State) : Host.Outcome State Fault Refusal :=
  .next (s.run (fun d => if d.allowed who 0x0D000024 false then d.regTouch 0x0D000024 else d))
/-- LOG_RECORD_DURABLE. -/
def execLogRecordDurable (s : State) : Host.Outcome State Fault Refusal := .next (s.run (fun d => d.logDurable))

end Sys2Proof.Machine
end

