-- ==== Sys2Proof/Machine/Pins.lean ====
section
/-! DEFINITION. Temperature, rails, the adaptive voltage, the reference clock and the background activities as commands (R276, R392 to R396, R401). -/

namespace Sys2Proof.Machine

/-- THERMTRIP, for a sensor 0 to 8 that reads and reads 110 °C or more (R396). -/
def Dev.trip (d : Dev) (n : Nat) (v : Word) : Dev := if n ≤ 8 ∧ d.chSampled n ∧ 880 ≤ v.toInt then d.reading n v.toInt else d
/-- THERMTRIP. -/
def execThermtrip (sensor : BitVec 4) (value : Word) (s : State) : Host.Outcome State Fault Refusal :=
  .next (s.run (fun d => d.trip sensor.toNat value))

/-- Whether a rail of Table 14.6 is watched: in STANDBY, the rails of steps 1 to 3 of Table 13.4 (R390). -/
def Dev.railWatched (d : Dev) (n : Nat) : Bool :=
  decide (1 ≤ n) && decide (n ≤ 9) && (d.pw.pstate == 2 || n == 3 || decide (7 ≤ n))
/-- RAIL_EXCURSION: a watched rail out of its limits for 5 µs (R393). -/
def execRailExcursion (rail : Byte) (s : State) : Host.Outcome State Fault Refusal :=
  .next (s.run (fun d => if d.railWatched rail.toNat then d.record (0xA000 + rail.toNat) 3 [] else d))

/-- An AVSBus transaction answered or not: the third in succession without an answer is recorded (R392). -/
def Dev.avsAnswer (d : Dev) (acked : Bool) : Dev :=
  if acked then { d with pw := { d.pw with avsFail := 0 } }
  else
    let d1 := { d with pw := { d.pw with avsFail := d.pw.avsFail + 1 } }
    if d1.pw.avsFail = 3 then d1.record 0xA001 3 [] else d1
/-- Whether VSET moves: in RUN from start-up step 7 on, which a start without firmware never reaches (R376, R392). -/
def Dev.vsetFree (d : Dev) : Bool := d.pw.pstate == 2 && (d.pw.stage == .firmware || (d.pw.stage == .finished && !d.pw.boot.getLsbD 30))
/-- VSET one step of 5 mV on, within 900 to 1,050 mV. -/
def vsetNext (v : Nat) (up : Bool) : Option Nat :=
  if up then (if v + 5 ≤ 1050 then some (v + 5) else none) else (if 905 ≤ v then some (v - 5) else none)
/-- VSET_STEP. -/
def Dev.vsetStep (d : Dev) (up acked : Bool) : Dev :=
  match vsetNext d.pw.vset up with
  | none => d
  | some v =>
    if ¬ d.vsetFree ∨ 3 ≤ d.pw.avsFail then d
    else
      let d1 := d.avsAnswer acked
      if acked then { d1 with pw := { d1.pw with vset := v } } else d1
/-- VSET_STEP: one Voltage write of a 5 mV step. -/
def execVsetStep (up : Bool) (acked : Bool) (s : State) : Host.Outcome State Fault Refusal := .next (s.run (fun d => d.vsetStep up acked))
/-- AVS_RETRY: the transaction retried after three without an answer; the regulator holds its value. -/
def execAvsRetry (acked : Bool) (s : State) : Host.Outcome State Fault Refusal :=
  .next (s.run (fun d => if 3 ≤ d.pw.avsFail then d.avsAnswer acked else d))

/-- REFCLK_LOSS: a power failure while PWRGOOD is high (R401). -/
def execRefclkLoss (s : State) : Host.Outcome State Fault Refusal :=
  .next (s.run (fun d => if d.pw.pstate = 2 then d.registerFailure else d))

/-- A background activity noted: it lengthens accesses and does nothing else (R276). -/
def Dev.stall (d : Dev) (kind unit : Nat) : Dev := { d with pw := { d.pw with stalls := d.pw.stalls ++ [(kind, unit)] } }
/-- Whether the pair of a memory channel is powered. -/
def Dev.channelUp (d : Dev) (ch : Nat) : Bool := decide (ch < 12) && d.powered (80 + ch / 2)
/-- DDR_REFRESH: kind 0, by channel and rank. -/
def execDdrRefresh (ch : BitVec 4) (rank : BitVec 2) (s : State) : Host.Outcome State Fault Refusal :=
  .next (s.run (fun d => if d.channelUp ch.toNat then d.stall 0 (4 * ch.toNat + rank.toNat) else d))
/-- DDR_ZQ_CALIBRATION: kind 1, by channel. -/
def execDdrZqCalibration (ch : BitVec 4) (s : State) : Host.Outcome State Fault Refusal :=
  .next (s.run (fun d => if d.channelUp ch.toNat then d.stall 1 ch.toNat else d))
/-- DDR_PHY_TRACKING: kind 2, by channel. -/
def execDdrPhyTracking (ch : BitVec 4) (s : State) : Host.Outcome State Fault Refusal :=
  .next (s.run (fun d => if d.channelUp ch.toNat then d.stall 2 ch.toNat else d))

/-- An uncorrectable error that no bundle met: an asynchronous cause 0x15 (R221; the bay and the detail are free, log entry 83). -/
def Dev.asyncCheck (d : Dev) : Dev :=
  let k := Config.checkBay d.free % 512
  (d.raise (k / 4) (k % 4) 0x15 (Config.checkDetail d.free % 65536)).tickFree
/-- A Loam word scrubbed: nothing found, an error corrected, or an uncorrectable error found (R221, R276, R353). -/
def Dev.scrub (d : Dev) (bank word err : Nat) : Dev :=
  let a := bank * 0x1000000 + 8 * word
  let d1 := d.stall 3 bank
  match err with
  | 0 => d1
  | 1 => d1.record (0x3000 + bank) 3 (toLe 8 a)
  | _ => (({ d1 with poison := if d1.poison.contains a then d1.poison else a :: d1.poison }).recordBadData a).asyncCheck
/-- LOAM_SCRUB: `err` 0 no error, 1 corrected, 2 or 3 uncorrectable. -/
def execLoamScrub (bank : BitVec 3) (word : BitVec 21) (err : BitVec 2) (s : State) : Host.Outcome State Fault Refusal :=
  .next (s.run (fun d => if d.powered (72 + bank.toNat) then d.scrub bank.toNat word.toNat err.toNat else d))

end Sys2Proof.Machine
end

