-- ==== Sys2Proof/Machine/System.lean ====
section
/-! DEFINITION. The meanings of MFC, MTC and the system operations of major 0x36 (R74, R172, R195, R205, R208, R228, R238 to R246, R256, R259). -/

namespace Sys2Proof.Machine

/-- The exception of a control register below its level (R208). -/
def Dev.ctlBelow (d : Dev) (y : Syl) (l : Nat) : Option SylOut := if (d.home y).level < l then some (.exc 3 2 0 0) else none
/-- A refusal of a written value: cause 0x06, kind 0, FADDR the value. -/
def refusedIf (c : Bool) (reason : Nat) (v : Word) : Option SylOut := if c then some (.exc 6 reason v 0) else none
/-- A key byte whose bank does not answer, or holds uncorrectable data. -/
def Dev.keyUnreadable (d : Dev) (a : Nat) : Option SylOut := d.unreadable 0 [(a, 1)]
/-- MTC to KPV. -/
def Dev.kpvOut (d : Dev) (y : Syl) (v : Word) : SylOut :=
  let n := y.core.toNat
  match d.keyPortRefusal n (d.home y).level v with
  | some (c, r) => .exc c r 0 0
  | none => match d.keyPort n with
    | some a => firstOut [d.keyUnreadable a] (.done [.act .kpv a (v.toNat % 256) 0])
    | none => .exc 7 0x12 0 0
/-- MFC of KPV. -/
def Dev.kpvRead (d : Dev) (y : Syl) (r : Reg) : SylOut :=
  match d.keyPort y.core.toNat with
  | some a => firstOut [d.keyUnreadable a] (.done [d.toInt y r (BitVec.ofNat 32 (d.byte a).toNat) 1])
  | none => .exc 7 0x12 0 0
/-- MTC to TLOCK: a lock walks first (R238). -/
def Dev.tlockOut (d : Dev) (y : Syl) (v : Word) (fab : Bool) : SylOut :=
  let x := d.home y
  let va := bits v.toNat 31 12 * 4096
  if v.getLsbD 0 then
    match d.lockWalk y.core.toNat (x.tag x.level) va fab with
    | .error (c, r) => .exc c r (BitVec.ofNat 32 va) 0
    | .ok h => .done [.act .tlock v.toNat h.pte h.code]
  else .done [.act .tlock v.toNat 0 0]
/-- MTC to TSBP: a 4 KiB-aligned Loam address (R195). -/
def Dev.tsbpOut (d : Dev) (y : Syl) (v : Word) : SylOut :=
  firstOut [d.ctlBelow y 1, refusedIf (bits v.toNat 11 0 != 0 || decide (0x08000000 ≤ v.toNat)) 0x10 v] (.done [.mtc 3 v])
/-- MTC to ASTB: a 32 KiB-aligned Loam address (R228). -/
def Dev.astbOut (d : Dev) (y : Syl) (v : Word) : SylOut :=
  firstOut [d.ctlBelow y 3, refusedIf (bits v.toNat 14 0 != 0 || decide (0x08000000 ≤ v.toNat)) 0x11 v] (.done [.mtc 48 v])
/-- MFC of ETIME_L: its value and the two latches are of one moment (R172). -/
def Dev.etimeOut (d : Dev) (y : Syl) (r : Reg) : SylOut := .done [d.toInt y r (BitVec.ofNat 32 d.ep.epoch) 1, .act .etime d.ep.epoch d.ep.tick 0]
/-- MFC of a control register, by number. -/
def Dev.mfcOut (d : Dev) (y : Syl) (r : Reg) (c : Nat) : SylOut :=
  if c = 21 then d.etimeOut y r
  else firstOut [d.ctlBelow y (ctlReadLevel c)] (if c = 52 then d.kpvRead y r else .done [d.toInt y r (d.ctlValue y.core.toNat y.bay.toNat c) 1])
/-- MTC of a control register, by number; one to EVEC_M below M level counts in MREFUSE (R249). -/
def Dev.mtcOut (d : Dev) (y : Syl) (r : Reg) (c : Nat) : SylOut :=
  if (d.home y).level < ctlWriteLevel c then (if c = 9 then .refuse 3 2 0 (midEVECM y.core.toNat y.bay.toNat) else .exc 3 2 0 0)
  else match c with
    | 3 => d.tsbpOut y (d.src y r)
    | 48 => d.astbOut y (d.src y r)
    | 50 => d.tlockOut y (d.src y r) false
    | 52 => d.kpvOut y (d.src y r)
    | _ => .done [.mtc c (d.src y r)]
/-- The line an IFLUSH names, if its address translates (R259). -/
def Dev.flushLine (d : Dev) (y : Syl) (va : Nat) : Option Nat :=
  match d.probe y.core.toNat y.bay.toNat (d.home y).level va true with
  | .ok e => some (e.physical va / 64)
  | .error _ => none

/-- MFC. -/
def execMfc (y : Syl) (r : Reg) (cnum : BitVec 6) (s : State) : Host.Outcome State Fault Refusal :=
  .next (s.run (fun e => e.runSyl y (.mfc y r cnum) (fun v => v.mfcOut y r cnum.toNat)))
/-- MTC. -/
def execMtc (y : Syl) (r : Reg) (cnum : BitVec 6) (s : State) : Host.Outcome State Fault Refusal :=
  .next (s.run (fun e => e.runSyl y (.mtc y r cnum) (fun v => v.mtcOut y r cnum.toNat)))
/-- MTC to STATUS. -/
def execMtcStatus (y : Syl) (r : Reg) (s : State) : Host.Outcome State Fault Refusal :=
  .next (s.run (fun e => e.runSyl y (.mtcStatus y r) (fun v => firstOut [v.ctlBelow y 1] (.done [.mtc 0 (v.src y r)]))))
/-- MTC to TSBP. -/
def execMtcTsbp (y : Syl) (r : Reg) (s : State) : Host.Outcome State Fault Refusal :=
  .next (s.run (fun e => e.runSyl y (.mtcTsbp y r) (fun v => v.tsbpOut y (v.src y r))))
/-- MTC to ASTB. -/
def execMtcAstb (y : Syl) (r : Reg) (s : State) : Host.Outcome State Fault Refusal :=
  .next (s.run (fun e => e.runSyl y (.mtcAstb y r) (fun v => v.astbOut y (v.src y r))))
/-- MTC to ASTAG or MASTAG. -/
def execMtcAstag (y : Syl) (r : Reg) (m : Bool) (s : State) : Host.Outcome State Fault Refusal :=
  .next (s.run (fun e => e.runSyl y (.mtcAstag y r m) (fun v => firstOut [v.ctlBelow y (if m then 3 else 1)] (.done [.mtc (if m then 49 else 5) (v.src y r)]))))
/-- MTC to KMASK. -/
def execMtcKmask (y : Syl) (r : Reg) (s : State) : Host.Outcome State Fault Refusal :=
  .next (s.run (fun e => e.runSyl y (.mtcKmask y r) (fun v => firstOut [v.ctlBelow y 1] (.done [.mtc 4 (v.src y r)]))))
/-- MTC to KPV. -/
def execMtcKpv (y : Syl) (r : Reg) (s : State) : Host.Outcome State Fault Refusal :=
  .next (s.run (fun e => e.runSyl y (.mtcKpv y r) (fun v => firstOut [v.ctlBelow y 1] (v.kpvOut y (v.src y r)))))
/-- MFC of KPV. -/
def execMfcKpv (y : Syl) (r : Reg) (s : State) : Host.Outcome State Fault Refusal :=
  .next (s.run (fun e => e.runSyl y (.mfcKpv y r) (fun v => firstOut [v.ctlBelow y 1] (v.kpvRead y r))))
/-- MTC to TLOCK. The syllable is the same whether or not a fabric error meets its walk. -/
def execMtcTlock (y : Syl) (r : LockReg) (s : State) : Host.Outcome State Fault Refusal :=
  .next (s.run (fun e => e.runSyl y (.mtcTlock y { reg := r.reg }) (fun v => firstOut [v.ctlBelow y 1] (v.tlockOut y (v.src y r.reg) r.fab))))
/-- MTC to WINCTL. -/
def execMtcWinctl (y : Syl) (r : Reg) (s : State) : Host.Outcome State Fault Refusal :=
  .next (s.run (fun e => e.runSyl y (.mtcWinctl y r) (fun v => firstOut [v.ctlBelow y 1] (.done [.mtc 7 (v.src y r)]))))
/-- MTC to DECCTL. -/
def execMtcDecctl (y : Syl) (r : Reg) (s : State) : Host.Outcome State Fault Refusal :=
  .next (s.run (fun e => e.runSyl y (.mtcDecctl y r) (fun v => .done [.mtc 15 (v.src y r)])))
/-- MFC of ETIME_L. -/
def execMfcEtimeL (y : Syl) (r : Reg) (s : State) : Host.Outcome State Fault Refusal :=
  .next (s.run (fun e => e.runSyl y (.mfcEtimeL y r) (fun v => v.etimeOut y r)))
/-- FENCE.S. -/
def execFenceS (y : Syl) (s : State) : Host.Outcome State Fault Refusal :=
  .next (s.run (fun e => e.runSyl y (.fenceS y) (fun v => .done [.act .fence 0 0 0])))
/-- SYNC.I. -/
def execSyncI (y : Syl) (s : State) : Host.Outcome State Fault Refusal :=
  .next (s.run (fun e => e.runSyl y (.syncI y) (fun v => .done [.act .syncI 0 0 0])))
/-- IFLUSH. -/
def execIflush (y : Syl) (a : Reg) (s : State) : Host.Outcome State Fault Refusal :=
  .next (s.run (fun e => e.runSyl y (.iflush y a) (fun v => .done [.iflush (v.flushLine y (v.src y a).toNat)])))
/-- SYNC.T. -/
def execSyncT (y : Syl) (s : State) : Host.Outcome State Fault Refusal :=
  .next (s.run (fun e => e.runSyl y (.syncT y) (fun v => firstOut [(v.home y).below 1] (.done [.act .syncT 0 0 0]))))
/-- TLBI.VA. -/
def execTlbiVa (y : Syl) (r a : Reg) (g : Bool) (s : State) : Host.Outcome State Fault Refusal :=
  .next (s.run (fun e => e.runSyl y (.tlbiVa y r a g) (fun v => firstOut [(v.home y).below 1] (.done [.act .tlbiVa (v.src y a).toNat ((v.src y r).toNat % 4096) (b2n g)]))))
/-- TLBI.TAG. -/
def execTlbiTag (y : Syl) (a : Reg) (g : Bool) (s : State) : Host.Outcome State Fault Refusal :=
  .next (s.run (fun e => e.runSyl y (.tlbiTag y a g) (fun v => firstOut [(v.home y).below 1] (.done [.act .tlbiTag ((v.src y a).toNat % 4096) 0 (b2n g)]))))
/-- TLBI.ALL. -/
def execTlbiAll (y : Syl) (g : Bool) (s : State) : Host.Outcome State Fault Refusal :=
  .next (s.run (fun e => e.runSyl y (.tlbiAll y g) (fun v => firstOut [(v.home y).below 1] (.done [.act .tlbiAll 0 0 (b2n g)]))))
/-- TLBI.ALLK. -/
def execTlbiAllk (y : Syl) (g : Bool) (s : State) : Host.Outcome State Fault Refusal :=
  .next (s.run (fun e => e.runSyl y (.tlbiAllk y g) (fun v => firstOut [(v.home y).below 3] (.done [.act .tlbiAllk 0 0 (b2n g)]))))
/-- BRK. -/
def execBrk (y : Syl) (s : State) : Host.Outcome State Fault Refusal :=
  .next (s.run (fun e => e.runSyl y (.brk y) (fun v => .exc 0x12 1 0 0)))

end Sys2Proof.Machine
end

