-- ==== Sys2Proof/Machine/Dispatch.lean ====
section
/-! DEFINITION. One arm per command: the meaning each one has. -/

namespace Sys2Proof.Machine

/-- The effect of a command on everything but the queue. -/
def exec (i : Instr) (s : State) : Host.Outcome State Fault Refusal :=
  match i with
  | .bundleFetch core => Sys2Proof.Machine.execBundleFetch core s
  | .add y d a b => Sys2Proof.Machine.execAdd y d a b s
  | .sub y d a b => Sys2Proof.Machine.execSub y d a b s
  | .addv y d a b => Sys2Proof.Machine.execAddv y d a b s
  | .subv y d a b => Sys2Proof.Machine.execSubv y d a b s
  | .andd y d a b => Sys2Proof.Machine.execAndd y d a b s
  | .orr y d a b => Sys2Proof.Machine.execOrr y d a b s
  | .xor y d a b => Sys2Proof.Machine.execXor y d a b s
  | .andn y d a b => Sys2Proof.Machine.execAndn y d a b s
  | .shl y d a b => Sys2Proof.Machine.execShl y d a b s
  | .shr y d a b => Sys2Proof.Machine.execShr y d a b s
  | .sar y d a b => Sys2Proof.Machine.execSar y d a b s
  | .rol y d a b => Sys2Proof.Machine.execRol y d a b s
  | .min y d a b => Sys2Proof.Machine.execMin y d a b s
  | .max y d a b => Sys2Proof.Machine.execMax y d a b s
  | .minu y d a b => Sys2Proof.Machine.execMinu y d a b s
  | .maxu y d a b => Sys2Proof.Machine.execMaxu y d a b s
  | .neg y d a => Sys2Proof.Machine.execNeg y d a s
  | .abs y d a => Sys2Proof.Machine.execAbs y d a s
  | .clz y d a => Sys2Proof.Machine.execClz y d a s
  | .popc y d a => Sys2Proof.Machine.execPopc y d a s
  | .sextb y d a => Sys2Proof.Machine.execSextb y d a s
  | .sexth y d a => Sys2Proof.Machine.execSexth y d a s
  | .zextb y d a => Sys2Proof.Machine.execZextb y d a s
  | .zexth y d a => Sys2Proof.Machine.execZexth y d a s
  | .bswap y d a => Sys2Proof.Machine.execBswap y d a s
  | .addi y d a imm p => Sys2Proof.Machine.execAddi y d a imm p s
  | .andi y d a imm p => Sys2Proof.Machine.execAndi y d a imm p s
  | .ori y d a imm p => Sys2Proof.Machine.execOri y d a imm p s
  | .xori y d a imm p => Sys2Proof.Machine.execXori y d a imm p s
  | .shli y d a count => Sys2Proof.Machine.execShli y d a count s
  | .shri y d a count => Sys2Proof.Machine.execShri y d a count s
  | .sari y d a count => Sys2Proof.Machine.execSari y d a count s
  | .roli y d a count => Sys2Proof.Machine.execRoli y d a count s
  | .cmp y qt a b cond mode => Sys2Proof.Machine.execCmp y qt a b cond mode s
  | .cmpi y qt a cond mode imm p => Sys2Proof.Machine.execCmpi y qt a cond mode imm p s
  | .pand y qd qa qb => Sys2Proof.Machine.execPand y qd qa qb s
  | .por y qd qa qb => Sys2Proof.Machine.execPor y qd qa qb s
  | .pxor y qd qa qb => Sys2Proof.Machine.execPxor y qd qa qb s
  | .pandn y qd qa qb => Sys2Proof.Machine.execPandn y qd qa qb s
  | .pnot y qd qa => Sys2Proof.Machine.execPnot y qd qa s
  | .movs y r code => Sys2Proof.Machine.execMovs y r code s
  | .movf y r code => Sys2Proof.Machine.execMovf y r code s
  | .sel y d a b qs => Sys2Proof.Machine.execSel y d a b qs s
  | .ldb y d a am low p => Sys2Proof.Machine.execLdb y d a am low p s
  | .ldbu y d a am low p => Sys2Proof.Machine.execLdbu y d a am low p s
  | .ldh y d a am low p => Sys2Proof.Machine.execLdh y d a am low p s
  | .ldhu y d a am low p => Sys2Proof.Machine.execLdhu y d a am low p s
  | .ldw y d a am low p => Sys2Proof.Machine.execLdw y d a am low p s
  | .stb y d a am low p => Sys2Proof.Machine.execStb y d a am low p s
  | .sth y d a am low p => Sys2Proof.Machine.execSth y d a am low p s
  | .stw y d a am low p => Sys2Proof.Machine.execStw y d a am low p s
  | .swapw y d a b => Sys2Proof.Machine.execSwapw y d a b s
  | .casw y d a b => Sys2Proof.Machine.execCasw y d a b s
  | .faddw y d a b => Sys2Proof.Machine.execFaddw y d a b s
  | .fandw y d a b => Sys2Proof.Machine.execFandw y d a b s
  | .forw y d a b => Sys2Proof.Machine.execForw y d a b s
  | .mul y d a b => Sys2Proof.Machine.execMul y d a b s
  | .mulh y d a b => Sys2Proof.Machine.execMulh y d a b s
  | .mulhu y d a b => Sys2Proof.Machine.execMulhu y d a b s
  | .mulv y d a b => Sys2Proof.Machine.execMulv y d a b s
  | .div y d a b => Sys2Proof.Machine.execDiv y d a b s
  | .divu y d a b => Sys2Proof.Machine.execDivu y d a b s
  | .rem y d a b => Sys2Proof.Machine.execRem y d a b s
  | .remu y d a b => Sys2Proof.Machine.execRemu y d a b s
  | .br y disp => Sys2Proof.Machine.execBr y disp s
  | .call y disp => Sys2Proof.Machine.execCall y disp s
  | .callW y disp => Sys2Proof.Machine.execCallW y disp s
  | .bri y a => Sys2Proof.Machine.execBri y a s
  | .calli y a => Sys2Proof.Machine.execCalli y a s
  | .calliW y a => Sys2Proof.Machine.execCalliW y a s
  | .ret y => Sys2Proof.Machine.execRet y s
  | .retW y => Sys2Proof.Machine.execRetW y s
  | .retl y => Sys2Proof.Machine.execRetl y s
  | .db y c disp => Sys2Proof.Machine.execDb y c disp s
  | .dblc y disp => Sys2Proof.Machine.execDblc y disp s
  | .rep y cr im imm => Sys2Proof.Machine.execRep y cr im imm s
  | .mfc y r cnum => Sys2Proof.Machine.execMfc y r cnum s
  | .mtc y r cnum => Sys2Proof.Machine.execMtc y r cnum s
  | .mtcStatus y r => Sys2Proof.Machine.execMtcStatus y r s
  | .mtcTsbp y r => Sys2Proof.Machine.execMtcTsbp y r s
  | .mtcAstb y r => Sys2Proof.Machine.execMtcAstb y r s
  | .mtcAstag y r m => Sys2Proof.Machine.execMtcAstag y r m s
  | .mtcKmask y r => Sys2Proof.Machine.execMtcKmask y r s
  | .mtcKpv y r => Sys2Proof.Machine.execMtcKpv y r s
  | .mfcKpv y r => Sys2Proof.Machine.execMfcKpv y r s
  | .mtcTlock y r => Sys2Proof.Machine.execMtcTlock y r s
  | .mtcWinctl y r => Sys2Proof.Machine.execMtcWinctl y r s
  | .mtcDecctl y r => Sys2Proof.Machine.execMtcDecctl y r s
  | .mfcEtimeL y r => Sys2Proof.Machine.execMfcEtimeL y r s
  | .fenceS y => Sys2Proof.Machine.execFenceS y s
  | .syncI y => Sys2Proof.Machine.execSyncI y s
  | .iflush y a => Sys2Proof.Machine.execIflush y a s
  | .syncT y => Sys2Proof.Machine.execSyncT y s
  | .tlbiVa y r a g => Sys2Proof.Machine.execTlbiVa y r a g s
  | .tlbiTag y a g => Sys2Proof.Machine.execTlbiTag y a g s
  | .tlbiAll y g => Sys2Proof.Machine.execTlbiAll y g s
  | .tlbiAllk y g => Sys2Proof.Machine.execTlbiAllk y g s
  | .tlbInvalidationComplete core bay target => Sys2Proof.Machine.execTlbInvalidationComplete core bay target s
  | .brk y => Sys2Proof.Machine.execBrk y s
  | .missDataReturn core bay => Sys2Proof.Machine.execMissDataReturn core bay s
  | .pageWalk core bay fab => Sys2Proof.Machine.execPageWalk core bay fab s
  | .storeBufferDrain core fab => Sys2Proof.Machine.execStoreBufferDrain core fab s
  | .dadd y d a b => Sys2Proof.Machine.execDadd y d a b s
  | .dsub y d a b => Sys2Proof.Machine.execDsub y d a b s
  | .dmul y d a b => Sys2Proof.Machine.execDmul y d a b s
  | .ddiv y d a b => Sys2Proof.Machine.execDdiv y d a b s
  | .dqua y d a b => Sys2Proof.Machine.execDqua y d a b s
  | .drni y d a => Sys2Proof.Machine.execDrni y d a s
  | .dneg y d a => Sys2Proof.Machine.execDneg y d a s
  | .dabs y d a => Sys2Proof.Machine.execDabs y d a s
  | .dcps y d a b => Sys2Proof.Machine.execDcps y d a b s
  | .daddX y d a b => Sys2Proof.Machine.execDaddX y d a b s
  | .dsubX y d a b => Sys2Proof.Machine.execDsubX y d a b s
  | .dmulX y d a b => Sys2Proof.Machine.execDmulX y d a b s
  | .ddivX y d a b => Sys2Proof.Machine.execDdivX y d a b s
  | .dquaX y d a b => Sys2Proof.Machine.execDquaX y d a b s
  | .drniX y d a => Sys2Proof.Machine.execDrniX y d a s
  | .dnegX y d a => Sys2Proof.Machine.execDnegX y d a s
  | .dabsX y d a => Sys2Proof.Machine.execDabsX y d a s
  | .dcpsX y d a b => Sys2Proof.Machine.execDcpsX y d a b s
  | .cvtX y d a => Sys2Proof.Machine.execCvtX y d a s
  | .cvtD y d a => Sys2Proof.Machine.execCvtD y d a s
  | .cvid y d a => Sys2Proof.Machine.execCvid y d a s
  | .cvdi y d a => Sys2Proof.Machine.execCvdi y d a s
  | .cvpd y d a n => Sys2Proof.Machine.execCvpd y d a n s
  | .cvpx y d a n => Sys2Proof.Machine.execCvpx y d a n s
  | .cvdp y d a n => Sys2Proof.Machine.execCvdp y d a n s
  | .cvxp y d a n => Sys2Proof.Machine.execCvxp y d a n s
  | .padd y d a b => Sys2Proof.Machine.execPadd y d a b s
  | .psub y d a b => Sys2Proof.Machine.execPsub y d a b s
  | .pshl y d a n => Sys2Proof.Machine.execPshl y d a n s
  | .pshr y d a n => Sys2Proof.Machine.execPshr y d a n s
  | .pchk y d a => Sys2Proof.Machine.execPchk y d a s
  | .dcmp y qt sg a b cond w => Sys2Proof.Machine.execDcmp y qt sg a b cond w s
  | .pcmp y qt a b cond => Sys2Proof.Machine.execPcmp y qt a b cond s
  | .ldd y d a disp p => Sys2Proof.Machine.execLdd y d a disp p s
  | .lddX y d a disp p => Sys2Proof.Machine.execLddX y d a disp p s
  | .std y d a disp p => Sys2Proof.Machine.execStd y d a disp p s
  | .stdX y d a disp p => Sys2Proof.Machine.execStdX y d a disp p s
  | .ldp y d a len => Sys2Proof.Machine.execLdp y d a len s
  | .stp y d a len => Sys2Proof.Machine.execStp y d a len s
  | .ldz y d a len => Sys2Proof.Machine.execLdz y d a len s
  | .stz y d a len => Sys2Proof.Machine.execStz y d a len s
  | .macsD y k a b c => Sys2Proof.Machine.execMacsD y k a b c s
  | .macuD y k a b c => Sys2Proof.Machine.execMacuD y k a b c s
  | .macsB y k a b c => Sys2Proof.Machine.execMacsB y k a b c s
  | .macuB y k a b c => Sys2Proof.Machine.execMacuB y k a b c s
  | .streamElement core bay => Sys2Proof.Machine.execStreamElement core bay s
  | .mvs y a => Sys2Proof.Machine.execMvs y a s
  | .trs y a => Sys2Proof.Machine.execTrs y a s
  | .cms y d a qt => Sys2Proof.Machine.execCms y d a qt s
  | .scn y d a qt => Sys2Proof.Machine.execScn y d a qt s
  | .scne y d a qt => Sys2Proof.Machine.execScne y d a qt s
  | .edit y d a qt => Sys2Proof.Machine.execEdit y d a qt s
  | .stringStep core bay chk => Sys2Proof.Machine.execStringStep core bay chk s
  | .editStep core bay chk => Sys2Proof.Machine.execEditStep core bay chk s
  | .japp y d a b => Sys2Proof.Machine.execJapp y d a b s
  | .jwait y a b => Sys2Proof.Machine.execJwait y a b s
  | .jdur y d b => Sys2Proof.Machine.execJdur y d b s
  | .jrel y a b => Sys2Proof.Machine.execJrel y a b s
  | .journalQueueSpace => Sys2Proof.Machine.execJournalQueueSpace s
  | .recordDurable stream => Sys2Proof.Machine.execRecordDurable stream s
  | .jsCtlWrite who stream value => Sys2Proof.Machine.execJsCtlWrite who stream value s
  | .jsCtlReopen who stream => Sys2Proof.Machine.execJsCtlReopen who stream s
  | .digestSeal stream => Sys2Proof.Machine.execDigestSeal stream s
  | .digestCompare stream bridge origin => Sys2Proof.Machine.execDigestCompare stream bridge origin s
  | .digestWaitExpiry stream => Sys2Proof.Machine.execDigestWaitExpiry stream s
  | .tickIn epochIn => Sys2Proof.Machine.execTickIn epochIn s
  | .epochSourceLoss altLive => Sys2Proof.Machine.execEpochSourceLoss altLive s
  | .epctlWrite who value => Sys2Proof.Machine.execEpctlWrite who value s
  | .esCtlWrite who slot value => Sys2Proof.Machine.execEsCtlWrite who slot value s
  | .eventSlotFire => Sys2Proof.Machine.execEventSlotFire s
  | .powerFail => Sys2Proof.Machine.execPowerFail s
  | .powerFailSequenceEnd => Sys2Proof.Machine.execPowerFailSequenceEnd s
  | .recoveryScanEnd => Sys2Proof.Machine.execRecoveryScanEnd s
  | .tevict y bay => Sys2Proof.Machine.execTevict y bay s
  | .tevictComplete core bay fab => Sys2Proof.Machine.execTevictComplete core bay fab s
  | .tload y bay a => Sys2Proof.Machine.execTload y bay a s
  | .tloadComplete core bay fab => Sys2Proof.Machine.execTloadComplete core bay fab s
  | .waitt y => Sys2Proof.Machine.execWaitt y s
  | .yield y => Sys2Proof.Machine.execYield y s
  | .signal y a imm => Sys2Proof.Machine.execSignal y a imm s
  | .scall y n => Sys2Proof.Machine.execScall y n s
  | .fret y => Sys2Proof.Machine.execFret y s
  | .gcall y n => Sys2Proof.Machine.execGcall y n s
  | .gret y => Sys2Proof.Machine.execGret y s
  | .sret y => Sys2Proof.Machine.execSret y s
  | .mret y => Sys2Proof.Machine.execMret y s
  | .exceptionEntry core bay fab => Sys2Proof.Machine.execExceptionEntry core bay fab s
  | .windowSpill core bay fab => Sys2Proof.Machine.execWindowSpill core bay fab s
  | .windowFill core bay fab => Sys2Proof.Machine.execWindowFill core bay fab s
  | .schedulerSelect core => Sys2Proof.Machine.execSchedulerSelect core s
  | .preemption core => Sys2Proof.Machine.execPreemption core s
  | .quantumExpiry core => Sys2Proof.Machine.execQuantumExpiry core s
  | .automaticLoad core => Sys2Proof.Machine.execAutomaticLoad core s
  | .mirrorStage who id value => Sys2Proof.Machine.execMirrorStage who id value s
  | .mcsCountersign org slot ticket => Sys2Proof.Machine.execMcsCountersign org slot ticket s
  | .mcsReject org slot ticket => Sys2Proof.Machine.execMcsReject org slot ticket s
  | .mcsGroupCountersign org => Sys2Proof.Machine.execMcsGroupCountersign org s
  | .stageExpiry slot => Sys2Proof.Machine.execStageExpiry slot s
  | .committedValueApplied => Sys2Proof.Machine.execCommittedValueApplied s
  | .faccWrite fn n value => Sys2Proof.Machine.execFaccWrite fn n value s
  | .featCtlClose fn => Sys2Proof.Machine.execFeatCtlClose fn s
  | .eprElRead fn => Sys2Proof.Machine.execEprElRead fn s
  | .mwinDataWrite fn value => Sys2Proof.Machine.execMwinDataWrite fn value s
  | .vfqWrite who fn cq value => Sys2Proof.Machine.execVfqWrite who fn cq value s
  | .vfEnable value => Sys2Proof.Machine.execVfEnable value s
  | .queueRegWrite fn off value => Sys2Proof.Machine.execQueueRegWrite fn off value s
  | .sqEnable fn q => Sys2Proof.Machine.execSqEnable fn q s
  | .sqDisable fn q => Sys2Proof.Machine.execSqDisable fn q s
  | .cqEnable fn q => Sys2Proof.Machine.execCqEnable fn q s
  | .cqDisable fn q => Sys2Proof.Machine.execCqDisable fn q s
  | .sqTailDoorbell fn q value => Sys2Proof.Machine.execSqTailDoorbell fn q value s
  | .cqHeadDoorbell fn q value => Sys2Proof.Machine.execCqHeadDoorbell fn q value s
  | .submissionFetch entry => Sys2Proof.Machine.execSubmissionFetch entry s
  | .post fn q => Sys2Proof.Machine.execPost fn q s
  | .mark fn q => Sys2Proof.Machine.execMark fn q s
  | .markComplete fn q => Sys2Proof.Machine.execMarkComplete fn q s
  | .nop fn q => Sys2Proof.Machine.execNop fn q s
  | .jstat fn q => Sys2Proof.Machine.execJstat fn q s
  | .qstat fn q => Sys2Proof.Machine.execQstat fn q s
  | .msg fn q => Sys2Proof.Machine.execMsg fn q s
  | .rread fn q => Sys2Proof.Machine.execRread fn q s
  | .rsnap fn q => Sys2Proof.Machine.execRsnap fn q s
  | .rclr fn q => Sys2Proof.Machine.execRclr fn q s
  | .inRingConfigWrite who ring ctl value => Sys2Proof.Machine.execInRingConfigWrite who ring ctl value s
  | .inCplWrite who ring value => Sys2Proof.Machine.execInCplWrite who ring value s
  | .inHeadWrite who ring value => Sys2Proof.Machine.execInHeadWrite who ring value s
  | .cqModTimerExpiry fn q => Sys2Proof.Machine.execCqModTimerExpiry fn q s
  | .functionLevelResetVf fn => Sys2Proof.Machine.execFunctionLevelResetVf fn s
  | .functionLevelResetPf => Sys2Proof.Machine.execFunctionLevelResetPf s
  | .dmaTailDoorbell who e c value => Sys2Proof.Machine.execDmaTailDoorbell who e c value s
  | .dmaCheadWrite who e c value => Sys2Proof.Machine.execDmaCheadWrite who e c value s
  | .dmaRingConfigWrite who e c off value => Sys2Proof.Machine.execDmaRingConfigWrite who e c off value s
  | .dmaChannelEnable who e c => Sys2Proof.Machine.execDmaChannelEnable who e c s
  | .dmaStopRequest who e c => Sys2Proof.Machine.execDmaStopRequest who e c s
  | .chAuthWrite who e c value => Sys2Proof.Machine.execChAuthWrite who e c value s
  | .chTrigWrite who e c value => Sys2Proof.Machine.execChTrigWrite who e c value s
  | .chShctlArm who e c => Sys2Proof.Machine.execChShctlArm who e c s
  | .shadowSwap e c late => Sys2Proof.Machine.execShadowSwap e c late s
  | .descriptorStart e => Sys2Proof.Machine.execDescriptorStart e s
  | .dmaNop e c hostData fault => Sys2Proof.Machine.execDmaNop e c hostData fault s
  | .copy e c hostData fault => Sys2Proof.Machine.execCopy e c hostData fault s
  | .fill e c hostData fault => Sys2Proof.Machine.execFill e c hostData fault s
  | .convert e c hostData fault => Sys2Proof.Machine.execConvert e c hostData fault s
  | .prism e c hostData fault => Sys2Proof.Machine.execPrism e c hostData fault s
  | .prismr e c hostData fault => Sys2Proof.Machine.execPrismr e c hostData fault s
  | .jexport e c hostData fault => Sys2Proof.Machine.execJexport e c hostData fault s
  | .dmaCompletionRecord e c => Sys2Proof.Machine.execDmaCompletionRecord e c s
  | .dmaBusError e kind addr => Sys2Proof.Machine.execDmaBusError e kind addr s
  | .deRestart who e => Sys2Proof.Machine.execDeRestart who e s
  | .portEnable who port => Sys2Proof.Machine.execPortEnable who port s
  | .linkTrainingComplete port hello => Sys2Proof.Machine.execLinkTrainingComplete port hello s
  | .linkRetrain port => Sys2Proof.Machine.execLinkRetrain port s
  | .posting port frame => Sys2Proof.Machine.execPosting port frame s
  | .markFrame port frame => Sys2Proof.Machine.execMarkFrame port frame s
  | .digest port frame => Sys2Proof.Machine.execDigest port frame s
  | .ack port frame => Sys2Proof.Machine.execAck port frame s
  | .nak port frame => Sys2Proof.Machine.execNak port frame s
  | .hello port frame => Sys2Proof.Machine.execHello port frame s
  | .ackTimer port => Sys2Proof.Machine.execAckTimer port s
  | .xmSend who stream addr => Sys2Proof.Machine.execXmSend who stream addr s
  | .heldPostingDelivery port => Sys2Proof.Machine.execHeldPostingDelivery port s
  | .malfWindowEnd => Sys2Proof.Machine.execMalfWindowEnd s
  | .portDrain who port => Sys2Proof.Machine.execPortDrain who port s
  | .portDrained port => Sys2Proof.Machine.execPortDrained port s
  | .eventRecorded source kind detail => Sys2Proof.Machine.execEventRecorded source kind detail s
  | .rcCtlSnap who => Sys2Proof.Machine.execRcCtlSnap who s
  | .snapshotPeriodExpiry => Sys2Proof.Machine.execSnapshotPeriodExpiry s
  | .snapshotWriteEnd => Sys2Proof.Machine.execSnapshotWriteEnd s
  | .measurementSample ch value => Sys2Proof.Machine.execMeasurementSample ch value s
  | .rcCtlWrite who value => Sys2Proof.Machine.execRcCtlWrite who value s
  | .recorderClear who value => Sys2Proof.Machine.execRecorderClear who value s
  | .recorderClearEnd => Sys2Proof.Machine.execRecorderClearEnd s
  | .optSave => Sys2Proof.Machine.execOptSave s
  | .rcOptLRead who => Sys2Proof.Machine.execRcOptLRead who s
  | .drain who dom => Sys2Proof.Machine.execDrain who dom s
  | .drainComplete dom => Sys2Proof.Machine.execDrainComplete dom s
  | .drainTimeout dom => Sys2Proof.Machine.execDrainTimeout dom s
  | .cancel who dom => Sys2Proof.Machine.execCancel who dom s
  | .test who dom => Sys2Proof.Machine.execTest who dom s
  | .selfTestEnd dom pass => Sys2Proof.Machine.execSelfTestEnd dom pass s
  | .repatch who dom => Sys2Proof.Machine.execRepatch who dom s
  | .repatchEnd dom => Sys2Proof.Machine.execRepatchEnd dom s
  | .offf who dom => Sys2Proof.Machine.execOfff who dom s
  | .onn who dom => Sys2Proof.Machine.execOnn who dom s
  | .powerOnEnd dom => Sys2Proof.Machine.execPowerOnEnd dom s
  | .returnn who dom => Sys2Proof.Machine.execReturnn who dom s
  | .returnEnd dom => Sys2Proof.Machine.execReturnEnd dom s
  | .recover who core => Sys2Proof.Machine.execRecover who core s
  | .lockupAutoRecover core => Sys2Proof.Machine.execLockupAutoRecover core s
  | .powerOnReset => Sys2Proof.Machine.execPowerOnReset s
  | .deviceReset => Sys2Proof.Machine.execDeviceReset s
  | .startup => Sys2Proof.Machine.execStartup s
  | .bootDone => Sys2Proof.Machine.execBootDone s
  | .bootTimeout => Sys2Proof.Machine.execBootTimeout s
  | .memilWrite who value => Sys2Proof.Machine.execMemilWrite who value s
  | .imgOpen who value => Sys2Proof.Machine.execImgOpen who value s
  | .imgDataWrite who value => Sys2Proof.Machine.execImgDataWrite who value s
  | .imgClose who => Sys2Proof.Machine.execImgClose who s
  | .imgAbandon who => Sys2Proof.Machine.execImgAbandon who s
  | .status tag args => Sys2Proof.Machine.execStatus tag args s
  | .rrec tag args => Sys2Proof.Machine.execRrec tag args s
  | .pdreq tag args => Sys2Proof.Machine.execPdreq tag args s
  | .pdstat tag args => Sys2Proof.Machine.execPdstat tag args s
  | .lkrec tag args => Sys2Proof.Machine.execLkrec tag args s
  | .stage tag args => Sys2Proof.Machine.execStage tag args s
  | .csign tag args => Sys2Proof.Machine.execCsign tag args s
  | .runext tag args => Sys2Proof.Machine.execRunext tag args s
  | .imgopen tag args => Sys2Proof.Machine.execImgopen tag args s
  | .imgdata tag args => Sys2Proof.Machine.execImgdata tag args s
  | .imgclose tag args => Sys2Proof.Machine.execImgclose tag args s
  | .smbusRclr tag args => Sys2Proof.Machine.execSmbusRclr tag args s
  | .devrst tag args => Sys2Proof.Machine.execDevrst tag args s
  | .smbusTimeout => Sys2Proof.Machine.execSmbusTimeout s
  | .puporLdImm im => Sys2Proof.Machine.execPuporLdImm im s
  | .puporLdAbs a => Sys2Proof.Machine.execPuporLdAbs a s
  | .puporLdJ disp => Sys2Proof.Machine.execPuporLdJ disp s
  | .puporLdK => Sys2Proof.Machine.execPuporLdK s
  | .puporStAbs a => Sys2Proof.Machine.execPuporStAbs a s
  | .puporStJ disp => Sys2Proof.Machine.execPuporStJ disp s
  | .puporStK => Sys2Proof.Machine.execPuporStK s
  | .puporLdjImm a => Sys2Proof.Machine.execPuporLdjImm a s
  | .puporLdkImm a => Sys2Proof.Machine.execPuporLdkImm a s
  | .puporLdjAbs a => Sys2Proof.Machine.execPuporLdjAbs a s
  | .puporStj a => Sys2Proof.Machine.execPuporStj a s
  | .puporSwjk => Sys2Proof.Machine.execPuporSwjk s
  | .puporAdj => Sys2Proof.Machine.execPuporAdj s
  | .puporMovCntAcc => Sys2Proof.Machine.execPuporMovCntAcc s
  | .puporMovAccCnt => Sys2Proof.Machine.execPuporMovAccCnt s
  | .puporAddImm im => Sys2Proof.Machine.execPuporAddImm im s
  | .puporAddAbs a => Sys2Proof.Machine.execPuporAddAbs a s
  | .puporAddc a => Sys2Proof.Machine.execPuporAddc a s
  | .puporSubImm im => Sys2Proof.Machine.execPuporSubImm im s
  | .puporSubAbs a => Sys2Proof.Machine.execPuporSubAbs a s
  | .puporSubc a => Sys2Proof.Machine.execPuporSubc a s
  | .puporAnd im => Sys2Proof.Machine.execPuporAnd im s
  | .puporIor im => Sys2Proof.Machine.execPuporIor im s
  | .puporXor im => Sys2Proof.Machine.execPuporXor im s
  | .puporCmpImm im => Sys2Proof.Machine.execPuporCmpImm im s
  | .puporCmpAbs a => Sys2Proof.Machine.execPuporCmpAbs a s
  | .puporShl => Sys2Proof.Machine.execPuporShl s
  | .puporShr => Sys2Proof.Machine.execPuporShr s
  | .puporInc => Sys2Proof.Machine.execPuporInc s
  | .puporDec => Sys2Proof.Machine.execPuporDec s
  | .puporJmp a => Sys2Proof.Machine.execPuporJmp a s
  | .puporCall a => Sys2Proof.Machine.execPuporCall a s
  | .puporRet => Sys2Proof.Machine.execPuporRet s
  | .puporJz r => Sys2Proof.Machine.execPuporJz r s
  | .puporJnz r => Sys2Proof.Machine.execPuporJnz r s
  | .puporJc r => Sys2Proof.Machine.execPuporJc r s
  | .puporJnc r => Sys2Proof.Machine.execPuporJnc r s
  | .puporJs r => Sys2Proof.Machine.execPuporJs r s
  | .puporLoop r => Sys2Proof.Machine.execPuporLoop r s
  | .puporPush => Sys2Proof.Machine.execPuporPush s
  | .puporPop => Sys2Proof.Machine.execPuporPop s
  | .puporIn p => Sys2Proof.Machine.execPuporIn p s
  | .puporOut p => Sys2Proof.Machine.execPuporOut p s
  | .puporDeviceRead => Sys2Proof.Machine.execPuporDeviceRead s
  | .puporDeviceWrite => Sys2Proof.Machine.execPuporDeviceWrite s
  | .puporDeviceAccessEnd err => Sys2Proof.Machine.execPuporDeviceAccessEnd err s
  | .puporSysWait im => Sys2Proof.Machine.execPuporSysWait im s
  | .puporSysWaitEnd => Sys2Proof.Machine.execPuporSysWaitEnd s
  | .puporIdle => Sys2Proof.Machine.execPuporIdle s
  | .puporIdleWake => Sys2Proof.Machine.execPuporIdleWake s
  | .puporStop => Sys2Proof.Machine.execPuporStop s
  | .puporNop => Sys2Proof.Machine.execPuporNop s
  | .extensionInstructionLimit => Sys2Proof.Machine.execExtensionInstructionLimit s
  | .thermtrip sensor value => Sys2Proof.Machine.execThermtrip sensor value s
  | .railExcursion rail => Sys2Proof.Machine.execRailExcursion rail s
  | .vsetStep up acked => Sys2Proof.Machine.execVsetStep up acked s
  | .avsRetry acked => Sys2Proof.Machine.execAvsRetry acked s
  | .refclkLoss => Sys2Proof.Machine.execRefclkLoss s
  | .ddrRefresh ch rank => Sys2Proof.Machine.execDdrRefresh ch rank s
  | .ddrZqCalibration ch => Sys2Proof.Machine.execDdrZqCalibration ch s
  | .ddrPhyTracking ch => Sys2Proof.Machine.execDdrPhyTracking ch s
  | .loamScrub bank word err => Sys2Proof.Machine.execLoamScrub bank word err s
  | .registerWrite who addr value => Sys2Proof.Machine.execRegisterWrite who addr value s
  | .readClearRegister who addr => Sys2Proof.Machine.execReadClearRegister who addr s
  | .vddAonRemoved => Sys2Proof.Machine.execVddAonRemoved s
  | .logRecordDurable => Sys2Proof.Machine.execLogRecordDurable s
  | .imageCloseChecksEnd => Sys2Proof.Machine.execImageCloseChecksEnd s
  | .coreRelease => Sys2Proof.Machine.execCoreRelease s
  | .reservedTypeFrame port frame => Sys2Proof.Machine.execReservedTypeFrame port frame s
  | .puporReservedOpcode op => Sys2Proof.Machine.execPuporReservedOpcode op s
  | .mailboxBadreq tag opcode => Sys2Proof.Machine.execMailboxBadreq tag opcode s
  | .mailboxResponseRead => Sys2Proof.Machine.execMailboxResponseRead s
  | .pdReqMalformed who value => Sys2Proof.Machine.execPdReqMalformed who value s
  | .msixUnmask fn vec => Sys2Proof.Machine.execMsixUnmask fn vec s

end Sys2Proof.Machine
end

