-- ==== Sys2Proof/Machine/Idle.lean ====
section
/-! DEFINITION. What a step does on an empty queue: one millisecond of the Pupor oscillator passes (R251, R359; log entry 2). -/

namespace Sys2Proof.Machine

/-- One millisecond: OPT counts, and each staged value ages or expires. -/
def Dev.millisecond (d : Dev) : Dev :=
  (List.range 16).foldl Dev.ageStage { d with rc := { d.rc with opt := d.rc.opt + 1 } }
/-- The idle step. -/
def idleStep (s : State) : Host.Outcome State Fault Refusal := .next (s.run Dev.millisecond)

end Sys2Proof.Machine
end

