-- ==== Sys2Proof/Safety.lean ====
section
/-! DEFINITION. What counts as a sound state and a safe step, in the terms the statements use. -/

namespace Sys2Proof.Safety

open Sys2Proof.Machine

/-- The memory keeps its canonical form: addresses rising, no entry equal to what its address reads as unlisted. -/
def MemCanonical (s : State) : Prop := Memory.wf s.dev.dflt s.dev.mem = true

/-- A step goes on: it answers a next state. -/
def StepsOn (s : State) : Prop := ∃ t, step s = .next t

/-- The device has power, any power state but OFF, and has not ended the sequence of a power failure (R164). -/
abbrev Powered (s : State) : Prop := ¬ (s.dev.pw.pstate = 0 ∨ s.dev.pw.pfDone = true)

/-- Effects that let their bundle end at once: none is an eviction or a load to wait for, and none meets a refusal at the end of the bundle (an append without a segment, a bay no longer to be evicted or loaded). -/
def Settled (d : Dev) (n b : Nat) (es : List Eff) : Bool := es.all (fun f => !f.asks && (d.lateFault n b f).isNone)

/-- A syllable is the last of its bay's open bundle, its guard holds, nothing is repeated, no syllable before it met an exception and the effects of those before it are settled. -/
abbrev Executes (s : State) (y : Syl) (i : Instr) (u : Bundle) : Prop :=
  Powered s ∧ s.dev.issuing y.core.toNat y.bay.toNat = true ∧ (s.dev.home y).bundle = some u ∧ u.rep = none ∧ u.todo = [asDecoded i] ∧ u.excs = []
    ∧ (s.dev.home y).guard s.dev.free y = true ∧ Settled s.dev y.core.toNat y.bay.toNat u.effs = true

/-- The state after a bundle that completes without an exception: the next bundle follows, and its effects stand, the last syllable's `es` among them (R37, R44). -/
def completes (s : State) (y : Syl) (u : Bundle) (es : List Eff) : State :=
  let n := y.core.toNat
  let b := y.bay.toNat
  { s with dev := (((s.dev.setBay n b ((s.dev.home y).complete u)).applyAll n b (u.effs ++ es)).stepTrap n b (s.dev.home y)).claim n b }

/-- The state after the last syllable of a bundle met an exception: the bundle has no effect, and the exception waits for its entry (R77). -/
def traps (s : State) (y : Syl) (u : Bundle) (cause : Nat) (detail faddr aux : Word) : State :=
  { s with dev := s.dev.modBay y.core.toNat y.bay.toNat (fun x => { x with bundle := none, exc := some { cause := cause, detail := detail, faddr := faddr, aux := aux, pc := u.pc } }) }

/-- Where a syllable is the last of its bundle and executes, its command answers a next state in which the bundle has completed with these effects of the syllable's. -/
def Completes (s : State) (y : Syl) (i : Instr) (es : List Eff) : Prop :=
  ∀ u : Bundle, Executes s y i u → exec i s = .next (completes s y u es)

/-- Where a syllable is the last of its bundle and executes, its command answers a next state in which this exception waits for its entry. -/
def TrapsWith (s : State) (y : Syl) (i : Instr) (cause low : Nat) (faddr aux : Word) : Prop :=
  ∀ u : Bundle, Executes s y i u → exec i s = .next (traps s y u cause (detailOf y.pos.toNat u.len low) faddr aux)

/-- Where a syllable is the last of its bundle and executes, its command answers a next state in which the bay has stopped issuing, its bundle open, to wait. -/
def Waits (s : State) (y : Syl) (i : Instr) (st : BayState) (w : Wait) : Prop :=
  ∀ u : Bundle, Executes s y i u →
    exec i s = .next { s with dev := s.dev.modBay y.core.toNat y.bay.toNat (fun x => { x with st := st, wait := w }) }

/-- On a powered device the command answers a next state: its queue as before, and this machine. -/
def Becomes (c : Instr) (s : State) (d : Dev) : Prop := Powered s → exec c s = .next { s with dev := d }

/-- A command answers a next state: its queue as before, and its machine as said. -/
def After (c : Instr) (s : State) (P : Dev → Prop) : Prop := ∃ t : State, exec c s = .next t ∧ t.pending = s.pending ∧ P t.dev

end Sys2Proof.Safety
end

