-- ==== Sys2Proof/Certificates/Slice0/Obligations.lean ====
section
/-! DEFINITION. The statements for the provers. Each docstring names the rules of spec/ it formalises; what rests on a log entry says so. -/

section Statements

open Sys2Proof
open Sys2Proof.Machine
open Sys2Proof.Safety

/-- Where it is the last syllable of its bundle and executes, ADD and SUB write D with the sum or difference modulo 2^32, one bundle later; ADDV, SUBV, NEG and ABS do the same and set ASR.OV exactly when the signed result does not fit; the queue and every other part of the machine are as the completion of a bundle leaves them. Choices of the model that it rests on: log entry 19. Each of these constructors is concluded to answer that next state, on the conditions named alone: add, sub, addv, subv, neg, abs (R46, R55). -/
def Obligations.IntegerSums : Prop :=
  ∀ (s : State) (y : Syl) (d a b : Reg),
    let A := s.dev.src y a
    let B := s.dev.src y b
    let t := (s.dev.home y).intDest d
    let ov := fun (v : Int) => if v < -2 ^ 31 ∨ 2 ^ 31 ≤ v then [Eff.land .asr 1 1] else []
    Completes s y (.add y d a b) [.land t (A + B).toNat 1]
      ∧ Completes s y (.sub y d a b) [.land t (A - B).toNat 1]
      ∧ Completes s y (.addv y d a b) (.land t (A + B).toNat 1 :: ov (A.toInt + B.toInt))
      ∧ Completes s y (.subv y d a b) (.land t (A - B).toNat 1 :: ov (A.toInt - B.toInt))
      ∧ Completes s y (.neg y d a) (.land t (-A).toNat 1 :: ov (-A.toInt))
      ∧ Completes s y (.abs y d a) (.land t (if A.toInt < 0 then -A else A).toNat 1 :: ov A.toInt.natAbs)

/-- Where it is the last syllable of its bundle and executes, each of these writes D one bundle later with the bitwise result, the sum (ADDI) or bitwise result with the immediate of R47, the smaller or larger operand (signed or unsigned), or the operand SEL selects by qS; it has no other effect of its own. Each of these constructors is concluded to answer that next state, on the conditions named alone: andd, orr, xor, andn, min, max, minu, maxu, addi, andi, ori, xori, sel (R47, R51). -/
def Obligations.LogicAndSelection : Prop :=
  ∀ (s : State) (y : Syl) (d a b : Reg) (imm : BitVec 10) (qs : Pred),
    let A := s.dev.src y a
    let B := s.dev.src y b
    let t := (s.dev.home y).intDest d
    Completes s y (.andd y d a b) [.land t (A &&& B).toNat 1]
      ∧ Completes s y (.orr y d a b) [.land t (A ||| B).toNat 1]
      ∧ Completes s y (.xor y d a b) [.land t (A ^^^ B).toNat 1]
      ∧ Completes s y (.andn y d a b) [.land t (A &&& ~~~B).toNat 1]
      ∧ Completes s y (.addi y d a imm none) [.land t (A + imm.signExtend 32).toNat 1]
      ∧ Completes s y (.andi y d a imm none) [.land t (A &&& imm.signExtend 32).toNat 1]
      ∧ Completes s y (.ori y d a imm none) [.land t (A ||| imm.signExtend 32).toNat 1]
      ∧ Completes s y (.xori y d a imm none) [.land t (A ^^^ imm.signExtend 32).toNat 1]
      ∧ (∀ q : Limm, Completes s y (.addi y d a imm (some q)) [.land t (A + (q ++ imm : BitVec 32)).toNat 1])
      ∧ (∀ q : Limm, Completes s y (.andi y d a imm (some q)) [.land t (A &&& (q ++ imm : BitVec 32)).toNat 1])
      ∧ (∀ q : Limm, Completes s y (.ori y d a imm (some q)) [.land t (A ||| (q ++ imm : BitVec 32)).toNat 1])
      ∧ (∀ q : Limm, Completes s y (.xori y d a imm (some q)) [.land t (A ^^^ (q ++ imm : BitVec 32)).toNat 1])
      ∧ Completes s y (.min y d a b) [.land t (if A.toInt ≤ B.toInt then A else B).toNat 1]
      ∧ Completes s y (.max y d a b) [.land t (if A.toInt ≤ B.toInt then B else A).toNat 1]
      ∧ Completes s y (.minu y d a b) [.land t (Nat.min A.toNat B.toNat) 1]
      ∧ Completes s y (.maxu y d a b) [.land t (Nat.max A.toNat B.toNat) 1]
      ∧ Completes s y (.sel y d a b qs) [.land t (if s.dev.psrc y qs then A else B).toNat 1]

/-- Where it is the last syllable of its bundle and executes, each shift writes D one bundle later. The count is B[5:0] or count6; a logical shift by 32 to 63 gives 0, an arithmetic one copies of the sign bit; a rotate uses the count modulo 32. Each of these constructors is concluded to answer that next state, on the conditions named alone: shl, shr, sar, rol, shli, shri, sari, roli (R48). -/
def Obligations.Shifts : Prop :=
  ∀ (s : State) (y : Syl) (d a b : Reg) (k : BitVec 6),
    let A := s.dev.src y a
    let n := (s.dev.src y b).toNat % 64
    let c := k.toNat
    let t := (s.dev.home y).intDest d
    let left := fun n => if n < 32 then A.toNat * 2 ^ n % 2 ^ 32 else 0
    let right := fun n => if n < 32 then A.toNat / 2 ^ n else 0
    let arith := fun n => if n < 32 then A.toInt / 2 ^ n else if A.msb then -1 else 0
    let around := fun n => (A <<< (n % 32) ||| A >>> (32 - n % 32)).toNat
    Completes s y (.shl y d a b) [.land t (left n) 1] ∧ Completes s y (.shli y d a k) [.land t (left c) 1]
      ∧ Completes s y (.shr y d a b) [.land t (right n) 1] ∧ Completes s y (.shri y d a k) [.land t (right c) 1]
      ∧ Completes s y (.sar y d a b) [.land t (BitVec.ofInt 32 (arith n)).toNat 1] ∧ Completes s y (.sari y d a k) [.land t (BitVec.ofInt 32 (arith c)).toNat 1]
      ∧ Completes s y (.rol y d a b) [.land t (around n) 1] ∧ Completes s y (.roli y d a k) [.land t (around c) 1]

/-- Where it is the last syllable of its bundle and executes, each of these writes D one bundle later with the leading zeros of A (32 for 0), its one bits, its low byte or halfword extended, or its bytes in reverse order. Each of these constructors is concluded to answer that next state, on the conditions named alone: clz, popc, sextb, sexth, zextb, zexth, bswap (R46, R55). -/
def Obligations.UnaryResults : Prop :=
  ∀ (s : State) (y : Syl) (d a : Reg),
    let A := s.dev.src y a
    let t := (s.dev.home y).intDest d
    Completes s y (.clz y d a) [.land t (if A.toNat = 0 then 32 else 31 - A.toNat.log2) 1]
      ∧ Completes s y (.popc y d a) [.land t ((List.range 32).countP (fun i => A.getLsbD i)) 1]
      ∧ Completes s y (.sextb y d a) [.land t ((A.setWidth 8).signExtend 32).toNat 1]
      ∧ Completes s y (.sexth y d a) [.land t ((A.setWidth 16).signExtend 32).toNat 1]
      ∧ Completes s y (.zextb y d a) [.land t (A.toNat % 256) 1]
      ∧ Completes s y (.zexth y d a) [.land t (A.toNat % 65536) 1]
      ∧ Completes s y (.bswap y d a) [.land t (A.toNat % 256 * 2 ^ 24 + A.toNat / 2 ^ 8 % 256 * 2 ^ 16 + A.toNat / 2 ^ 16 % 256 * 2 ^ 8 + A.toNat / 2 ^ 24) 1]

/-- Where it is the last syllable of its bundle and executes, a compare computes its condition on A and B, or on A and the immediate, and writes qT, or qT and its partner, one bundle later, by its mode. Each of these constructors is concluded to answer that next state, on the conditions named alone: cmp, cmpi (R49). -/
def Obligations.ComparesWritePredicates : Prop :=
  ∀ (s : State) (y : Syl) (qt : Pred) (a b : Reg) (cond : BitVec 3) (mode : BitVec 2) (imm : BitVec 6),
    let A := s.dev.src y a
    let B := s.dev.src y b
    let c := fun (V : Word) => match cond with
      | 0 => decide (A = V)
      | 1 => decide (A ≠ V)
      | 2 => decide (A.toInt < V.toInt)
      | 3 => decide (V.toInt ≤ A.toInt)
      | 4 => decide (A.toNat < V.toNat)
      | 5 => decide (V.toNat ≤ A.toNat)
      | 6 => decide (A &&& V ≠ 0)
      | 7 => decide (A &&& V = 0)
    let old := s.dev.psrc y qt
    let q := fun (n : Pred) (v : Bool) => Eff.land ((s.dev.home y).predDest n) (if v then 1 else 0) 1
    let effs := fun (v : Bool) => match mode with
      | 0 => [q qt v]
      | 1 => [q qt (old && v)]
      | 2 => [q qt (old || v)]
      | 3 => [q qt v, q (qt ^^^ 1) (!v)]
    Completes s y (.cmp y qt a b cond mode) (effs (c B))
      ∧ Completes s y (.cmpi y qt a cond mode imm none) (effs (c (imm.signExtend 32)))
      ∧ (∀ p : Limm, Completes s y (.cmpi y qt a cond mode imm (some p)) (effs (c ((p ++ imm : BitVec 28).signExtend 32))))

/-- Where it is the last syllable of its bundle and executes, each writes qD one bundle later; a destination q0 is no register, so nothing lands, whichever command names it, and q0 reads as 1. Each of these constructors is concluded to answer that next state, on the conditions named alone: pand, por, pxor, pandn, pnot (R38). -/
def Obligations.PredicateOperations : Prop :=
  ∀ (s : State) (y : Syl) (qd qa qb : Pred),
    let A := s.dev.psrc y qa
    let B := s.dev.psrc y qb
    let q := fun (v : Bool) => [Eff.land (if qd = 0 then .none else .q (s.dev.home y).mbank qd.toNat) (if v then 1 else 0) 1]
    Completes s y (.pand y qd qa qb) (q (A && B))
      ∧ Completes s y (.por y qd qa qb) (q (A || B))
      ∧ Completes s y (.pxor y qd qa qb) (q (A != B))
      ∧ Completes s y (.pandn y qd qa qb) (q (A && !B))
      ∧ Completes s y (.pnot y qd qa) (q (!A))
      ∧ s.dev.psrc y 0 = true
      ∧ (∀ (z : Bay) (free v l : Nat), z.predDest 0 = .none ∧ z.fly .none v l = z ∧ z.pred free 0 = true)

/-- Where it is the last syllable of its bundle and executes, MOVS writes LC or LK from the register, pushes it on the return stack, or writes q1 to q15 from its bits; MOVF writes the register from LC, LK, the popped entry, or the sixteen predicates with q0 as 1. A push or pop that must not trap is assumed for RS. Choices of the model that it rests on: log entry 30. Each of these constructors is concluded to answer that next state, on the conditions named alone: movs, movf (R52). -/
def Obligations.SpecialRegisterMoves : Prop :=
  ∀ (s : State) (y : Syl) (r : Reg),
    let x := s.dev.home y
    let V := s.dev.src y r
    let t := x.intDest r
    let rd := fun (z : Dest) => BitVec.ofNat 32 (x.read s.dev.free z)
    Completes s y (.movs y r 0) [.land (.lc x.mbank) V.toNat 1]
      ∧ Completes s y (.movs y r 1) [.land (.lk x.mbank) V.toNat 1]
      ∧ (x.pushTrap = none → Completes s y (.movs y r 2) [.rsPush V])
      ∧ Completes s y (.movs y r 3) ((List.range 15).map (fun n => .land (.q x.mbank (n + 1)) (if V.getLsbD (n + 1) then 1 else 0) 1))
      ∧ Completes s y (.movf y r 0) [.land t (rd (.lc x.mbank)).toNat 1]
      ∧ Completes s y (.movf y r 1) [.land t (rd (.lk x.mbank)).toNat 1]
      ∧ (x.popTrap = none → Completes s y (.movf y r 2) [.land t x.stack.peek.toNat 1, .rsPop])
      ∧ Completes s y (.movf y r 3) [.land t (BitVec.ofNat 32 ((List.range 16).map (fun n => (if x.pred s.dev.free (BitVec.ofNat 4 n) then 1 else 0) * 2 ^ n)).sum).toNat 1]

/-- Where it is the last syllable of its bundle and executes, each multiply writes D three bundles later with the low word of the product or with bits [63:32] of the signed or unsigned product; MULV sets ASR.OV, at the same distance, exactly when the signed product does not fit. Each of these constructors is concluded to answer that next state, on the conditions named alone: mul, mulh, mulhu, mulv (R56, R54). -/
def Obligations.Multiplies : Prop :=
  ∀ (s : State) (y : Syl) (d a b : Reg),
    let A := s.dev.src y a
    let B := s.dev.src y b
    let t := (s.dev.home y).intDest d
    let P := A.toInt * B.toInt
    Completes s y (.mul y d a b) [.land t (A.toNat * B.toNat % 2 ^ 32) 3]
      ∧ Completes s y (.mulh y d a b) [.land t (BitVec.ofInt 32 (P / 2 ^ 32)).toNat 3]
      ∧ Completes s y (.mulhu y d a b) [.land t (A.toNat * B.toNat / 2 ^ 32) 3]
      ∧ Completes s y (.mulv y d a b) (.land t (A.toNat * B.toNat % 2 ^ 32) 3 :: (if P < -2 ^ 31 ∨ 2 ^ 31 ≤ P then [.land .asr 1 3] else []))

/-- Where it is the last syllable of its bundle and executes, a divide-class syllable writes the quotient truncated toward zero, or the remainder, 20 bundles later, with the results and flags of R57 for a zero divisor and for the signed overflow; a zero divisor under DECCTL.ZT traps with cause 0x0C instead. Each of these constructors is concluded to answer that next state, on the conditions named alone: div, divu, rem, remu (R57). -/
def Obligations.Divides : Prop :=
  ∀ (s : State) (y : Syl) (d a b : Reg),
    let A := s.dev.src y a
    let B := s.dev.src y b
    let t := (s.dev.home y).intDest d
    let zt := (s.dev.home y).decctl.getLsbD 20
    let out := fun (v : Word) (flags : Nat) => Eff.land t v.toNat 20 :: (if flags = 0 then [] else [Eff.land .asr flags 20])
    let edge := A = 0x80000000 ∧ B = 0xFFFFFFFF
    (B = 0 → zt = true →
        TrapsWith s y (.div y d a b) 0x0C 1 0 0 ∧ TrapsWith s y (.divu y d a b) 0x0C 1 0 0
          ∧ TrapsWith s y (.rem y d a b) 0x0C 1 0 0 ∧ TrapsWith s y (.remu y d a b) 0x0C 1 0 0)
      ∧ (B = 0 → zt = false →
        Completes s y (.div y d a b) (out 0xFFFFFFFF 2) ∧ Completes s y (.divu y d a b) (out 0xFFFFFFFF 2)
          ∧ Completes s y (.rem y d a b) (out A 2) ∧ Completes s y (.remu y d a b) (out A 2))
      ∧ (B ≠ 0 →
        Completes s y (.divu y d a b) (out (BitVec.ofNat 32 (A.toNat / B.toNat)) 0)
          ∧ Completes s y (.remu y d a b) (out (BitVec.ofNat 32 (A.toNat % B.toNat)) 0)
          ∧ (edge → Completes s y (.div y d a b) (out 0x80000000 1) ∧ Completes s y (.rem y d a b) (out 0 0))
          ∧ (¬ edge → Completes s y (.div y d a b) (out (BitVec.ofInt 32 (A.toInt.tdiv B.toInt)) 0)
              ∧ Completes s y (.rem y d a b) (out (BitVec.ofInt 32 (A.toInt.tmod B.toInt)) 0)))

/-- A load or store of size k reaches A plus the scaled or long displacement, A plus the shifted index, A, or A minus the step, by its mode; the base update, with latency 1, writes A plus or minus the step in modes 0b10 and 0b11 and nothing in the others (R58, R59). -/
def Obligations.EffectiveAddresses : Prop :=
  ∀ (d : Dev) (y : Syl) (a : Reg) (low : BitVec 8) (p : Option Limm) (q : Limm) (k : Nat),
    let A := d.src y a
    d.ea y a 0 low none k = A + BitVec.ofInt 32 (low.toInt * k)
      ∧ d.ea y a 0 low (some q) k = A + (q ++ low : BitVec 30).signExtend 32
      ∧ d.ea y a 1 low p k = A + d.src y (low.extractLsb' 3 5) <<< (low.extractLsb' 1 2).toNat
      ∧ d.ea y a 2 low p k = A
      ∧ d.ea y a 3 low p k = A - low.setWidth 32
      ∧ d.baseEffs y a 0 low = [] ∧ d.baseEffs y a 1 low = []
      ∧ d.baseEffs y a 2 low = [.land ((d.home y).intDest a) (A + low.setWidth 32).toNat 1]
      ∧ d.baseEffs y a 3 low = [.land ((d.home y).intDest a) (A - low.setWidth 32).toNat 1]

/-- Where it is the last syllable of its bundle and executes, and its access translates to plain memory that answers and is not poisoned, a load completes: it writes D three bundles later with the bytes read, low byte first, sign- or zero-extended, and updates its base one bundle later; where the line is held it has no other effect, else the bay takes the miss after the bundle. An LDW that translates to a device register completes too: the register is read at the end of the bundle, as a long miss. Choices of the model that it rests on: log entries 10, 31. Each of these constructors is concluded to answer that next state, on the conditions named alone: ldb, ldbu, ldh, ldhu, ldw (R58). -/
def Obligations.Loads : Prop :=
  ∀ (s : State) (y : Syl) (d a : Reg) (am : BitVec 2) (low : BitVec 8) (p : Option Limm) (hs : List (Nat × Nat)),
    let D := s.dev
    let x := D.home y
    let n := y.core.toNat
    let t := x.intDest d
    let va := fun (k : Nat) => (D.ea y a am low p k).toNat
    let ok := fun (k : Nat) (form : Bool) =>
      D.reach n y.bay.toNat x.level .load form (va k) k = .ok hs ∧ D.region (hs.headD (0, 0)).1 ≠ .devreg ∧ D.unreadable (va k) hs = none
    let v := fromLe (D.loadHalves n hs)
    let es := fun (k : Nat) (w : Word) => D.baseEffs y a am low ++ [.land t w.toNat 3] ++ D.missEffs n y.bay.toNat x.level (va k) hs
    let hit := fun (k : Nat) (w : Word) => D.baseEffs y a am low ++ [.land t w.toNat 3]
    let held := fun (k : Nat) => D.missOf n y.bay.toNat x.level (va k) hs = none
    (ok 1 false → Completes s y (.ldb y d a am low p) (es 1 ((BitVec.ofNat 8 v).signExtend 32)))
      ∧ (ok 1 false → Completes s y (.ldbu y d a am low p) (es 1 (BitVec.ofNat 32 v)))
      ∧ (ok 2 false → Completes s y (.ldh y d a am low p) (es 2 ((BitVec.ofNat 16 v).signExtend 32)))
      ∧ (ok 2 false → Completes s y (.ldhu y d a am low p) (es 2 (BitVec.ofNat 32 v)))
      ∧ (ok 4 true → Completes s y (.ldw y d a am low p) (es 4 (BitVec.ofNat 32 v)))
      ∧ (ok 1 false → held 1 → Completes s y (.ldb y d a am low p) (hit 1 ((BitVec.ofNat 8 v).signExtend 32)) ∧ Completes s y (.ldbu y d a am low p) (hit 1 (BitVec.ofNat 32 v)))
      ∧ (ok 2 false → held 2 → Completes s y (.ldh y d a am low p) (hit 2 ((BitVec.ofNat 16 v).signExtend 32)) ∧ Completes s y (.ldhu y d a am low p) (hit 2 (BitVec.ofNat 32 v)))
      ∧ (ok 4 true → held 4 → Completes s y (.ldw y d a am low p) (hit 4 (BitVec.ofNat 32 v)))
      ∧ (D.reach n y.bay.toNat x.level .load true (va 4) 4 = .ok hs → D.region (hs.headD (0, 0)).1 = .devreg →
          Completes s y (.ldw y d a am low p) (D.baseEffs y a am low ++ [.devLoad ((hs.headD (0, 0)).1 - devBase) t, .miss true]))

/-- Where it is the last syllable of its bundle and executes, and its access translates, a store with room in the 16-entry store buffer enters the low bytes of D, low byte first, at the translated address (two entries where the access is split), and updates its base one bundle later; without room the bay stops with the bundle open. Choices of the model that it rests on: log entry 31. Each of these constructors is concluded to answer that next state, on the conditions named alone: stb, sth, stw (R58). -/
def Obligations.Stores : Prop :=
  ∀ (s : State) (y : Syl) (d a : Reg) (am : BitVec 2) (low : BitVec 8) (p : Option Limm) (pa pb k0 : Nat),
    let D := s.dev
    let x := D.home y
    let n := y.core.toNat
    let V := (D.src y d).toNat
    let va := fun (k : Nat) => (D.ea y a am low p k).toNat
    let goes := fun (k : Nat) (hs : List (Nat × Nat)) => D.reach n y.bay.toNat x.level .store (decide (k = 4)) (va k) k = .ok hs
    let whole := fun (k : Nat) => D.baseEffs y a am low ++ [.store pa ((List.range k).map (fun i => BitVec.ofNat 8 (V / 256 ^ i))) (D.region pa == .devreg) D.free]
    let halves := fun (k : Nat) => D.baseEffs y a am low ++
      [.store pa ((List.range k).map (fun i => BitVec.ofNat 8 (V / 256 ^ i)) |>.take k0) false D.free, .store pb ((List.range k).map (fun i => BitVec.ofNat 8 (V / 256 ^ i)) |>.drop k0) false D.free]
    let room := fun (m : Nat) => (D.core n).sb.length + m ≤ 16
    let st : BayState := if D.headOnDdr n then .miss else .frozen
    (goes 1 [(pa, 1)] → if room 1 then Completes s y (.stb y d a am low p) (whole 1) else Waits s y (.stb y d a am low p) st .storeBuffer)
      ∧ (goes 2 [(pa, 2)] → if room 1 then Completes s y (.sth y d a am low p) (whole 2) else Waits s y (.sth y d a am low p) st .storeBuffer)
      ∧ (goes 4 [(pa, 4)] → if room 1 then Completes s y (.stw y d a am low p) (whole 4) else Waits s y (.stw y d a am low p) st .storeBuffer)
      ∧ (goes 2 [(pa, k0), (pb, 2 - k0)] → if room 2 then Completes s y (.sth y d a am low p) (halves 2) else Waits s y (.sth y d a am low p) st .storeBuffer)
      ∧ (goes 4 [(pa, k0), (pb, 4 - k0)] → if room 2 then Completes s y (.stw y d a am low p) (halves 4) else Waits s y (.stw y d a am low p) st .storeBuffer)

/-- Where it is the last syllable of its bundle and executes, an atomic operation on an unaligned address traps with cause 0x04; on an aligned one that translates to memory that answers, with no buffered store to the word, its effect writes the new word of Table 2.13 to memory and lands the old word in D one bundle later, and a miss may stop the bay. Choices of the model that it rests on: log entries 10, 31. Each of these constructors is concluded to answer that next state, on the conditions named alone: swapw, casw, faddw, fandw, forw (R61). -/
def Obligations.AtomicOperations : Prop :=
  ∀ (s : State) (y : Syl) (d a b : Reg) (pa : Nat) (e : Dev) (n c l : Nat) (v w : Word) (t : Dest),
    let D := s.dev
    let x := D.home y
    let va := (D.src y a).toNat
    let B := D.src y b
    let V := D.src y d
    let ok := va % 4 = 0 ∧ D.reach y.core.toNat y.bay.toNat x.level .store false va 4 = .ok [(pa, 4)] ∧ D.unreadable va [(pa, 4)] = none
      ∧ ∀ z ∈ (D.core y.core.toNat).sb, ¬ (z.pa < pa + 4 ∧ pa < z.pa + z.data.length)
    let es := fun (op : Nat) => [Eff.atomic pa op B V (x.intDest d), .miss ((D.missAt y.core.toNat y.bay.toNat x.level va pa).getD false)]
    let old := BitVec.ofNat 32 (e.num pa 4)
    let eff := fun (op : Nat) (new : Word) => e.apply n c l (.atomic pa op v w t) = (e.put pa (toLe 4 new.toNat)).modBay n c (fun z => z.fly t old.toNat 1)
    (va % 4 ≠ 0 → TrapsWith s y (.swapw y d a b) 4 1 (D.src y a) 0 ∧ TrapsWith s y (.casw y d a b) 4 1 (D.src y a) 0 ∧ TrapsWith s y (.faddw y d a b) 4 1 (D.src y a) 0
        ∧ TrapsWith s y (.fandw y d a b) 4 1 (D.src y a) 0 ∧ TrapsWith s y (.forw y d a b) 4 1 (D.src y a) 0)
      ∧ (ok → Completes s y (.swapw y d a b) (es 0) ∧ Completes s y (.casw y d a b) (es 1) ∧ Completes s y (.faddw y d a b) (es 2)
        ∧ Completes s y (.fandw y d a b) (es 3) ∧ Completes s y (.forw y d a b) (es 4))
      ∧ eff 0 v ∧ eff 1 (if old = w then v else old) ∧ eff 2 (old + v) ∧ eff 3 (old &&& v) ∧ eff 4 (old ||| v)

/-- Where it is the last syllable of its bundle and executes, BR goes to the bundle plus the sign-extended displacement in syllables, BRI to A and RETL to LK, both with the two low bits ignored; DB and DBLC leave a zero counter alone, else write it less one, one bundle later, and branch while the result is not zero. Each of these constructors is concluded to answer that next state, on the conditions named alone: br, bri, retl, db, dblc (R62). -/
def Obligations.BranchesTransferControl : Prop :=
  ∀ (s : State) (y : Syl) (a : Reg) (d15 : BitVec 15) (d20 : BitVec 20),
    let x := s.dev.home y
    let A := s.dev.src y a
    let lc := BitVec.ofNat 32 (x.read s.dev.free (.lc x.mbank))
    let lk := BitVec.ofNat 32 (x.read s.dev.free (.lk x.mbank))
    let count := fun (c : Word) (t : Dest) (goal : Word) =>
      if c = 0 then [] else if c = 1 then [Eff.land t 0 1] else [.land t (c - 1).toNat 1, .goto goal]
    Completes s y (.br y d20) [.goto (x.pc + d20.signExtend 32 * 4)]
      ∧ Completes s y (.bri y a) [.goto (A &&& 0xFFFFFFFC)]
      ∧ Completes s y (.retl y) [.goto (lk &&& 0xFFFFFFFC)]
      ∧ Completes s y (.db y a d15) (count A (x.intDest a) (x.pc + d15.signExtend 32 * 4))
      ∧ Completes s y (.dblc y d20) (count lc (.lc x.mbank) (x.pc + d20.signExtend 32 * 4))

/-- Where it is the last syllable of its bundle and executes, a call goes to its target, lands the address of the following bundle in LK one bundle later and pushes it; a return pops its target; the W forms advance or retreat the window, once enough slots are resident. A push on 16 entries or a pop on none traps with cause 0x0D where RSCTL.TRAP is set, for MOVS and MOVF RS too. Choices of the model that it rests on: log entries 19, 30. Each of these constructors is concluded to answer that next state, on the conditions named alone: call, callW, calli, calliW, ret, retW (R62, R64). -/
def Obligations.CallsAndReturns : Prop :=
  ∀ (s : State) (y : Syl) (a : Reg) (d19 : BitVec 19) (w : Bundle),
    let x := s.dev.home y
    let A := s.dev.src y a &&& 0xFFFFFFFC
    let T := x.pc + d19.signExtend 32 * 4
    let nxt := w.pc + BitVec.ofNat 32 (4 * w.len)
    let es := fun (t : Word) => [Eff.land (.lk x.mbank) nxt.toNat 1, .rsPush nxt, .goto t]
    let full := x.trap = true ∧ x.stack.depth = 16
    let bare := x.trap = true ∧ x.stack.depth = 0
    x.bundle = some w →
      (¬ full → Completes s y (.call y d19) (es T) ∧ Completes s y (.calli y a) (es A)
        ∧ (x.res ≤ 9 → Completes s y (.callW y d19) (es T ++ [.advance]) ∧ Completes s y (.calliW y a) (es A ++ [.advance])))
      ∧ (¬ bare → Completes s y (.ret y) [.rsPop, .goto (x.stack.peek &&& 0xFFFFFFFC)]
        ∧ (3 ≤ x.res → Completes s y (.retW y) [.rsPop, .goto (x.stack.peek &&& 0xFFFFFFFC), .retreat]))
      ∧ (full → TrapsWith s y (.call y d19) 0x0D 1 0 0 ∧ TrapsWith s y (.calli y a) 0x0D 1 0 0 ∧ TrapsWith s y (.movs y a 2) 0x0D 1 0 0)
      ∧ (bare → TrapsWith s y (.ret y) 0x0D 2 0 0 ∧ TrapsWith s y (.movf y a 2) 0x0D 2 0 0)
      ∧ (10 ≤ x.res → x.sf = false → Waits s y (.callW y d19) .frozen .window ∧ Waits s y (.calliW y a) .frozen .window)
      ∧ (x.res ≤ 2 → x.mdepth ≠ 0 → x.sf = false → Waits s y (.retW y) .frozen .window)

/-- As the next syllable of an open bundle, REP latches imm8, or its register saturated to 255, or the count a return left in REPC. With the count 0 the repeated syllable takes no effect and the bundle completes; with the count 1 an ADD takes effect once and the bundle completes. Choices of the model that it rests on: log entry 20. Each of these constructors is concluded to answer that next state, on the conditions named alone: add, rep (R70). -/
def Obligations.RepeatPrefix : Prop :=
  ∀ (s : State) (y : Syl) (cr : Reg) (im : Bool) (imm : BitVec 8) (rest : List Instr) (u : Bundle) (d a b : Reg),
    let D := s.dev
    let n := y.core.toNat
    let c := y.bay.toNat
    let x := D.home y
    let N := if x.afterRet && x.repc.getLsbD 31 then x.repc.toNat % 256 else if im then imm.toNat else Nat.min (D.src y cr).toNat 255
    let ready := Powered s ∧ D.issuing n c = true ∧ x.bundle = some u ∧ x.guard D.free y = true ∧ u.effs = [] ∧ u.excs = []
    (ready → u.rep = none → u.todo = .rep y cr im imm :: rest →
        exec (.rep y cr im imm) s = .next { s with dev := D.modBay n c (fun z => { z with bundle := some { u with
          rep := some N, todo := rest, free := if rest = [] then 1 else 0, len := if rest = [] then 2 else u.len } }) })
      ∧ (ready → u.rep = some 0 → u.todo = [.add y d a b] → u.free = 0 → exec (.add y d a b) s = .next (completes s y u []))
      ∧ (ready → u.rep = some 1 → u.todo = [.add y d a b] → u.free = 0 →
          exec (.add y d a b) s = .next (completes { s with dev := D.modBay n c (fun z => z.fly (x.intDest d) (D.src y a + D.src y b).toNat 1) } y u []))

/-- Where it is the last syllable of its bundle and executes, MFC lands the control register in D one bundle later; the register number is checked against its read level, below which the syllable traps with cause 0x03, reason 2; reading ETIME_L latches the rest of the time for ETIME_H and ETIME_T, and writes of the three are ignored; reading KPV lands the key byte of the granule KPA names. Each of these constructors is concluded to answer that next state, on the conditions named alone: mfc, mfcKpv, mfcEtimeL (R172). -/
def Obligations.ControlRegisterReads : Prop :=
  ∀ (s : State) (y : Syl) (r : Reg) (c : BitVec 6) (a : Nat) (e : Dev) (n b l : Nat),
    let D := s.dev
    let x := D.home y
    let N := y.core.toNat
    let t := x.intDest r
    let v := fun (k : Nat) => D.ctlValue N y.bay.toNat k
    let time := [Eff.land t (D.ep.epoch % 2 ^ 32) 1, .act .etime D.ep.epoch D.ep.tick 0]
    let key := D.keyPort N = some a ∧ D.unreadable 0 [(a, 1)] = none
    (c ≠ 21 → c ≠ 52 → ctlReadLevel c.toNat ≤ x.level → Completes s y (.mfc y r c) [.land t (v c.toNat).toNat 1])
      ∧ (c ≠ 21 → x.level < ctlReadLevel c.toNat → TrapsWith s y (.mfc y r c) 3 2 0 0)
      ∧ Completes s y (.mfc y r 21) time ∧ Completes s y (.mfcEtimeL y r) time
      ∧ e.apply n b l (.act .etime a l 0) = e.modBay n b (fun z => { z with etH := BitVec.ofNat 32 (a / 2 ^ 32), etT := BitVec.ofNat 32 l })
      ∧ (1 ≤ x.level → key → Completes s y (.mfcKpv y r) [.land t (BitVec.ofNat 32 (D.byte a).toNat).toNat 1]
          ∧ Completes s y (.mfc y r 52) [.land t (BitVec.ofNat 32 (D.byte a).toNat).toNat 1])
      ∧ (x.level = 0 → TrapsWith s y (.mfcKpv y r) 3 2 0 0)
      ∧ v 0 = x.status ∧ v 3 = x.tsbp ∧ v 4 = x.kmask ∧ v 5 = x.astag ∧ v 6 = x.dirty ∧ v 14 = x.repc ∧ v 24 = x.pend ∧ v 25 = x.bayctl ∧ v 22 = x.etH ∧ v 23 = x.etT
      ∧ (∀ w, e.apply n b l (.mtc 21 w) = e ∧ e.apply n b l (.mtc 22 w) = e ∧ e.apply n b l (.mtc 23 w) = e)
      ∧ v 1 = (if x.level = 3 then x.causeM else x.causeS) ∧ v 2 = (if x.level = 3 then x.epcM else x.epcS) ∧ v 10 = (if x.level = 3 then x.faddrM else x.faddrS)

/-- Where it is the last syllable of its bundle and executes at the write level or above, MTC has its write as an effect of the bundle; below the level it traps with cause 0x03, reason 2. A write to STATUS leaves PL and MB; TSBP takes a 4 KiB-aligned Loam address and ASTB a 32 KiB-aligned one, else cause 0x06 with the value as FADDR; the flags of ASR and DECCTL can only be cleared. Choices of the model that it rests on: log entry 26. Each of these constructors is concluded to answer that next state, on the conditions named alone: mtc, mtcStatus, mtcTsbp, mtcAstb, mtcAstag, mtcKmask, mtcWinctl, mtcDecctl (R208, R195, R205, R228). -/
def Obligations.ControlRegisterWrites : Prop :=
  ∀ (s : State) (y : Syl) (r : Reg) (m : Bool) (c : BitVec 6) (e : Dev) (n b l : Nat) (v : Word),
    let x := s.dev.home y
    let V := s.dev.src y r
    let own := fun (k : Nat) => k = 3 ∨ k = 48 ∨ k = 50 ∨ k = 52
    let z := e.bay n b
    let wr := fun (k : Nat) (q : Bay) => e.apply n b l (.mtc k v) = e.setBay n b q
    let good := fun (w : Nat) => V.toNat % w = 0 ∧ V.toNat < 0x08000000
    (1 ≤ x.level → Completes s y (.mtcStatus y r) [.mtc 0 V] ∧ Completes s y (.mtcKmask y r) [.mtc 4 V] ∧ Completes s y (.mtcWinctl y r) [.mtc 7 V]
        ∧ Completes s y (.mtcAstag y r false) [.mtc 5 V])
      ∧ (x.level = 3 → Completes s y (.mtcAstag y r true) [.mtc 49 V])
      ∧ Completes s y (.mtcDecctl y r) [.mtc 15 V]
      ∧ (1 ≤ x.level → (good 0x1000 → Completes s y (.mtcTsbp y r) [.mtc 3 V]) ∧ (¬ good 0x1000 → TrapsWith s y (.mtcTsbp y r) 6 0x10 V 0))
      ∧ (x.level = 3 → (good 0x8000 → Completes s y (.mtcAstb y r) [.mtc 48 V]) ∧ (¬ good 0x8000 → TrapsWith s y (.mtcAstb y r) 6 0x11 V 0))
      ∧ (ctlWriteLevel c.toNat ≤ x.level → ¬ own c.toNat → Completes s y (.mtc y r c) [.mtc c.toNat V])
      ∧ (x.level < ctlWriteLevel c.toNat → c ≠ 9 → TrapsWith s y (.mtc y r c) 3 2 0 0)
      ∧ (x.level = 0 → TrapsWith s y (.mtcStatus y r) 3 2 0 0 ∧ TrapsWith s y (.mtcKmask y r) 3 2 0 0 ∧ TrapsWith s y (.mtcTsbp y r) 3 2 0 0
        ∧ TrapsWith s y (.mtcWinctl y r) 3 2 0 0 ∧ TrapsWith s y (.mtcAstag y r m) 3 2 0 0 ∧ TrapsWith s y (.mtcAstb y r) 3 2 0 0)
      ∧ wr 0 { z with status := (v &&& 0xE4) ||| (z.status &&& 0x0B) } ∧ wr 3 { z with tsbp := v } ∧ wr 5 { z with astag := v &&& 0xFFF }
      ∧ wr 12 { z with asr := z.asr &&& v &&& 3 } ∧ wr 15 { z with decctl := (v &&& 0xFF1FF000) ||| (z.decctl &&& v &&& 0x3F) }
      ∧ wr 49 { z with mastag := v &&& 0xFFF } ∧ (z.level = 3 → wr 4 { z with kmask := v })
      ∧ e.apply n b l (.mtc 48 v) = e.modCore n (fun k => { k with astb := v })
      ∧ (∀ k, k = 1 ∨ k = 2 ∨ k = 10 ∨ k = 20 ∨ k = 21 ∨ k = 22 ∨ k = 23 ∨ k = 26 → e.apply n b l (.mtc k v) = e)

/-- Where it is the last syllable of its bundle and executes at S level or above, MTC to KPV traps by the first check of R246 that fails, in order, else writes the key byte of the granule KPA names; MFC of KPV traps where no key is named. MTC to TLOCK with LK clear, or with LK set and a walk that finds a page outside the holes and the key table, is an effect of the bundle; a walk fault, and then a page the checks of Table 7.7 refuse, traps with FADDR the page. Choices of the model that it rests on: log entries 13, 33. Each of these constructors is concluded to answer that next state, on the conditions named alone: mtcKpv, mtcTlock (R246, R238). -/
def Obligations.KeyPortAndTlbLock : Prop :=
  ∀ (s : State) (y : Syl) (r : Reg) (fab : Bool) (a c k l b m : Nat) (e : Dev) (w : WalkHit),
    let D := s.dev
    let x := D.home y
    let V := D.src y r
    let n := y.core.toNat
    let va := V.toNat / 4096 * 4096
    let open_ := fun (v : Nat) => (D.inForce midCPOL).getLsbD (v % 32) = true
    let key := D.keyPort n
    let walk := D.walk n (x.tag x.level) va fab
    let pa := (w.entry (x.tag x.level) va).physical va
    1 ≤ x.level →
      (key = none → TrapsWith s y (.mtcKpv y r) 7 0x12 0 0 ∧ TrapsWith s y (.mfcKpv y r) 7 0x12 0 0)
      ∧ (key = some a → V.getLsbD 7 = true → TrapsWith s y (.mtcKpv y r) 2 3 0 0)
      ∧ (key = some a → V.getLsbD 7 = false → x.level ≠ 3 → ¬ open_ V.toNat → TrapsWith s y (.mtcKpv y r) 7 0x10 0 0)
      ∧ (key = some a → V.getLsbD 7 = false → x.level ≠ 3 → open_ V.toNat → ¬ open_ (D.byte a).toNat → TrapsWith s y (.mtcKpv y r) 7 0x11 0 0)
      ∧ (key = some a → V.getLsbD 7 = false → x.level = 3 ∨ (open_ V.toNat ∧ open_ (D.byte a).toNat) → D.unreadable 0 [(a, 1)] = none →
          Completes s y (.mtcKpv y r) [.act .kpv a (V.toNat % 256) 0])
      ∧ e.apply m b l (.act .kpv a c 0) = e.put a [BitVec.ofNat 8 c]
      ∧ (V.getLsbD 0 = false → Completes s y (.mtcTlock y { reg := r, fab := fab }) [.act .tlock V.toNat 0 0])
      ∧ (V.getLsbD 0 = true → walk = .ok w → D.region pa ≠ .hole → D.inKeyTable pa 1 = false → Completes s y (.mtcTlock y { reg := r, fab := fab }) [.act .tlock V.toNat w.pte w.code])
      ∧ (V.getLsbD 0 = true → walk = .error (c, k) → TrapsWith s y (.mtcTlock y { reg := r, fab := fab }) c k (BitVec.ofNat 32 va) 0)
      ∧ (V.getLsbD 0 = true → walk = .ok w → D.region pa = .hole → TrapsWith s y (.mtcTlock y { reg := r, fab := fab }) 0x06 0x15 (BitVec.ofNat 32 va) 0)
      ∧ (V.getLsbD 0 = true → walk = .ok w → D.region pa ≠ .hole → D.inKeyTable pa 1 = true → TrapsWith s y (.mtcTlock y { reg := r, fab := fab }) 0x06 0x14 (BitVec.ofNat 32 va) 0)

/-- Where it is the last syllable of its bundle and executes, FENCE.S holds the bay while it has buffered stores; SYNC.I takes the flushed lines of the bay out of the instruction cache; IFLUSH marks the two blocks of the line its address translates to, or nothing; SYNC.T holds the bay while an invalidation of its is not complete; a TLBI drops its unlocked entries at the target cores and notes the invalidation; below their level they trap with cause 0x03, reason 1; BRK traps with cause 0x12, reason 1. Choices of the model that it rests on: log entries 10, 15, 33. Each of these constructors is concluded to answer that next state, on the conditions named alone: fenceS, syncI, iflush, syncT, tlbiVa, tlbiTag, tlbiAll, tlbiAllk, brk (R256, R259, R239). -/
def Obligations.FencesFlushesAndInvalidations : Prop :=
  ∀ (s : State) (y : Syl) (r a : Reg) (g : Bool) (e : Dev) (n b l k v : Nat),
    let x := s.dev.home y
    let A := s.dev.src y a
    let gn := if g then 1 else 0
    let act := fun (q : Act) (v w z : Nat) => e.apply n b l (.act q v w z)
    let drop := fun (f : Core → Core) => e.invalidate n b g f
    Completes s y (.fenceS y) [.act .fence 0 0 0] ∧ Completes s y (.syncI y) [.act .syncI 0 0 0]
      ∧ Completes s y (.iflush y a) [.iflush (s.dev.flushLine y A.toNat)]
      ∧ (1 ≤ x.level → Completes s y (.syncT y) [.act .syncT 0 0 0] ∧ Completes s y (.tlbiVa y r a g) [.act .tlbiVa A.toNat ((s.dev.src y r).toNat % 4096) gn]
          ∧ Completes s y (.tlbiTag y a g) [.act .tlbiTag (A.toNat % 4096) 0 gn] ∧ Completes s y (.tlbiAll y g) [.act .tlbiAll 0 0 gn])
      ∧ (x.level = 3 → Completes s y (.tlbiAllk y g) [.act .tlbiAllk 0 0 gn])
      ∧ (x.level = 0 → TrapsWith s y (.syncT y) 3 1 0 0 ∧ TrapsWith s y (.tlbiVa y r a g) 3 1 0 0 ∧ TrapsWith s y (.tlbiTag y a g) 3 1 0 0
          ∧ TrapsWith s y (.tlbiAll y g) 3 1 0 0 ∧ TrapsWith s y (.tlbiAllk y g) 3 1 0 0)
      ∧ TrapsWith s y (.brk y) 0x12 1 0 0
      ∧ ((∀ q ∈ (e.core n).sb ++ (e.core n).devOut, q.bay ≠ b) → act .fence 0 0 0 = e)
      ∧ ((∃ q ∈ (e.core n).sb ++ (e.core n).devOut, q.bay = b) → act .fence 0 0 0 = e.setBay n b ((e.bay n b).waitFor (if e.fenceIsLong n b then .miss else .frozen) .fence))
      ∧ act .syncI 0 0 0 = e.modCore n (fun c => { c with icache := c.icache.filter (fun q => !c.iflushed.contains (b, q.1)), iflushed := c.iflushed.filter (fun p => p.1 != b) })
      ∧ e.apply n b l (.iflush none) = e
      ∧ e.apply n b l (.iflush (some k)) = e.modCore n (fun c => { c with iflushed := c.iflushed ++ [(b, 2 * k), (b, 2 * k + 1)] })
      ∧ ((∃ p ∈ (e.core n).invs, p.1 = b) → act .syncT 0 0 0 = e.setBay n b ((e.bay n b).waitFor .waiting .syncT))
      ∧ act .tlbiVa v k gn = drop (fun c => c.keepTlb (fun q => !q.covers k v) (fun _ => true))
      ∧ act .tlbiTag v 0 gn = drop (fun c => c.keepTlb (fun q => q.perm.getLsbD 5 || q.tag != v) (fun t => t != v))
      ∧ act .tlbiAll 0 0 gn = drop (fun c => { c with itlb := [], dtlb := [], tlb2 := [], ast := [] })
      ∧ act .tlbiAllk 0 0 gn = drop (fun c => { c with itlb := [], dtlb := [], tlb2 := [], ast := [], lockD := [], lockI := [] })

/-- Where it is the last syllable of its bundle and executes, each operation of majors 0x21 to 0x25 forms its result from its operands under DECCTL.RM, rounded once; a condition whose trap is enabled raises cause 0x0B with the reason of the first such condition (invalid, division by zero, overflow); otherwise the result lands after the latency of Table 3.8 and its flags set DECCTL bits at the same distance. Choices of the model that it rests on: log entries 8, 86. Each of these constructors is concluded to answer that next state, on the conditions named alone: dadd, dsub, dmul, ddiv, dqua, drni, dneg, dabs, dcps, daddX, dsubX, dmulX, ddivX, dquaX, drniX, dnegX, dabsX, dcpsX, cvtX, cvtD, cvid, cvdi, cvdp, cvxp (R101, R95, R87). -/
def Obligations.DecimalArithmeticAndConversions : Prop :=
  ∀ (s : State) (y : Syl) (d a b : DReg) (ra : Reg),
    let A := s.dev.dsrc y a
    let B := s.dev.dsrc y b
    let ctl := (s.dev.home y).decctl.toNat
    let rm := ctl / 2 ^ 24 % 8
    let on := fun (k : Nat) => ctl.testBit k
    let gives := fun (i : Instr) (t : Dest) (lat v : Nat) (f : DFlags) =>
      (f.vf && on 18 → TrapsWith s y i 0x0B 1 0 0)
        ∧ (!(f.vf && on 18) && f.zf && on 17 → TrapsWith s y i 0x0B 2 0 0)
        ∧ (!(f.vf && on 18) && !(f.zf && on 17) && f.of && on 16 → TrapsWith s y i 0x0B 3 0 0)
        ∧ (!(f.vf && on 18) && !(f.zf && on 17) && !(f.of && on 16) →
            Completes s y i (.land t v lat :: (if f.toWord = 0 then [] else [.land .decctl f.toWord.toNat lat])))
    let r := fun (i : Instr) (lat : Nat) (o : DOut) => gives i (.d d.toNat) lat o.val.toNat o.fl
    r (.dadd y d a b) 3 (decAdd .d64 rm A B) ∧ r (.dsub y d a b) 3 (decSub .d64 rm A B) ∧ r (.dmul y d a b) 3 (decMul .d64 rm A B)
      ∧ r (.ddiv y d a b) 22 (decDiv .d64 rm A B) ∧ r (.dqua y d a b) 3 (decQua .d64 rm A B) ∧ r (.drni y d a) 3 (decRni .d64 rm A)
      ∧ r (.dneg y d a) 1 (decNeg .d64 A) ∧ r (.dabs y d a) 1 (decAbs .d64 A) ∧ r (.dcps y d a b) 1 (decCps .d64 A B)
      ∧ r (.daddX y d a b) 4 (decAdd .d128 rm A B) ∧ r (.dsubX y d a b) 4 (decSub .d128 rm A B) ∧ r (.dmulX y d a b) 7 (decMul .d128 rm A B)
      ∧ r (.ddivX y d a b) 40 (decDiv .d128 rm A B) ∧ r (.dquaX y d a b) 4 (decQua .d128 rm A B) ∧ r (.drniX y d a) 4 (decRni .d128 rm A)
      ∧ r (.dnegX y d a) 1 (decNeg .d128 A) ∧ r (.dabsX y d a) 1 (decAbs .d128 A) ∧ r (.dcpsX y d a b) 1 (decCps .d128 A B)
      ∧ r (.cvtX y d a) 2 (decWiden rm A) ∧ r (.cvtD y d a) 3 (decNarrow rm A) ∧ r (.cvid y d ra) 3 (decFromInt rm (s.dev.src y ra))
      ∧ gives (.cvdi y ra a) ((s.dev.home y).intDest ra) 3 (decToInt rm A).1.toNat (decToInt rm A).2
      ∧ (∀ n : BitVec 5, r (.cvdp y d a n) 4 (decToPacked .d64 rm n.toNat A) ∧ r (.cvxp y d a n) 4 (decToPacked .d128 rm n.toNat A))

/-- The sum or difference of finite operands is the exact sum at the smaller exponent, and the product the exact product at the sum of the exponents, each rounded once; an exact zero sum of opposite signs is +0, or -0 toward minus infinity; an exact result that fits the format is delivered unchanged and without flags; a signalling NaN is quieted with VF; every value 0 to 999 survives its declet (R90, R92). -/
def Obligations.DecimalResultsRoundOnce : Prop :=
  ∀ (f : DFmt) (rm : Nat) (s t : Bool) (c k : Nat) (e g : Int) (v : DVal),
    let val := fun (s : Bool) (c : Nat) (e g : Int) => (if s then -1 else 1) * ((c : Int) * 10 ^ (e - g).toNat)
    let low := min e g
    let sum := val s c e low + val t k g low
    (sum ≠ 0 → f.add rm (.fin s c e) (.fin t k g) = f.round rm (decide (sum < 0)) sum.natAbs low)
      ∧ (sum = 0 → s = t → f.add rm (.fin s c e) (.fin t k g) = f.round rm s 0 low)
      ∧ (sum = 0 → s ≠ t → f.add rm (.fin s c e) (.fin t k g) = f.round rm (decide (rm = 6)) 0 low)
      ∧ f.mul rm (.fin s c e) (.fin t k g) = f.round rm (s != t) (c * k) (e + g)
      ∧ (c ≠ 0 → digits c ≤ f.p → f.etiny ≤ e → e ≤ f.eqmax → f.round rm s c e = (.fin s c e, {}))
      ∧ f.round rm s 0 e = (.fin s 0 (max f.etiny (min e f.eqmax)), {})
      ∧ f.add rm (.nan s true c) v = (.nan s false c, { vf := true }) ∧ f.mul rm (.nan s true c) v = (.nan s false c, { vf := true })
      ∧ (∀ n < 1000, decodeDeclet (encodeDeclet n) = n)

/-- Where it is the last syllable of its bundle and executes, a packed operation on valid operands lands its result after the latency of Table 3.8, with its flags, and qDQ as 0 where DQ names a predicate; an invalid operand traps with cause 0x0A and its reason under DX, else lands the substitute (the invalid-packed pattern, a data-invalid NaN, or false), sets DF, and sets qDQ to 1. DCMP and PCMP write qT by Table 3.9. Choices of the model that it rests on: log entry 8. Each of these constructors is concluded to answer that next state, on the conditions named alone: cvpd, cvpx, padd, psub, pshl, pshr, pchk, dcmp, pcmp (R97, R104). -/
def Obligations.PackedOperationsAndCompares : Prop :=
  ∀ (s : State) (y : Syl) (d a b : DReg) (n : BitVec 5) (qt : Pred) (sg w : Bool) (cond : BitVec 3),
    let A := s.dev.dsrc y a
    let B := s.dev.dsrc y b
    let x := s.dev.home y
    let ctl := x.decctl.toNat
    let rm := ctl / 2 ^ 24 % 8
    let dq := ctl / 2 ^ 12 % 16
    let on := fun (k : Nat) => ctl.testBit k
    let ind := fun (v lat : Nat) => if on 19 ∨ dq = 0 then [] else [Eff.land (.q x.mbank dq) v lat]
    let quiet := fun (f : DFlags) => !(f.vf && on 18) && !(f.zf && on 17) && !(f.of && on 16)
    let flags := fun (f : DFlags) (lat : Nat) => if f.toWord = 0 then [] else [Eff.land .decctl f.toWord.toNat lat]
    let gives := fun (i : Instr) (t : Dest) (lat : Nat) (err : Option Nat) (subst v : Nat) (f : DFlags) =>
      (err = none → quiet f = true → Completes s y i ((.land t v lat :: flags f lat) ++ ind 0 lat))
        ∧ (∀ r, err = some r → on 19 = true → TrapsWith s y i 0x0A r 0 0)
        ∧ (∀ r, err = some r → on 19 = false → Completes s y i ([.land t subst lat, .land .decctl 32 lat] ++ ind 1 lat))
    let one := packedCheck true A.toNat
    let both := (packedCheck true A.toNat).or (packedCheck false B.toNat)
    let nan := fun (f : DFmt) => (BitVec.ofNat 128 (f.encode (.nan false false 1))).toNat
    let ones := (BitVec.allOnes 128).toNat
    let r := fun (i : Instr) (lat : Nat) (err : Option Nat) (subst : Nat) (o : DOut) => gives i (.d d.toNat) lat err subst o.val.toNat o.fl
    r (.cvpd y d a n) 3 one (nan .d64) (decFromPacked .d64 rm n.toNat A) ∧ r (.cvpx y d a n) 3 one (nan .d128) (decFromPacked .d128 rm n.toNat A)
      ∧ r (.padd y d a b) 3 both ones (packedOut (packedVal A.toNat + packedVal B.toNat)) ∧ r (.psub y d a b) 3 both ones (packedOut (packedVal A.toNat - packedVal B.toNat))
      ∧ r (.pshl y d a n) 2 one ones (packedOut (packedVal A.toNat * 10 ^ n.toNat)) ∧ r (.pshr y d a n) 3 one ones (packedShr rm n.toNat A)
      ∧ r (.pchk y d a) 2 one ones (packedOut (packedVal A.toNat))
      ∧ gives (.pcmp y qt a b cond) (x.predDest qt) 2 both 0 (if packedCompare cond.toNat A B then 1 else 0) {}
      ∧ (quiet (decCompare (if w then .d128 else .d64) sg cond.toNat A B).2 = true →
          Completes s y (.dcmp y qt sg a b cond w) (.land (x.predDest qt) (if (decCompare (if w then .d128 else .d64) sg cond.toNat A B).1 then 1 else 0) 2
            :: flags (decCompare (if w then .d128 else .d64) sg cond.toNat A B).2 2))

/-- Where it is the last syllable of its bundle and executes, and its access translates to plain memory that answers, a decimal load lands the field read, low byte first or as packed or zoned digits, three (LDZ: five) bundles later; a decimal store with room in the store buffer enters the low bytes of dD, the packed digits or the zoned digits at the translated address. LDZ and STZ of invalid data trap with cause 0x0A under DX, else set DF and qDQ; digits that do not fit set OF, or trap with cause 0x0B, reason 3, under OE. Choices of the model that it rests on: log entries 10, 31, 37. Each of these constructors is concluded to answer that next state, on the conditions named alone: ldd, lddX, std, stdX, ldp, stp, ldz, stz (R106). -/
def Obligations.DecimalMemoryOperations : Prop :=
  ∀ (s : State) (y : Syl) (d : DReg) (a : Reg) (disp : BitVec 6) (p : Option Limm) (len : BitVec 5) (hs : List (Nat × Nat)),
    let D := s.dev
    let x := D.home y
    let n := y.core.toNat
    let A := D.src y a
    let V := D.dsrc y d
    let ea := fun (size : Nat) => match p with
      | none => A + BitVec.ofInt 32 (disp.toInt * size)
      | some q => A + (q ++ disp : BitVec 28).signExtend 32
    let t := Dest.d d.toNat
    let ok := fun (va : Word) (k : Nat) => D.reach n y.bay.toNat x.level .load false va.toNat k = .ok hs ∧ D.region (hs.headD (0, 0)).1 ≠ .devreg ∧ D.unreadable va.toNat hs = none
    let bs := D.loadHalves n hs
    let es := fun (va : Word) (v : Nat) => [Eff.land t v 3] ++ D.missEffs n y.bay.toNat x.level va.toNat hs
    let put := fun (va : Word) (l : List Byte) => D.reach n y.bay.toNat x.level .store false va.toNat l.length = .ok hs ∧ (D.core n).sb.length + hs.length ≤ 16
    let ctl := x.decctl.toNat
    let on := fun (k : Nat) => ctl.testBit k
    let dq := ctl / 2 ^ 12 % 16
    let flags := fun (f : DFlags) (lat : Nat) => if f.toWord = 0 then [] else [Eff.land .decctl f.toWord.toNat lat]
    let ind := fun (v : Bool) (lat : Nat) => if on 19 ∨ dq = 0 then [] else [Eff.land (.q x.mbank dq) (if v then 1 else 0) lat]
    let bad := packedCheck true V.toNat
    (ok (ea 8) 8 → Completes s y (.ldd y d a disp p) (es (ea 8) (fromLe bs))) ∧ (ok (ea 16) 16 → Completes s y (.lddX y d a disp p) (es (ea 16) (fromLe bs)))
      ∧ (ok A len.toNat → Completes s y (.ldp y d a len) (es A (packedLoad bs).toNat))
      ∧ (ok A len.toNat → (ldzOut bs).2 = true → on 19 = true → TrapsWith s y (.ldz y d a len) 0x0A 5 0 0)
      ∧ (ok A len.toNat → ((ldzOut bs).2 && on 19) = false → Completes s y (.ldz y d a len)
          (.land t (ldzOut bs).1.toNat 5 :: flags { df := (ldzOut bs).2 } 5 ++ ind (ldzOut bs).2 5 ++ D.missEffs n y.bay.toNat x.level A.toNat hs))
      ∧ (put (ea 8) (toLe 8 V.toNat) → Completes s y (.std y d a disp p) (D.storeEffs hs (toLe 8 V.toNat)))
      ∧ (put (ea 16) (toLe 16 V.toNat) → Completes s y (.stdX y d a disp p) (D.storeEffs hs (toLe 16 V.toNat)))
      ∧ ((stpOut len.toNat V).2 = true → on 16 = true → TrapsWith s y (.stp y d a len) 0x0B 3 0 0)
      ∧ (put A (stpOut len.toNat V).1 → ((stpOut len.toNat V).2 && on 16) = false → Completes s y (.stp y d a len) (flags { of := (stpOut len.toNat V).2 } 1 ++ D.storeEffs hs (stpOut len.toNat V).1))
      ∧ (∀ r, bad = some r → on 19 = true → TrapsWith s y (.stz y d a len) 0x0A r 0 0)
      ∧ ((bad.isSome && on 19) = false → (stzOut len.toNat V).2 = true → on 16 = true → TrapsWith s y (.stz y d a len) 0x0B 3 0 0)
      ∧ (∀ r, bad = some r → on 19 = false → ((stzOut len.toNat V).2 && on 16) = false →
          Completes s y (.stz y d a len) (flags { df := true, of := (stzOut len.toNat V).2 } 1 ++ ind true 1))
      ∧ (bad = none → put A (stzOut len.toNat V).1 → ((stzOut len.toNat V).2 && on 16) = false →
          Completes s y (.stz y d a len) (flags { of := (stzOut len.toNat V).2 } 1 ++ ind false 1 ++ D.storeEffs hs (stzOut len.toNat V).1))

/-- Where it is the last syllable of its bundle and executes, a stream with count 0 has no effect, and one with another count begins on the values of A, B and C read then. An element of MACS.B that reads x and z adds x times z, shifted right by BFS, to dK, moves A and B on by four bytes and C down by one, and leaves the stream under way while C is not 0. Choices of the model that it rests on: log entries 35, 36, 37. Each of these constructors is concluded to answer that next state, on the conditions named alone: macsD, macuD, macsB, macuB, streamElement (R110). -/
def Obligations.StreamsAndTheirElements : Prop :=
  ∀ (s : State) (y : Syl) (k : DReg) (a b c : Reg) (n : CoreNo) (m : BayNo) (p : Prog) (xs zs : List Byte) (m1 m2 : Option Bool),
    let D := s.dev
    let A := D.src y a
    let B := D.src y b
    let C := D.src y c
    let begins := fun (i : Instr) (kind : ProgKind) =>
      (C = 0 → Completes s y i [])
        ∧ (C ≠ 0 → ∀ u, Executes s y i u → exec i s = .next { s with dev := D.modBay y.core.toNat y.bay.toNat (fun x => { x with
            prog := some { kind := kind, syl := y, rd := k, ra := a, rb := b, rc := c, desc := { src := A, dst := B, len := C } } }) })
    let x := D.bay n.toNat m.toNat
    let q := { p with desc := { p.desc with src := p.desc.src + 4, dst := p.desc.dst + 4, len := p.desc.len - 1 } }
    let sum := (x.dec D.free p.rd).toInt + sextI 32 (fromLe xs) * sextI 32 (fromLe zs) / 2 ^ (x.decctl.toNat / 2 ^ 27 % 32)
    let w := (((x.land (.d p.rd.toNat) (BitVec.ofInt 128 sum).toNat).land (.ir (x.phys p.ra.toNat)) q.desc.src.toNat).land (.ir (x.phys p.rb.toNat)) q.desc.dst.toNat).land (.ir (x.phys p.rc.toNat)) q.desc.len.toNat
    begins (.macsD y k a b c) .macsD ∧ begins (.macuD y k a b c) .macuD ∧ begins (.macsB y k a b c) .macsB ∧ begins (.macuB y k a b c) .macuB
      ∧ (D.stepping n.toNat m.toNat = some p → p.kind = .macsB → D.fieldIn n.toNat m.toNat p.desc.src.toNat 4 = .ok (xs, m1)
          → D.fieldIn n.toNat m.toNat p.desc.dst.toNat 4 = .ok (zs, m2) → p.desc.len - 1 ≠ 0 →
          Becomes (.streamElement n m) s ((D.setBay n.toNat m.toNat { ((w.land .decctl 0).land .asr 0) with prog := some q }).progMiss n.toNat m.toNat (missBoth m1 m2)))

/-- Where it is the last syllable of its bundle and executes, with an aligned readable descriptor whose words at +24 and +28 are zero, microwords that name existing nano-words, and outside the first bundle after a return, a string instruction with work to do, or EDIT with LEN 1 to 256, starts fresh: SP_SRC and SP_DST from the descriptor, SP_CNT 0, SP_STATE 0 (EDIT: PAD from PARAM, LEAD 1), and stands between steps, the sequencer at the word after its first step; one with no work to do completes at once. A misaligned descriptor traps with cause 0x04 reason 2, and reserved words, or LEN of EDIT out of range, with cause 0x02 reason 7. Choices of the model that it rests on: log entries 35, 36, 71, 73. Each of these constructors is concluded to answer that next state, on the conditions named alone: mvs, trs, cms, scn, scne, edit (R120). -/
def Obligations.StringAndEditSetUp : Prop :=
  ∀ (s : State) (y : Syl) (d a : Reg) (qt : Pred) (bs : List Byte) (m : Option Bool) (u : Bundle) (w1 : Option Nat),
    let D := s.dev
    let n := y.core.toNat
    let b := y.bay.toNat
    let va := (D.src y a).toNat
    let w := fun (o : Nat) => BitVec.ofNat 32 (leAt bs o 4)
    let q : Desc := { src := w 0, dst := w 4, len := w 8, dlen := w 12, aux := w 16, param := w 20 }
    let read := va % 32 = 0 ∧ D.fieldIn n b va 32 = .ok (bs, m)
    let good := read ∧ leAt bs 24 8 = 0 ∧ (D.home y).afterRet = false
    let prog := fun (k : ProgKind) (rd : Reg) (t : Pred) => ({ kind := k, syl := y, rd := rd, ra := a, qt := t, desc := q, mwa := (D.core n).firstWord k } : Prog)
    let begun := fun (k : ProgKind) (rd : Reg) (t : Pred) (st : Word) =>
      D.modBay n b (fun x => { ({ x with spSrc := q.src, spDst := q.dst, spCnt := 0, spState := st }).soil 16 with prog := some (prog k rd t) })
    let starts := fun (i : Instr) (k : ProgKind) (rd : Reg) (t : Pred) (st : Word) => Executes s y i u → (begun k rd t st).microNext n b (prog k rd t) = some w1 →
      exec i s = .next { s with dev := ((begun k rd t st).progMiss n b m).sequencerTo n b w1 }
    let two := fun (d : Reg) (t : Pred) (v : Nat) => [Eff.land ((D.home y).intDest d) 0 1, .land ((D.home y).predDest t) v 1]
    let ends := fun (i : Instr) (k : ProgKind) (rd : Reg) (t : Pred) (es : List Eff) => Executes s y i u → (begun k rd t 0).microNext n b (prog k rd t) = some w1 →
      exec i s = .next { s with dev := ((((begun k rd t 0).modBay n b (fun z => { z with prog := none, spState := 0 }.soil 16)).sylDone n b es []).progMiss n b m).sequencerTo n b w1 }
    let six : List Instr := [.mvs y a, .trs y a, .cms y d a qt, .scn y d a qt, .scne y d a qt, .edit y d a qt]
    (good → 0 < q.dlen.toNat → starts (.mvs y a) .mvs 0 0 0) ∧ (good → 0 < q.len.toNat → starts (.trs y a) .trs 0 0 0)
      ∧ (good → 0 < Nat.max q.len.toNat q.dlen.toNat → starts (.cms y d a qt) .cms d qt 0)
      ∧ (good → 0 < q.len.toNat → starts (.scn y d a qt) .scn d qt 0) ∧ (good → 0 < q.len.toNat → starts (.scne y d a qt) .scne d qt 0)
      ∧ (good → 0 < q.len.toNat → q.len.toNat ≤ 256 → starts (.edit y d a qt) .edit d qt (BitVec.ofNat 32 (2 ^ 24 + q.param.toNat / 2 ^ 24 % 256)))
      ∧ (good → q.dlen.toNat = 0 → ends (.mvs y a) .mvs 0 0 []) ∧ (good → q.len.toNat = 0 → ends (.trs y a) .trs 0 0 [])
      ∧ (good → Nat.max q.len.toNat q.dlen.toNat = 0 → ends (.cms y d a qt) .cms d qt (two d qt 1 ++ [.land ((D.home y).predDest (partner qt)) 0 1]))
      ∧ (good → q.len.toNat = 0 → ends (.scn y d a qt) .scn d qt (two d qt 0)) ∧ (good → q.len.toNat = 0 → ends (.scne y d a qt) .scne d qt (two d qt 0))
      ∧ (va % 32 ≠ 0 → ∀ i, i ∈ six → TrapsWith s y i 4 2 (BitVec.ofNat 32 va) 0)
      ∧ (read → leAt bs 24 8 ≠ 0 → ∀ i, i ∈ six → TrapsWith s y i 2 7 0 0)
      ∧ (read → q.len.toNat = 0 ∨ 256 < q.len.toNat → TrapsWith s y (.edit y d a qt) 2 7 0 0)

/-- Between steps, with no event to take first and microwords that name existing nano-words, each command completes with its step, and the sequencer moves on. TRS and SCN first load their table; TRS writes table bytes and ends at LEN; SCN ends at a byte whose table byte is not 0, which SP_STATE keeps; SCNE at one equal to its value with D = k and qT = 1, CMS at a difference with D = k, qT = 0 and the partner the order, MVS past LEN writes PAD; a miss acts last. EDIT: LOFF clears LEAD, a literal writes itself or PAD, a digit of an FD run writes 0x30 + d and sets MV and MARK; a reserved pattern byte raises cause 0x02 reason 6. Choices of the model that it rests on: log entries 35, 36, 71, 73. Each of these constructors is concluded to answer that next state, on the conditions named alone: stringStep, editStep (R122, R123, R124, R125, R126). -/
def Obligations.StringAndEditSteps : Prop :=
  ∀ (s : State) (core : CoreNo) (bay : BayNo) (p : Prog) (v w c : Nat) (m m2 : Option Bool) (o : Dev) (w1 : Option Nat) (g : Nat),
    let D := s.dev
    let n := core.toNat
    let b := bay.toNat
    let x := D.bay n b
    let q := p.desc
    let k := x.spCnt.toNat
    let ready := Powered s ∧ D.microStep n b = some p ∧ D.microNext n b p = some w1
    let after := fun (e : Dev) => (e.sequencerTo n b w1).claim n b
    let ends := fun (e : Dev) (es : List Eff) => (e.modBay n b (fun z => { z with prog := none, spState := 0 }.soil 16)).sylDone n b es []
    let moved := fun (e : Dev) => e.modBay n b (fun z => { z with spSrc := z.spSrc + 1, spCnt := z.spCnt + 1 }.soil 16)
    let two := fun (r t : Nat) => [Eff.land (x.intDest p.rd) r 1, .land (x.predDest p.qt) t 1]
    let str := exec (.stringStep core bay false) s
    let edt := exec (.editStep core bay false) s
    let E := x.editSt
    let edit := ready ∧ p.kind = .edit ∧ E.used < q.len.toNat ∧ q.len.toNat ≤ 256 ∧ D.byteIn n b (q.aux.toNat + E.used) = .ok (c, m)
    let upd := fun (e : Dev) (f : EditSt) (src dst : Nat) => e.modBay n b (fun z => { z with
      spSrc := x.spSrc + BitVec.ofNat 32 src, spDst := z.spDst + BitVec.ofNat 32 dst, spCnt := BitVec.ofNat 32 f.cnt, spState := BitVec.ofNat 32 f.state }.soil 16)
    (ready → p.kind = .trs ∨ p.kind = .scn → p.tableRead = false →
          str = .next { s with dev := after ((D.modBay n b (fun z => { z with prog := some { p with tableRead := true } })).progMiss n b (D.tableMiss n b q.aux.toNat)) })
      ∧ (ready → p.kind = .trs → p.tableRead = true → p.left = 0 → k + 1 = q.len.toNat → D.byteIn n b x.spSrc.toNat = .ok (v, m) → D.byteIn n b (q.aux.toNat + v) = .ok (g, m2) →
          D.byteOut n b x.spDst.toNat (BitVec.ofNat 8 g) true = .ok o → (o.bay n b).spCnt = x.spCnt →
          str = .next { s with dev := after ((ends (o.modBay n b (fun z => { z with spSrc := z.spSrc + 1, spDst := z.spDst + 1, spCnt := z.spCnt + 1 }.soil 16)) []).progMiss n b (missBoth m m2)) })
      ∧ (ready → p.kind = .scn → p.tableRead = true → p.left = 0 → k < q.len.toNat → D.byteIn n b x.spSrc.toNat = .ok (v, m) → D.byteIn n b (q.aux.toNat + v) = .ok (g, m2) → g ≠ 0 →
          str = .next { s with dev := after (((D.modBay n b (fun z => { z with prog := none, spState := BitVec.ofNat 32 g }.soil 16)).sylDone n b (two k 1) []).progMiss n b (missBoth m m2)) })
      ∧ (ready → p.kind = .scne → p.left = 0 → k < q.len.toNat → D.byteIn n b x.spSrc.toNat = .ok (v, m) → v = q.param.toNat % 256 → str = .next { s with dev := after ((ends D (two k 1)).progMiss n b m) })
      ∧ (ready → p.kind = .scne → p.left = 0 → k + 1 = q.len.toNat → D.byteIn n b x.spSrc.toNat = .ok (v, m) → v ≠ q.param.toNat % 256 →
          str = .next { s with dev := after ((ends (moved D) (two q.len.toNat 0)).progMiss n b m) })
      ∧ (ready → p.kind = .cms → p.left = 0 → k < q.len.toNat → k < q.dlen.toNat → D.byteIn n b x.spSrc.toNat = .ok (v, m) → D.byteIn n b x.spDst.toNat = .ok (w, m2) → v ≠ w →
          str = .next { s with dev := after ((ends D (two k 0 ++ [.land (x.predDest (partner p.qt)) (if v < w then 1 else 0) 1])).progMiss n b (missBoth m m2)) })
      ∧ (ready → p.kind = .mvs → p.left = 0 → q.len.toNat ≤ k → k + 1 = q.dlen.toNat → D.byteOut n b x.spDst.toNat (BitVec.ofNat 8 (q.param.toNat / 2 ^ 24)) true = .ok o → (o.bay n b).spCnt = x.spCnt →
          str = .next { s with dev := after ((ends (o.modBay n b (fun z => { z with spDst := z.spDst + 1, spCnt := z.spCnt + 1 }.soil 16)) []).progMiss n b none) })
      ∧ (edit → c = 0xF0 → E.used + 1 < q.len.toNat → edt = .next { s with dev := after ((upd D { E with used := E.used + 1, lead := false } 0 0).progMiss n b m) })
      ∧ (edit → 0x20 ≤ c → c < 0xC0 → E.used + 1 < q.len.toNat → E.bad = false → D.byteOut n b x.spDst.toNat (BitVec.ofNat 8 (if E.lead then E.pad else c)) true = .ok o →
          edt = .next { s with dev := after ((upd o { E with used := E.used + 1 } 0 1).progMiss n b m) })
      ∧ (edit → 0xD0 ≤ c → c < 0xE0 → E.used + 1 < q.len.toNat → E.bad = false → E.fld = true → E.nib = true → E.run = c % 16 → D.byteIn n b x.spSrc.toNat = .ok (v, m2) → v % 16 ≤ 9 →
          D.byteOut n b x.spDst.toNat (BitVec.ofNat 8 (0x30 + v % 16)) true = .ok o →
          edt = .next { s with dev := after ((upd o { E with nib := false, lead := false, mv := true, mark := if E.mv then E.mark else (x.spDst - q.dst).toNat % 4096, run := 0, used := E.used + 1 } 1 1).progMiss n b (missBoth m m2)) })
      ∧ (edit → c < 0x20 ∨ 0xF6 < c → edt = .next { s with dev := after (D.progStopped n b (.exc 2 6 0 0)) })

/-- Where it is the last syllable of its bundle and executes, and the stream named is open and owned by the bay: JDUR lands the durable sequence, JWAIT completes at once when its JSEQ is durable and otherwise parks, JREL releases a JSEQ from the released to the durable sequence and otherwise traps with cause 0x16 reason 0xB, JAPP appends a record that passes its checks, and is refused by the first that fails (reason 0xA: no segment, after the low-space evaluation). A stream, owner or state that fails traps with cause 0x16. A held append enters the queue once it has room; a durable record is stored in its slot, and its JSEQ becomes the durable sequence. Choices of the model that it rests on: log entries 19, 40, 77, 89. Each of these constructors is concluded to answer that next state, on the conditions named alone: japp, jwait, jdur, jrel, journalQueueSpace, recordDurable (R155). -/
def Obligations.JournalOperations : Prop :=
  ∀ (s : State) (y : Syl) (d a b : Reg) (pa r : Nat) (st : BitVec 6) (q : QRec) (qs : List QRec),
    let D := s.dev
    let n := y.core.toNat
    let N := (D.src y b).toNat
    let z := D.stream N
    let k := seqNear z.dur (D.src y a)
    let ok := D.journalCheck n y.bay.toNat (D.src y b) = none
    let bs := D.loadBytes n pa 128
    (ok → Completes s y (.jdur y d b) [.land ((D.home y).intDest d) (z.dur.toNat % 2 ^ 32) 3])
      ∧ (ok → k ≤ z.dur.toNat → Completes s y (.jwait y a b) []) ∧ (ok → (z.dur.toNat : Int) < k → Waits s y (.jwait y a b) .waiting (.jwait N k.toNat))
      ∧ (ok → (z.rel.toNat : Int) ≤ k → k ≤ z.dur.toNat → Completes s y (.jrel y a b) [.jrel N k.toNat])
      ∧ (ok → k < z.rel.toNat ∨ (z.dur.toNat : Int) < k → TrapsWith s y (.jrel y a b) 0x16 0xB 0 0)
      ∧ (ok → D.jappSource n y.bay.toNat (D.src y a).toNat = .ok pa → D.unreadable (D.src y a).toNat [(pa, 128)] = none → D.recordCheck N bs = none →
          Completes s y (.japp y d a b) [.japp N bs ((D.home y).intDest d)])
      ∧ (ok → D.jappSource n y.bay.toNat (D.src y a).toNat = .ok pa → D.unreadable (D.src y a).toNat [(pa, 128)] = none → D.recordCheck N bs = some r → r ≠ 10 → TrapsWith s y (.japp y d a b) 0x16 r 0 0)
      ∧ (ok → D.jappSource n y.bay.toNat (D.src y a).toNat = .ok pa → D.unreadable (D.src y a).toNat [(pa, 128)] = none → D.recordCheck N bs = some 10 → ∀ u, Executes s y (.japp y d a b) u →
          exec (.japp y d a b) s = .next { s with dev := (D.evalLow N).sylDone n y.bay.toNat [] [(y.pos.toNat, { cause := 0x16, detail := detailOf y.pos.toNat u.len 0xA, faddr := 0, aux := 0, pc := u.pc })] })
      ∧ (D.journalCheck n y.bay.toNat (D.src y b) = some r → TrapsWith s y (.japp y d a b) 0x16 r 0 0 ∧ TrapsWith s y (.jwait y a b) 0x16 r 0 0
          ∧ TrapsWith s y (.jdur y d b) 0x16 r 0 0 ∧ TrapsWith s y (.jrel y a b) 0x16 r 0 0)
      ∧ (D.jr.heldq = q :: qs → D.jr.queue.length < 512 → D.pw.pfail = false → Becomes .journalQueueSpace s
          (({ D with jr := { D.jr with queue := D.jr.queue ++ [q], heldq := qs } }).modBay (q.site / 4) (q.site % 4) (fun (x : Bay) => if x.st = BayState.waiting ∧ x.wait = Wait.jqueue then x.resume else x)))
      ∧ (takeQueued st.toNat D.jr.queue = some (q, qs) → (∀ i j t e, (D.bay i j).wait ≠ .jwait t e) → Becomes (.recordDurable st) s (({ D with jr := { D.jr with queue := qs } }).durable q))
      ∧ (∀ e : Dev, ((e.durable q).stream q.stream).dur = q.jseq ∧ (q.hdr = [] → (e.durable q).mem = (e.put q.addr q.data).mem))

/-- Where it is the last syllable of its bundle and executes: SCALL with a valid entry calls it at S level, else traps with cause 0x10 and its number; FRET returns to LK_S at the level FPL names; SRET and MRET restore the frame at TSBP and TSBP + 0x40; GCALL that passes its checks pushes a gate frame, ORs KADD into KMASK and goes to the gate at its level, else traps with cause 0x0F; GRET returns through the innermost frame, and traps with cause 0x02 reason 9 without one. Below its level an operation traps with cause 0x03 reason 1. Choices of the model that it rests on: log entries 8, 19, 28, 29. Each of these constructors is concluded to answer that next state, on the conditions named alone: scall, fret, gcall, gret, sret, mret (R211, R213, R214, R215). -/
def Obligations.SystemCallsAndReturns : Prop :=
  ∀ (s : State) (y : Syl) (n : BitVec 8) (e : Dev) (c b l v a : Nat) (f : GateFrame) (i r fa w : Nat) (u : Bundle),
    let D := s.dev
    let x := D.home y
    let z := e.bay c b
    let N := y.core.toNat
    let se := (Tab.get x.se n.toNat 0).toNat
    let frame := fun (p : Nat) => fromLe (D.loadBytes N p 64)
    let pl := fun (p : Nat) => leAt (D.loadBytes N (p + 4) 4) 0 4 % 4
    let clear := fun (p : Nat) => D.unreadable p [(p, 64)] = none
    let S := x.tsbp.toNat
    let M := S + 0x40
    let args := (List.range 8).foldl (fun (q : Nat) k => q + (D.src y (BitVec.ofNat 5 (24 + k))).toNat * 2 ^ (32 * k)) 0
    let gl := fun (g : Nat) => bits (D.inForce (midGate g 1)).toNat 29 28
    let at_ := fun (k : Act) (p q : Nat) => e.apply c b l (.act k p q 0)
    (x.level ≤ 1 → se % 2 = 1 → Completes s y (.scall y n) [.act .scall (se - se % 4) 0 0]) ∧ (x.level ≤ 1 → se % 2 = 0 → TrapsWith s y (.scall y n) 0x10 n.toNat 0 0)
      ∧ at_ .scall v 0 = e.setBay c b ({ z with lkS := z.pc, status := BitVec.ofNat 32 (setBits z.status.toNat 7 6 z.level), pc := BitVec.ofNat 32 v }.toLevel 1)
      ∧ (x.level = 1 → bits x.status.toNat 7 6 < 2 → Completes s y (.fret y) [.act .fret 0 0 0]) ∧ (x.level = 1 → 2 ≤ bits x.status.toNat 7 6 → TrapsWith s y (.fret y) 3 3 0 0)
      ∧ at_ .fret 0 0 = e.setBay c b ({ z with pc := z.lkS &&& 0xFFFFFFFC }.toLevel (bits z.status.toNat 7 6))
      ∧ (x.level = 1 → clear S → pl S < 2 → x.needRetreat = none → Completes s y (.sret y) [.act .sret (frame S) 0 0]) ∧ (x.level = 1 → clear S → 2 ≤ pl S → TrapsWith s y (.sret y) 3 3 0 0)
      ∧ at_ .sret v 0 = e.setBay c b (z.landAll.retreat.restore v)
      ∧ (x.level = 3 → clear M → pl M ≠ 2 → Completes s y (.mret y) [.act .mret (frame M) 0 0]) ∧ (x.level < 3 → TrapsWith s y (.mret y) 3 1 0 0)
      ∧ at_ .mret v 0 = e.setBay c b (z.landAll.restore v)
      ∧ (z.restore v).pc = BitVec.ofNat 32 v &&& 0xFFFFFFFC ∧ (z.restore v).repc = BitVec.ofNat 32 (v / 2 ^ 128) &&& 0x800000FF ∧ (z.restore v).afterRet = true
      ∧ (x.level = 0 → TrapsWith s y (.fret y) 3 1 0 0 ∧ TrapsWith s y (.sret y) 3 1 0 0)
      ∧ (D.gateRefusal y n.toNat = none → gl n.toNat = 1 → x.needAdvance = none → Completes s y (.gcall y n) [.act .gcall n.toNat args 0])
      ∧ (D.gateRefusal y n.toNat = none → gl n.toNat = 3 → Completes s y (.gcall y n) [.act .gcall n.toNat args 0])
      ∧ (D.gateRefusal y n.toNat = some (i, r, fa, w) → Executes s y (.gcall y n) u → exec (.gcall y n) s = .next { s with dev := D.modBay N y.bay.toNat (fun q => { q with
          bundle := none, exc := some { cause := 0x0F, detail := BitVec.ofNat 32 (i * 2 ^ 13 + r), faddr := BitVec.ofNat 32 fa, aux := BitVec.ofNat 32 w, pc := u.pc } }) })
      ∧ ((at_ .gcall v a).bay c b).gates = z.gates ++ [{ ret := z.pc, kmask := z.kmask, gate := v, pl := z.level }] ∧ ((at_ .gcall v a).bay c b).kmask = z.kmask ||| e.inForce (midGate v 4)
      ∧ ((at_ .gcall v a).bay c b).pc = e.inForce (midGate v 0) &&& 0xFFFFFFFC
      ∧ (x.gates = [] → TrapsWith s y (.gret y) 2 9 0 0)
      ∧ (x.gates.getLast? = some f → x.level = gl f.gate → x.level = 1 → x.needRetreat = none → Completes s y (.gret y) [.act .gret 0 0 0])
      ∧ (x.gates.getLast? = some f → x.level = gl f.gate → x.level = 3 → Completes s y (.gret y) [.act .gret 0 0 0])
      ∧ (x.gates.getLast? = some f → x.level ≠ gl f.gate → TrapsWith s y (.gret y) 3 1 0 0)
      ∧ (z.gates.getLast? = some f → at_ .gret 0 0 = e.setBay c b ({ (if z.level = 1 then z.retreat else z) with gates := z.gates.dropLast, kmask := f.kmask, pc := f.ret }.toLevel f.pl))

/-- Where it is the last syllable of its bundle and executes: WAIT, with its bundle, parks the bay until an event if nothing is then pending in PEND [9:0], and otherwise does nothing; YIELD makes the bay READY where a READY bay of no lower priority is there; SIGNAL, at S or M level, raises event 0x24 at the core and bay A names, with this core and imm8 as its detail, and below S level traps with cause 0x03 reason 1. Choices of the model that it rests on: log entries 19, 29, 70, 89. Each of these constructors is concluded to answer that next state, on the conditions named alone: waitt, yield, signal (R203, R204). -/
def Obligations.WaitsYieldsAndSignals : Prop :=
  ∀ (s : State) (y : Syl) (a : Reg) (imm : BitVec 8) (e : Dev) (c b l v w z : Nat),
    let D := s.dev
    let x := D.home y
    let q := e.bay c b
    let A := (D.src y a).toNat
    Completes s y (.waitt y) [.act .wait x.pc.toNat 0 0]
      ∧ e.apply c b l (.act .wait v w z) = (if q.pend.toNat % 1024 = 0 then e.setBay c b { q with st := .waiting, wait := .event v } else e)
      ∧ Completes s y (.yield y) [.act .yield 0 0 0]
      ∧ e.apply c b l (.act .yield v w z) = (if (List.range 4).any (fun k => decide ((e.bay c k).st = .ready ∧ q.pri ≤ (e.bay c k).pri)) then e.setBay c b { q with st := .ready } else e)
      ∧ (1 ≤ x.level → Completes s y (.signal y a imm) [.act .signal (A / 4 % 128) (A % 4) (y.core.toNat * 256 + imm.toNat)])
      ∧ e.apply c b l (.act .signal v w z) = e.raise v w 0x24 z
      ∧ (x.level = 0 → TrapsWith s y (.signal y a imm) 3 1 0 0)

/-- Where it is the last syllable of its bundle and executes at S or M level, TEVICT of another loaded bay below M level makes the asker wait at the end of its bundle and the target give way, else traps with cause 0x02 reason 0xB; TLOAD of an EMPTY bay from a 4 KiB-aligned Loam block makes it MOVING, else traps with cause 0x02 reason 0xC or cause 0x06 reason 0x10. The completions write the block and empty the bay, or make the bay READY with the block as its task, and the asker goes on. An automatic load takes the EMPTY bay of lowest number and the next entry of the task table. Choices of the model that it rests on: log entries 19, 27, 34, 39. Each of these constructors is concluded to answer that next state, on the conditions named alone: tevict, tevictComplete, tload, tloadComplete, automaticLoad (R196, R198, R202). -/
def Obligations.TasksLeaveAndEnterBays : Prop :=
  ∀ (s : State) (y : Syl) (core : CoreNo) (t : BayNo) (a : Reg) (u : Bundle) (fab : Bool) (e : Dev) (p i q : Nat) (w : Word),
    let D := s.dev
    let x := D.home y
    let N := y.core.toNat
    let A := y.bay.toNat
    let T := t.toNat
    let V := D.src y a
    let z := D.bay N T
    let n := core.toNat
    let m := D.bay n T
    let sup := x.level = 1 ∨ x.level = 3
    let open_ := fun (f : Eff) => { u with todo := [], effs := u.effs ++ [f] }
    let loads := (D.modBay N A (fun g => { g with st := .waiting, wait := .tload T, bundle := some (open_ (.act .tload T V.toNat 0)) })).modBay N T (fun g => { g with st := .moving, wait := .loading (some A) V.toNat 0 })
    let good := V.toNat % 4096 = 0 ∧ V.toNat < 0x08000000
    (sup → T ≠ A → z.loaded = true → z.level ≠ 3 → z.st ≠ .moving → Executes s y (.tevict y t) u →
        exec (.tevict y t) s = .next { s with dev := (D.modBay N A (fun g => { g with st := .waiting, wait := .tevict T, bundle := some (open_ (.act .tevict T 0 0)) })).claim N T })
      ∧ (sup → T = A ∨ z.loaded = false ∨ z.level = 3 ∨ z.st = .moving → TrapsWith s y (.tevict y t) 2 0xB 0 0)
      ∧ (sup → z.st = .empty → good → Executes s y (.tload y t a) u → exec (.tload y t a) s = .next { s with dev := loads })
      ∧ (sup → z.st ≠ .empty → TrapsWith s y (.tload y t a) 2 0xC 0 0) ∧ (sup → z.st = .empty → ¬ good → TrapsWith s y (.tload y t a) 6 0x10 V 0)
      ∧ (x.level = 0 → TrapsWith s y (.tevict y t) 3 1 0 0 ∧ TrapsWith s y (.tload y t a) 3 1 0 0)
      ∧ (m.st = .moving → m.wait = .evicting q → D.evictTask n T fab false = some e → Becomes (.tevictComplete core t fab) s (e.askerDone n q none) ∧ (e.bay n T).st = .empty)
      ∧ (m.st = .moving → m.wait = .loading (some q) p i → D.loadTask n T p ((D.bay n q).level == 1) fab none = .ok e → Becomes (.tloadComplete core t fab) s (e.askerDone n q none)
          ∧ (e.bay n T).st = .ready ∧ (e.bay n T).tsbp = BitVec.ofNat 32 p ∧ (e.bay n T).afterRet = false)
      ∧ (m.st = .moving → m.wait = .loading none p i → D.loadTask n T p false fab (some i) = .ok e → Becomes (.tloadComplete core t fab) s (e.autoLoaded n T i))
      ∧ (D.live n = true → D.domState (n / 2) = 1 → D.autoLoading n = false → D.nextTask n = some i → T < 4 → m.st = .empty → (∀ k, k < T → (D.bay n k).st ≠ .empty) →
          Becomes (.automaticLoad core) s (D.modBay n T (fun g => { g with st := .moving, wait := .loading none (D.num ((D.core n).ttEntry i) 4) i })))

/-- On a core that is up, for a running bay with nothing in flight, where the frame address answers and no buffered store overlaps it: a synchronous exception writes the 64-byte frame at TSBP (S) or TSBP + 0x40 (M), the values go to the bank of the level entered, STATUS keeps FPL, clears STEP and sets IM and the level, and the bay continues at EVEC_S, with the window advanced, or EVEC_M. A pending event is taken at a boundary with CAUSE.A set and its PEND bit and MORE bit cleared. An entry to S level with all ten slots resident waits for the window engine. Choices of the model that it rests on: log entries 8, 20, 31, 32. Each of these constructors is concluded to answer that next state, on the conditions named alone: exceptionEntry (R207, R210, R201). -/
def Obligations.ExceptionEntries : Prop :=
  ∀ (s : State) (core : CoreNo) (bay : BayNo) (e : Exc) (c : Nat),
    let D := s.dev
    let n := core.toNat
    let b := bay.toNat
    let x := D.bay n b
    let ready := (D.core n).up = true ∧ x.st = .running ∧ D.pw.pfail = false ∧ x.flight = []
    let word := fun (a : Bool) (more : Bool) (k : Nat) (det : Nat) => b2n a * 2 ^ 31 + b2n more * 2 ^ 30 + x.level * 2 ^ 28 + k * 2 ^ 16 + det % 65536
    let frame := fun (epc rep w fa aux : Nat) => toLe 4 epc ++ toLe 4 x.status.toNat ++ toLe 4 w ++ toLe 4 fa ++ toLe 4 rep ++ toLe 4 aux
      ++ toLe 4 x.spSrc.toNat ++ toLe 4 x.spDst.toNat ++ toLe 4 x.spCnt.toNat ++ toLe 4 x.spState.toNat ++ toLe 4 x.winctl ++ toLe 20 0
    let S := x.tsbp.toNat
    let M := S + 0x40
    let st := fun (l : Nat) => BitVec.ofNat 32 (bits x.status.toNat 7 6 * 64 + 8 * (if l = 3 then 1 else 0) + 4 + l)
    let clear := fun (p : Nat) => D.servedAt p = true ∧ (D.core n).sb.any (fun q => q.overlaps p 64) = false
    let asS := fun (y : Bay) (w epc fa rep : Word) => { ({ y with causeS := w, epcS := epc, faddrS := fa }).advance with
      status := st 1, pc := x.evecS &&& 0xFFFFFFFC, repc := rep, afterRet := false, walkFault := none, exc := none }
    let asM := fun (y : Bay) (w epc fa rep : Word) => { y with
      causeM := w, epcM := epc, faddrM := fa, status := st 3, pc := D.inForce (midEVECM n b) &&& 0xFFFFFFFC, repc := rep, afterRet := false, walkFault := none, exc := none }
    let rep := if e.repc.getLsbD 31 then e.repc else x.repc &&& 0x7FFFFFFF
    let sw := word false false e.cause e.detail.toNat
    let k := pendBit c
    let aw := word true (x.pend.getLsbD (16 + k)) c (Tab.get x.pendDet k 0).toNat
    let taken := { x with pend := x.pend &&& ~~~(BitVec.ofNat 32 (2 ^ k + 2 ^ (16 + k))) }
    let go := exec (.exceptionEntry core bay false) s
    let event := x.exc = none ∧ x.prog = none ∧ x.bundle = none ∧ x.nextEvent = some c
    (Powered s → ready → x.exc = some e → x.level ≠ 3 → x.toM e.cause = false → x.res ≠ 10 → clear S →
        go = .next { s with dev := ((D.put S (frame e.pc.toNat rep.toNat sw e.faddr.toNat e.aux.toNat)).setBay n b (asS x (BitVec.ofNat 32 sw) e.pc e.faddr rep)).claim n b })
      ∧ (Powered s → ready → x.exc = some e → x.level = 3 ∨ x.toM e.cause = true → clear M →
        go = .next { s with dev := ((D.put M (frame e.pc.toNat rep.toNat sw e.faddr.toNat e.aux.toNat)).setBay n b (asM x (BitVec.ofNat 32 sw) e.pc e.faddr rep)).claim n b })
      ∧ (Powered s → ready → x.exc = some e → x.level ≠ 3 → x.toM e.cause = false → x.res = 10 → x.sf = false →
        go = .next { s with dev := (D.setBay n b { x with st := .frozen, wait := .window }).claim n b })
      ∧ (Powered s → ready → event → x.toM c = false → x.res ≠ 10 → clear S →
        go = .next { s with dev := (D.put S (frame x.pc.toNat (x.repc &&& 0x7FFFFFFF).toNat aw 0 0)).setBay n b (asS taken (BitVec.ofNat 32 aw) x.pc 0 (x.repc &&& 0x7FFFFFFF)) })
      ∧ (Powered s → ready → event → x.toM c = true → clear M →
        go = .next { s with dev := (D.put M (frame x.pc.toNat (x.repc &&& 0x7FFFFFFF).toNat aw 0 0)).setBay n b (asM taken (BitVec.ofNat 32 aw) x.pc 0 (x.repc &&& 0x7FFFFFFF)) })

/-- For a bay with loaded state on a core that is up, with SF = 0: a spill with more than eight slots resident writes the lowest resident slot to Marl entry MDEPTH at TSBP + 0x800 + 64 MDEPTH, then MDEPTH + 1 and RES − 1; a fill with fewer than three resident and MDEPTH not 0 loads entry MDEPTH − 1 into the slot below the lowest resident, then MDEPTH − 1, RES + 1 and its DIRTY bit. MDEPTH = CAP, an entry past the bank of TSBP, or an access that fails sets SF instead. Choices of the model that it rests on: log entry 11. Each of these constructors is concluded to answer that next state, on the conditions named alone: windowSpill, windowFill (R189). -/
def Obligations.WindowEngine : Prop :=
  ∀ (s : State) (core : CoreNo) (bay : BayNo) (fab : Bool),
    let D := s.dev
    let n := core.toNat
    let b := bay.toNat
    let x := D.bay n b
    let base := x.tsbp.toNat
    let entry := fun (i : Nat) => base + 0x800 + 0x40 * i
    let inside := fun (a : Nat) => a / 2 ^ 24 = base / 2 ^ 24 ∧ (a + 63) / 2 ^ 24 = base / 2 ^ 24
    let thaw := fun (z : Bay) => if z.st = .frozen ∧ z.wait = .window then { z with st := .running, wait := .none } else z
    let works := (D.core n).up = true ∧ x.loaded = true ∧ x.sf = false
    let up := entry x.mdepth
    let dn := entry (x.mdepth - 1)
    let low := (x.cwp + 10 - x.res) % 10
    let stops := fun (why : Nat) => D.setBay n b (thaw { x with sf := true, sfWhy := why })
    (works → 8 < x.res → x.mdepth ≠ x.cap → inside up → D.servedAt up = true → Becomes (.windowSpill core bay false) s
        ((D.put up (x.slotBytes ((x.cwp + 11 - x.res) % 10))).setBay n b (thaw { x with mdepth := x.mdepth + 1, res := x.res - 1 })))
      ∧ (works → x.res < 3 → 0 < x.mdepth → inside dn → D.servedAt dn = true → D.poisoned dn 64 = false → Becomes (.windowFill core bay false) s
        (D.setBay n b (thaw (({ x with mdepth := x.mdepth - 1, res := x.res + 1 }.loadSlot low (D.bytes dn 64)).soil (1 + low)))))
      ∧ (works → 8 < x.res → x.mdepth = x.cap → Becomes (.windowSpill core bay fab) s (stops 1))
      ∧ (works → 8 < x.res → x.mdepth ≠ x.cap → ¬ inside up → Becomes (.windowSpill core bay fab) s (stops 2))
      ∧ (works → 8 < x.res → x.mdepth ≠ x.cap → inside up → fab = true ∨ D.servedAt up = false → Becomes (.windowSpill core bay fab) s (stops 4))
      ∧ (works → x.res < 3 → 0 < x.mdepth → inside dn → fab = true ∨ D.servedAt dn = false → Becomes (.windowFill core bay fab) s (stops 4))
      ∧ (works → x.res ≤ 8 → Becomes (.windowSpill core bay fab) s (D.setBay n b (thaw x))) ∧ (works → 3 ≤ x.res → Becomes (.windowFill core bay fab) s (D.setBay n b (thaw x)))

/-- On a core that issues and whose bays neither run nor are frozen, the scheduler selects the READY bay of highest PRI, among equals the one that ran least recently, and it runs. A running bay at a boundary with no exception waiting becomes READY where a READY bay has a higher PRI, or, once it has issued QUANT × 256 bundles and QUANT is not 0, where a READY bay has an equal PRI. Choices of the model that it rests on: log entries 16, 39. Each of these constructors is concluded to answer that next state, on the conditions named alone: schedulerSelect, preemption, quantumExpiry (R199, R200). -/
def Obligations.SchedulerSelection : Prop :=
  ∀ (s : State) (core : CoreNo) (b c : Nat),
    let D := s.dev
    let n := core.toNat
    let x := D.bay n b
    let z := D.bay n c
    let q := (D.core n).schctl.toNat / 256 % 256
    let t := (D.core n).tick + 1
    let live := (D.core n).up = true ∧ D.pw.pfail = false
    let boundary := x.exc = none ∧ x.bundle = none
    let runs := b < 4 ∧ x.st = .running ∧ (∀ k, k < b → (D.bay n k).st ≠ .running) ∧ c < 4 ∧ z.st = .ready
    (live → (∀ k, k < 4 → (D.bay n k).st ≠ .running ∧ (D.bay n k).st ≠ .frozen) → b < 4 → x.st = .ready →
        (∀ k, k < 4 → k ≠ b → (D.bay n k).st = .ready → (D.bay n k).pri < x.pri ∨ ((D.bay n k).pri = x.pri ∧ x.lastRun < (D.bay n k).lastRun)) →
        Becomes (.schedulerSelect core) s ((D.modCore n (fun e => { e with tick := t })).modBay n b (fun e => { e with st := .running, lastRun := t, issued := 0 })).tickFree)
      ∧ (live → runs → boundary → x.pri < z.pri → Becomes (.preemption core) s (D.setBay n b { x with st := .ready }))
      ∧ (live → runs → boundary → q ≠ 0 → q * 256 ≤ x.issued → x.pri = z.pri → Becomes (.quantumExpiry core) s (D.setBay n b { x with st := .ready }))

/-- For the running bay, where no event is taken first, each command completes. A fetch whose words are in the instruction cache and decode opens the bundle with its syllables to come, results ageing by one bundle, or reports a register-file check error; one that does not decode or has no last word within eight raises its cause; a block not in the cache is filled and the bay waits for its data; a page not in the TLB makes the bay wait for its walk. The data of a miss lets a frozen bay run and makes a switched-out bay READY. A walk that finds the page sets A, and D on a store, installs the translation and lets the bay go on; a walk that fails keeps the fault for the access that comes again. An invalidation whose target has performed its older stores completes, and the last one a bay waits for in SYNC.T makes it READY. Choices of the model that it rests on: log entries 10, 15, 33, 87. Each of these constructors is concluded to answer that next state, on the conditions named alone: bundleFetch, tlbInvalidationComplete, missDataReturn, pageWalk (R29, R232, R240, R265). -/
def Obligations.FetchesMissesAndWalks : Prop :=
  ∀ (s : State) (core target : CoreNo) (bay : BayNo) (b pa w va size c p r : Nat) (bs : List Byte) (ws : List Nat) (is_ : List Instr) (k : AccKind) (form fab chk : Bool) (h : WalkHit) (i : Nat × Nat × Nat) (rest : List (Nat × Nat × Nat)),
    let D := s.dev
    let n := core.toNat
    let x := D.bay n b
    let B := bay.toNat
    let z := D.bay n B
    let pc := x.pc.toNat
    let runs := D.runningBay n = some b ∧ D.mayOpen n b = true
    let at_ := runs ∧ D.accessHalf n b x.level .fetch false pc 4 = .ok pa
    let got := runs ∧ Dev.fetchWords n b x.pc 8 0 [] [] none D = (D, .words ws, none)
    let y := x.age.countBundle
    let opened := fun (l : Nat) => (D.setBay n b { y with issued := x.issued + 1, bundle := some { pc := x.pc, len := l, todo := is_, all := is_ } }).tickFree
    let decodes := fun (l : List Nat) => decodeBundle (BitVec.ofNat 7 n) (BitVec.ofNat 2 b) x.level x.tooNear l
    let refused := fun (c p l r : Nat) => D.setBay n b { x with exc := some { cause := c, detail := detailOf p l r, pc := x.pc } }
    let pte := if k = .store then setBits (setBits h.pte 6 6 1) 7 7 1 else setBits h.pte 6 6 1
    let tag := z.tag z.level
    let e := ({ h with pte := pte } : WalkHit).entry tag va
    let waits := (z.st = .frozen ∨ z.st = .miss) ∧ z.wait = .walk va k form size
    let goes : BayState := if z.st = .miss then .ready else .running
    let fails := fun (c r : Nat) => D.setBay n B { z with walkFault := some (va, c, r), st := goes, wait := .none }
    let done := (D.core n).invs = i :: rest ∧ i.1 = B ∧ i.2.1 = target.toNat ∧ D.oldStores target.toNat i.2.2 = false
    (got → ws.any (fun w => w.testBit 31) = true → decodes ws = .ok is_ → Becomes (.bundleFetch { core := core }) s (opened ws.length) ∧ Becomes (.bundleFetch { core := core, chk := true }) s ((opened ws.length).registerCheck n b))
      ∧ (got → ws.any (fun w => w.testBit 31) = true → decodes ws = .error (c, p, r) → Becomes (.bundleFetch { core := core }) s (refused c p ws.length r))
      ∧ (got → ws.any (fun w => w.testBit 31) = false → Becomes (.bundleFetch { core := core }) s (refused 1 7 8 1))
      ∧ (at_ → D.cached n (pa / 32) = some bs → leAt bs (pa % 32) 4 = w → w.testBit 31 = true → decodes [w] = .ok is_ → Becomes (.bundleFetch { core := core }) s (opened 1))
      ∧ (at_ → D.cached n (pa / 32) = none → D.servedAt pa = true → D.poisoned pa 4 = false → leAt (D.bytes (32 * (pa / 32)) 32) (pa % 32) 4 = w → w.testBit 31 = true → Becomes (.bundleFetch { core := core }) s
          ((D.fillBlock n (pa / 32) []).setBay n b { x with st := if (D.missAt n b x.level pc pa).getD false then .miss else .frozen, wait := .data }).tickFree)
      ∧ (runs → D.accessHalf n b x.level .fetch false pc 4 = .walk va →
          Becomes (.bundleFetch { core := core }) s (D.setBay n b { x with st := if D.walkLong n (x.tag x.level) va then .miss else .frozen, wait := .walk va .fetch false 4 }))
      ∧ (z.st = .frozen → z.wait = .data → Becomes (.missDataReturn core bay) s ((D.setBay n B { z with st := .running, wait := .none }).claim n B))
      ∧ (z.st = .miss → z.wait = .data → Becomes (.missDataReturn core bay) s ((D.setBay n B { z with st := .ready, wait := .none }).claim n B))
      ∧ (z.wait ≠ .data → z.dataDue = true → Becomes (.missDataReturn core bay) s ((D.setBay n B { z with dataDue := false }).claim n B))
      ∧ (waits → D.walk n tag va fab = .ok h → D.checkAccess z.level z.kmask k form e.perm (e.physical va) size = none → Becomes (.pageWalk core bay fab) s
          ((((if pte = h.pte then D else D.put h.addr (toLe 8 pte)).modCore n (fun q => (q.cacheAst tag h.ast).install D.free (decide (k = .fetch)) tag va e)).modBay n B
            (fun q => { q with st := if q.st = .miss then .ready else .running, wait := .none, walkFault := none })).tickFree))
      ∧ (waits → D.walk n tag va fab = .error (c, r) → Becomes (.pageWalk core bay fab) s (fails c r))
      ∧ (waits → D.walk n tag va fab = .ok h → D.checkAccess z.level z.kmask k form e.perm (e.physical va) size = some (c, r) → Becomes (.pageWalk core bay fab) s (fails c r))
      ∧ (done → (∃ j ∈ rest, j.1 = B) → Becomes (.tlbInvalidationComplete core bay target) s (D.modCore n (fun q => { q with invs := rest })))
      ∧ (done → (∀ j ∈ rest, j.1 ≠ B) → z.st = .waiting → z.wait = .syncT → Becomes (.tlbInvalidationComplete core bay target) s ((D.modCore n (fun q => { q with invs := rest })).setBay n B z.resume))
      ∧ (done → (∀ j ∈ rest, j.1 ≠ B) → z.wait ≠ .syncT → Becomes (.tlbInvalidationComplete core bay target) s ((D.modCore n (fun q => { q with invs := rest })).setBay n B z))

/-- The command completes for the oldest entry of a core store buffer: one for memory that answers leaves it and writes its bytes at its address, and every other byte stays; one for a device register leaves it for the fabric, in order, and arrives by a later such command, which performs the write there at the level its store issued at; one whose access fails, or whose storage does not answer, raises the bus error 0x14 at its bay and writes nothing. While both a store in the fabric and one in the buffer may go, which goes first is free. Choices of the model that it rests on: log entry 31. Each of these constructors is concluded to answer that next state, on the conditions named alone: storeBufferDrain (R201, R227, R268). -/
def Obligations.StoreBufferDrains : Prop :=
  ∀ (s : State) (core : CoreNo) (e : SbE) (rest : List SbE) (fab : Bool),
    let D := s.dev
    let n := core.toNat
    let E := D.modCore n (fun c => { c with sb := rest })
    let A := D.modCore n (fun c => { c with devOut := rest })
    let go := Instr.storeBufferDrain core
    let head := (D.core n).sb = e :: rest ∧ ((D.core n).devOut = [] ∨ Config.devFirst D.free = false)
    let first := (D.core n).devOut = e :: rest ∧ ((D.core n).sb = [] ∨ Config.devFirst D.free = true)
    let error := fun (d : Dev) => ((d.raise n e.bay 0x14 (Config.busDetail e.pa % 65536)).sbWakeAll n).tickFree
    Powered s →
      (head → e.dev = false → D.servedAt e.pa = true → After (go false) s (fun d => (d.core n).sb = rest ∧ d.mem = (D.put e.pa e.data).mem
          ∧ ∀ a, a < e.pa ∨ e.pa + e.data.length ≤ a → d.byte a = D.byte a))
        ∧ (head → e.dev = true → Becomes (go fab) s ((D.modCore n (fun c => { c with sb := rest, devOut := c.devOut ++ [e] })).sbWakeAll n).tickFree)
        ∧ (head → e.dev = false → fab = true ∨ D.servedAt e.pa = false → Becomes (go fab) s (error E))
        ∧ (first → e.dev = true → Becomes (go false) s (((A.atLevel n e.bay e.lvl (fun z => z.regWrite (bayAgent n e.bay) (e.pa - devBase) (fromLe e.data))).sbWakeAll n).tickFree))
        ∧ (first → Becomes (go true) s (error A))
        ∧ ((D.core n).sb = [] → (D.core n).devOut = [] → Becomes (go fab) s D.tickFree)

/-- Armed, a valid value an origin writes to a Mirror register with no value staged takes the lowest free slot under the next ticket, MLAST reads 1, and MSUM.NEW is set; a writer without an origin is ignored and counted in MREFUSE; an invalid value leaves MLAST 5. Another origin that countersigns a staged slot with its ticket and value commits it (MCS_RES 1), and the origin itself is refused (6); rejecting frees it (2); a group commits at one instant where the CRC over its slots matches. A staged slot expires into state 4. The first committed value whose boundary has come comes into force, alone unless it is a ring value. Choices of the model that it rests on: log entry 44. Each of these constructors is concluded to answer that next state, on the conditions named alone: mirrorStage, mcsCountersign, mcsReject, mcsGroupCountersign, stageExpiry, committedValueApplied (R249, R250, R251, R252, R253). -/
def Obligations.MirrorRegistersUnderDualControl : Prop :=
  ∀ (s : State) (who : Agent) (o : Origin) (id v : Word) (i : BitVec 4) (tk : Half) (k r : Nat) (g : List Nat),
    let D := s.dev
    let n := id.toNat
    let t := D.mi.ticket % 0xFFFF + 1
    let V := if n = midMCTL then v &&& 0x7FFFFFFF else v
    let z := D.stageSlot i.toNat
    let reach := who ≠ .host 0 ∨ D.windowOpen = true
    let writes := isMirror n = true ∧ reach ∧ D.originOf who = some o ∧ D.mi.armed = true
    let last := fun (e : Dev) (w : Nat) => e.setBank o { e.bank o with last := BitVec.ofNat 32 w }
    let free := k < 16 ∧ (D.stageSlot k).st = 0 ∧ ∀ j, j < k → (D.stageSlot j).st ≠ 0
    let staged := (D.setStage k { st := 1, id := BitVec.ofNat 32 n, val := V, org := orgCode o, ticket := t, age := 0, limit := bits (D.committed midMCTL).toNat 15 0 })
    let res := fun (e : Dev) (w : Nat) => e.setBank o { e.bank o with res := w }
    let ok := D.originOk o = true
    let live := ok ∧ D.mi.armed = true ∧ z.st = 1 ∧ z.ticket = tk.toNat
    let vs := g.map (fun j => ((D.stageSlot j).id.toNat, (D.stageSlot j).val))
    let group := (List.range 16).filter (fun j => (D.bank o).mask.getLsbD j) = g
    (writes → mirrorValid n V.toNat = true → (∀ j, j < 16 → (D.stageSlot j).st = 1 → (D.stageSlot j).id.toNat ≠ n) → free →
        Becomes (.mirrorStage who id v) s ((last ({ staged with mi := { staged.mi with ticket := t } }) (2 ^ 28 + k * 2 ^ 16 + t)).summon (fun m => { m with new := true })))
      ∧ (writes → mirrorValid n V.toNat = false → Becomes (.mirrorStage who id v) s (last D (5 * 2 ^ 28)))
      ∧ (isMirror n = true → reach → D.originOf who = none → Becomes (.mirrorStage who id v) s (({ D with mi := { D.mi with refuse := satAdd D.mi.refuse 1 } }).record 0xB000 0x02 []))
      ∧ (live → z.org ≠ orgCode o → z.val = (D.bank o).val → mirrorRule (D.look [(z.id.toNat, z.val)]) z.id.toNat z.val.toNat = true →
        Becomes (.mcsCountersign o i tk) s (res ((D.setStage i.toNat { z with st := 2 }).commit [(z.id.toNat, z.val)]) 1))
      ∧ (live → z.org = orgCode o → Becomes (.mcsCountersign o i tk) s (res D 6)) ∧ (live → z.org ≠ orgCode o → z.val ≠ (D.bank o).val → Becomes (.mcsCountersign o i tk) s (res D 5))
      ∧ (live → Becomes (.mcsReject o i tk) s (res (D.setStage i.toNat { z with st := 3 }) 2))
      ∧ (ok → D.mcsCheck i.toNat tk.toNat = some r → Becomes (.mcsCountersign o i tk) s (res D r) ∧ Becomes (.mcsReject o i tk) s (res D r))
      ∧ (ok → D.mi.armed = true → group → g ≠ [] → (∀ j, j ∈ g → (D.stageSlot j).st = 1 ∧ (D.stageSlot j).org = k) → k ≠ orgCode o → D.groupCrc g = (D.bank o).val →
          (∀ p, p ∈ vs → mirrorRule (D.look vs) p.1 p.2.toNat = true) →
          Becomes (.mcsGroupCountersign o) s (res ((g.foldl (fun (e : Dev) j => e.setStage j { e.stageSlot j with st := 2 }) D).commit vs) 1))
      ∧ (z.st = 1 → z.limit ≤ z.age + 1 → Becomes (.stageExpiry i) s (((D.setStage i.toNat { z with st := 4, age := z.limit }).summon (fun m => { m with exp := true })).record 0xB000 0x03 [BitVec.ofNat 8 i.toNat, BitVec.ofNat 8 z.org]))
      ∧ (∀ c, D.mi.applyQ.find? (fun j => D.boundaryCome j.toNat) = some c → isRingId c.toNat = false →
          Becomes .committedValueApplied s (({ D with mi := { D.mi with applyQ := D.mi.applyQ.filter (fun j => !(j.toNat == c.toNat)) } } : Dev).force
            ((D.mi.applyQ.filter (fun j => j.toNat == c.toNat)).map (fun (j : Word) => (j.toNat, D.committed j.toNat)))))
      ∧ ((∀ j ∈ D.mi.applyQ, D.boundaryCome j.toNat = false) → Becomes .committedValueApplied s D)

/-- With the counters on and following the pins, an edge with EPOCH_IN risen moves to the next epoch at tick 0 and any other edge to the next tick, LIVE is set and the update counter moves; with the counters off nothing but the sampled input changes. Loss of the source sets LOSS, clears LIVE and reports; EPCTL with EN 0 stops running counters, CUR none; a set EN from off takes the source the parameters written before name, the pins from EPLOAD at tick 0; a write that leaves EN alone writes the parameters, and a new SRC is followed. ES_CTL arms a slot; the first due slot fires once: an event 0x23, a token for a DMA channel, or a snapshot. Choices of the model that it rests on: log entries 43, 76, 78. Each of these constructors is concluded to answer that next state, on the conditions named alone: tickIn, epochSourceLoss, epctlWrite, esCtlWrite, eventSlotFire (R167, R168, R169, R171, R173, R174). -/
def Obligations.EpochsAndEventSlots : Prop :=
  ∀ (s : State) (who : Agent) (v : Word) (q k : Nat) (l : BitVec 8) (qs : List Nat) (altLive : Bool),
    let D := s.dev
    let x := D.ep
    let follows := x.ctl.toNat.testBit 31 = true ∧ x.stat.toNat / 2 ^ 28 % 8 = 0
    let sampled := fun (b : Bool) => { D with ep := { x with prevIn := b } }
    let update := fun (d : Dev) (e t : Nat) => (((({ d with ep := { (d.ep.live true) with
      epoch := e, tick := t, updates := d.ep.updates + 1, ctl := BitVec.ofNat 32 (setBits d.ep.ctl.toNat 27 20 (bits d.ep.nxt.toNat 27 20)) } } : Dev).collectDue).countWaits).sendMarks)
    let w := setBits (setBits (setBits v.toNat 31 31 0) 19 12 (Nat.max 2 (bits v.toNat 19 12))) 11 0 0
    let src := bits w 30 28
    let cleared := x.nxt &&& 0x7FFFFFFF
    let kept := x.nxt ||| 0x80000000
    let from_ := bits kept.toNat 30 28
    let set := { x with ctl := kept, nxt := kept }
    let new := { x with ctl := BitVec.ofNat 32 (setBits (0x80000000 + w) 27 20 (bits x.ctl.toNat 27 20)), nxt := BitVec.ofNat 32 (0x80000000 + w) }
    let may := D.allowed who 0x0C000000 true = true
    let on := x.ctl.toNat.testBit 31
    let z := D.evSlot k
    let c := z.ctl.toNat
    let due := x.due = k :: qs ∧ c.testBit 31 = true
    let fired := ({ D with ep := { x with due := qs, slots := Tab.set x.slots k { z with ctl := BitVec.ofNat 32 (setBits c 31 30 1) } } } : Dev)
    let low := (List.range 256).find? (fun j => let w := (fired.evSlot j).ctl.toNat; (bit w 30 || (bit w 31 && qs.contains j)) && bits w 29 28 == 0 && bits w 8 0 == bits c 8 0)
    let lost := ({ D with ep := (x.mark 27).live false } : Dev).epochEvent 1
    (follows → x.prevIn = false → x.epoch < 0xFFFFFFFFFFFF → Becomes (.tickIn true) s (update (sampled true) (x.epoch + 1) 0))
      ∧ (follows → x.tick < 0xFFFFFF → Becomes (.tickIn false) s (update (sampled false) x.epoch (x.tick + 1)))
      ∧ (follows → x.prevIn = true → x.tick < 0xFFFFFF → Becomes (.tickIn true) s (update (sampled true) x.epoch (x.tick + 1)))
      ∧ (x.ctl.toNat.testBit 31 = false → ∀ b, Becomes (.tickIn b) s (sampled b))
      ∧ (x.ctl.toNat.testBit 31 = true → x.loss ≠ 0 → Becomes (.epochSourceLoss false) s lost)
      ∧ (x.ctl.toNat.testBit 31 = false ∨ x.loss = 0 → Becomes (.epochSourceLoss altLive) s D)
      ∧ (may → v.toNat.testBit 31 = false → on = true → Becomes (.epctlWrite who v) s { D with ep := (({ x with ctl := cleared, nxt := cleared }).follow 7).live false })
      ∧ (may → v.toNat.testBit 31 = false → on = false → Becomes (.epctlWrite who v) s { D with ep := { x with ctl := BitVec.ofNat 32 w, nxt := BitVec.ofNat 32 w } })
      ∧ (may → v.toNat.testBit 31 = true → on = false → from_ = 0 → Becomes (.epctlWrite who v) s ({ D with ep := { (set.follow 0) with epoch := x.load, tick := 0 } } : Dev).collectDue)
      ∧ (may → v.toNat.testBit 31 = true → on = false → from_ ≠ 0 → Becomes (.epctlWrite who v) s { D with ep := set.follow from_ })
      ∧ (may → v.toNat.testBit 31 = true → on = true → Becomes (.epctlWrite who v) s { D with ep := if src = bits x.ctl.toNat 30 28 then new else new.follow src })
      ∧ (D.allowed who 0x0C000000 true = false → Becomes (.epctlWrite who v) s D)
      ∧ (D.allowed who (0x0C00100C + 16 * l.toNat) true = true → Becomes (.esCtlWrite who l v) s (D.writeSlot l.toNat 0xC v.toNat))
      ∧ (due → bits c 29 28 = 1 → Becomes .eventSlotFire s (fired.addToken (bits c 5 4) (bits c 3 0)))
      ∧ (due → bits c 29 28 = 2 → Becomes .eventSlotFire s (fired.snap 1))
      ∧ (due → bits c 29 28 = 0 → Becomes .eventSlotFire s (fired.raise (c / 4 % 128) (c % 4) 0x23 (low.getD k)))

/-- By a writer the access rules admit, with no request in progress: each act the state of its domain permits begins (DRAIN from ON, OFF from DRAINED or FAILED, ON from OFF, RETURN from DRAINED, TEST from DRAINED or FAILED, REPATCH of a core pair from DRAINED), RECOVER recovers a locked core, CANCEL returns a draining domain to service; an act its state does not permit is refused with result 3, a malformed word with 0xB, and a request while one is in progress with 9. The ends move the domain on: DRAINED, back ON after a timeout (7), DRAINED or FAILED after a test, DRAINED after powering on or patching, ON after a return. Choices of the model that it rests on: log entries 60, 61, 80. Each of these constructors is concluded to answer that next state, on the conditions named alone: drain, drainComplete, drainTimeout, cancel, test, selfTestEnd, repatch, repatchEnd, offf, onn, powerOnEnd, returnn, returnEnd, recover, pdReqMalformed (R379, R380, R381, R382, R383). -/
def Obligations.PowerDomainRequests : Prop :=
  ∀ (s : State) (who : Agent) (dom : BitVec 7) (v : Word) (pass : Bool),
    let D := s.dev
    let n := dom.toNat
    let st := D.domState n
    let may := D.allowed who 0x0D010000 true = true
    let idle := may ∧ D.pw.req = none
    let movable := n < 96 ∧ n ≠ 90 ∧ n ≠ 95
    let started := fun (a : Nat) => D.pw.req = some (a, n)
    let lost := D.loseUnit n
    let left := ({ D.drainBays n with pw := { (D.drainBays n).pw with draining := (D.drainBays n).baysLeft n } } : Dev)
    let patches := (D.inForce midPATCHEN).toNat.testBit 30
    let tested := fun (r st q : Nat) => (((({ D with pw := { D.pw with tres := BitVec.ofNat 32 r, testLevel := none } } : Dev).setDom n st).pdEnd 5 n q)).tickFree
    (idle → movable → st = 1 → D.drainRefused n = false → Becomes (.drain who dom) s ((D.pdAccept 1 n).beginDrain n))
      ∧ (idle → movable → st = 3 ∨ st = 6 → Becomes (.offf who dom) s ((lost.setDom n 0).pdEnd 2 n 2))
      ∧ (idle → n < 96 → st = 0 → Becomes (.onn who dom) s ((D.pdAccept 3 n).setDom n 7)) ∧ (idle → n < 96 → st = 3 → Becomes (.returnn who dom) s ((D.pdAccept 4 n).setDom n 7))
      ∧ (idle → movable → 64 ≤ n → st = 3 ∨ st = 6 → Becomes (.test who dom) s ((D.pdAccept 5 n).setDom n 4))
      ∧ (idle → n < 64 → st = 3 → patches = true → Becomes (.repatch who dom) s ((D.pdAccept 6 n).setDom n 5))
      ∧ (idle → D.corePresent n = true → D.coreLocked n = true → Becomes (.recover who dom) s ((D.recoverCore n).pdEnd 7 0 2))
      ∧ (may → n < 96 → st = 2 → started 1 → Becomes (.cancel who dom) s ((D.backOn n).pdEnd 8 n 2))
      ∧ (idle → movable → st ≠ 1 → st ≠ 0xF → Becomes (.drain who dom) s (D.pdRefuse 1 n 3)) ∧ (may → D.pw.req ≠ none → n < 96 → Becomes (.onn who dom) s (D.pdRefuse 3 n 9))
      ∧ (may → D.pdCheck v.toNat = some 0xB → Becomes (.pdReqMalformed who v) s (D.pdRefuse (bits v.toNat 31 28) (bits v.toNat 6 0) 0xB))
      ∧ (started 1 → st = 2 → 64 ≤ n → D.drainDone n = true → Becomes (.drainComplete dom) s ((D.setDoms (D.drainSet n) 3).pdEnd 1 n 2))
      ∧ (started 1 → st = 2 → n < 64 → left.drainDone n = true → Becomes (.drainComplete dom) s (((left.setUp n false).setDoms [n] 3).pdEnd 1 n 2))
      ∧ (started 1 → st = 2 → n < 64 → left.drainDone n = false → Becomes (.drainComplete dom) s left)
      ∧ (64 ≤ n → n < 86 → D.drainDone n = true)
      ∧ (started 1 → st = 2 → Becomes (.drainTimeout dom) s ((D.backOn n).pdEnd 1 n 7))
      ∧ (started 3 → st = 7 → 64 ≤ n → Becomes (.powerOnEnd dom) s ((lost.setDom n 3).pdEnd 3 n 2))
      ∧ (started 3 → st = 7 → n < 64 → Becomes (.powerOnEnd dom) s (((((((lost.pairVectors n).resetCore (2 * n) 0).resetCore (2 * n + 1) 0)).patchAsStart n).setDom n 3).pdEnd 3 n 2))
      ∧ (started 4 → st = 7 → 64 ≤ n → n < 72 → Becomes (.returnEnd dom) s ((D.setDom n 1).pdEnd 4 n 2))
      ∧ (started 4 → st = 7 → n < 64 → Becomes (.returnEnd dom) s (((((((D.setDom n 1).pairVectors n).resetCore (2 * n) 2).resetCore (2 * n + 1) 2).setUp n true).driveLock).pdEnd 4 n 2))
      ∧ (st = 5 → patches = true → Becomes (.repatchEnd dom) s (let e := (D.recordBadBanks 1).patchPair n (D.bestBank 1); (({ e with pw := { e.pw with ptBank := D.bestBank 1 } }).setDom n 3).pdEnd 6 n 2))
      ∧ (st = 5 → patches = false → Becomes (.repatchEnd dom) s ((D.setDom n 3).pdEnd 6 n 6))
      ∧ (st = 4 → 86 ≤ n → Becomes (.selfTestEnd dom true) s (tested 0xC0000000 3 2) ∧ Becomes (.selfTestEnd dom false) s (tested (2 ^ 31 + (Config.testElem D.free).toNat) 6 8))

/-- From the off stage, with no power failure and no wait for heat, start-up counts the power cycle, reads the fuses, zeroes Loam, verifies the images and trains memory; with no firmware that verifies it sets NOFW and ends at once, else it starts the cores of the present pairs. CORE_RELEASE releases them; start-up ends when DONE is written or at the time-out, and dual control is armed. MEMIL takes 0 to 2 before DONE. A power-on reset leaves STANDBY, removal of VDD_AON leaves OFF, a device reset runs the power-fail sequence first, acts whenever VDD_AON is present, also after that sequence, and leaves STANDBY where PWRGOOD is low, which is a free value of the model (log entry 62). A power failure is registered once, with its record put first, and the frame being written is dropped; its sequence makes every queued record durable and then stops. A repeated start-up waits for sensor 8 to read below its limit after a thermal trip. Choices of the model that it rests on: log entries 62, 63, 81. Each of these constructors is concluded to answer that next state, on the conditions named alone: powerFail, powerFailSequenceEnd, powerOnReset, deviceReset, startup, bootDone, bootTimeout, memilWrite, vddAonRemoved, coreRelease (R164, R370, R373, R374, R376). -/
def Obligations.StartUpAndResets : Prop :=
  ∀ (s : State) (who : Agent) (v : Word),
    let D := s.dev
    let p := D.pw
    let begins := p.stage = .off ∧ p.pfail = false ∧ p.hotWait = false
    let ready := D.startFuses.startLoam.startImages.startLinks
    let stage := fun (d : Dev) (t : BootStage) => { d with pw := { d.pw with stage := t } }
    let ends := fun (d : Dev) => { d with pw := { d.pw with stage := .finished }, mi := { d.mi with armed := true } }
    let boot := fun (w : Word) => { D with pw := { p with boot := p.boot ||| w } }
    let engines := D.setDoms (rangeFrom 91 4) 1
    let standby := fun (d : Dev) => if Config.pwrgood D.free then d else { d with pw := { d.pw with pstate := 1 } }
    (begins → ∀ r, ready.pw.fwBank = r → Becomes .startup s (match r with
        | none => ends { ready with pw := { ready.pw with boot := 0x40000000 } }
        | some i => stage (ready.startCores (imgEntry (ready.imgBank i).data)) .training))
      ∧ (p.stage ≠ .off ∨ p.pfail = true → Becomes .startup s D)
      ∧ (p.stage = .training → Becomes .coreRelease s (stage (engines.presentPairs.foldl (fun (e : Dev) k => (e.modCore (2 * k) (fun c => { c with up := true })).modCore (2 * k + 1) (fun c => { c with up := true })) engines) .firmware))
      ∧ (p.stage = .firmware → Becomes .bootDone s (ends (boot 0x80000000))) ∧ (p.stage = .finished → Becomes .bootDone s (boot 0x80000000))
      ∧ (p.stage = .firmware → Becomes .bootTimeout s (ends (boot 0x20000000)))
      ∧ (D.allowed who 0x0D010040 true = true → p.boot.toNat.testBit 31 = false → v.toNat % 4 ≠ 3 → Becomes (.memilWrite who v) s { D with pw := { p with memil := BitVec.ofNat 32 (v.toNat % 4) } })
      ∧ (D.allowed who 0x0D010040 true = true → p.boot.toNat.testBit 31 = true ∨ v.toNat % 4 = 3 → Becomes (.memilWrite who v) s D)
      ∧ exec .powerOnReset s = .next { s with dev := D.powerOnReset 1 } ∧ (D.powerOnReset 1).pw.pstate = 1
      ∧ exec .vddAonRemoved s = .next { s with dev := D.powerOnReset 0 } ∧ (D.powerOnReset 0).pw.pstate = 0
      ∧ (p.hotWait = true → 760 ≤ Tab.get p.temp 8 760 → Becomes .startup s D)
      ∧ (p.pstate ≠ 0 → exec .deviceReset s = .next { s with dev := (standby ((if p.pfail then D.failureEnd else { D.commitQueue.dropFrame with rc := { D.commitQueue.dropFrame.rc with optSaved := D.rc.opt } }).resetDevice)).tickFree })
      ∧ (p.pstate = 0 → exec .deviceReset s = .next s)
      ∧ (∀ d : Dev, d.resetDevice.pw.stage = .off ∧ d.resetDevice.cores = [] ∧ d.resetDevice.jr.queue = [] ∧ d.resetDevice.mi.armed = false)
      ∧ (p.pfail = true → Becomes .powerFail s D) ∧ (p.pfail = false → Becomes .powerFail s (let e := D.recordLogged true 0xA000 4 []; { e with pw := { e.pw with pfail := true } }.dropFrame))
      ∧ (p.pfail = true → p.pfDone = false → p.rstWant = false → Becomes .powerFailSequenceEnd s
          (let e := D.commitQueue.logDurable; { e with pw := { e.pw with pfDone := true }, rc := { e.rc with optSaved := e.rc.opt } }))

/-- By a writer the access rules admit: an open with a KIND and slot of the layout, nothing busy and nothing open begins an upload into the bank not in use, and any other open leaves RESULT 7; data appends four bytes, low byte first; a close starts the checks; an abandon leaves RESULT 8 and the bank invalid. The checks end with the image valid in its bank (RESULT 1) or the bank invalid, RESULT one more than the failed check, and the event 0xB000/01 recorded. Choices of the model that it rests on: log entries 12, 64. Each of these constructors is concluded to answer that next state, on the conditions named alone: imgOpen, imgDataWrite, imgClose, imgAbandon, imageCloseChecksEnd (R377, R378, R410). -/
def Obligations.ImageUploads : Prop :=
  ∀ (s : State) (who : Agent) (v : Word) (u : Upload),
    let D := s.dev
    let p := D.pw
    let kind := bits v.toNat 10 8
    let slot := bits v.toNat 2 0
    let form := openFormOk kind slot = true ∧ bits v.toNat 29 11 = 0 ∧ bits v.toNat 7 3 = 0
    let free := p.imgBusy = false ∧ p.mimg = none ∧ p.img = none
    let ctl := D.allowed who 0x0D010080 true = true
    let spoiled := fun (d : Dev) => { d with pw := { d.pw with banks := Tab.set d.pw.banks u.slot { d.imgBank u.slot with valid := false } } }
    let closing := p.imgClose = some u ∧ p.imgMbox = false
    (ctl → free → form → Becomes (.imgOpen who v) s { D with pw := { p with img := some { kind := kind, slot := D.openTarget kind slot }, imgRes := 0 } })
      ∧ (ctl → ¬ (free ∧ form) → Becomes (.imgOpen who v) s { D with pw := { p with imgRes := 7 } })
      ∧ (D.allowed who 0x0D010084 true = true → p.img = some u → Becomes (.imgDataWrite who v) s { D with pw := { p with img := some (u.append (toLe 4 v.toNat)) } })
      ∧ (ctl → p.img = some u → p.imgBusy = false → Becomes (.imgClose who) s { D with pw := { p with img := none, imgBusy := true, imgClose := some u, imgMbox := false } })
      ∧ (ctl → p.img = some u → Becomes (.imgAbandon who) s { spoiled D with pw := { (spoiled D).pw with img := none, imgRes := 8 } })
      ∧ (closing → ∀ r, D.imgCheck u.kind u.data u.ovr = r → Becomes .imageCloseChecksEnd s (match r with
        | none => { D with pw := { p with imgBusy := false, imgClose := none, imgRes := 1, banks := Tab.set p.banks u.slot { data := u.data, valid := true } } }
        | some c => (spoiled { D with pw := { p with imgBusy := false, imgClose := none, imgRes := c + 1 } }).record 0xB000 1 []))
      ∧ (p.imgClose = none → Becomes .imageCloseChecksEnd s D)

/-- By a writer the access rules admit, a JS_CTL write that changes EN acts on EN alone, and any other takes QUOTA held to 1 to 1,012 and LOW; the low test is made at that write on an enabled stream not open, or at the enabling write that follows. REOPEN of a stopped stream also drops its sealed digests and ends its waits. The first digest that waits is sealed as the SHA-256 of its message and trailer, in JS_DIG and JS_DEP, and the partner digests still wanted are kept. A partner digest equal in value, count and close is done with, and a different one stops the stream; a wait that ran out stops it for each digest that did not come. The recovery scan ends with every stream recovered and no queued record. Choices of the model that it rests on: log entries 41, 42, 76. Each of these constructors is concluded to answer that next state, on the conditions named alone: jsCtlWrite, jsCtlReopen, digestSeal, digestCompare, digestWaitExpiry, recoveryScanEnd (R149, R176, R178, R179, R180, R166). -/
def Obligations.JournalStreamsAndDigests : Prop :=
  ∀ (s : State) (who : Agent) (t : BitVec 6) (v : Word) (bridge : Bool) (org : BitVec 4) (z : Seal) (h : PDig) (e : Nat),
    let D := s.dev
    let n := t.toNat
    let x := D.stream n
    let off := 0x0E001004 + 0x80 * n
    let q := Nat.min 1012 (Nat.max 1 (v.toNat / 2 ^ 16 % 1024))
    let own := D.owner n
    let same := z.digest = h.digest ∧ z.count = h.count ∧ z.close = h.close
    let heard := D.setStream n { x with held := x.held.erase h, seals := x.seals.map (fun w => if w = z then z.got bridge org.toNat else w) }
    let pair := x.held.find? (fun g => g.bridge == bridge && g.origin == org.toNat && x.seals.any (fun y => y.done && y.epoch == g.epoch && y.wants bridge org.toNat)) = some h
      ∧ x.seals.find? (fun y => y.done && y.epoch == h.epoch) = some z
    let y : Seal := { z with digest := sha256 (z.msg ++ digestTrailer n z), msg := [], done := true, wantA := 0, wantB := 0, maskA := 0, maskB := 0, left := bits D.ep.ctl.toNat 19 12 }
    let again := fun (w : Dev) => if x.en = true ∧ D.streamState n ≠ 1 then w.evalLow n else w
    let toggles := v.toNat.testBit 31 ≠ x.en
    let flipped := D.setStream n { x with en := v.toNat.testBit 31, wrote := x.wrote && !v.toNat.testBit 31 }
    let stored := D.setStream n { x with quota := q, low := v.toNat % 1024, wrote := x.wrote || !x.en }
    let first := if toggles then (if v.toNat.testBit 31 = true ∧ x.wrote = true then flipped.evalLow n else flipped) else again stored
    let opened := fun (d : Dev) =>
      let w := d.stream n
      let y := d.setStream n { w with stopped := false, seals := w.seals.filter (fun c => !c.done), held := w.held.filter (fun h => match w.lastSealed with | none => true | some e => decide (e < h.epoch)) }
      if w.stopped then { y with ep := { y.ep with waits := y.ep.waits.filter (fun p => p.1 != n) } } else d
    let reopen := 2 ^ 30 + D.regValue .pupor off
    (D.allowed who off true = true → v.toNat.testBit 30 = false → Becomes (.jsCtlWrite who t v) s first)
      ∧ (D.allowed who off true = true → v.toNat.testBit 30 = true → Becomes (.jsCtlWrite who t v) s (opened first))
      ∧ (D.allowed who off true = false → Becomes (.jsCtlWrite who t v) s D ∧ Becomes (.jsCtlReopen who t) s D)
      ∧ (D.allowed who off true = true → Becomes (.jsCtlReopen who t) s (D.writeJsCtl n reopen))
      ∧ (x.seals.find? (fun w => !w.done) = some z → (D.smap n).testBit 31 = false → (D.smapb n).testBit 31 = false → Becomes (.digestSeal t) s
          (D.setStream n { x with seals := x.seals.map (fun w => if w = z then y else w), dig := y.digest, dep := y.epoch, lastSealed := some y.epoch, held := x.held.filter (fun g => decide (y.epoch < g.epoch) || x.seals.any (fun w => w.done && w.epoch == g.epoch && w.wants g.bridge g.origin)) }))
      ∧ (pair → same → Becomes (.digestCompare t bridge org) s heard) ∧ (pair → ¬ same → Becomes (.digestCompare t bridge org) s (heard.stopStream n 4 z.epoch))
      ∧ (D.ep.waits.find? (fun p => p.1 == n) = some (n, e) → x.seals.find? (fun w => w.done && w.epoch == e) = none → Becomes (.digestWaitExpiry t) s { D with ep := { D.ep with waits := D.ep.waits.erase (n, e) } })
      ∧ (D.jr.scanning = true → Becomes .recoveryScanEnd s D.recoverAll) ∧ (D.jr.scanning = false → Becomes .recoveryScanEnd s D)

/-- Where the host reaches the function: FACC takes what is offered until the close, which start-up's end permits; EPR_EL answers the low epoch word and latches the rest; MWIN_DATA stages a Mirror value with HOSTORG, and CFGERR answers a number that is none; a range is stored, its count held to 256, while VF Enable is 0, and else refused; VF Enable checks the ranges or resets every VF; base and size of a disabled queue are stored, of an enabled one refused; unmasking a vector sends its held message; a function-level reset resets its function. Choices of the model that it rests on: log entries 21, 51, 68. Each of these constructors is concluded to answer that next state, on the conditions named alone: faccWrite, featCtlClose, eprElRead, mwinDataWrite, vfqWrite, vfEnable, queueRegWrite, functionLevelResetVf, functionLevelResetPf, msixUnmask (R24, R25, R281, R282, R285, R286, R288, R300, R303, R304, R376). -/
def Obligations.HostSetUp : Prop :=
  ∀ (s : State) (fn : FnNo) (n : BitVec 2) (w : DWord) (v : Word) (cq : Bool) (q : Nat) (vec : BitVec 7),
    let D := s.dev
    let f := fn.toNat
    let x := D.fn f
    let here := D.hostUp f = true
    let pf := D.hostUp 0 = true
    let has := fun (g k : Nat) => (D.fn g).has k = true
    let m := Tab.get x.msix vec.toNat {}
    let open_ := D.setFn f { x with msix := Tab.set x.msix vec.toNat { m with mask := false, pend := false } }
    let latched := D.setFn f { x with epH := BitVec.ofNat 32 (D.ep.epoch / 2 ^ 32 % 65536), epT := BitVec.ofNat 32 D.ep.tick }
    let range := BitVec.ofNat 32 (Nat.min 256 (v.toNat / 65536 % 512) * 65536 + v.toNat % 1024)
    let sizeTo := Nat.max 1 (Nat.min (v.toNat % 65536) (if x.has 6 then 65535 else 4095))
    let at_ := fun (k : Nat) => BitVec.ofNat 16 k
    let sqSize := at_ (0x100C + 32 * q)
    let cqBase := at_ (0x3004 + 32 * q)
    let ownS := q < 256 ∧ D.owns f q false = true
    let ownC := q < 256 ∧ D.owns f q true = true
    (here → x.closed = false → Becomes (.faccWrite fn n w) s (D.setFn f { x with facc := Tab.set x.facc n.toNat (w &&& D.feat f n.toNat) }))
      ∧ (here → x.closed = true → Becomes (.faccWrite fn n w) s D)
      ∧ (here → D.pw.stage = .finished → Becomes (.featCtlClose fn) s (D.setFn f { x with closed := true })) ∧ (D.pw.stage ≠ .finished → Becomes (.featCtlClose fn) s D)
      ∧ (here → has f 14 → Becomes (.eprElRead fn) s { latched with host := { latched.host with out := D.host.out ++ [.rdata f (BitVec.ofNat 32 D.ep.epoch)] } })
      ∧ (pf → has 0 8 → isMirror D.host.mwin.toNat = true → Becomes (.mwinDataWrite 0 v) s (D.mirrorWrite (.host 0) D.host.mwin.toNat v))
      ∧ (pf → has 0 8 → isMirror D.host.mwin.toNat = false → Becomes (.mwinDataWrite 0 v) s (D.cfgErr 0)) ∧ (fn ≠ 0 → Becomes (.mwinDataWrite fn v) s D)
      ∧ (pf → has 0 9 → f ≠ 0 → D.host.vfEn = false → Becomes (.vfqWrite 0 fn cq v) s (D.setFn f (x.setRange cq range)))
      ∧ (pf → has 0 9 → f ≠ 0 → D.host.vfEn = true → Becomes (.vfqWrite 0 fn cq v) s (D.cfgErr 0))
      ∧ (pf → D.host.vfEn = false → Becomes (.vfEnable true) s
          (let e := (rangeFrom 1 63).foldl (fun (e : Dev) g => (e.checkRange g false).checkRange g true) D; { e with host := { e.host with vfEn := true } }))
      ∧ (pf → D.host.vfEn = true → Becomes (.vfEnable false) s
          (let e := (rangeFrom 1 63).foldl (fun (e : Dev) g => e.resetFn g) D; { e with host := { e.host with vfEn := false } }))
      ∧ (here → ownS → (x.sq q).en = false → Becomes (.queueRegWrite fn sqSize v) s (D.setSq f q { x.sq q with size := sizeTo }))
      ∧ (here → ownS → (x.sq q).en = true → Becomes (.queueRegWrite fn sqSize v) s (D.cfgErr f))
      ∧ (here → ownC → (x.cq q).en = false → Becomes (.queueRegWrite fn cqBase v) s (D.setCq f q { x.cq q with base := BitVec.ofNat 64 (setBits (x.cq q).base.toNat 63 32 v.toNat) }))
      ∧ (here → vec.toNat < (if f = 0 then 65 else 17) → m.mask = true → Becomes (.msixUnmask fn vec) s (if m.pend = true then { open_ with host := { open_.host with out := D.host.out ++ [.msix f vec.toNat m.addr m.data] } } else open_))
      ∧ (here → f ≠ 0 → D.host.vfEn = true → Becomes (.functionLevelResetVf fn) s (D.resetFn f))
      ∧ (pf → Becomes .functionLevelResetPf s D.flrPf) ∧ (pf → D.flrPf.host.mwin = 0 ∧ D.flrPf.host.vfEn = false)

/-- Where the host reaches the function and it owns the queue: enabling a submission queue needs its completion queue enabled, the feature of its kind and a stream of its own, else CFGERR; it starts at 0 with parity 1; disabling answers the entries announced, the one in hand keeping its own end. A valid tail or head is stored, another counted; before the close FAULT is flagged. The fetch takes the queue whose turn it is, and an entry whose checks pass is in hand; a failed read halts the queue. A write of an intake ring that changes EN acts on EN alone, and an idle ring takes base and size; a completed slot is marked DONE and its entry completed; a head within the slots held retires them. Choices of the model that it rests on: log entries 47, 48, 50, 52, 76, 90. Each of these constructors is concluded to answer that next state, on the conditions named alone: sqEnable, sqDisable, cqEnable, cqDisable, sqTailDoorbell, cqHeadDoorbell, submissionFetch, inRingConfigWrite, inCplWrite, inHeadWrite, cqModTimerExpiry (R288, R289, R290, R293, R294, R295, R297, R298, R300, R301, R302, R415). -/
def Obligations.HostQueuesAndRings : Prop :=
  ∀ (s : State) (fn : FnNo) (q : BitVec 8) (v : Word) (who : Agent) (r : BitVec 7) (g k : Nat) (bs : List Byte),
    let D := s.dev
    let f := fn.toNat
    let n := q.toNat
    let x := D.fn f
    let y := x.sq n
    let z := x.cq n
    let mineS := D.hostUp f = true ∧ D.owns f n false = true
    let mineC := D.hostUp f = true ∧ D.owns f n true = true
    let may := D.owns f y.cq true = true ∧ (x.cq y.cq).en = true ∧ x.has (if y.kind then 1 else 0) = true ∧ (y.kind = true ∨ D.streamTaken y.target = false)
    let on := fun (l : Nat) => v.toNat ≤ l
    let a := D.ring r.toNat
    let store := fun (off : Nat) => r.toNat < 80 ∧ D.allowed who (ringOff r.toNat off) true = true
    let i := v.toNat % 65536
    let T := D.takeTurn g k
    let w := (T.fn g).sq k
    let e := padTo w.entrySize bs
    let ahead := (i + (a.size + 1) - a.head) % (a.size + 1)
    let picked := D.hostUp 0 = true ∧ D.pick = some (g, k)
    let idle := a.en = false ∧ a.count = 0
    let head := (y.head + 1) % (y.size + 1)
    let passed := fun (c : SubE) => if c.past then { y with cur := some c } else
      { y with cur := some { c with past := true }, head := head, par := if head = 0 then !y.par else y.par, consumed := y.consumed + 1 }
    (mineS → y.en = false → may → Becomes (.sqEnable fn q) s (D.setSq f n { y with en := true, head := 0, tail := 0, par := true, halt := false }))
      ∧ (mineS → y.en = false → ¬ may → Becomes (.sqEnable fn q) s (D.cfgErr f))
      ∧ (mineS → y.en = true → y.cur = none → Becomes (.sqDisable fn q) s ((D.setSq f n { y with en := false, halt := false }).abortRest f n))
      ∧ (mineS → y.en = true → ∀ c, y.cur = some c → Becomes (.sqDisable fn q) s ((D.setSq f n { passed c with en := false, halt := false }).abortRest f n))
      ∧ (mineS → y.en = false → Becomes (.sqDisable fn q) s D) ∧ (mineS → y.en = true → Becomes (.sqEnable fn q) s D)
      ∧ (mineC → z.en = false → Becomes (.cqEnable fn q) s (D.setCq f n { z with en := true, tail := 0, head := 0, phase := true, wait := [], since := 0 }))
      ∧ (mineC → z.en = true → (∀ p ∈ x.sqs, p.2.en = true → p.2.cq ≠ n) → z.wait = [] → Becomes (.cqDisable fn q) s (D.setCq f n { z with en := false, wait := [] }))
      ∧ (mineS → x.closed = true → y.en = true → on y.size → (y.tail + (y.size + 1) - y.head) % (y.size + 1) ≤ (v.toNat + (y.size + 1) - y.head) % (y.size + 1) → Becomes (.sqTailDoorbell fn q v) s (D.setSq f n { y with tail := v.toNat }))
      ∧ (mineC → x.closed = true → z.en = true → on z.size → (v.toNat + (z.size + 1) - z.head) % (z.size + 1) ≤ (z.tail + (z.size + 1) - z.head) % (z.size + 1) → Becomes (.cqHeadDoorbell fn q v) s ((D.setCq f n { z with head := v.toNat }).flushCq f n))
      ∧ (D.hostUp f = true → x.closed = false → Becomes (.sqTailDoorbell fn q v) s (D.dbErr f 4) ∧ Becomes (.cqHeadDoorbell fn q v) s (D.dbErr f 4))
      ∧ (picked → T.entryCheck g k e = none → Becomes (.submissionFetch (some bs)) s (T.setSq g k { w with cur := some { data := e, idx := w.head, kind := w.kind, target := w.target } }))
      ∧ (picked → Becomes (.submissionFetch none) s (((T.setSq g k { w with err := true, halt := true }).record (0x6000 + g) 3 []).complete g w.cq { sq := k, cid := 0xFFFF, sc := 0x07 }))
      ∧ (D.hostUp f = true → z.en = true → z.ien = true → z.since ≠ 0 → z.modW.toNat / 65536 ≠ 0 → Becomes (.cqModTimerExpiry fn q) s ((D.setCq f n { z with since := 0 }).message f z.vec))
      ∧ (store 0x00 → idle → Becomes (.inRingConfigWrite who r false v) s (D.setRing r.toNat { a with base := BitVec.ofNat 32 (v.toNat / 4096 % 32768 * 4096) }))
      ∧ (store 0x04 → v.toNat.testBit 31 ≠ a.en → Becomes (.inRingConfigWrite who r true v) s (D.setRing r.toNat { a with en := v.toNat.testBit 31 }))
      ∧ (store 0x04 → idle → v.toNat.testBit 31 = false → Becomes (.inRingConfigWrite who r true v) s (D.setRing r.toNat { a with size := Nat.max 7 (Nat.min i (if r.toNat < 64 then 32767 else 4095)) }))
      ∧ (store 0x10 → i ∉ a.slots → Becomes (.inCplWrite who r v) s (D.setRing r.toNat { a with cplerr := true }))
      ∧ (store 0x10 → i ∈ a.slots → D.num (D.slotHdr r.toNat i) 1 = 1 → (D.slotFlags r.toNat i).testBit 0 = false → (D.slotFlags r.toNat i).testBit 2 = true →
          Becomes (.inCplWrite who r v) s (((D.markSlot r.toNat i 3).cplDrop (D.num (D.slotHdr r.toNat i + 1) 1)).retire r.toNat))
      ∧ (store 0x0C → i ≤ a.size → ahead ≤ a.count → Becomes (.inHeadWrite who r v) s ((D.setRing r.toNat { a with goalN := Nat.max a.goalN ahead, goal := i }).retire r.toNat))
      ∧ (store 0x0C → a.size < i ∨ a.count < ahead → Becomes (.inHeadWrite who r v) s (D.setRing r.toNat { a with hderr := true }))

/-- With its entry in hand: POST and MSG deliver the entry to their ring, wait while it is full, and answer NOTARGET where it is disabled; a MARK waits and is answered OK once no earlier POST is open; NOP answers its argument; JSTAT answers the durable sequence of a stream an enabled posting queue of the function targets and QSTAT the counts of a queue it owns, both DENIED otherwise; RREAD answers two words of the recorder region; RSNAP asks for a frame and answers its serial; RCLR waits and starts the clear, DENIED for a VF. Choices of the model that it rests on: log entries 49, 52, 90. Each of these constructors is concluded to answer that next state, on the conditions named alone: post, mark, markComplete, nop, jstat, qstat, msg, rread, rsnap, rclr (R291, R295, R296, R299, R364, R365). -/
def Obligations.HostCommands : Prop :=
  ∀ (s : State) (fn : FnNo) (q : BitVec 8) (bs : List Byte) (cid at_ : Nat),
    let D := s.dev
    let f := fn.toNat
    let n := q.toNat
    let x := D.fn f
    let y := x.sq n
    let hand := fun (kind : Bool) (opc : Nat) => D.inHand f n kind opc = some bs
    let id := leAt bs 2 2
    let arg := leAt bs 4 4
    let j := (D.stream (leAt bs 4 1)).dur.toNat
    let ok := fun (d : Dev) (r0 r1 : Word) => d.answerCur f n id 0 r0 r1
    let no := fun (sc : Nat) => D.answerCur f n id sc 0 0
    let mine := ∃ p ∈ x.sqs, p.2.en = true ∧ p.2.kind = false ∧ p.2.target = leAt bs 4 1
    let held := D.setSq f n { y with mark := some (id, y.head) }
    let c := 64 + y.curTarget % 16
    let aim := y.curTarget
    let put := fun (r : Nat) => D.deliverCur f n r bs
    let there := (D.owner aim).isSome = true ∧ (D.ring aim).en = true
    (hand false 1 → there → (D.ring aim).full = false → Becomes (.post fn q) s (put aim))
      ∧ (hand false 1 → there → (D.ring aim).full = true → Becomes (.post fn q) s D)
      ∧ (hand false 1 → ¬ there → Becomes (.post fn q) s (D.answerCur f n id 5 0 0 true))
      ∧ (hand false 2 → Becomes (.mark fn q) s held)
      ∧ (y.mark = some (cid, at_) → y.curKind = false → y.open_ = 0 → Becomes (.markComplete fn q) s ((D.setSq f n { y with mark := none }).answerCur f n cid 0 0 0))
      ∧ (y.open_ ≠ 0 → Becomes (.markComplete fn q) s D)
      ∧ (hand true 1 → Becomes (.nop fn q) s (ok D (BitVec.ofNat 32 arg) 0))
      ∧ (hand true 2 → mine → Becomes (.jstat fn q) s (ok D (BitVec.ofNat 32 j) (BitVec.ofNat 32 (j / 2 ^ 32)))) ∧ (hand true 2 → ¬ mine → Becomes (.jstat fn q) s (no 9))
      ∧ (hand true 3 → D.owns f (leAt bs 4 1) false = true → Becomes (.qstat fn q) s (ok D (x.sq (leAt bs 4 1)).consumed (x.sq (leAt bs 4 1)).errs))
      ∧ (hand true 3 → D.owns f (leAt bs 4 1) false = false → Becomes (.qstat fn q) s (no 9))
      ∧ (hand true 4 → (D.ring c).en = true → (D.ring c).full = false → Becomes (.msg fn q) s (put c)) ∧ (hand true 4 → (D.ring c).en = true → (D.ring c).full = true → Becomes (.msg fn q) s D)
      ∧ (hand true 4 → (D.ring c).en = false → Becomes (.msg fn q) s (no 5))
      ∧ (hand true 5 → Becomes (.rread fn q) s (ok D (BitVec.ofNat 32 (D.num (0x0BF40000 + arg) 4)) (BitVec.ofNat 32 (D.num (0x0BF40000 + arg + 4) 4))))
      ∧ (hand true 6 → Becomes (.rsnap fn q) s (ok (D.snap 5) (BitVec.ofNat 32 D.rc.fser) 0))
      ∧ (hand true 7 → f = 0 → y.mark = none → Becomes (.rclr fn q) s (held.clearRecorder arg 1)) ∧ (hand true 7 → f ≠ 0 → Becomes (.rclr fn q) s (no 9))

/-- By a writer the access rules admit, on an engine that is ON: a tail in range is stored, one outside is counted and answered DBRANGE; a consumer head frees its records; a ring register of a disabled channel restarts its ring; enabling a disabled or halted channel takes its shadow values; a stop takes effect at once without a descriptor and after it with one; CH_AUTH is M level's, any other write of it is counted; CH_TRIG clears a disabled channel's count; ARM swaps at the next boundary, and a write of CH_PACE in the cycle of the swap stays in the shadow set and sets SHADOW_LATE and ARM; a bus error of Table 12.1 on an engine ON or DRAINING stops every channel of the engine and DE_RESTART frees it to HALTED. Choices of the model that it rests on: log entries 14, 54, 69. Each of these constructors is concluded to answer that next state, on the conditions named alone: dmaTailDoorbell, dmaCheadWrite, dmaRingConfigWrite, dmaChannelEnable, dmaStopRequest, chAuthWrite, chTrigWrite, chShctlArm, shadowSwap, dmaBusError, deRestart (R306, R308, R310, R311, R326, R327, R328, R329, R330). -/
def Obligations.DmaChannelSetUp : Prop :=
  ∀ (s : State) (who : Agent) (e : BitVec 2) (c k : BitVec 4) (v : Word) (a : DWord),
    let D := s.dev
    let g := e.toNat
    let n := c.toNat
    let x := D.chan g n
    let w := v.toNat
    let engine := D.engine g
    let on := D.engineOn g = true
    let reach := fun (off : Nat) => on ∧ D.allowed who (0x0A000000 + 0x10000 * g + 0x1000 + 0x80 * n + off) true = true
    let sets := fun (y : Chan) => D.setChan g n y
    let bad := D.setEngine g { engine with dberr := satAdd engine.dberr 1 }
    let away := fun (t : Nat) => (t + (x.rsize + 1) - x.head % (x.rsize + 1)) % (x.rsize + 1)
    let eaten := (w + (x.csize + 1) - x.chead % (x.csize + 1)) % (x.csize + 1)
    let runs := D.domState (91 + g) = 1 ∨ D.domState (91 + g) = 2
    let quiet := x.state ≠ 7 ∧ ∀ r ∈ x.cur, r.run = false
    (reach 0x14 → w ≤ x.rsize → away x.tail ≤ away w → Becomes (.dmaTailDoorbell who e c v) s (sets { x with tail := w }))
      ∧ (reach 0x14 → x.rsize < w → Becomes (.dmaTailDoorbell who e c v) s
          (bad.setChan g n { x with lastSt := 3, cur := x.cur ++ [{ idx := 0xFFFF, run := false, status := 3, count := w, ccnt := x.ccnt, answer := true }] }))
      ∧ (reach 0x24 → w ≤ x.csize → eaten ≤ x.cn → Becomes (.dmaCheadWrite who e c v) s (sets { x with chead := w, cn := x.cn - eaten })) ∧ (reach 0x24 → x.csize < w → Becomes (.dmaCheadWrite who e c v) s bad)
      ∧ (reach 0x10 → x.state = 0 → Becomes (.dmaRingConfigWrite who e c 0x10 v) s (sets { x with rsize := Nat.max 7 (w % 65536), head := 0, tail := 0, par := true }))
      ∧ (reach 0x20 → x.state = 0 → Becomes (.dmaRingConfigWrite who e c 0x20 v) s (sets { x with csize := Nat.max 7 (w % 65536), chead := 0, ctail := 0, cn := 0, phase := true }))
      ∧ (reach 0x10 → x.state ≠ 0 → Becomes (.dmaRingConfigWrite who e c 0x10 v) s (sets x))
      ∧ (reach 0 → x.state = 0 ∨ x.state = 6 → Becomes (.dmaChannelEnable who e c) s (sets { x with en := true, state := 1, apace := x.pace, akmask := x.kmask, anote := x.note, startUpd := none }))
      ∧ (reach 0 → quiet → x.state ≠ 0 → Becomes (.dmaStopRequest who e c) s (sets (if x.arm then { x with en := false, state := 0, apace := x.pace, akmask := x.kmask, anote := x.note, arm := false } else { x with en := false, state := 0 })))
      ∧ (reach 0 → x.state = 0 ∨ x.state = 7 → Becomes (.dmaStopRequest who e c) s (sets { x with en := false }))
      ∧ (reach 0 → x.state ≠ 0 → x.state ≠ 7 → (∃ r ∈ x.cur, r.run = true) → Becomes (.dmaStopRequest who e c) s (sets { x with en := false, state := 5 }))
      ∧ (reach 0x30 → D.atM who = true → Becomes (.chAuthWrite who e c v) s (sets { x with auth := v &&& 0xC000003F }))
      ∧ (reach 0x30 → D.atM who = false → Becomes (.chAuthWrite who e c v) s (D.setEngine g { engine with refuse := satAdd engine.refuse 1 }))
      ∧ (reach 0x34 → x.state = 0 → Becomes (.chTrigWrite who e c v) s (sets { x with trig := 0 })) ∧ (reach 0x4C → Becomes (.chShctlArm who e c) s (sets { x with arm := true }))
      ∧ (x.state = 1 → x.arm = true → quiet → Becomes (.shadowSwap e c none) s (sets { x with apace := x.pace, akmask := x.kmask, anote := x.note, arm := false }))
      ∧ (x.state = 1 → x.arm = true → quiet → reach 0x40 → Becomes (.shadowSwap e c (some (who, 0x40, v))) s
          (sets { x with apace := x.pace, akmask := x.kmask, anote := x.note, pace := v, arm := true, late := true }))
      ∧ (x.arm = false → ∀ late, Becomes (.shadowSwap e c late) s D)
      ∧ (on → D.allowed who (0x0A000000 + 0x10000 * g) true = true → engine.stopped = true → Becomes (.deRestart who e) s
          (D.setEngine g { engine with stopped := false, err := 0, chans := engine.chans.map (fun p => (p.1, if p.2.state = 7 then { p.2 with state := 6 } else p.2)) }))
      ∧ (runs → 1 ≤ k.toNat ∧ k.toNat ≤ 6 → Becomes (.dmaBusError e k a) s (D.engineStop g k.toNat a.toNat)) ∧ (¬ (runs ∧ 1 ≤ k.toNat ∧ k.toNat ≤ 6) → Becomes (.dmaBusError e k a) s D)

/-- The channel whose turn it is starts its next descriptor: one whose parity is not expected ends 0x02, one whose form is wrong ends 0x01 for reason 1, and one that passes every check runs. A running descriptor of each mode, on an engine ON or DRAINING, moves its data and ends with its count: COPY moves the bytes of its source and FILL repeats its pattern over its whole range, CONVERT an element at a time, PRISM and PRISMR a record at a time by the field table, its host data as the requester that CH_AUTH names, JEXPORT durable records that are not released, NOP nothing. A record that waits is written in the next slot with the phase; without a free slot it waits. Choices of the model that it rests on: log entries 52, 53, 54. Each of these constructors is concluded to answer that next state, on the conditions named alone: descriptorStart, dmaNop, copy, fill, convert, prism, prismr, jexport, dmaCompletionRecord (R305, R307, R309, R310, R313, R316, R319, R320, R321). -/
def Obligations.DmaDescriptors : Prop :=
  ∀ (s : State) (e : BitVec 2) (c : BitVec 4) (k : Nat) (r w : Dcur) (data : List Byte) (fs : List (List Byte)) (st why : Nat) (kind : BitVec 4) (at_ : DWord),
    let D := s.dev
    let g := e.toNat
    let n := c.toNat
    let engine := D.engine g
    let x := D.chan g n
    let q := dmaDesc r.data
    let tab := r.fields.map dmaField
    let runs := D.domState (91 + g) = 1 ∨ D.domState (91 + g) = 2
    let found := runs ∧ engine.stopped = false ∧ x.cur.find? (fun t => t.run) = some r
    let host := ∃ t ∈ descSrc q tab ++ descDst q tab, t.host = true
    let works := found ∧ (host → D.bound x = true)
    let fn := x.auth.toNat % 64
    let ends := fun (m : DmaMove) => m.d.setChan g n (x.endDesc { r with status := m.status, count := m.count, dflags := m.fl.toWord.toNat, flags := (if m.wrote && q.flags.testBit 3 then 2 else 0) + (if m.sub then 4 else 0) })
    let reads := fun (i : Nat) => D.dmaReadFault q.sh (q.src + i) 1 = none
    let takes := fun (i : Nat) => D.dmaWriteFault q.dh (q.dst + i) 1 = none
    let E := D.setEngine g { engine with turn := (k + 1) % 16 }
    let y0 := E.chan g k
    let y := if y0.arm then y0.swap else y0
    let z := { y with trig := if y.apace.toNat / 2 ^ 30 = 2 then y.trig - 1 else y.trig, startUpd := some D.ep.updates }
    let a := y.rbase + 64 * y.head
    let bs := E.bytes a 64
    let next := D.engineOn g = true ∧ engine.stopped = false ∧ D.pw.pfail = false ∧ ((List.range 16).map (fun i => (engine.turn + i) % 16)).find? (D.canStart g) = some k
    let good := E.dmaFault y.akmask [(false, a, 64)] = none ∧ E.poisoned a 64 = false
    let par := (leAt bs 1 1).testBit 0 = y.par
    let done := fun (s1 s2 : Nat) (t : List Byte) => E.setChan g k (z.endDesc { data := t, idx := y.head, status := s1, reason := s2 })
    let took := D.setChan g n { x with cur := x.cur.erase w }
    let p := took.writeRecord g n w
    (next → good → ¬ par → Becomes (.descriptorStart e) s (done 2 0 bs)) ∧ (next → good → par → descFormOk bs = false → Becomes (.descriptorStart e) s (done 1 1 bs))
      ∧ (next → good → par → E.checkDesc z bs = .ends st why → Becomes (.descriptorStart e) s (done st why bs))
      ∧ (next → good → par → E.checkDesc z bs = .run fs → Becomes (.descriptorStart e) s (E.setChan g k { z with cur := [{ data := bs, idx := y.head, fields := fs }] }))
      ∧ (next → E.dmaFault y.akmask [(false, a, 64)] = some st → Becomes (.descriptorStart e) s (done st 0 []))
      ∧ (next → E.dmaFault y.akmask [(false, a, 64)] = none → E.poisoned a 64 = true → Becomes (.descriptorStart e) s (done 7 0 []))
      ∧ (found → q.mode = 1 → host → D.bound x = false → Becomes (.copy e c data .none) s (D.setChan g n (x.endDesc { r with status := 11 })))
      ∧ (found → q.mode = 1 → 1 ≤ kind.toNat ∧ kind.toNat ≤ 6 → Becomes (.copy e c data (.bus kind at_)) s (D.engineStop g kind.toNat at_.toNat))
      ∧ (works → q.mode = 0 → Becomes (.dmaNop e c data .none) s (ends { d := D })) ∧ (works → q.mode = 1 → Becomes (.copy e c data .none) s (ends (D.moveBytes fn q data)))
      ∧ (works → q.mode = 2 → Becomes (.fill e c data .none) s (ends (D.moveBytes fn q data))) ∧ (works → q.mode = 3 → Becomes (.convert e c data .none) s (ends (D.moveConvert fn q data)))
      ∧ (works → q.mode = 4 → Becomes (.prism e c data .none) s (ends (D.movePrism fn q tab data))) ∧ (works → q.mode = 5 → Becomes (.prismr e c data .none) s (ends (D.movePrismr fn q tab)))
      ∧ (works → q.mode = 6 → Becomes (.jexport e c data .none) s (ends (D.moveExport fn q)))
      ∧ (q.mode = 1 → (∀ i, i < q.len → reads i ∧ takes i) →
          D.moveBytes fn q data = { d := D.dmaPut fn q.dh q.dst (if q.sh then padTo q.len data else D.bytes q.src q.len), count := q.len, wrote := q.len != 0 })
      ∧ (q.mode = 2 → (∀ i, i < q.len → takes i) →
          D.moveBytes fn q data = { d := D.dmaPut fn q.dh q.dst ((List.range q.len).map (fun i => BitVec.ofNat 8 (q.src / 256 ^ (i % 8)))), count := q.len, wrote := q.len != 0 })
      ∧ (q.len = 1 → (D.stream q.sel).dur.toNat < q.src → D.moveExport fn q = { d := D, fn := fn, status := 9 })
      ∧ (runs → x.cur.find? (fun t => !t.run) = some w → x.cn ≤ x.csize → Becomes (.dmaCompletionRecord e c) s (p.1.afterRecord g n w p.2))
      ∧ (x.csize < x.cn → Becomes (.dmaCompletionRecord e c) s D)
      ∧ (x.cn ≤ x.csize → x.chost = false → took.dmaFault x.akmask [(true, x.cbase % 2 ^ 46 + 16 * x.ctail, 16)] = none → p.2 = true ∧ (p.1.chan g n).cn = x.cn + 1 ∧ (p.1.chan g n).ctail = (x.ctail + 1) % (x.csize + 1))

/-- Training starts afresh on a powered port that is OFF or DRAINED and not draining; a HELLO that passes its checks brings it UP. A sequenced frame that passes every check consumes its LSEQ, takes its units, is taken up by its TYPE and answered by an ACK; an unsequenced one is taken up alone; a stomped one is counted and recorded. A frame that fails is NAKed with the first failed check, after its cut-through copy is stomped; a reserved TYPE fails 0x02. XM_SEND counts and queues a posting its member may originate, and counts any other as refused. A port that no ring slot names drains, and ends DRAINED with nothing to resend. Choices of the model that it rests on: log entries 14, 56, 57, 58, 59, 84, 85. Each of these constructors is concluded to answer that next state, on the conditions named alone: portEnable, linkTrainingComplete, linkRetrain, posting, markFrame, digest, ack, nak, hello, ackTimer, xmSend, heldPostingDelivery, malfWindowEnd, portDrain, portDrained, reservedTypeFrame (R334, R335, R337, R338, R339, R340, R343, R346, R348, R350, R351, R352). -/
def Obligations.DerrikPortsAndFrames : Prop :=
  ∀ (s : State) (who : Agent) (p : BitVec 2) (bs : List Byte) (r k : Nat) (t : BitVec 6) (v : DWord) (co : CoreNo) (ba : BayNo),
    let D := s.dev
    let n := p.toNat
    let x := D.port n
    let f := frameOf bs
    let may := D.allowed who (0x0B000000 + 0x100 * n) true = true
    let wire := leAt bs 0 1
    let whole := leAt bs (bs.length - 12) 1 ≠ 0x5A
    let live := (x.state = 3 ∨ x.state = 4) ∧ (x.resend = false ∨ f.lseq = x.rxNext)
    let good := live ∧ whole ∧ D.frameFault n bs = none
    let y := x.consume f.lseq
    let g := { f with feeder := some n }
    let E := fun (lane : Nat) => D.setPort n (if lane = 0 then { y with used0 := y.used0 + f.units } else { y with used1 := y.used1 + f.units })
    let powered := D.powered (86 + n) = true
    let trains := powered ∧ (x.state = 0 ∨ x.state = 5) ∧ x.drain = false
    let m := D.smap t.toNat
    let slot := D.slot (m / 2 ^ 28 % 4)
    let buf := D.bytes v.toNat 256
    let mine := who = .bay co ba ∧ D.owner t.toNat = some (co.toNat, ba.toNat)
    let origin := mine ∧ m.testBit 31 = true ∧ slot.v = true ∧ m / 2 ^ 24 % 16 = slot.member ∧ slot.dnp < 4 ∧ v.toNat % 256 = 0 ∧ v.toNat < 0x08000000
    let sound := postingOk t.toNat buf = true ∧ leAt buf 4 4 = 0 ∧ leAt buf 20 4 = 0 ∧ ((D.port slot.dnp).txq.filter (fun g => g.type == 1 && g.origin == slot.member && g.ring == slot.ringId)).length < 256
    let counted := { D with dl := { D.dl with xmCnt := Tab.set D.dl.xmCnt t.toNat (Tab.get D.dl.xmCnt t.toNat 0 + 1) } }
    let xm := D.allowed who (0x0B003000 + 4 * t.toNat) true = true
    (may → trains → Becomes (.portEnable who p) s (((D.setPort n { x.fresh with en := true, state := 1, peer := false }).unfeed n).unstomp n)) ∧ (may → powered → ¬ trains → Becomes (.portEnable who p) s (D.setPort n { x with en := true })) ∧ (may → ¬ powered → Becomes (.portEnable who p) s D)
      ∧ (x.state = 1 ∨ x.state = 2 → wire = 0x12 → D.frameFault n bs = none → Becomes (.linkTrainingComplete p bs) s (D.trained n bs))
      ∧ (x.state = 1 ∨ x.state = 2 → D.frameFault n bs ≠ none ∨ wire ≠ 0x12 → Becomes (.linkTrainingComplete p bs) s ((D.setPort n { x with state := 2 }).sendHello n))
      ∧ (x.state = 3 → Becomes (.linkRetrain p) s ((D.setPort n { x with state := 1, peer := false, retrained := true, retrains := satAdd x.retrains 1 }).record (0x5000 + n) 0x20 []))
      ∧ (wire = 1 → good → Becomes (.posting p bs) s ((((E f.vl).onPosting n g).unstomp n).sendAck n)) ∧ (wire = 2 → good → Becomes (.markFrame p bs) s ((((E f.vl).onMark n g).unstomp n).sendAck n)) ∧ (wire = 3 → good → Becomes (.digest p bs) s ((((E f.vl).onDigest n g).unstomp n).sendAck n))
      ∧ (wire = 0x10 → good → Becomes (.ack p bs) s (D.onAck n f)) ∧ (wire = 0x11 → good → Becomes (.nak p bs) s (D.onNak n f)) ∧ (wire = 0x12 → good → Becomes (.hello p bs) s (D.onHello n f))
      ∧ (wire = 1 → live → ¬ whole → Becomes (.posting p bs) s ((D.setPort n { x with stomps := satAdd x.stomps 1 }).record (0x5000 + n) 0x21 []))
      ∧ (wire = 1 → live → whole → D.frameFault n bs = some r → Becomes (.posting p bs) s ((D.stompOnward n bs r).refuseFrame n f r true))
      ∧ (typeShape wire = none → live → whole → frameIntact bs = true → Becomes (.reservedTypeFrame p bs) s ((D.stompOnward n bs 2).refuseFrame n f 2 true))
      ∧ Becomes (.ackTimer p) s (D.sendAck n) ∧ Becomes .malfWindowEnd s ((List.range 4).foldl (fun (e : Dev) i => if (e.port i).malfFrom + 0x100000 ≤ e.ep.updates then e.setPort i { e.port i with malf := 0, malfFrom := e.ep.updates } else e) D)
      ∧ (xm → origin → sound → Becomes (.xmSend who t v) s (counted.queueFrame slot.dnp { type := 1, vl := 0, ring := slot.ringId, origin := slot.member, hops := slot.nmem, stream := t.toNat, payload := buf }))
      ∧ (xm → origin → ¬ sound → Becomes (.xmSend who t v) s { D with dl := { D.dl with xmRefuse := satAdd D.dl.xmRefuse 1 } })
      ∧ (∀ rest, x.hold = (f, k) :: rest → D.ringReady f.stream = true → Becomes (.heldPostingDelivery p) s (resumeHold n rest (((D.setPort n { x with hold := [] }).fillSlot f.stream f.payload (2 + n) 0 0 0).freeHeld n k f)))
      ∧ (may → powered → D.slotNaming n = none → Becomes (.portDrain who p) s (D.setPort n { x with drain := true, state := if x.state = 5 then 5 else 4, peer := false }))
      ∧ (may → powered → D.slotNaming n ≠ none → Becomes (.portDrain who p) s (D.setPort n { x with refused := true })) ∧ (may → ¬ powered → Becomes (.portDrain who p) s D)
      ∧ (x.state = 4 → Becomes (.portDrained p) s (x.txq.foldl (fun (e : Dev) q => e.freeFrame q) ((D.setPort n { x with state := 5, retry := [], txq := [] }).unstomp n)))

/-- An event that the source table lists, of a source and kind already in the active table and no cause of a notification, counts one and takes OPT as LAST; a new one takes the next entry with count 1; one that is not listed is not recorded; two reports of one cycle come to the same whichever is named first. A sample of a powered channel counts in its bin, its minimum and its maximum. A snapshot seals the active buffer, waits behind a frame being written, or is skipped behind one that waits; the end of the write puts the frame in the slot of least serial. RC_CTL takes its fields; a clear takes effect at once and ends with its record. OPT saves and latches; the oldest queued log record goes into its slot. Choices of the model that it rests on: log entries 45, 46, 79, 82, 88. Each of these constructors is concluded to answer that next state, on the conditions named alone: eventRecorded, rcCtlSnap, snapshotPeriodExpiry, snapshotWriteEnd, measurementSample, rcCtlWrite, recorderClear, recorderClearEnd, optSave, rcOptLRead, logRecordDurable (R353, R354, R356, R357, R358, R359, R360, R361, R365, R366). -/
def Obligations.RecorderCommands : Prop :=
  ∀ (s : State) (who : Agent) (src : Half) (kind : Byte) (det : List Byte) (ch : BitVec 5) (v : Word) (i : Nat) (x : LogRec) (q : List LogRec) (sel : Nat) (rest : List (Nat × Nat)) (b c : Report),
    let D := s.dev
    let R := D.rc
    let w := v.toNat
    let ctl := D.allowed who 0x0D000000 true = true
    let clr := D.allowed who 0x0D000038 true = true
    let trig := if who = .pupor then 4 else 2
    let two := fun (x y : Report) => Instr.eventRecorded x.source x.kind { bytes := x.detail, others := [y] }
    let cls := src.toNat / 0x1000
    let listed := eventListed src.toNat kind.toNat = true ∧ cls ≠ 4 ∧ ¬ (cls = 5 ∧ kind.toNat = 0x22)
    let key := fun (r : Report) => r.source.toNat * 256 + r.kind.toNat
    let a := R.active
    let old := (a.events[i]?).getD {}
    let e : EvEntry := { old with count := min (old.count + 1) 0xFFFFFFFF, last := BitVec.ofNat 32 R.opt }
    let counted := { D with rc := R.setActive { a with events := setAt a.events i e } }
    let sev := sevOf (src.toNat / 0x1000) kind.toNat
    let new : EvEntry := { source := src.toNat, kind := kind.toNat, sev := sev, logged := false, count := 1, first := BitVec.ofNat 32 R.opt, last := BitVec.ofNat 32 R.opt }
    let added := R.setActive { a with events := a.events ++ [new] }
    let sampled := { D with rc := R.setActive { a with meas := Tab.set a.meas ch.toNat ((a.block ch.toNat).sample v) } }
    let idle := R.clearing = [] ∧ R.writing = false
    let waits := R.writing = true ∧ R.pending = false
    let E := { D with rc := { R with ctl := BitVec.ofNat 32 w &&& 0x0F00FFFF } }
    let r1 := if w.testBit 0 then { R with a := R.a.emptied, b := R.b.emptied, rate := [] } else R
    let r2 := { (if w.testBit 2 then { r1 with frame := [] } else r1) with clearing := R.clearing ++ [(w % 8, if who = .pupor then 3 else 2)] }
    let d2 := if w.testBit 1 then ({ D with rc := r2 } : Dev).clearRange 0x0BF40000 0x40000 else { D with rc := r2 }
    let cleared := if w.testBit 2 then d2.clearRange 0x0BF80000 0x40000 else d2
    let logged := ({ D with rc := { R with clearing := rest } } : Dev).recordLogged false 0xB000 4 (toLe 1 sel ++ toLe 1 i)
    let lone := ({ D with rc := { R with clearing := [] } } : Dev).recordLogged false 0xB000 4 (toLe 1 sel ++ toLe 1 i)
    let put := (D.put (0x0BF80000 + 0x4000 * leastIdx ((List.range 16).map D.frameSerial)) R.frame)
    let P := { D with rc := { R with logq := q } }
    (listed → eventIdx a.events src.toNat kind.toNat = some i → counted.rc.candidate e = false → Becomes (.eventRecorded src kind { bytes := det }) s counted)
      ∧ (listed → eventIdx a.events src.toNat kind.toNat = none → a.events.length < 512 → sev < R.ctl.toNat / 2 ^ 26 % 4 → added.candidate new = false → Becomes (.eventRecorded src kind { bytes := det }) s { D with rc := added })
      ∧ (eventListed src.toNat kind.toNat = false → Becomes (.eventRecorded src kind { bytes := det }) s D)
      ∧ (key c < key b → exec (two b c) s = exec (two c b) s)
      ∧ (D.chSampled ch.toNat = true → 9 ≤ ch.toNat → ch.toNat < 25 → Becomes (.measurementSample ch v) s sampled) ∧ (D.chSampled ch.toNat = true → 25 ≤ ch.toNat → Becomes (.measurementSample ch v) s (sampled.countFec (ch.toNat - 25) v.toInt.toNat 0))
      ∧ (D.chSampled ch.toNat = true → ch.toNat < 9 → v.toInt < 880 → Becomes (.measurementSample ch v) s (sampled.heat ch.toNat v.toInt))
      ∧ (D.chSampled ch.toNat = true → ch.toNat < 9 → 880 ≤ v.toInt → Becomes (.measurementSample ch v) s ((sampled.heat ch.toNat v.toInt).overheat ch.toNat))
      ∧ (D.chSampled ch.toNat = false → Becomes (.measurementSample ch v) s D)
      ∧ (ctl → idle → Becomes (.rcCtlSnap who) s (D.seal trig)) ∧ (ctl → waits → Becomes (.rcCtlSnap who) s { D with rc := { R with pending := true, trigger := trig } })
      ∧ (ctl → R.writing = true → R.pending = true → Becomes (.rcCtlSnap who) s { D with rc := { R with skip := satAdd R.skip 1 } })
      ∧ (idle → R.ctl.toNat % 65536 ≠ 0 → Becomes .snapshotPeriodExpiry s (D.seal 3)) ∧ (R.ctl.toNat % 65536 = 0 → Becomes .snapshotPeriodExpiry s D)
      ∧ (R.writing = true → R.pending = false → R.buf = true → Becomes .snapshotWriteEnd s { put with rc := { R with writing := false, pending := false, frame := [], a := {} } })
      ∧ (R.writing = true → R.pending = false → R.buf = false → Becomes .snapshotWriteEnd s { put with rc := { R with writing := false, pending := false, frame := [], b := {} } })
      ∧ (ctl → v.getLsbD 31 = false → Becomes (.rcCtlWrite who v) s E) ∧ (ctl → v.getLsbD 31 = true → idle → Becomes (.rcCtlWrite who v) s (E.seal trig))
      ∧ (clr → D.atM who = true → Becomes (.recorderClear who v) s cleared) ∧ (clr → D.atM who = false → Becomes (.recorderClear who v) s D)
      ∧ (R.clearing = (sel, i) :: rest → logged.rc.sealWait = none ∨ rest ≠ [] → Becomes .recorderClearEnd s logged.answerClears)
      ∧ (R.clearing = [(sel, i)] → ∀ g, lone.rc.sealWait = some g → Becomes .recorderClearEnd s (({ lone with rc := { lone.rc with sealWait := none } }.snap g).answerClears))
      ∧ (R.clearing = [] → Becomes .recorderClearEnd s D)
      ∧ Becomes .optSave s { D with rc := { R with optSaved := R.opt } } ∧ (D.allowed who 0x0D000024 false = true → Becomes (.rcOptLRead who) s { D with rc := { R with optH := BitVec.ofNat 32 (R.opt / 2 ^ 32 % 2 ^ 32) } })
      ∧ (R.logq = [] → Becomes .logRecordDurable s D) ∧ (R.logq = x :: q → ∀ r, P.logSlot x.sev = r → Becomes .logRecordDurable s (match r with
        | none => { P with rc := { P.rc with lost := satAdd R.lost 1 } }
        | some k => { P.put (0x0BF40000 + 64 * k) (P.logBytes x (R.lser + 1)) with rc := { P.rc with lser := R.lser + 1 } }))

/-- An idle mailbox takes a request with its tag: with arguments of the right form it answers as Table 13.16 says, here with its tag, the status and the data; PDREQ, RUNEXT and IMGCLOSE that are accepted answer when their work ends; arguments of another form answer 1, as does an unknown opcode; a busy unit answers 2. A mailbox that is not idle takes no request. Reading the response frees the mailbox, and the device reset that DEVRST asked for follows; the time-out abandons the request. Choices of the model that it rests on: log entry 65. Each of these constructors is concluded to answer that next state, on the conditions named alone: status, rrec, pdreq, pdstat, lkrec, stage, csign, runext, imgopen, imgdata, imgclose, smbusRclr, devrst, smbusTimeout, mailboxBadreq, mailboxResponseRead (R386, R400, R365, R249, R252). -/
def Obligations.MailboxRequests : Prop :=
  ∀ (s : State) (tag : Byte) (a : List Byte) (op : Byte) (r : Nat) (u : Upload),
    let D := s.dev
    let idle := D.pu.mbox.state = 0
    let taken := fun (k : Nat) => { D with pu := { D.pu with mbox := { state := 1, resp := [], tag := tag.toNat, op := k } } }
    let reply := fun (d : Dev) (st : Nat) (data : List Byte) => { d with pu := { d.pu with mbox := { d.pu.mbox with state := 2, resp := toLe 1 d.pu.mbox.tag ++ toLe 1 st ++ data } } }
    let wrong := fun (i : Instr) (k : Nat) => Becomes i s (reply (taken k) 1 [])
    let at_ := fun (i n : Nat) => leAt a i n
    let S := taken 6
    let C := taken 7
    let P := taken 3
    let b := (C.setBank .pupor { C.bank .pupor with val := BitVec.ofNat 32 (at_ 0 4), mask := BitVec.ofNat 16 (at_ 4 4) }).mcsWrite .pupor (at_ 8 4)
    let m := S.mirrorWrite .pupor (at_ 0 4) (BitVec.ofNat 32 (at_ 4 4))
    let no := P.pdRefuse (bits (at_ 0 4) 31 28) (bits (at_ 0 4) 6 0) r
    let slot := at_ 0 1
    let k := D.lkRec slot
    let free := D.pw.imgBusy = false ∧ D.pw.img = none ∧ D.pw.mimg = none
    (idle → Becomes (.status tag []) s (reply (taken 1) 0 (toLe 4 D.pw.devid.toNat ++ toLe 1 D.pw.pstate ++ toLe 4 (D.readPower 0x10) ++ toLe 1 (b2n D.mi.armed) ++ (List.range 4).flatMap (fun j => toLe 4 (D.lkSum j)))))
      ∧ (idle → a.length = 5 → 1 ≤ at_ 4 1 → at_ 4 1 ≤ 56 → at_ 0 4 + at_ 4 1 ≤ 0x80000 → Becomes (.rrec tag a) s (reply (taken 2) 0 (D.bytes (0x0BF40000 + at_ 0 4) (at_ 4 1))))
      ∧ (idle → a.length ≠ 5 → Becomes (.rrec tag a) s (reply (taken 2) 1 []))
      ∧ (idle → a.length = 4 → P.pdCheck (at_ 0 4) = none → Becomes (.pdreq tag a) s (P.pdStart (at_ 0 4))) ∧ (idle → a.length = 4 → P.pdCheck (at_ 0 4) = some r → Becomes (.pdreq tag a) s (reply no (resultStatus r) (toLe 4 no.pw.res.toNat)))
      ∧ (idle → a.length = 1 → slot < 96 → Becomes (.pdstat tag a) s (reply (taken 4) 0 (toLe 4 ((D.dom slot).last * 16 + D.domState slot) ++ toLe 4 D.pw.tres.toNat)))
      ∧ (idle → a.length = 1 → slot < 128 → Becomes (.lkrec tag a) s (reply (taken 5) 0 (toLe 4 (k.word0 slot) ++ toLe 4 k.cause.toNat ++ toLe 4 k.epc.toNat ++ toLe 4 k.tsbp.toNat)))
      ∧ (idle → a.length = 8 → isMirror (at_ 0 4) = true → Becomes (.stage tag a) s (reply m 0 (toLe 4 (m.bank .pupor).last.toNat))) ∧ (idle → a.length = 12 → Becomes (.csign tag a) s (reply b 0 (toLe 4 (b.bank .pupor).res)))
      ∧ (idle → 1 ≤ a.length → a.length ≤ 17 → slot < 6 → D.pu.run = none → Becomes (.runext tag a) s (if D.extGood slot = true then (taken 8).startRun slot (a.drop 1) true else reply ((taken 8).recordBad 3 (8 + slot)) 4 []))
      ∧ (idle → 1 ≤ a.length → a.length ≤ 17 → slot < 6 → D.pu.run ≠ none → Becomes (.runext tag a) s (reply (taken 8) 2 []))
      ∧ (idle → a.length = 2 → openFormOk slot (at_ 1 1) = true → free → Becomes (.imgopen tag a) s (reply ({ taken 9 with pw := { D.pw with mimg := some { kind := slot, slot := D.openTarget slot (at_ 1 1) } } }) 0 []))
      ∧ (idle → a.length = 2 → openFormOk slot (at_ 1 1) = true → ¬ free → Becomes (.imgopen tag a) s (reply (taken 9) 2 []))
      ∧ (idle → a.length ≤ 60 → D.pw.mimg = some u → Becomes (.imgdata tag a) s (reply ({ taken 0xA with pw := { D.pw with mimg := some (u.append a) } }) 0 []))
      ∧ (idle → D.pw.mimg = some u → D.pw.imgBusy = false → Becomes (.imgclose tag []) s { taken 0xB with pw := { D.pw with mimg := none, imgBusy := true, imgClose := some u, imgMbox := true } })
      ∧ (idle → D.pw.mimg = none → Becomes (.imgclose tag []) s (reply (taken 0xB) 2 []))
      ∧ (idle → a.length = 1 → Becomes (.smbusRclr tag a) s (reply ((taken 0xC).clearRecorder (at_ 0 1) 3) 0 []))
      ∧ (idle → Becomes (.devrst tag [0x5A, 0xA5]) s (reply ({ taken 0xD with pw := { D.pw with rstWant := true } }) 0 []))
      ∧ (idle → op = 0 ∨ 0xD < op.toNat → Becomes (.mailboxBadreq tag op) s (reply (taken op.toNat) 1 []))
      ∧ (idle → (a ≠ [] → wrong (.status tag a) 1 ∧ wrong (.imgclose tag a) 11) ∧ (a.length ≠ 4 → wrong (.pdreq tag a) 3) ∧ (a.length ≠ 1 → wrong (.pdstat tag a) 4 ∧ wrong (.lkrec tag a) 5 ∧ wrong (.smbusRclr tag a) 12) ∧ (a.length ≠ 8 ∨ isMirror (at_ 0 4) = false → wrong (.stage tag a) 6)
        ∧ (a.length ≠ 12 → wrong (.csign tag a) 7) ∧ (a.length = 0 ∨ 17 < a.length ∨ 6 ≤ slot → wrong (.runext tag a) 8) ∧ (a.length ≠ 2 → wrong (.imgopen tag a) 9) ∧ (60 < a.length → wrong (.imgdata tag a) 10) ∧ (a ≠ [0x5A, 0xA5] → wrong (.devrst tag a) 13))
      ∧ (¬ idle → ∀ i ∈ [Instr.status tag a, .rrec tag a, .pdreq tag a, .pdstat tag a, .lkrec tag a, .stage tag a, .csign tag a, .runext tag a, .imgopen tag a, .imgdata tag a, .imgclose tag a, .smbusRclr tag a, .devrst tag a, .mailboxBadreq tag op], Becomes i s D)
      ∧ Becomes .smbusTimeout s { D with pu := { D.pu with mbox := {}, byMbox := false }, pw := { D.pw with rstWant := false } }
      ∧ (D.pu.mbox.state = 2 → D.pw.rstWant = false → Becomes .mailboxResponseRead s { D with pu := { D.pu with mbox := {} } }) ∧ (D.pu.mbox.state = 2 → D.pw.rstWant = true → Becomes .mailboxResponseRead s ({ D with pu := { D.pu with mbox := {} } }).deviceReset)

/-- Where the run meets an instruction at PC, is not waiting and has instructions left, PC moves past it, it is counted and acts: loads, moves and arithmetic set ACC and ZF and SF, sums and differences CY and VF too, and a compare leaves ACC; branches add the offset; CALL pushes high then low; IN and OUT move the ports; DCTL begins an access that ends later; waits stop the run until their end. STOP and every abort (a store below 0xE000, a load from 0xC000 to 0xDFFF, an unlisted port or opcode, a service other than WAIT, the limit) end it. A locked core starts its extension under XV, is recovered under AUTO, and else waits. Choices of the model that it rests on: log entries 7, 24, 66. Each of these constructors is concluded to answer that next state, on the conditions named alone: lockupAutoRecover, extensionInstructionLimit, and puporLdImm LdAbs LdJ LdK StAbs StJ StK LdjImm LdkImm LdjAbs Stj Swjk Adj MovCntAcc MovAccCnt AddImm AddAbs Addc SubImm SubAbs Subc And Ior Xor CmpImm CmpAbs Shl Shr Inc Dec Jmp Call Ret Jz Jnz Jc Jnc Js Loop Push Pop In Out DeviceRead DeviceWrite DeviceAccessEnd SysWait SysWaitEnd Idle IdleWake Stop Nop ReservedOpcode (R383, R384, R385). -/
def Obligations.PuporInstructions : Prop :=
  ∀ (s : State) (i r : Byte) (a : Half) (core : CoreNo) (err : Bool) (w : Bool) (addr v : Nat) (bs : List Byte),
    let D := s.dev
    let p := D.pu
    let nextOp := fun (bs : List Byte) => { p with pc := p.pc + BitVec.ofNat 16 bs.length, count := p.count + 1 }
    let runs := fun (c : Instr) (bs : List Byte) (f : Pupor → Pupor) => D.puAt bs = true → Becomes c s { D with pu := f (nextOp bs) }
    let stops := fun (c : Instr) (bs : List Byte) => D.puAt bs = true → Becomes c s ({ D with pu := nextOp bs }).abortRun
    let res := fun (q : Pupor) (x : Byte) => { q with acc := x, zf := x == 0, sf := x.msb }
    let sum := fun (x : Byte) (c : Nat) (q : Pupor) => res { q with cy := decide (256 ≤ p.acc.toNat + x.toNat + c), vf := decide (p.acc.toInt + x.toInt + c < -128) || decide (127 < p.acc.toInt + x.toInt + c) } (BitVec.ofNat 8 (p.acc.toNat + x.toNat + c))
    let dif := fun (x : Byte) (c : Nat) (q : Pupor) => res { q with cy := decide (p.acc.toNat < x.toNat + c), vf := decide (p.acc.toInt - x.toInt - c < -128) || decide (127 < p.acc.toInt - x.toInt - c) } (BitVec.ofNat 8 (p.acc.toNat + 512 - x.toNat - c))
    let cmp := fun (x : Byte) (q : Pupor) => { dif x 0 q with acc := p.acc }
    let cy := b2n p.cy
    let to16 := fun (o : Byte) => o :: toLe 2 a.toNat
    let ok := fun (x : Nat) => x % 65536 < 0xC000 ∨ 0xE000 ≤ x % 65536
    let m := fun (x : Nat) => p.byte x
    let at_ := m a.toNat
    let poke := fun (x : Nat) (y : Byte) (q : Pupor) => { q with ram := Tab.set q.ram (x % 65536) y }
    let ram := fun (x : Nat) => 0xE000 ≤ x % 65536
    let jump := fun (t : Bool) (q : Pupor) => if t then { q with pc := q.pc + r.signExtend 16 } else q
    let st := p.stk.toNat
    let back := (p.pc + 3).toNat
    let begins := fun (wr : Bool) (q : Pupor) => { q with busy := true, refused := false, err := false, dacc := some (wr, p.devAddr, p.devData) }
    let free := { D with pu := { p with busy := false, dacc := none } }
    let lk := D.pw.lkctl.toNat
    let rec_ := D.lkRec core.toNat
    let barred := lk.testBit 31 = false ∨ (rec_.v = true ∧ rec_.fail = 1 ∧ D.domState (72 + rec_.bank) ≠ 1) ∨ 4 ≤ D.recentLocks core.toNat
    (runs (.puporLdImm i) [0x40, i] (fun q => res q i) ∧ (ok a.toNat → runs (.puporLdAbs a) (to16 0x41) (fun q => res q at_)) ∧ (ok (p.j.toNat + i.toNat) → runs (.puporLdJ i) [0x42, i] (fun q => res q (m (p.j.toNat + i.toNat)))) ∧ (ok p.k.toNat → runs .puporLdK [0x43] (fun q => res { q with k := p.k + 1 } (m p.k.toNat))))
      ∧ ((ram a.toNat → runs (.puporStAbs a) (to16 0x44) (poke a.toNat p.acc)) ∧ (ram (p.j.toNat + i.toNat) → runs (.puporStJ i) [0x45, i] (poke (p.j.toNat + i.toNat) p.acc)) ∧ (ram p.k.toNat → runs .puporStK [0x46] (fun q => { poke p.k.toNat p.acc q with k := p.k + 1 })))
      ∧ (runs (.puporLdjImm a) (to16 0x47) (fun q => { q with j := a }) ∧ runs (.puporLdkImm a) (to16 0x48) (fun q => { q with k := a }) ∧ (ok a.toNat → ok (a.toNat + 1) → runs (.puporLdjAbs a) (to16 0x49) (fun q => { q with j := BitVec.ofNat 16 (at_.toNat + 256 * (m (a.toNat + 1)).toNat) })))
      ∧ ((ram a.toNat → ram (a.toNat + 1) → runs (.puporStj a) (to16 0x4A) (fun q => poke (a.toNat + 1) (BitVec.ofNat 8 (p.j.toNat / 256)) (poke a.toNat (BitVec.ofNat 8 p.j.toNat) q))) ∧ runs .puporSwjk [0x4B] (fun q => { q with j := p.k, k := p.j }) ∧ runs .puporAdj [0x4C] (fun q => { q with j := p.j + p.acc.setWidth 16 }))
      ∧ (runs .puporMovCntAcc [0x4D] (fun q => { q with cnt := p.acc }) ∧ runs .puporMovAccCnt [0x4E] (fun q => res q p.cnt) ∧ runs (.puporAddImm i) [0x50, i] (sum i 0) ∧ (ok a.toNat → runs (.puporAddAbs a) (to16 0x51) (sum at_ 0) ∧ runs (.puporAddc a) (to16 0x52) (sum at_ cy)))
      ∧ (runs (.puporSubImm i) [0x53, i] (dif i 0) ∧ (ok a.toNat → runs (.puporSubAbs a) (to16 0x54) (dif at_ 0) ∧ runs (.puporSubc a) (to16 0x55) (dif at_ cy) ∧ runs (.puporCmpAbs a) (to16 0x5A) (cmp at_)) ∧ runs (.puporCmpImm i) [0x59, i] (cmp i))
      ∧ (runs (.puporAnd i) [0x56, i] (fun q => res q (p.acc &&& i)) ∧ runs (.puporIor i) [0x57, i] (fun q => res q (p.acc ||| i)) ∧ runs (.puporXor i) [0x58, i] (fun q => res q (p.acc ^^^ i)))
      ∧ (runs .puporShl [0x5B] (fun q => res { q with cy := p.acc.msb } (p.acc <<< 1)) ∧ runs .puporShr [0x5C] (fun q => res { q with cy := p.acc.getLsbD 0 } (p.acc >>> 1)) ∧ runs .puporInc [0x5D] (fun q => res q (p.acc + 1)) ∧ runs .puporDec [0x5E] (fun q => res q (p.acc - 1)))
      ∧ (runs (.puporJmp a) (to16 0x60) (fun q => { q with pc := a }) ∧ runs (.puporJz r) [0x63, r] (jump p.zf) ∧ runs (.puporJnz r) [0x64, r] (jump (!p.zf)) ∧ runs (.puporJc r) [0x65, r] (jump p.cy) ∧ runs (.puporJnc r) [0x66, r] (jump (!p.cy)) ∧ runs (.puporJs r) [0x67, r] (jump p.sf) ∧ runs (.puporLoop r) [0x68, r] (fun q => jump (p.cnt - 1 != 0) { q with cnt := p.cnt - 1 }))
      ∧ (0xE002 ≤ st → runs (.puporCall a) (to16 0x61) (fun q => { poke (p.stk - 1 - 1).toNat (BitVec.ofNat 8 back) (poke (p.stk - 1).toNat (BitVec.ofNat 8 (back / 256)) q) with stk := p.stk - 1 - 1, pc := a }) ∧ runs .puporPush [0x69] (fun q => { poke (p.stk - 1).toNat p.acc q with stk := p.stk - 1 }))
      ∧ (0xE000 ≤ st → st < 0xFFFF → runs .puporRet [0x62] (fun q => { q with stk := p.stk + 1 + 1, pc := BitVec.ofNat 16 ((m st).toNat + 256 * (m (p.stk + 1).toNat).toNat) }) ∧ runs .puporPop [0x6A] (fun q => res { q with stk := p.stk + 1 } (m st)))
      ∧ ((D.puPort i.toNat = some v → runs (.puporIn i) [0x70, i] (fun q => { q with acc := BitVec.ofNat 8 v, ms := if i = 0x40 then BitVec.ofNat 32 D.rc.opt else q.ms })) ∧ (D.puPort i.toNat = none → stops (.puporIn i) [0x70, i]))
      ∧ ((i.toNat < 5 → runs (.puporOut i) [0x71, i] (fun q => { q with da := Tab.set q.da i.toNat p.acc })) ∧ (0x30 ≤ i.toNat → i.toNat < 0x40 → runs (.puporOut i) [0x71, i] (fun q => { q with res := Tab.set q.res (i.toNat - 0x30) p.acc })) ∧ (0x40 ≤ i.toNat → stops (.puporOut i) [0x71, i]))
      ∧ ((p.acc = 1 → p.busy = false → runs .puporDeviceRead [0x71, 0x0A] (begins false)) ∧ (p.acc = 2 → p.busy = false → puWriteOk p.devAddr = true → runs .puporDeviceWrite [0x71, 0x0A] (begins true)) ∧ (p.acc = 2 → p.busy = false → puWriteOk p.devAddr = false → runs .puporDeviceWrite [0x71, 0x0A] (fun q => { q with refused := true, err := false })))
      ∧ ((p.dacc = some (w, addr, v) → D.puFault addr = false → Becomes (.puporDeviceAccessEnd false) s (free.puAccess w addr v)) ∧ (p.dacc = some (w, addr, v) → err = true ∨ D.puFault addr = true → Becomes (.puporDeviceAccessEnd err) s { D with pu := { p with busy := false, dacc := none, err := true } }))
      ∧ (runs (.puporSysWait 1) [0x72, 1] (fun q => { q with waiting := 1 }) ∧ (i ≠ 1 → stops (.puporSysWait i) [0x72, i]) ∧ (p.waiting = 1 → Becomes .puporSysWaitEnd s { D with pu := { p with waiting := 0 } }) ∧ runs .puporIdle [0x73] (fun q => { q with waiting := 2 }) ∧ (p.waiting = 2 → Becomes .puporIdleWake s { D with pu := { p with waiting := 0 } }))
      ∧ (runs .puporNop [0x75] (fun q => q) ∧ (p.byMbox = false → runs .puporStop [0x74] (fun q => { q with run := none, waiting := 0, aborted := false })) ∧ (puListed i.toNat = false → stops (.puporReservedOpcode i) [i]) ∧ (¬ ram a.toNat → stops (.puporStAbs a) (to16 0x44)) ∧ (¬ ok a.toNat → stops (.puporLdAbs a) (to16 0x41)))
      ∧ ((p.run.isSome = true → 16777216 ≤ p.count → Becomes .extensionInstructionLimit s D.abortRun) ∧ (p.byMbox = false → D.abortRun = { D with pu := { p with run := none, waiting := 0, aborted := true } }))
      ∧ ((D.coreLocked core.toNat = true → lk.testBit 7 = false → ¬ barred → Becomes (.lockupAutoRecover core) s (D.recoverCore core.toNat)) ∧ (D.coreLocked core.toNat = true → lk.testBit 7 = false → barred → Becomes (.lockupAutoRecover core) s D) ∧ (D.coreLocked core.toNat = true → lk.testBit 7 = true → p.run = none → Becomes (.lockupAutoRecover core) s (if D.extGood (lk % 8) = true then D.startRun (lk % 8) [BitVec.ofNat 8 core.toNat] false else if lk % 8 < 6 then D.recordBad 3 (8 + lk % 8) else D)))

/-- A sensor at 110 °C or more trips once it is read, and a lower reading trips nothing; a watched rail out of limits is recorded; VSET moves 5 mV within 900 to 1,050 mV on an answered write, and the third write without an answer in succession is recorded; losing the reference clock in RUN is a power failure. Refresh, calibration, tracking and scrubbing lengthen accesses and change nothing else, but a scrub records the error it finds. A permitted word write of a register takes its defined fields; a read of a read-clear register clears it, and a host read also answers its value; a reader the access rules refuse changes nothing, nor does an access of another size, which BAR2 counts. Choices of the model that it rests on: log entries 67, 23. Each of these constructors is concluded to answer that next state, on the conditions named alone: thermtrip, railExcursion, vsetStep, avsRetry, refclkLoss, ddrRefresh, ddrZqCalibration, ddrPhyTracking, loamScrub, registerWrite, readClearRegister (R226, R276, R280, R283, R363, R383, R390, R392, R393, R396, R401). -/
def Obligations.PinsRegistersAndBackground : Prop :=
  ∀ (s : State) (who : Agent) (n : BitVec 4) (fn : FnNo) (v : Word) (rail : Byte) (up acked : Bool) (m : Nat) (rk : BitVec 2) (bank : BitVec 3) (word : BitVec 21) (a : BitVec 28) (sz : BitVec 4),
    let D := s.dev
    let p := D.pw
    let f := fn.toNat
    let x := D.fn f
    let answered := fun (d : Dev) (w : Word) => { d with host := { d.host with out := d.host.out ++ [.rdata f w] } }
    let inner := ∀ g, who ≠ .host g
    let fail := { D with pw := { p with avsFail := p.avsFail + 1 } }
    let stalls := fun (kind unit : Nat) => { D with pw := { p with stalls := p.stalls ++ [(kind, unit)] } }
    let moves := p.pstate = 2 ∧ (p.stage = .firmware ∨ (p.stage = .finished ∧ p.boot.getLsbD 30 = false)) ∧ p.avsFail < 3 ∧ ((up = true ∧ p.vset + 5 ≤ 1050 ∧ m = p.vset + 5) ∨ (up = false ∧ 905 ≤ p.vset ∧ m = p.vset - 5))
    let hot := n.toNat ≤ 8 ∧ D.chSampled n.toNat = true ∧ 880 ≤ v.toInt
    let here := D.hostUp f = true
    (¬ hot → Becomes (.thermtrip n v) s D) ∧ (hot → Becomes (.thermtrip n v) s ((D.heat n.toNat v.toInt).overheat n.toNat)) ∧ ((D.heat n.toNat v.toInt).overheat n.toNat).pw.pfail = true
      ∧ (1 ≤ rail.toNat → rail.toNat ≤ 9 → p.pstate = 2 → Becomes (.railExcursion rail) s (D.record (0xA000 + rail.toNat) 3 [])) ∧ (9 < rail.toNat → Becomes (.railExcursion rail) s D)
      ∧ (moves → Becomes (.vsetStep up true) s { D with pw := { p with avsFail := 0, vset := m } }) ∧ (moves → p.avsFail + 1 ≠ 3 → Becomes (.vsetStep up false) s fail)
      ∧ (moves → p.avsFail + 1 = 3 → Becomes (.vsetStep up false) s (fail.record 0xA001 3 []))
      ∧ (p.avsFail < 3 → Becomes (.avsRetry acked) s D) ∧ (3 ≤ p.avsFail → Becomes (.avsRetry true) s { D with pw := { p with avsFail := 0 } }) ∧ (3 ≤ p.avsFail → Becomes (.avsRetry false) s fail)
      ∧ (p.pstate = 2 → Becomes .refclkLoss s D.registerFailure) ∧ (p.pstate ≠ 2 → Becomes .refclkLoss s D)
      ∧ (D.channelUp n.toNat = true → Becomes (.ddrRefresh n rk) s (stalls 0 (4 * n.toNat + rk.toNat)) ∧ Becomes (.ddrZqCalibration n) s (stalls 1 n.toNat) ∧ Becomes (.ddrPhyTracking n) s (stalls 2 n.toNat))
      ∧ (D.powered (72 + bank.toNat) = true → Becomes (.loamScrub bank word 0) s (stalls 3 bank.toNat) ∧ Becomes (.loamScrub bank word 1) s ((stalls 3 bank.toNat).record (0x3000 + bank.toNat) 3 (toLe 8 (bank.toNat * 2 ^ 24 + 8 * word.toNat))))
      ∧ (inner → a.toNat % 4 = 0 → isMirror a.toNat = false → D.allowed who a.toNat true = true → Becomes (.registerWrite who { addr := a } v) s (D.regWrite who a.toNat v.toNat))
      ∧ (inner → D.allowed who 0x0D010200 true = true → Becomes (.registerWrite who { addr := 0x0D010200 } v) s { D with pw := { p with lkctl := v &&& 0x80000087 } })
      ∧ (inner → D.allowed who 0x0D000008 true = true → Becomes (.registerWrite who { addr := 0x0D000008 } v) s { D with rc := { D.rc with note := v &&& BitVec.ofNat 32 noteMask } })
      ∧ (inner → isMirror a.toNat = false → D.allowed who a.toNat true = false → Becomes (.registerWrite who { addr := a } v) s D)
      ∧ (here → Becomes (.registerWrite (.host fn) { addr := 0x54 } v) s (D.setFn f { x with fstat := x.fstat &&& ~~~(v &&& 0x1F) }))
      ∧ (inner → D.allowed who 0x0D000010 false = true → Becomes (.readClearRegister who { addr := 0x0D000010 }) s { D with rc := { D.rc with lost := 0 } })
      ∧ (inner → D.allowed who a.toNat false = false → Becomes (.readClearRegister who { addr := a, size := sz }) s D)
      ∧ (inner → sz ≠ 4 → isMirror a.toNat = false → Becomes (.registerWrite who { addr := a, size := sz } v) s D) ∧ (inner → sz ≠ 4 → Becomes (.readClearRegister who { addr := a, size := sz }) s D)
      ∧ (here → sz ≠ 4 → a.toNat.testBit 27 = false → Becomes (.registerWrite (.host fn) { addr := a, size := sz } v) s D)
      ∧ (here → sz ≠ 4 → a.toNat.testBit 27 = true → x.closed = true → Becomes (.registerWrite (.host fn) { addr := a, size := sz } v) s (D.setFn f { x with dberr := satAdd x.dberr 1 }))
      ∧ (here → Becomes (.readClearRegister (.host fn) { addr := 0x58 }) s (answered (D.setFn f { x with dberr := 0 }) x.dberr))

/-- With a command in front, a step is that command's meaning on the machine with the rest of the queue, for every command and every state. On an empty queue a powered device lets one millisecond of the Pupor oscillator pass: OPT counts one, and every staged value ages by one millisecond and expires as it reaches its limit; an unpowered device, or one whose power-fail sequence has ended, stands still. That an empty queue is a millisecond is the model's choice (log entry 2). Choices of the model that it rests on: log entry 2 (R251, R359). -/
def Obligations.StepRunsFrontCommand : Prop :=
  ∀ (s : State) (c : Instr) (rest : List Instr),
    let D := s.dev
    let age := fun (d : Dev) (i : Nat) =>
      let p := Tab.get d.mi.slots i {}
      if p.st ≠ 1 then d else if p.limit ≤ p.age + 1 then d.expireStage i else { d with mi := { d.mi with slots := Tab.set d.mi.slots i { p with age := p.age + 1 } } }
    step { s with pending := c :: rest } = exec c { s with pending := rest }
      ∧ (s.pending = [] → Powered s → step s = .next { s with dev := (List.range 16).foldl age { D with rc := { D.rc with opt := D.rc.opt + 1 } } })
      ∧ (s.pending = [] → ¬ Powered s → step s = .next s)

/-- At reset no command waits, the device is in STANDBY, memory lists nothing, no core runs and no bay holds a task; bay 0 of a core is at M level with IM = 1. Every bay has DECCTL 0x0008_0000, KMASK all ones, CAP 32, RES 2, CWP 1, and MROUTE routing causes 0x0E and 0x15 alone; ASR, PEND, BAYCTL and the gate frames are clear. A stream is recovering, with quota 15 and LOW 2; a link port is OFF and cuts through; a DMA channel is disabled and expects parity 1; RC_CTL holds its defaults; nothing waits to be logged. Choices of the model that it rests on: log entries 2, 4, 9, 12, 21 (R84, R149, R186, R187, R200, R206, R245, R334, R366, R370, R375). -/
def Obligations.ResetState : Prop :=
  ∀ (n b k : Nat),
    let D := State.reset.dev
    let x := D.bay n b
    State.reset.pending = [] ∧ D.pw.pstate = 1 ∧ D.pw.stage = .off ∧ D.mem = [] ∧ (D.core n).up = false ∧ x.st = .empty
      ∧ x.decctl = 0x00080000 ∧ x.kmask = 0xFFFFFFFF ∧ x.cap = 32 ∧ x.res = 2 ∧ x.cwp = 1 ∧ x.mrouteL.toNat = 2 ^ 14 + 2 ^ 21 ∧ x.mrouteH = 0
      ∧ x.asr = 0 ∧ x.status = (if b = 0 then 0x0000000F else 0) ∧ x.pend = 0 ∧ x.bayctl = 0 ∧ x.gates = [] ∧ x.flight = [] ∧ x.bundle = none
      ∧ D.streamState k = 3 ∧ (D.stream k).quota = 15 ∧ (D.stream k).low = 2 ∧ (D.port k).state = 0 ∧ (D.port k).cut = true ∧ (D.port k).peer = false
      ∧ ((D.chan n k).en = false ∧ (D.chan n k).par = true ∧ (D.chan n k).state = 0)
      ∧ D.rc.ctl = 0x0A000E10 ∧ D.rc.logq = [] ∧ D.rc.opt = 0 ∧ D.host.out = []

/-- Every command, on every state, answers a next state: never a fault, never a refusal. The queue of commands that wait is as before. While VDD_AON is absent nothing runs: every command but a power-on reset and the removal of VDD_AON leaves the whole machine as it was; the same once the power-fail sequence has ended, a device reset excepted. Choices of the model that it rests on: log entry 14 (R370). -/
def Obligations.CommandsKeepTheQueue : Prop :=
  ∀ (c : Instr) (s : State),
    (∃ t : State, exec c s = .next t ∧ t.pending = s.pending) ∧ (c ≠ .powerOnReset → c ≠ .vddAonRemoved → s.dev.pw.pstate = 0 ∨ (s.dev.pw.pfDone = true ∧ c ≠ .deviceReset) → exec c s = .next s)

/-- For every state whose memory is canonical (addresses strictly rising, no byte listed that equals what its address reads as unlisted), whatever command is in front, or with none, the state a step answers has a canonical memory. Choices of the model that it rests on: log entry 9 (R3, R16, R17). -/
def Obligations.StepKeepsMemoryCanonical : Prop :=
  ∀ s t : State, MemCanonical s → step s = .next t → MemCanonical t

/-- The memory at reset lists nothing and is canonical, and a power-on reset from any canonical state leaves a canonical memory. Choices of the model that it rests on: log entry 9 (R3). -/
def Obligations.ResetMemoryCanonical : Prop :=
  MemCanonical State.reset ∧ (∀ s t : State, MemCanonical s → exec .powerOnReset s = .next t → MemCanonical t)

/-- For every syllable of the instruction set, as the last of its bundle: where its guard does not hold, its command answers the state in which the bundle completes with no effect of the syllable's, whatever its operands; where more syllables follow, it leaves the bundle open with one syllable less and changes nothing else. The guard is the guard predicate, inverted where N is set; with G = 0 it holds exactly where N is clear (R35). -/
def Obligations.GuardFalseHasNoEffect : Prop :=
  ∀ (s : State) (c : Instr) (f : SInfo) (u : Bundle) (rest : List Instr),
    let y := f.syl
    let x := s.dev.home y
    (x.guard s.dev.free y = (if y.n then !x.pred s.dev.free y.g else x.pred s.dev.free y.g)) ∧ (y.g = 0 → x.guard s.dev.free y = !y.n)
      ∧ (sylInfo c = some f → Powered s → s.dev.issuing y.core.toNat y.bay.toNat = true → x.bundle = some u → u.rep = none → u.excs = [] → Settled s.dev y.core.toNat y.bay.toNat u.effs = true → x.guard s.dev.free y = false →
          (u.todo = [asDecoded c] → exec c s = .next (completes s y u []))
            ∧ (u.todo = asDecoded c :: rest → rest ≠ [] → exec c s = .next { s with dev := s.dev.setBay y.core.toNat y.bay.toNat { x with bundle := some { u with todo := rest } } }))

/-- For every bay with nothing in flight, a result of latency L written to an integer register: k bundles later, for 0 < k < L, a read of the register gives the old or the new value; from L bundles on it gives the new value and nothing is in flight. Every other integer register reads as before throughout, and x0 reads 0. Choices of the model that it rests on: log entry 5 (R31, R39, R40, R41). -/
def Obligations.ResultsLandAtTheirDistance : Prop :=
  ∀ (x : Bay) (r r2 : Reg) (v : Word) (l k free : Nat),
    let z := Nat.repeat Bay.age k (x.fly (x.intDest r) v.toNat l)
    x.flight = [] → r ≠ 0 → 0 < k →
      (k < l → z.int free r = x.int free r ∨ z.int free r = v) ∧ (l ≤ k → z.int free r = v ∧ z.flight = [])
        ∧ (r2 ≠ 0 → x.phys r2.toNat ≠ x.phys r.toNat → z.int free r2 = x.int free r2) ∧ z.int free 0 = 0

/-- A bundle whose effects are results alone, of a bay that does not single-step, that no bay waits to evict and whose pair does not drain, completes to a state that differs in that bay alone: its next address, its bundle counts and its results in flight; every other bay, every byte of memory, every register of every block, the store buffers and the queue are as before. Bytes stored at an address read back there (in a canonical memory), and every address outside them reads as before. Choices of the model that it rests on: log entries 9, 11, 19 (R37, R39, R44, R222). -/
def Obligations.CompletionFrame : Prop :=
  ∀ (s : State) (y : Syl) (u : Bundle) (es : List Eff) (m k : Nat) (a x : Nat) (bs : List Byte),
    let D := s.dev
    let n := y.core.toNat
    let b := y.bay.toNat
    let t := completes s y u es
    let results := ∀ e ∈ u.effs ++ es, ∃ r v l, e = .land r v l
    let lands := (u.effs ++ es).filterMap (fun e => match e with | .land r v l => if r = .none then none else some { dest := r, val := BitVec.ofNat 128 v, lat := l, dist := 0 } | _ => none)
    let quiet := ¬ ((s.dev.home y).level = 0 ∧ (s.dev.home y).status.getLsbD 5 = true) ∧ D.asker n b = none ∧ D.domState (n / 2) ≠ 2
    (results → quiet → t.pending = s.pending ∧ t.dev.bay n b = { (D.home y).complete u with flight := ((D.home y).complete u).flight ++ lands }
        ∧ ((m, k) ≠ (n, b) → t.dev.bay m k = D.bay m k) ∧ (t.dev.core m).sb = (D.core m).sb
        ∧ t.dev = { D with cores := t.dev.cores })
      ∧ (x < a ∨ a + bs.length ≤ x → (D.put a bs).byte x = D.byte x)
      ∧ (MemCanonical s → ∀ i (h : i < bs.length), (D.put a bs).byte (a + i) = bs[i])

end Statements
end

