-- ==== Sys2Proof/Laws/Memory.lean ====
section
/-! SUPPORT. The laws of memory: a write is read back, leaves every other address alone, and keeps the canonical form. -/

namespace Sys2Proof.Machine

/-- A written byte reads back. -/
theorem Memory.read_write_self (f : Nat → Byte) (m : List Host.Cell) (a : Nat) (v : Byte) (lo : Option Nat) (h : Memory.wfFrom f lo m = true) :
    Memory.read f (Memory.write f m a v) a = v := by
  induction m generalizing lo with
  | nil => by_cases hv : v = f a <;> simp [Memory.write, Memory.read, hv]
  | cons p m ih =>
    obtain ⟨b, w⟩ := p
    simp only [Memory.wfFrom, Bool.and_eq_true] at h
    simp only [Memory.write]
    split
    · rename_i hlt
      split
      · rename_i hv
        have : ∀ (l : List Host.Cell) (c : Nat), a ≤ c → Memory.wfFrom f (some c) l = true → Memory.read f l a = f a := by
          intro l
          induction l with
          | nil => intro c _ _; rfl
          | cons q l ihl =>
            intro c hc hq
            obtain ⟨e, u⟩ := q
            simp only [Memory.wfFrom, Bool.and_eq_true, decide_eq_true_eq] at hq
            have hne : e ≠ a := by omega
            simp [Memory.read, hne, ihl e (by omega) hq.2]
        have hne : b ≠ a := by omega
        simp [Memory.read, hne, this m b (by omega) h.2, hv]
      · simp [Memory.read]
    · split
      · rename_i _ hab
        subst hab
        split
        · rename_i hv
          have : ∀ (l : List Host.Cell) (c : Nat), a ≤ c → Memory.wfFrom f (some c) l = true → Memory.read f l a = f a := by
            intro l
            induction l with
            | nil => intro c _ _; rfl
            | cons q l ihl =>
              intro c hc hq
              obtain ⟨e, u⟩ := q
              simp only [Memory.wfFrom, Bool.and_eq_true, decide_eq_true_eq] at hq
              have hne : e ≠ a := by omega
              simp [Memory.read, hne, ihl e (by omega) hq.2]
          simp [this m a (le_refl _) h.2, hv]
        · simp [Memory.read]
      · rename_i hba hab
        have hne : b ≠ a := fun e => hab e.symm
        simp [Memory.read, hne, ih (some b) h.2]

/-- Every other address reads as before. -/
theorem Memory.read_write_ne (f : Nat → Byte) (m : List Host.Cell) (a c : Nat) (v : Byte) (h : c ≠ a) :
    Memory.read f (Memory.write f m a v) c = Memory.read f m c := by
  induction m with
  | nil => by_cases hv : v = f a <;> simp [Memory.write, Memory.read, hv, Ne.symm h]
  | cons p m ih =>
    obtain ⟨b, w⟩ := p
    simp only [Memory.write]
    split
    · split <;> simp [Memory.read, Ne.symm h]
    · split
      · rename_i _ hab
        subst hab
        split <;> simp [Memory.read, Ne.symm h]
      · simp [Memory.read, ih]

/-- A write keeps the canonical form from any bound below its address. -/
theorem Memory.wfFrom_write (f : Nat → Byte) (m : List Host.Cell) (a : Nat) (v : Byte) (lo : Option Nat)
    (h : Memory.wfFrom f lo m = true) (hlo : ∀ b, lo = some b → b < a) : Memory.wfFrom f lo (Memory.write f m a v) = true := by
  induction m generalizing lo with
  | nil =>
    by_cases hv : v = f a
    · simp [Memory.write, hv, Memory.wfFrom]
    · cases lo with
      | none => simp [Memory.write, hv, Memory.wfFrom]
      | some b => simp [Memory.write, hv, Memory.wfFrom, hlo b rfl]
  | cons p m ih =>
    obtain ⟨b, w⟩ := p
    have h' := h
    simp only [Memory.wfFrom, Bool.and_eq_true, decide_eq_true_eq] at h
    simp only [Memory.write]
    split
    · rename_i hab
      split
      · exact h'
      · rename_i hv
        cases lo with
        | none => simp [Memory.wfFrom, hv, hab, h.1.2, h.2]
        | some c => simp [Memory.wfFrom, hv, hab, h.1.2, h.2, hlo c rfl]
    · split
      · rename_i _ hab
        subst hab
        split
        · have drop : ∀ (l : List Host.Cell) (lo : Option Nat) (c : Nat), (∀ b, lo = some b → b < c) → Memory.wfFrom f (some c) l = true → Memory.wfFrom f lo l = true := by
            intro l lo c hc hl
            cases l with
            | nil => rfl
            | cons q l =>
              obtain ⟨e, u⟩ := q
              simp only [Memory.wfFrom, Bool.and_eq_true, decide_eq_true_eq] at hl ⊢
              refine ⟨⟨?_, hl.1.2⟩, hl.2⟩
              cases lo with
              | none => rfl
              | some b => have := hc b rfl; have := hl.1.1; simp; omega
          exact drop m lo a hlo h.2
        · rename_i hv
          simp only [Memory.wfFrom, Bool.and_eq_true, decide_eq_true_eq]
          exact ⟨⟨h.1.1, hv⟩, h.2⟩
      · rename_i hba hab
        simp only [Memory.wfFrom, Bool.and_eq_true, decide_eq_true_eq]
        refine ⟨h.1, ih (some b) h.2 ?_⟩
        intro c hc
        simp only [Option.some.injEq] at hc
        omega

/-- A write keeps the canonical form. -/
theorem Memory.wf_write (f : Nat → Byte) (m : List Host.Cell) (a : Nat) (v : Byte) (h : Memory.wf f m = true) :
    Memory.wf f (Memory.write f m a v) = true :=
  Memory.wfFrom_write f m a v none h (by simp)

/-- A write of consecutive bytes keeps the canonical form. -/
theorem Memory.wf_writeN (f : Nat → Byte) (m : List Host.Cell) (a : Nat) (vs : List Byte) (h : Memory.wf f m = true) :
    Memory.wf f (Memory.writeN f m a vs) = true := by
  induction vs generalizing m a with
  | nil => exact h
  | cons v vs ih => exact ih _ _ (Memory.wf_write f m a v h)

/-- Addresses outside the written bytes read as before. -/
theorem Memory.read_writeN_out (f : Nat → Byte) (m : List Host.Cell) (a c : Nat) (vs : List Byte) (h : c < a ∨ a + vs.length ≤ c) :
    Memory.read f (Memory.writeN f m a vs) c = Memory.read f m c := by
  induction vs generalizing m a with
  | nil => rfl
  | cons v vs ih =>
    simp only [List.length_cons] at h
    rw [Memory.writeN, ih _ _ (by omega), Memory.read_write_ne _ _ _ _ _ (by omega)]

/-- A written byte list reads back byte by byte. -/
theorem Memory.read_writeN_in (f : Nat → Byte) (m : List Host.Cell) (a i : Nat) (vs : List Byte) (h : Memory.wf f m = true) (hi : i < vs.length) :
    Memory.read f (Memory.writeN f m a vs) (a + i) = vs[i] := by
  induction vs generalizing m a i with
  | nil => simp at hi
  | cons v vs ih =>
    cases i with
    | zero =>
      rw [Memory.writeN, Memory.read_writeN_out _ _ _ _ _ (by omega)]
      exact Memory.read_write_self f m a v none h
    | succ j =>
      have := ih (Memory.write f m a v) (a + 1) j (Memory.wf_write f m a v h) (by simpa using hi)
      rw [Memory.writeN, show a + (j + 1) = a + 1 + j by omega, this]
      simp

/-- Dropping cells keeps the canonical form. -/
theorem Memory.wfFrom_filter (f : Nat → Byte) (p : Host.Cell → Bool) (m : List Host.Cell) (lo : Option Nat) (h : Memory.wfFrom f lo m = true) :
    Memory.wfFrom f lo (m.filter p) = true := by
  induction m generalizing lo with
  | nil => rfl
  | cons q m ih =>
    obtain ⟨b, w⟩ := q
    simp only [Memory.wfFrom, Bool.and_eq_true, decide_eq_true_eq] at h
    simp only [List.filter_cons]
    split
    · simp only [Memory.wfFrom, Bool.and_eq_true, decide_eq_true_eq]
      exact ⟨h.1, ih (some b) h.2⟩
    · refine ih lo ?_
      cases m with
      | nil => rfl
      | cons q m =>
        obtain ⟨e, u⟩ := q
        have h2 := h.2
        simp only [Memory.wfFrom, Bool.and_eq_true, decide_eq_true_eq] at h2 ⊢
        refine ⟨⟨?_, h2.1.2⟩, h2.2⟩
        cases lo with
        | none => rfl
        | some c => have := h.1.1; simp at this ⊢; omega

/-- Only the default bytes at the listed addresses matter to the canonical form. -/
theorem Memory.wfFrom_congr (f g : Nat → Byte) (m : List Host.Cell) (lo : Option Nat) (hfg : ∀ c ∈ m, f c.1 = g c.1) (h : Memory.wfFrom f lo m = true) :
    Memory.wfFrom g lo m = true := by
  induction m generalizing lo with
  | nil => rfl
  | cons q m ih =>
    obtain ⟨b, w⟩ := q
    simp only [Memory.wfFrom, Bool.and_eq_true, decide_eq_true_eq] at h ⊢
    refine ⟨⟨h.1.1, ?_⟩, ih (some b) (fun c hc => hfg c (List.mem_cons_of_mem _ hc)) h.2⟩
    have := hfg (b, w) List.mem_cons_self
    simp only at this
    rw [← this]
    exact h.1.2

/-! ## The same for the machine's memory -/

/-- The machine's memory is canonical. -/
def Dev.Canon (d : Dev) : Prop := Memory.wf d.dflt d.mem = true

/-- Only memory and the DDR generation matter. -/
theorem Dev.Canon.congr {d e : Dev} (h : d.Canon) (hm : e.mem = d.mem) (hg : e.ddrGen = d.ddrGen) : e.Canon := by
  have : e.dflt = d.dflt := by funext a; simp [Dev.dflt, hg]
  rw [Dev.Canon, hm, this]
  exact h

/-- Stored bytes keep memory canonical. -/
theorem Dev.put_canon (d : Dev) (a : Nat) (bs : List Byte) (h : d.Canon) : (d.put a bs).Canon :=
  Memory.wf_writeN d.dflt d.mem a bs h

/-- A range cleared keeps memory canonical. -/
theorem Dev.clearRange_canon (d : Dev) (a n : Nat) (h : d.Canon) : (d.clearRange a n).Canon :=
  Memory.wfFrom_filter d.dflt _ d.mem none h

/-- Bytes outside a store read as before. -/
theorem Dev.byte_put_out (d : Dev) (a c : Nat) (bs : List Byte) (h : c < a ∨ a + bs.length ≤ c) : (d.put a bs).byte c = d.byte c :=
  Memory.read_writeN_out d.dflt d.mem a c bs h

/-- Stored bytes read back. -/
theorem Dev.byte_put_in (d : Dev) (a i : Nat) (bs : List Byte) (h : d.Canon) (hi : i < bs.length) : (d.put a bs).byte (a + i) = bs[i] :=
  Memory.read_writeN_in d.dflt d.mem a i bs h hi

end Sys2Proof.Machine
end

