-- ==== Sys2Proof/Laws/Canon.lean ====
section
/-! SUPPORT. Memory stays canonical: the predicates over a machine and over a syllable's answer, and the general lemmas the per-function ones use. -/
namespace Sys2Proof.Machine
/-- A cell list is canonical over the bytes of a DDR generation. -/
def MemOk (g : Nat) (m : List Host.Cell) : Prop := Memory.wf (fun a => if a < ddrBase then 0 else Config.ddrByte g a) m = true
theorem foldl_canon {α : Type} (l : List α) (f : Dev → α → Dev) (d : Dev) (hf : ∀ e x, e.Canon → (f e x).Canon) (h : d.Canon) : (l.foldl f d).Canon := by
  induction l generalizing d with
  | nil => exact h
  | cons x l ih => exact ih _ (hf d x h)

def SylOut.Ok : SylOut → Prop
  | .begin e => e.Canon
  | _ => True
theorem SylOut.begin_ok (d : Dev) (h : d.Canon) : (SylOut.begin d).Ok := h
theorem firstOut_ok (l : List (Option SylOut)) (o : SylOut) (h : o.Ok) (hl : ∀ p ∈ l, ∀ q, p = some q → q.Ok) : (firstOut l o).Ok := by
  induction l with
  | nil => exact h
  | cons p l ih =>
    cases p with
    | none => exact ih (fun p hp q hq => hl p (List.mem_cons_of_mem _ hp) q hq)
    | some q => exact hl _ List.mem_cons_self q rfl

/-- A record literal is canonical when its memory is. -/
theorem canon_mk (a : Tab Core) (m : List Host.Cell) (g : Nat) (p : List Nat) (j : Journal) (e : Epoch) (mi : Mirror) (h : HostIf) (dm : Tab Engine) (dl : Derrik) (rc : Recorder) (pw : Power) (mc : MemBlk) (pu : Pupor) (fr : Nat) :
    (Dev.mk a m g p j e mi h dm dl rc pw mc pu fr).Canon ↔ MemOk g m := Iff.rfl
theorem canon_fold (d : Dev) : MemOk d.ddrGen d.mem ↔ d.Canon := Iff.rfl

/-- An optional answer of a syllable, if given, keeps the memory canonical. -/
def OutOk : Option SylOut → Prop
  | some o => o.Ok
  | none => True
theorem OutOk.of_eq {x : Option SylOut} {o : SylOut} (hx : x = some o) (h : OutOk x) : o.Ok := by
  subst hx
  exact h
/-- A failed step's answer keeps the memory canonical. -/
def ExOk {α : Type} : Except SylOut α → Prop
  | .error o => o.Ok
  | .ok _ => True
theorem ExOk.of_eq {α : Type} {x : Except SylOut α} {o : SylOut} (hx : x = .error o) (h : ExOk x) : o.Ok := by
  subst hx
  exact h
theorem ExOk.error {α : Type} (o : SylOut) (h : o.Ok) : ExOk (.error o : Except SylOut α) := h
theorem OutOk.some (o : SylOut) (h : o.Ok) : OutOk (some o) := h
theorem ExOk.map {α β : Type} (x : Except SylOut α) (f : α → β) (h : ExOk x) : ExOk (x.map f) := by
  cases x with
  | error o => exact h
  | ok v => trivial
theorem firstOut_nil_ok (o : SylOut) (h : o.Ok) : (firstOut [] o).Ok := h
theorem firstOut_cons_ok (p : Option SylOut) (l : List (Option SylOut)) (o : SylOut) (hp : OutOk p) (h : (firstOut l o).Ok) : (firstOut (p :: l) o).Ok := by
  cases p with
  | none => exact h
  | some q => exact hp
/-- One unit of a string keeps the memory canonical. -/
def ByteOk : ByteOut → Prop
  | .next d _ => d.Canon
  | _ => True
theorem ByteOk.next (d : Dev) (m : Option Bool) (h : d.Canon) : ByteOk (.next d m) := h
theorem ByteOk.of_eq {x : ByteOut} {e : Dev} {m : Option Bool} (hx : x = .next e m) (h : ByteOk x) : e.Canon := by
  subst hx
  exact h
theorem getD_canon (o : Option Dev) (d : Dev) (h : d.Canon) (ho : ∀ e, o = some e → e.Canon) : (o.getD d).Canon := by
  cases o with
  | none => exact h
  | some e => exact ho e rfl
theorem foldl_move_canon {α : Type} (l : List α) (f : DmaMove → α → DmaMove) (m : DmaMove) (hf : ∀ v x, v.d.Canon → (f v x).d.Canon) (h : m.d.Canon) : (l.foldl f m).d.Canon := by
  induction l generalizing m with
  | nil => exact h
  | cons x l ih => exact ih _ (hf m x h)

end Sys2Proof.Machine
end

