-- ==== Sys2Proof/Laws/CanonBlocks.lean ====
section
/-! SUPPORT. Memory stays canonical under every operation of the blocks: journal, epochs, mirrors, recorder, host interface, Derrik, DMA. One lemma per function. -/
namespace Sys2Proof.Machine

theorem Dev.setCore_canon (d : Dev) (n : Nat) (c : Core) (hk : d.Canon) : (Dev.setCore d n c).Canon := by
  unfold Dev.setCore
  repeat' (first | with_reducible assumption | with_reducible intro _ | split | simp only [canon_mk, canon_fold])

theorem Dev.setBay_canon (d : Dev) (n : Nat) (b : Nat) (x : Bay) (hk : d.Canon) : (Dev.setBay d n b x).Canon := by
  unfold Dev.setBay
  repeat' (first | with_reducible assumption | with_reducible apply Dev.setCore_canon)

theorem Dev.modBay_canon (d : Dev) (n : Nat) (b : Nat) (f : Bay → Bay) (hk : d.Canon) : (Dev.modBay d n b f).Canon := by
  unfold Dev.modBay
  repeat' (first | with_reducible assumption | with_reducible apply Dev.setBay_canon)

theorem Dev.modCore_canon (d : Dev) (n : Nat) (f : Core → Core) (hk : d.Canon) : (Dev.modCore d n f).Canon := by
  unfold Dev.modCore
  repeat' (first | with_reducible assumption | with_reducible apply Dev.setCore_canon)

theorem Dev.markNotified_canon (d : Dev) (source : Nat) (kind : Nat) (hk : d.Canon) : (Dev.markNotified d source kind).Canon := by
  unfold Dev.markNotified
  (try dsimp only)
  repeat' (first | with_reducible assumption | with_reducible intro _ | split | simp only [canon_mk, canon_fold])

theorem Dev.deliver_canon {d : Dev} {n b cause detail : Nat} {e : Dev} {o : Bool} (hx : d.deliver n b cause detail = (e, o)) (h : d.Canon) : e.Canon := by
  have := congrArg Prod.fst hx
  simp only [Dev.deliver] at this
  subst this
  split
  · exact Dev.setBay_canon _ _ _ _ h
  · exact Dev.modCore_canon _ _ _ h

theorem Dev.tally_canon {d : Dev} {source kind : Nat} {e : Dev} {o : Option EvEntry} (hx : d.tally source kind = (e, o)) (h : d.Canon) : e.Canon := by
  have := congrArg Prod.fst hx
  subst this
  unfold Dev.tally
  dsimp only
  repeat' (first | split | exact h)
theorem Dev.logEvent_canon (d : Dev) (first : Bool) (source kind : Nat) (e : Option EvEntry) (detail : List Byte) (hk : d.Canon) : (Dev.logEvent d first source kind e detail).Canon := hk
theorem Dev.countEvent_fst_canon (d : Dev) (source kind : Nat) (detail : List Byte) (h : d.Canon) : (d.countEvent source kind detail).1.Canon := by
  unfold Dev.countEvent
  dsimp only
  have := Dev.tally_canon (d := d) (source := source) (kind := kind) rfl h
  split
  · exact Dev.logEvent_canon _ _ _ _ _ _ this
  · exact this
theorem Dev.countEvent_canon {d : Dev} {source kind : Nat} {detail : List Byte} {e : Dev} {o : Option EvEntry} (hx : d.countEvent source kind detail = (e, o)) (h : d.Canon) : e.Canon := by
  have := Dev.countEvent_fst_canon d source kind detail h
  rwa [hx] at this
theorem Dev.notify_canon (d : Dev) (source kind : Nat) (lose : Dev → Nat → List Byte → Dev) (hl : ∀ e s bs, e.Canon → (lose e s bs).Canon) (hk : d.Canon) : (Dev.notify d source kind lose).Canon := by
  unfold Dev.notify
  dsimp only
  repeat' (first
    | with_reducible assumption
    | with_reducible apply hl
    | with_reducible apply Dev.markNotified_canon
    | (with_reducible refine Dev.deliver_canon (by with_reducible assumption) ?_)
    | split
    | simp only [canon_mk, canon_fold])
theorem Dev.notifyEvent_canon (d : Dev) (source kind : Nat) (e : Option EvEntry) (lose : Dev → Nat → List Byte → Dev) (hl : ∀ e s bs, e.Canon → (lose e s bs).Canon) (hk : d.Canon) : (Dev.notifyEvent d source kind e lose).Canon := by
  unfold Dev.notifyEvent
  repeat' (first | with_reducible assumption | exact hl | with_reducible apply Dev.notify_canon | split)
theorem Dev.recordUpTo_canon (k : Nat) (d : Dev) (source kind : Nat) (detail : List Byte) (hk : d.Canon) : (Dev.recordUpTo k d source kind detail).Canon := by
  induction k generalizing d source kind detail with
  | zero => exact Dev.countEvent_fst_canon _ _ _ _ hk
  | succ k ih =>
    unfold Dev.recordUpTo
    exact Dev.notifyEvent_canon _ _ _ _ _ (fun e s bs he => ih e s 0x11 bs he) (Dev.countEvent_fst_canon _ _ _ _ hk)
theorem Dev.record_canon (d : Dev) (source : Nat) (kind : Nat) (detail : List Byte) (hk : d.Canon) : (Dev.record d source kind detail).Canon :=
  Dev.recordUpTo_canon 3 d source kind detail hk
theorem Dev.recordLogged_canon (d : Dev) (first : Bool) (source kind : Nat) (detail : List Byte) (hk : d.Canon) : (Dev.recordLogged d first source kind detail).Canon :=
  Dev.notifyEvent_canon _ _ _ _ _ (fun e s bs he => Dev.recordUpTo_canon 2 e s 0x11 bs he) (Dev.logEvent_canon _ _ _ _ _ _ (Dev.tally_canon rfl hk))

theorem Dev.raise_canon (d : Dev) (n : Nat) (b : Nat) (cause : Nat) (detail : Nat) (hk : d.Canon) : (Dev.raise d n b cause detail).Canon := by
  unfold Dev.raise
  repeat' (first
    | with_reducible assumption
    | (with_reducible refine Dev.deliver_canon (by with_reducible assumption) ?_)
    | with_reducible apply Dev.record_canon
    | with_reducible intro _
    | split)

theorem Dev.raiseNote_canon (d : Dev) (note : Word) (cause : Nat) (detail : Nat) (hk : d.Canon) : (Dev.raiseNote d note cause detail).Canon := by
  unfold Dev.raiseNote
  repeat' (first | with_reducible assumption | with_reducible apply Dev.raise_canon | with_reducible intro _ | split)

theorem Dev.tickFree_canon (d : Dev) (hk : d.Canon) : (Dev.tickFree d).Canon := by
  unfold Dev.tickFree
  repeat' (first | with_reducible assumption | with_reducible intro _ | split | simp only [canon_mk, canon_fold])

theorem Dev.countEcc_canon (d : Dev) (c : Nat) (kind : Nat) (pa : Nat) (hk : d.Canon) : (Dev.countEcc d c kind pa).Canon := by
  unfold Dev.countEcc
  (try dsimp only)
  repeat' (first | with_reducible assumption | with_reducible intro _ | split | simp only [canon_mk, canon_fold])

theorem Dev.recordBadData_canon (d : Dev) (pa : Nat) (hk : d.Canon) : (Dev.recordBadData d pa).Canon := by
  unfold Dev.recordBadData
  repeat' (first | with_reducible assumption | with_reducible apply Dev.record_canon | with_reducible apply Dev.countEcc_canon | with_reducible intro _ | split)

theorem Dev.pageWalk_canon (d : Dev) (n : Nat) (b : Nat) (va : Nat) (k : AccKind) (form : Bool) (size : Nat) (fab : Bool) (hk : d.Canon) : (Dev.pageWalk d n b va k form size fab).Canon := by
  unfold Dev.pageWalk
  (try dsimp only)
  repeat' (first
    | with_reducible assumption
    | with_reducible apply Dev.setBay_canon
    | with_reducible apply Dev.put_canon
    | with_reducible apply Dev.modCore_canon
    | with_reducible apply Dev.modBay_canon
    | with_reducible apply Dev.tickFree_canon
    | with_reducible intro _
    | split)

theorem Dev.setPort_canon (d : Dev) (p : Nat) (x : Port) (hk : d.Canon) : (Dev.setPort d p x).Canon := by
  unfold Dev.setPort
  (try dsimp only)
  repeat' (first | with_reducible assumption | with_reducible intro _ | split | simp only [canon_mk, canon_fold])

theorem Dev.freeFrame_canon (d : Dev) (f : Frame) (hk : d.Canon) : (Dev.freeFrame d f).Canon := by
  unfold Dev.freeFrame
  (try dsimp only)
  repeat' (first | with_reducible assumption | with_reducible apply Dev.setPort_canon | with_reducible intro _ | split )

theorem Dev.pump_canon (d : Dev) (p : Nat) (hk : d.Canon) : (Dev.pump d p).Canon := by
  unfold Dev.pump
  (try dsimp only)
  repeat' (first | with_reducible assumption | with_reducible apply Dev.setPort_canon | with_reducible apply Dev.freeFrame_canon | with_reducible apply foldl_canon | with_reducible intro _ | split | simp only [canon_mk, canon_fold])

theorem Dev.queueFrame_canon (d : Dev) (p : Nat) (f : Frame) (hk : d.Canon) : (Dev.queueFrame d p f).Canon := by
  unfold Dev.queueFrame
  (try dsimp only)
  repeat' (first | with_reducible assumption | with_reducible apply Dev.setPort_canon | with_reducible apply Dev.pump_canon)

theorem Dev.forward_canon (d : Dev) (p q : Nat) (f : Frame) (hk : d.Canon) : (Dev.forward d p q f).Canon := by
  unfold Dev.forward
  (try dsimp only)
  repeat' (first | with_reducible assumption | with_reducible apply Dev.setPort_canon | with_reducible apply Dev.pump_canon | with_reducible apply Dev.queueFrame_canon | with_reducible intro _ | split | simp only [canon_mk, canon_fold])

theorem Dev.unstomp_canon (d : Dev) (p : Nat) (hk : d.Canon) : (Dev.unstomp d p).Canon := by
  unfold Dev.unstomp
  (try dsimp only)
  repeat' (first | with_reducible assumption | with_reducible apply Dev.setPort_canon | with_reducible apply Dev.pump_canon | with_reducible apply foldl_canon | with_reducible intro _ | split )

theorem Dev.sendControl_canon (d : Dev) (p : Nat) (f : Frame) (hk : d.Canon) : (Dev.sendControl d p f).Canon := by
  unfold Dev.sendControl
  (try dsimp only)
  repeat' (first | with_reducible assumption | with_reducible apply Dev.setPort_canon | with_reducible intro _ | split)

theorem Dev.sendHello_canon (d : Dev) (p : Nat) (hk : d.Canon) : (Dev.sendHello d p).Canon := by
  unfold Dev.sendHello
  repeat' (first | with_reducible assumption | with_reducible apply Dev.sendControl_canon)

theorem Dev.sendAck_canon (d : Dev) (p : Nat) (hk : d.Canon) : (Dev.sendAck d p).Canon := by
  unfold Dev.sendAck
  (try dsimp only)
  repeat' (first | with_reducible assumption | with_reducible apply Dev.sendControl_canon)

theorem Dev.sendNak_canon (d : Dev) (p : Nat) (seq : Nat) (reason : Nat) (hk : d.Canon) : (Dev.sendNak d p seq reason).Canon := by
  unfold Dev.sendNak
  (try dsimp only)
  repeat' (first | with_reducible assumption | with_reducible apply Dev.sendControl_canon | with_reducible apply Dev.setPort_canon)

theorem Dev.sendMarks_canon (d : Dev) (hk : d.Canon) : (Dev.sendMarks d).Canon := by
  unfold Dev.sendMarks
  (try dsimp only)
  repeat' (first | with_reducible assumption | with_reducible apply Dev.queueFrame_canon | with_reducible apply foldl_canon | with_reducible intro _ | split)

theorem Dev.queueOn_canon (d : Dev) (ports : List Nat) (f : Frame) (hk : d.Canon) : (Dev.queueOn d ports f).Canon := by
  unfold Dev.queueOn
  repeat' (first | with_reducible assumption | with_reducible apply Dev.queueFrame_canon | with_reducible apply foldl_canon | with_reducible intro _ | split)

theorem Dev.sendDigestOn_canon (d : Dev) (k : Nat) (s : Nat) (z : Seal) (hk : d.Canon) : (Dev.sendDigestOn d k s z).Canon := by
  unfold Dev.sendDigestOn
  (try dsimp only)
  repeat' (first | with_reducible assumption | with_reducible apply Dev.queueOn_canon | with_reducible intro _ | split)

theorem Dev.setFn_canon (d : Dev) (f : Nat) (x : Fn) (hk : d.Canon) : (Dev.setFn d f x).Canon := by
  unfold Dev.setFn
  (try dsimp only)
  repeat' (first | with_reducible assumption | with_reducible intro _ | split | simp only [canon_mk, canon_fold])

theorem Dev.message_canon (d : Dev) (f : Nat) (v : Nat) (hk : d.Canon) : (Dev.message d f v).Canon := by
  unfold Dev.message
  (try dsimp only)
  repeat' (first | with_reducible assumption | with_reducible apply Dev.setFn_canon | with_reducible intro _ | split | simp only [canon_mk, canon_fold])

theorem Dev.flag_canon (d : Dev) (f : Nat) (n : Nat) (hk : d.Canon) : (Dev.flag d f n).Canon := by
  unfold Dev.flag
  (try dsimp only)
  repeat' (first | with_reducible assumption | with_reducible apply Dev.setFn_canon | with_reducible apply Dev.message_canon | with_reducible intro _ | split)

theorem Dev.cfgErr_canon (d : Dev) (f : Nat) (hk : d.Canon) : (Dev.cfgErr d f).Canon := by
  unfold Dev.cfgErr
  repeat' (first | with_reducible assumption | with_reducible apply Dev.flag_canon)

theorem Dev.dbErr_canon (d : Dev) (f : Nat) (n : Nat) (hk : d.Canon) : (Dev.dbErr d f n).Canon := by
  unfold Dev.dbErr
  (try dsimp only)
  repeat' (first | with_reducible assumption | with_reducible apply Dev.setFn_canon | with_reducible apply Dev.flag_canon | with_reducible apply Dev.record_canon)

theorem Dev.cplDrop_canon (d : Dev) (f : Nat) (hk : d.Canon) : (Dev.cplDrop d f).Canon := by
  unfold Dev.cplDrop
  (try dsimp only)
  repeat' (first | with_reducible assumption | with_reducible apply Dev.setFn_canon)

theorem Dev.setSq_canon (d : Dev) (f : Nat) (q : Nat) (y : Sq) (hk : d.Canon) : (Dev.setSq d f q y).Canon := by
  unfold Dev.setSq
  (try dsimp only)
  repeat' (first | with_reducible assumption | with_reducible apply Dev.setFn_canon)

theorem Dev.setCq_canon (d : Dev) (f : Nat) (q : Nat) (y : Cq) (hk : d.Canon) : (Dev.setCq d f q y).Canon := by
  unfold Dev.setCq
  (try dsimp only)
  repeat' (first | with_reducible assumption | with_reducible apply Dev.setFn_canon)

theorem Dev.setRing_canon (d : Dev) (r : Nat) (x : Ring) (hk : d.Canon) : (Dev.setRing d r x).Canon := by
  unfold Dev.setRing
  (try dsimp only)
  repeat' (first | with_reducible assumption | with_reducible intro _ | split | simp only [canon_mk, canon_fold])

theorem Dev.markSlot_canon (d : Dev) (r : Nat) (i : Nat) (v : Nat) (hk : d.Canon) : (Dev.markSlot d r i v).Canon := by
  unfold Dev.markSlot
  repeat' (first | with_reducible assumption | with_reducible apply Dev.put_canon)

theorem Dev.fillSlot_canon (d : Dev) (r : Nat) (entry : List Byte) (src : Nat) (f : Nat) (sq : Nat) (cid : Nat) (hk : d.Canon) : (Dev.fillSlot d r entry src f sq cid).Canon := by
  unfold Dev.fillSlot
  (try dsimp only)
  repeat' (first
    | with_reducible assumption
    | with_reducible apply Dev.put_canon
    | with_reducible apply Dev.setRing_canon
    | with_reducible apply Dev.raise_canon
    | with_reducible intro _
    | split)

theorem Dev.closePost_canon (d : Dev) (f : Nat) (sq : Nat) (hk : d.Canon) : (Dev.closePost d f sq).Canon := by
  unfold Dev.closePost
  (try dsimp only)
  repeat' (first | with_reducible assumption | with_reducible apply Dev.setSq_canon)

theorem Dev.closeFor_canon (d : Dev) (f : Nat) (e : CplE) (hk : d.Canon) : (Dev.closeFor d f e).Canon := by
  unfold Dev.closeFor
  (try dsimp only)
  repeat' (first | with_reducible assumption | with_reducible apply Dev.closePost_canon | with_reducible intro _ | split )

theorem Dev.writeCpl_canon (d : Dev) (f c : Nat) (e : CplE) (hk : d.Canon) : (Dev.writeCpl d f c e).Canon := by
  unfold Dev.writeCpl
  (try dsimp only)
  repeat' (first | with_reducible assumption | with_reducible apply Dev.setCq_canon | with_reducible apply Dev.setSq_canon | with_reducible apply Dev.markSlot_canon | with_reducible apply Dev.closeFor_canon | with_reducible apply Dev.message_canon | with_reducible intro _ | split | simp only [canon_mk, canon_fold])

theorem Dev.complete_canon (d : Dev) (f c : Nat) (e : CplE) (hk : d.Canon) : (Dev.complete d f c e).Canon := by
  unfold Dev.complete
  (try dsimp only)
  repeat' (first | with_reducible assumption | with_reducible apply Dev.markSlot_canon | with_reducible apply Dev.closeFor_canon | with_reducible apply Dev.cplDrop_canon | with_reducible apply Dev.setCq_canon | with_reducible apply Dev.writeCpl_canon | with_reducible intro _ | split | simp only [canon_mk, canon_fold])

theorem Dev.answer_canon (d : Dev) (f q cid sc : Nat) (r0 r1 : Word) (post : Bool) (hk : d.Canon) : (Dev.answer d f q cid sc r0 r1 post).Canon := by
  unfold Dev.answer
  (try dsimp only)
  repeat' (first | with_reducible assumption | with_reducible apply Dev.setSq_canon | with_reducible apply Dev.complete_canon | with_reducible intro _ | split | simp only [canon_mk, canon_fold])

theorem Dev.retireOne_canon (d : Dev) (r : Nat) (hk : d.Canon) : (Dev.retireOne d r).Canon := by
  unfold Dev.retireOne
  (try dsimp only)
  repeat' (first
    | with_reducible assumption
    | with_reducible apply Dev.setRing_canon
    | with_reducible apply Dev.cplDrop_canon
    | with_reducible apply Dev.closePost_canon
    | with_reducible apply Dev.complete_canon
    | with_reducible intro _
    | split)

theorem Dev.retire_canon (d : Dev) (r : Nat) (hk : d.Canon) : (Dev.retire d r).Canon := by
  unfold Dev.retire
  repeat' (first | with_reducible assumption | with_reducible apply Dev.retireOne_canon | with_reducible apply foldl_canon | with_reducible intro _)

theorem Dev.flushLoop_canon (f c : Nat) (k : Nat) (d : Dev) (hk : d.Canon) : (Dev.flushLoop f c k d).Canon := by
  induction k generalizing d with
  | zero => exact hk
  | succ k ih =>
    unfold Dev.flushLoop
    dsimp only
    repeat' (first | with_reducible assumption | with_reducible apply ih | with_reducible apply Dev.retire_canon | with_reducible apply Dev.writeCpl_canon | with_reducible apply Dev.setCq_canon | split)

theorem Dev.flushCq_canon (d : Dev) (f c : Nat) (hk : d.Canon) : (Dev.flushCq d f c).Canon := by
  unfold Dev.flushCq
  (try dsimp only)
  repeat' (first | with_reducible assumption | with_reducible apply Dev.flushLoop_canon | with_reducible intro _ | split )

theorem Dev.force_canon (d : Dev) (vs : List (Nat × Word)) (hk : d.Canon) : (Dev.force d vs).Canon := by
  unfold Dev.force
  (try dsimp only)
  repeat' (first
    | with_reducible assumption
    | with_reducible apply Dev.setPort_canon
    | with_reducible apply Dev.sendHello_canon
    | with_reducible apply foldl_canon
    | with_reducible intro _
    | split
    | simp only [canon_mk, canon_fold])

theorem Dev.commit_canon (d : Dev) (vs : List (Nat × Word)) (hk : d.Canon) : (Dev.commit d vs).Canon := by
  unfold Dev.commit
  (try dsimp only)
  repeat' (first | with_reducible assumption | with_reducible apply Dev.force_canon | with_reducible intro _ | split | simp only [canon_mk, canon_fold])

theorem Dev.applyIds_canon (d : Dev) (p : Nat → Bool) (hk : d.Canon) : (Dev.applyIds d p).Canon := by
  unfold Dev.applyIds
  (try dsimp only)
  repeat' (first | with_reducible assumption | with_reducible apply Dev.force_canon | with_reducible intro _ | split | simp only [canon_mk, canon_fold])

theorem Dev.applyCommitted_canon (d : Dev) (hk : d.Canon) : (Dev.applyCommitted d).Canon := by
  unfold Dev.applyCommitted
  (try dsimp only)
  repeat' (first | with_reducible assumption | with_reducible apply Dev.applyIds_canon | with_reducible intro _ | split )

theorem Dev.setBank_canon (d : Dev) (o : Origin) (x : OrgBank) (hk : d.Canon) : (Dev.setBank d o x).Canon := by
  unfold Dev.setBank
  (try dsimp only)
  repeat' (first | with_reducible assumption | with_reducible intro _ | split | simp only [canon_mk, canon_fold])

theorem Dev.setLast_canon (d : Dev) (o : Origin) (res : Nat) (slot : Nat) (ticket : Nat) (hk : d.Canon) : (Dev.setLast d o res slot ticket).Canon := by
  unfold Dev.setLast
  (try dsimp only)
  repeat' (first | with_reducible assumption | with_reducible apply Dev.setBank_canon)

theorem Dev.setStage_canon (d : Dev) (i : Nat) (x : StageSlot) (hk : d.Canon) : (Dev.setStage d i x).Canon := by
  unfold Dev.setStage
  (try dsimp only)
  repeat' (first | with_reducible assumption | with_reducible intro _ | split | simp only [canon_mk, canon_fold])

theorem Dev.summon_canon (d : Dev) (f : Mirror → Mirror) (hk : d.Canon) : (Dev.summon d f).Canon := by
  unfold Dev.summon
  repeat' (first | with_reducible assumption | with_reducible apply Dev.flag_canon | with_reducible intro _ | split | simp only [canon_mk, canon_fold])

theorem Dev.putStage_canon (d : Dev) (o : Origin) (i : Nat) (id : Nat) (v : Word) (res : Nat) (hk : d.Canon) : (Dev.putStage d o i id v res).Canon := by
  unfold Dev.putStage
  (try dsimp only)
  repeat' (first
    | with_reducible assumption
    | with_reducible apply Dev.setStage_canon
    | with_reducible apply Dev.setLast_canon
    | with_reducible apply Dev.summon_canon
    | with_reducible intro _
    | split
    | simp only [canon_mk, canon_fold])

theorem Dev.stageValue_canon (d : Dev) (o : Origin) (id : Nat) (v : Word) (hk : d.Canon) : (Dev.stageValue d o id v).Canon := by
  unfold Dev.stageValue
  (try dsimp only)
  repeat' (first
    | with_reducible assumption
    | with_reducible apply Dev.setLast_canon
    | with_reducible apply Dev.commit_canon
    | with_reducible apply Dev.force_canon
    | with_reducible apply Dev.putStage_canon
    | with_reducible apply Dev.summon_canon
    | with_reducible intro _
    | split
    | simp only [canon_mk, canon_fold])

theorem Dev.mirrorWrite_canon (d : Dev) (who : Agent) (id : Nat) (v : Word) (hk : d.Canon) : (Dev.mirrorWrite d who id v).Canon := by
  unfold Dev.mirrorWrite
  (try dsimp only)
  repeat' (first
    | with_reducible assumption
    | with_reducible apply Dev.record_canon
    | with_reducible apply Dev.stageValue_canon
    | with_reducible intro _
    | split
    | simp only [canon_mk, canon_fold])

theorem Dev.expireStage_canon (d : Dev) (i : Nat) (hk : d.Canon) : (Dev.expireStage d i).Canon := by
  unfold Dev.expireStage
  (try dsimp only)
  repeat' (first
    | with_reducible assumption
    | with_reducible apply Dev.setStage_canon
    | with_reducible apply Dev.summon_canon
    | with_reducible apply Dev.record_canon
    | with_reducible intro _
    | split)

theorem Dev.ageStage_canon (d : Dev) (i : Nat) (hk : d.Canon) : (Dev.ageStage d i).Canon := by
  unfold Dev.ageStage
  (try dsimp only)
  repeat' (first | with_reducible assumption | with_reducible apply Dev.expireStage_canon | with_reducible apply Dev.setStage_canon | with_reducible intro _ | split | simp only [canon_mk, canon_fold])

theorem Dev.setRes_canon (d : Dev) (o : Origin) (r : Nat) (hk : d.Canon) : (Dev.setRes d o r).Canon := by
  unfold Dev.setRes
  (try dsimp only)
  repeat' (first | with_reducible assumption | with_reducible apply Dev.setBank_canon)

theorem Dev.countersign_canon (d : Dev) (o : Origin) (i : Nat) (ticket : Nat) (hk : d.Canon) : (Dev.countersign d o i ticket).Canon := by
  unfold Dev.countersign
  (try dsimp only)
  repeat' (first
    | with_reducible assumption
    | with_reducible apply Dev.setRes_canon
    | with_reducible apply Dev.setStage_canon
    | with_reducible apply Dev.commit_canon
    | with_reducible intro _
    | split)

theorem Dev.rejectStage_canon (d : Dev) (o : Origin) (i : Nat) (ticket : Nat) (hk : d.Canon) : (Dev.rejectStage d o i ticket).Canon := by
  unfold Dev.rejectStage
  (try dsimp only)
  repeat' (first | with_reducible assumption | with_reducible apply Dev.setRes_canon | with_reducible apply Dev.setStage_canon | with_reducible intro _ | split)

theorem Dev.countersignGroup_canon (d : Dev) (o : Origin) (hk : d.Canon) : (Dev.countersignGroup d o).Canon := by
  unfold Dev.countersignGroup
  (try dsimp only)
  repeat' (first
    | with_reducible assumption
    | with_reducible apply Dev.setRes_canon
    | with_reducible apply Dev.setStage_canon
    | with_reducible apply Dev.commit_canon
    | with_reducible apply foldl_canon
    | with_reducible intro _
    | split)

theorem Dev.mcsWrite_canon (d : Dev) (o : Origin) (v : Nat) (hk : d.Canon) : (Dev.mcsWrite d o v).Canon := by
  unfold Dev.mcsWrite
  repeat' (first
    | with_reducible assumption
    | with_reducible apply Dev.countersign_canon
    | with_reducible apply Dev.rejectStage_canon
    | with_reducible apply Dev.countersignGroup_canon
    | with_reducible intro _
    | split)

theorem Dev.seal_canon (d : Dev) (trigger : Nat) (hk : d.Canon) : (Dev.seal d trigger).Canon := by
  unfold Dev.seal
  (try dsimp only)
  repeat' (first | with_reducible assumption | with_reducible intro _ | split | simp only [canon_mk, canon_fold])

theorem Dev.snap_canon (d : Dev) (trigger : Nat) (hk : d.Canon) : (Dev.snap d trigger).Canon := by
  unfold Dev.snap
  (try dsimp only)
  repeat' (first | with_reducible assumption | with_reducible apply Dev.seal_canon | with_reducible intro _ | split | simp only [canon_mk, canon_fold])

theorem Dev.frameDone_canon (d : Dev) (hk : d.Canon) : (Dev.frameDone d).Canon := by
  unfold Dev.frameDone
  (try dsimp only)
  repeat' (first
    | with_reducible assumption
    | with_reducible apply Dev.put_canon
    | with_reducible apply Dev.seal_canon
    | with_reducible intro _
    | split
    | simp only [canon_mk, canon_fold])

theorem Dev.logDurable_canon (d : Dev) (hk : d.Canon) : (Dev.logDurable d).Canon := by
  unfold Dev.logDurable
  (try dsimp only)
  repeat' (first | with_reducible assumption | with_reducible apply Dev.put_canon | with_reducible intro _ | split | simp only [canon_mk, canon_fold])

theorem Dev.clearRecorder_canon (d : Dev) (sel : Nat) (clearer : Nat) (hk : d.Canon) : (Dev.clearRecorder d sel clearer).Canon := by
  unfold Dev.clearRecorder
  (try dsimp only)
  repeat' (first | with_reducible assumption | with_reducible apply Dev.clearRange_canon | with_reducible intro _ | split | simp only [canon_mk, canon_fold])

theorem Dev.clearDone_canon (d : Dev) (hk : d.Canon) : (Dev.clearDone d).Canon := by
  unfold Dev.clearDone
  (try dsimp only)
  repeat' (first | with_reducible assumption | with_reducible apply Dev.recordLogged_canon | with_reducible apply Dev.snap_canon | with_reducible intro _ | split | simp only [canon_mk, canon_fold])

theorem Dev.collectDue_canon (d : Dev) (hk : d.Canon) : (Dev.collectDue d).Canon := by
  unfold Dev.collectDue
  (try dsimp only)
  repeat' (first | with_reducible assumption | with_reducible apply foldl_canon | with_reducible intro _ | split | simp only [canon_mk, canon_fold])

theorem Dev.countWaits_canon (d : Dev) (hk : d.Canon) : (Dev.countWaits d).Canon := by
  unfold Dev.countWaits
  (try dsimp only)
  repeat' (first | with_reducible assumption | with_reducible intro _ | split | simp only [canon_mk, canon_fold])

theorem Dev.epochUpdate_canon (d : Dev) (e : Nat) (t : Nat) (hk : d.Canon) : (Dev.epochUpdate d e t).Canon := by
  unfold Dev.epochUpdate
  (try dsimp only)
  repeat' (first
    | with_reducible assumption
    | with_reducible apply Dev.collectDue_canon
    | with_reducible apply Dev.countWaits_canon
    | with_reducible apply Dev.sendMarks_canon
    | with_reducible intro _
    | split
    | simp only [canon_mk, canon_fold])

theorem Dev.epochEvent_canon (d : Dev) (kind : Nat) (hk : d.Canon) : (Dev.epochEvent d kind).Canon := by
  unfold Dev.epochEvent
  repeat' (first | with_reducible assumption | with_reducible apply Dev.record_canon | with_reducible apply Dev.raiseNote_canon)

theorem Dev.tickIn_canon (d : Dev) (inp : Bool) (hk : d.Canon) : (Dev.tickIn d inp).Canon := by
  unfold Dev.tickIn
  (try dsimp only)
  repeat' (first | with_reducible assumption | with_reducible apply Dev.epochUpdate_canon | with_reducible intro _ | split | simp only [canon_mk, canon_fold])

theorem Dev.epochMark_canon (d : Dev) (p : Nat) (e : Nat) (t : Nat) (hk : d.Canon) : (Dev.epochMark d p e t).Canon := by
  unfold Dev.epochMark
  (try dsimp only)
  repeat' (first
    | with_reducible assumption
    | with_reducible apply Dev.epochUpdate_canon
    | with_reducible apply Dev.record_canon
    | with_reducible apply Dev.epochEvent_canon
    | with_reducible intro _
    | split
    | simp only [canon_mk, canon_fold])

theorem Dev.addToken_canon (d : Dev) (e : Nat) (c : Nat) (hk : d.Canon) : (Dev.addToken d e c).Canon := by
  unfold Dev.addToken
  (try dsimp only)
  repeat' (first | with_reducible assumption | with_reducible intro _ | split | simp only [canon_mk, canon_fold])

theorem Dev.fireSlot_canon (d : Dev) (hk : d.Canon) : (Dev.fireSlot d).Canon := by
  unfold Dev.fireSlot
  (try dsimp only)
  repeat' (first
    | with_reducible assumption
    | with_reducible apply Dev.raise_canon
    | with_reducible apply Dev.addToken_canon
    | with_reducible apply Dev.snap_canon
    | with_reducible intro _
    | split
    | simp only [canon_mk, canon_fold])

theorem Dev.epochEnable_canon (d : Dev) (hk : d.Canon) : (Dev.epochEnable d).Canon := by
  unfold Dev.epochEnable
  (try dsimp only)
  repeat' (first | with_reducible assumption | with_reducible apply Dev.collectDue_canon | with_reducible intro _ | split | simp only [canon_mk, canon_fold])

theorem Dev.writeEpctl_canon (d : Dev) (v : Nat) (hk : d.Canon) : (Dev.writeEpctl d v).Canon := by
  unfold Dev.writeEpctl
  (try dsimp only)
  repeat' (first | with_reducible assumption | with_reducible apply Dev.epochEnable_canon | with_reducible intro _ | split | simp only [canon_mk, canon_fold])

theorem Dev.setStream_canon (d : Dev) (s : Nat) (x : Stream) (hk : d.Canon) : (Dev.setStream d s x).Canon := by
  unfold Dev.setStream
  (try dsimp only)
  repeat' (first | with_reducible assumption | with_reducible intro _ | split | simp only [canon_mk, canon_fold])

theorem Dev.evalLow_canon (d : Dev) (s : Nat) (hk : d.Canon) : (Dev.evalLow d s).Canon := by
  unfold Dev.evalLow
  (try dsimp only)
  repeat' (first
    | with_reducible assumption
    | with_reducible apply Dev.setStream_canon
    | with_reducible apply Dev.record_canon
    | with_reducible apply Dev.raise_canon
    | with_reducible intro _
    | split)

theorem Dev.takeSlot_fst_canon (d : Dev) (s : Nat) (h : d.Canon) : (d.takeSlot s).1.Canon := by
  unfold Dev.takeSlot
  dsimp only
  repeat' (first
    | with_reducible assumption
    | with_reducible apply Dev.setStream_canon
    | with_reducible apply Dev.evalLow_canon
    | with_reducible apply Dev.clearRange_canon
    | with_reducible intro _
    | split
    | simp only [canon_mk, canon_fold])

theorem Dev.append_canon {d : Dev} {s : Nat} {src : List Byte} {site : Nat} {e : Dev} {o : Bool} (hx : d.append s src site = (e, o)) (h : d.Canon) : e.Canon := by
  have hx := congrArg Prod.fst hx
  simp only [Dev.append] at hx
  subst hx
  repeat' (first
    | with_reducible assumption
    | with_reducible apply Dev.setStream_canon
    | with_reducible apply Dev.takeSlot_fst_canon
    | with_reducible intro _
    | split
    | simp only [canon_mk, canon_fold])

theorem Dev.durable_canon (d : Dev) (q : QRec) (hk : d.Canon) : (Dev.durable d q).Canon := by
  unfold Dev.durable
  (try dsimp only)
  repeat' (first
    | with_reducible assumption
    | with_reducible apply Dev.put_canon
    | with_reducible apply Dev.setStream_canon
    | with_reducible intro _
    | split
    | simp only [canon_mk, canon_fold])

theorem Dev.release_canon (d : Dev) (s : Nat) (n : DWord) (hk : d.Canon) : (Dev.release d s n).Canon := by
  unfold Dev.release
  (try dsimp only)
  repeat' (first | with_reducible assumption | with_reducible apply Dev.setStream_canon | with_reducible intro _ | split | simp only [canon_mk, canon_fold])

theorem Dev.sealDigest_canon (d : Dev) (s : Nat) (hk : d.Canon) : (Dev.sealDigest d s).Canon := by
  unfold Dev.sealDigest
  (try dsimp only)
  repeat' (first | with_reducible assumption | with_reducible apply Dev.setStream_canon | with_reducible apply Dev.sendDigestOn_canon | with_reducible intro _ | split)

theorem Dev.stopStream_canon (d : Dev) (s : Nat) (kind : Nat) (e : Nat) (hk : d.Canon) : (Dev.stopStream d s kind e).Canon := by
  unfold Dev.stopStream
  (try dsimp only)
  repeat' (first
    | with_reducible assumption
    | with_reducible apply Dev.setStream_canon
    | with_reducible apply Dev.record_canon
    | with_reducible apply Dev.raise_canon
    | with_reducible intro _
    | split)

theorem Dev.compareDigest_canon (d : Dev) (s : Nat) (bridge : Bool) (origin : Nat) (hk : d.Canon) : (Dev.compareDigest d s bridge origin).Canon := by
  unfold Dev.compareDigest
  (try dsimp only)
  repeat' (first | with_reducible assumption | with_reducible apply Dev.setStream_canon | with_reducible apply Dev.stopStream_canon | with_reducible intro _ | split)

theorem Dev.waitOut_canon (d : Dev) (s : Nat) (hk : d.Canon) : (Dev.waitOut d s).Canon := by
  unfold Dev.waitOut
  (try dsimp only)
  repeat' (first
    | with_reducible assumption
    | with_reducible apply Dev.setStream_canon
    | with_reducible apply Dev.stopStream_canon
    | with_reducible apply foldl_canon
    | with_reducible intro _
    | split
    | simp only [canon_mk, canon_fold])

theorem Dev.takeDigest_canon (d : Dev) (s : Nat) (h : PDig) (hk : d.Canon) : (Dev.takeDigest d s h).Canon := by
  unfold Dev.takeDigest
  (try dsimp only)
  repeat' (first | with_reducible assumption | with_reducible apply Dev.setStream_canon | with_reducible intro _ | split)

theorem Dev.reopenStream_canon (d : Dev) (s : Nat) (hk : d.Canon) : (Dev.reopenStream d s).Canon := by
  unfold Dev.reopenStream
  (try dsimp only)
  repeat' (first | with_reducible assumption | with_reducible apply Dev.setStream_canon | with_reducible intro _ | split | simp only [canon_mk, canon_fold])

theorem Dev.writeJsCtl_canon (d : Dev) (s v : Nat) (hk : d.Canon) : (Dev.writeJsCtl d s v).Canon := by
  unfold Dev.writeJsCtl
  (try dsimp only)
  repeat' (first | with_reducible assumption | with_reducible apply Dev.setStream_canon | with_reducible apply Dev.evalLow_canon | with_reducible apply Dev.reopenStream_canon | with_reducible intro _ | split | simp only [canon_mk, canon_fold])

theorem Dev.recoverStream_canon (d : Dev) (s : Nat) (hk : d.Canon) : (Dev.recoverStream d s).Canon := by
  unfold Dev.recoverStream
  (try dsimp only)
  repeat' (first
    | with_reducible assumption
    | with_reducible apply Dev.clearRange_canon
    | with_reducible apply Dev.setStream_canon
    | with_reducible apply foldl_canon
    | with_reducible intro _
    | split
    | simp only [canon_mk, canon_fold])

theorem Dev.recoverAll_canon (d : Dev) (hk : d.Canon) : (Dev.recoverAll d).Canon := by
  unfold Dev.recoverAll
  (try dsimp only)
  repeat' (first
    | with_reducible assumption
    | with_reducible apply Dev.recoverStream_canon
    | with_reducible apply foldl_canon
    | with_reducible intro _
    | split
    | simp only [canon_mk, canon_fold])

theorem Dev.retrain_canon (d : Dev) (p : Nat) (hk : d.Canon) : (Dev.retrain d p).Canon := by
  unfold Dev.retrain
  (try dsimp only)
  repeat' (first | with_reducible assumption | with_reducible apply Dev.setPort_canon | with_reducible apply Dev.record_canon | with_reducible intro _ | split)

theorem Dev.countMalformed_canon (d : Dev) (p : Nat) (hk : d.Canon) : (Dev.countMalformed d p).Canon := by
  unfold Dev.countMalformed
  (try dsimp only)
  repeat' (first | with_reducible assumption | with_reducible apply Dev.setPort_canon | with_reducible apply Dev.retrain_canon | with_reducible intro _ | split)

theorem Dev.refuseFrame_canon (d : Dev) (p : Nat) (f : Frame) (reason : Nat) (sequenced : Bool) (hk : d.Canon) : (Dev.refuseFrame d p f reason sequenced).Canon := by
  unfold Dev.refuseFrame
  (try dsimp only)
  repeat' (first
    | with_reducible assumption
    | with_reducible apply Dev.setPort_canon
    | with_reducible apply Dev.sendNak_canon
    | with_reducible apply Dev.record_canon
    | with_reducible apply Dev.countMalformed_canon
    | with_reducible intro _
    | split)

theorem Dev.takePosting_canon (d : Dev) (p k : Nat) (f : Frame) (hk : d.Canon) : (Dev.takePosting d p k f).Canon := by
  unfold Dev.takePosting
  (try dsimp only)
  repeat' (first | with_reducible assumption | with_reducible apply Dev.forward_canon | with_reducible apply Dev.setPort_canon | with_reducible apply Dev.fillSlot_canon | with_reducible apply Dev.freeFrame_canon | with_reducible intro _ | split | simp only [canon_mk, canon_fold])

theorem Dev.freeHeld_canon (d : Dev) (p k : Nat) (f : Frame) (hk : d.Canon) : (Dev.freeHeld d p k f).Canon := by
  unfold Dev.freeHeld
  (try dsimp only)
  repeat' (first | with_reducible assumption | with_reducible apply Dev.freeFrame_canon | with_reducible apply Dev.setPort_canon | with_reducible intro _ | split | simp only [canon_mk, canon_fold])

theorem resumeHold_canon (p : Nat) (l : List (Frame × Nat)) (d : Dev) (h : d.Canon) : (resumeHold p l d).Canon := by
  induction l generalizing d with
  | nil => exact h
  | cons q l ih =>
    obtain ⟨f, k⟩ := q
    unfold resumeHold
    dsimp only
    split
    · exact ih _ (Dev.takePosting_canon _ _ _ _ h)
    · exact Dev.setPort_canon _ _ _ (Dev.takePosting_canon _ _ _ _ h)

theorem Dev.deliverHeld_canon (d : Dev) (p : Nat) (hk : d.Canon) : (Dev.deliverHeld d p).Canon := by
  unfold Dev.deliverHeld
  (try dsimp only)
  repeat' (first | with_reducible assumption | with_reducible apply Dev.setPort_canon | with_reducible apply Dev.fillSlot_canon | with_reducible apply Dev.freeHeld_canon | with_reducible apply resumeHold_canon | with_reducible intro _ | split | simp only [canon_mk, canon_fold])

theorem Dev.stompCopy_canon (d : Dev) (p : Nat) (again : Bool) (o : Option (Nat × Frame)) (hk : d.Canon) : (Dev.stompCopy d p again o).Canon := by
  unfold Dev.stompCopy
  dsimp only
  repeat' (first | with_reducible assumption | with_reducible apply Dev.setPort_canon | split)

theorem Dev.stompOnward_canon (d : Dev) (p : Nat) (bs : List Byte) (reason : Nat) (hk : d.Canon) : (Dev.stompOnward d p bs reason).Canon := by
  unfold Dev.stompOnward
  (try dsimp only)
  repeat' (first | with_reducible assumption | with_reducible apply Dev.stompCopy_canon | with_reducible intro _ | split )

theorem Dev.receive_canon (d : Dev) (p : Nat) (bs : List Byte) (take : Dev → Frame → Dev) (hk : d.Canon) (htake : ∀ z0 z1, z0.Canon → (take z0 z1).Canon) : (Dev.receive d p bs take).Canon := by
  unfold Dev.receive
  (try dsimp only)
  repeat' (first
    | with_reducible assumption
    | with_reducible apply htake
    | with_reducible apply Dev.setPort_canon
    | with_reducible apply Dev.record_canon
    | with_reducible apply Dev.stompOnward_canon
    | with_reducible apply Dev.unstomp_canon
    | with_reducible apply Dev.refuseFrame_canon
    | with_reducible apply Dev.sendAck_canon
    | with_reducible intro _
    | split)

theorem Dev.onPosting_canon (d : Dev) (p : Nat) (f : Frame) (hk : d.Canon) : (Dev.onPosting d p f).Canon := by
  unfold Dev.onPosting
  (try dsimp only)
  repeat' (first | with_reducible assumption | with_reducible apply Dev.takePosting_canon | with_reducible apply Dev.setPort_canon | with_reducible intro _ | split)

theorem Dev.onMark_canon (d : Dev) (p : Nat) (f : Frame) (hk : d.Canon) : (Dev.onMark d p f).Canon := by
  unfold Dev.onMark
  (try dsimp only)
  repeat' (first | with_reducible assumption | with_reducible apply Dev.freeFrame_canon | with_reducible apply Dev.epochMark_canon | with_reducible intro _ | split )

theorem Dev.onDigest_canon (d : Dev) (p : Nat) (f : Frame) (hk : d.Canon) : (Dev.onDigest d p f).Canon := by
  unfold Dev.onDigest
  (try dsimp only)
  repeat' (first | with_reducible assumption | with_reducible apply Dev.takeDigest_canon | with_reducible apply Dev.forward_canon | with_reducible apply Dev.freeFrame_canon | with_reducible intro _ | split | simp only [canon_mk, canon_fold])

theorem Dev.onAck_canon (d : Dev) (p : Nat) (f : Frame) (hk : d.Canon) : (Dev.onAck d p f).Canon := by
  unfold Dev.onAck
  (try dsimp only)
  repeat' (first
    | with_reducible assumption
    | with_reducible apply Dev.setPort_canon
    | with_reducible apply Dev.countMalformed_canon
    | with_reducible apply Dev.pump_canon
    | with_reducible intro _
    | split)

theorem Dev.resendFrom_canon (d : Dev) (p : Nat) (seq : Nat) (hk : d.Canon) : (Dev.resendFrom d p seq).Canon := by
  unfold Dev.resendFrom
  (try dsimp only)
  repeat' (first | with_reducible assumption | with_reducible apply Dev.setPort_canon | with_reducible intro _ | split)

theorem Dev.resendHeld_canon (d : Dev) (p : Nat) (hk : d.Canon) : (Dev.resendHeld d p).Canon := by
  unfold Dev.resendHeld
  (try dsimp only)
  repeat' (first | with_reducible assumption | with_reducible apply Dev.setPort_canon | with_reducible apply Dev.resendFrom_canon | with_reducible intro _ | split)

theorem Dev.onNak_canon (d : Dev) (p : Nat) (f : Frame) (hk : d.Canon) : (Dev.onNak d p f).Canon := by
  unfold Dev.onNak
  (try dsimp only)
  repeat' (first
    | with_reducible assumption
    | with_reducible apply Dev.setPort_canon
    | with_reducible apply Dev.resendFrom_canon
    | with_reducible apply Dev.pump_canon
    | with_reducible intro _
    | split)

theorem Dev.noteHello_canon (d : Dev) (p : Nat) (h : List Byte) (hk : d.Canon) : (Dev.noteHello d p h).Canon := by
  unfold Dev.noteHello
  (try dsimp only)
  repeat' (first | with_reducible assumption | with_reducible apply Dev.setPort_canon)

theorem Dev.onHello_canon (d : Dev) (p : Nat) (f : Frame) (hk : d.Canon) : (Dev.onHello d p f).Canon := by
  unfold Dev.onHello
  (try dsimp only)
  repeat' (first
    | with_reducible assumption
    | with_reducible apply Dev.noteHello_canon
    | with_reducible apply Dev.sendHello_canon
    | with_reducible apply Dev.resendHeld_canon
    | with_reducible apply Dev.pump_canon
    | with_reducible intro _
    | split)

theorem Dev.unfeed_canon (d : Dev) (p : Nat) (hk : d.Canon) : (Dev.unfeed d p).Canon := by
  unfold Dev.unfeed
  (try dsimp only)
  repeat' (first | with_reducible assumption | with_reducible apply Dev.setPort_canon | with_reducible apply foldl_canon | with_reducible intro _ | split | simp only [canon_mk, canon_fold])

theorem Dev.enablePort_canon (d : Dev) (p : Nat) (hk : d.Canon) : (Dev.enablePort d p).Canon := by
  unfold Dev.enablePort
  (try dsimp only)
  repeat' (first | with_reducible assumption | with_reducible apply Dev.setPort_canon | with_reducible apply Dev.unfeed_canon | with_reducible apply Dev.unstomp_canon | with_reducible intro _ | split | simp only [canon_mk, canon_fold])

theorem Dev.trained_canon (d : Dev) (p : Nat) (bs : List Byte) (hk : d.Canon) : (Dev.trained d p bs).Canon := by
  unfold Dev.trained
  (try dsimp only)
  repeat' (first | with_reducible assumption | with_reducible apply Dev.setPort_canon | with_reducible apply Dev.sendHello_canon | with_reducible apply Dev.unfeed_canon | with_reducible apply Dev.noteHello_canon | with_reducible apply Dev.resendFrom_canon | with_reducible apply Dev.pump_canon | with_reducible intro _ | split | simp only [canon_mk, canon_fold])

theorem Dev.drainPort_canon (d : Dev) (p : Nat) (hk : d.Canon) : (Dev.drainPort d p).Canon := by
  unfold Dev.drainPort
  (try dsimp only)
  repeat' (first | with_reducible assumption | with_reducible apply Dev.setPort_canon | with_reducible intro _ | split)

theorem Dev.drainedPort_canon (d : Dev) (p : Nat) (hk : d.Canon) : (Dev.drainedPort d p).Canon := by
  unfold Dev.drainedPort
  (try dsimp only)
  repeat' (first | with_reducible assumption | with_reducible apply Dev.setPort_canon | with_reducible apply Dev.unstomp_canon | with_reducible apply Dev.freeFrame_canon | with_reducible apply foldl_canon | with_reducible intro _ | split | simp only [canon_mk, canon_fold])

theorem Dev.writeDlCtl_canon (d : Dev) (p v : Nat) (hk : d.Canon) : (Dev.writeDlCtl d p v).Canon := by
  unfold Dev.writeDlCtl
  (try dsimp only)
  repeat' (first | with_reducible assumption | with_reducible apply Dev.setPort_canon | with_reducible apply Dev.drainPort_canon | with_reducible apply Dev.enablePort_canon | with_reducible apply Dev.unstomp_canon | with_reducible intro _ | split | simp only [canon_mk, canon_fold])

theorem Dev.xmSend_canon (d : Dev) (who : Agent) (s : Nat) (v : Nat) (hk : d.Canon) : (Dev.xmSend d who s v).Canon := by
  unfold Dev.xmSend
  (try dsimp only)
  repeat' (first | with_reducible assumption | with_reducible apply Dev.queueFrame_canon | with_reducible intro _ | split | simp only [canon_mk, canon_fold])

theorem Dev.frameIn_canon (d : Dev) (p : Nat) (bs : List Byte) (t : Nat) (take : Dev → Frame → Dev) (hk : d.Canon) (htake : ∀ z0 z1, z0.Canon → (take z0 z1).Canon) : (Dev.frameIn d p bs t take).Canon := by
  unfold Dev.frameIn
  repeat' (first | with_reducible assumption | with_reducible apply htake | with_reducible apply Dev.receive_canon | with_reducible intro _ | split)

theorem Dev.malfWindow_canon (d : Dev) (p : Nat) (hk : d.Canon) : (Dev.malfWindow d p).Canon := by
  unfold Dev.malfWindow
  (try dsimp only)
  repeat' (first | with_reducible assumption | with_reducible apply Dev.setPort_canon | with_reducible intro _ | split | simp only [canon_mk, canon_fold])

theorem Dev.setEngine_canon (d : Dev) (e : Nat) (x : Engine) (hk : d.Canon) : (Dev.setEngine d e x).Canon := by
  unfold Dev.setEngine
  repeat' (first | with_reducible assumption | with_reducible intro _ | split | simp only [canon_mk, canon_fold])

theorem Dev.setChan_canon (d : Dev) (e : Nat) (c : Nat) (x : Chan) (hk : d.Canon) : (Dev.setChan d e c x).Canon := by
  unfold Dev.setChan
  (try dsimp only)
  repeat' (first | with_reducible assumption | with_reducible apply Dev.setEngine_canon)

theorem Dev.dmaNotify_canon (d : Dev) (e : Nat) (c : Nat) (kind : Nat) (hk : d.Canon) : (Dev.dmaNotify d e c kind).Canon := by
  unfold Dev.dmaNotify
  (try dsimp only)
  repeat' (first | with_reducible assumption | with_reducible apply Dev.message_canon | with_reducible apply Dev.raise_canon | with_reducible intro _ | split)

theorem Dev.writeRecord_fst_canon (d : Dev) (e c : Nat) (r : Dcur) (h : d.Canon) : (d.writeRecord e c r).1.Canon := by
  unfold Dev.writeRecord
  dsimp only
  repeat' (first
    | with_reducible assumption
    | with_reducible apply Dev.setChan_canon
    | with_reducible apply Dev.put_canon
    | with_reducible intro _
    | split
    | simp only [canon_mk, canon_fold])
theorem Dev.writeRecord_canon {d : Dev} {e c : Nat} {r : Dcur} {v : Dev} {o : Bool} (hx : d.writeRecord e c r = (v, o)) (h : d.Canon) : v.Canon := by
  have := Dev.writeRecord_fst_canon d e c r h
  rwa [hx] at this

theorem Dev.afterRecord_canon (d : Dev) (e : Nat) (c : Nat) (r : Dcur) (written : Bool) (hk : d.Canon) : (Dev.afterRecord d e c r written).Canon := by
  unfold Dev.afterRecord
  (try dsimp only)
  repeat' (first | with_reducible assumption | with_reducible apply Dev.dmaNotify_canon | with_reducible apply Dev.setChan_canon | with_reducible intro _ | split)

theorem Dev.nextRecord_canon (d : Dev) (e : Nat) (c : Nat) (hk : d.Canon) : (Dev.nextRecord d e c).Canon := by
  unfold Dev.nextRecord
  (try dsimp only)
  repeat' (first
    | with_reducible assumption
    | with_reducible apply Dev.setChan_canon
    | (with_reducible refine Dev.writeRecord_canon (by with_reducible assumption) ?_)
    | with_reducible apply Dev.writeRecord_fst_canon
    | with_reducible apply Dev.afterRecord_canon
    | with_reducible intro _
    | split)

theorem Dev.engineStop_canon (d : Dev) (e : Nat) (kind : Nat) (addr : Nat) (hk : d.Canon) : (Dev.engineStop d e kind addr).Canon := by
  unfold Dev.engineStop
  (try dsimp only)
  repeat' (first
    | with_reducible assumption
    | with_reducible apply Dev.setEngine_canon
    | with_reducible apply Dev.record_canon
    | with_reducible apply Dev.setChan_canon
    | with_reducible apply Dev.put_canon
    | (with_reducible refine Dev.writeRecord_canon (by with_reducible assumption) ?_)
    | with_reducible apply Dev.writeRecord_fst_canon
    | with_reducible apply Dev.dmaNotify_canon
    | with_reducible apply Dev.tickFree_canon
    | with_reducible apply foldl_canon
    | with_reducible intro _
    | split)

theorem Dev.busStop_canon (d : Dev) (e kind addr : Nat) (hk : d.Canon) : (Dev.busStop d e kind addr).Canon := by
  unfold Dev.busStop
  (try dsimp only)
  repeat' (first | with_reducible assumption | with_reducible apply Dev.engineStop_canon | with_reducible intro _ | split )

theorem Dev.startDesc_canon (d : Dev) (e : Nat) (c : Nat) (hk : d.Canon) : (Dev.startDesc d e c).Canon := by
  unfold Dev.startDesc
  (try dsimp only)
  repeat' (first | with_reducible assumption | with_reducible apply Dev.setChan_canon | with_reducible intro _ | split)

theorem Dev.dmaPut_canon (d : Dev) (fn : Nat) (host : Bool) (a : Nat) (bs : List Byte) (hk : d.Canon) : (Dev.dmaPut d fn host a bs).Canon := by
  unfold Dev.dmaPut
  (try dsimp only)
  repeat' (first | with_reducible assumption | with_reducible apply Dev.put_canon | with_reducible intro _ | split | simp only [canon_mk, canon_fold])

theorem DmaMove.element_canon (m : DmaMove) (dx : Bool) (conv rm scale dw : Nat) (sh : Bool) (sa : Nat) (src : List Byte) (dh : Bool) (da : Nat) (h : m.d.Canon) : (m.element dx conv rm scale dw sh sa src dh da).d.Canon := by
  unfold DmaMove.element
  repeat' (first | with_reducible assumption | with_reducible apply Dev.dmaPut_canon | with_reducible intro _ | split)

theorem DmaMove.counted_canon (m : DmaMove) (h : m.d.Canon) : m.counted.d.Canon := by
  unfold DmaMove.counted
  repeat' (first | with_reducible assumption | with_reducible intro _ | split)

theorem Dev.moveBytes_canon (d : Dev) (fn : Nat) (q : DmaDesc) (data : List Byte) (h : d.Canon) : (d.moveBytes fn q data).d.Canon := Dev.dmaPut_canon _ _ _ _ _ h

theorem Dev.moveConvert_canon (d : Dev) (fn : Nat) (q : DmaDesc) (data : List Byte) (h : d.Canon) : (d.moveConvert fn q data).d.Canon := by
  refine foldl_move_canon _ _ _ ?_ h
  repeat' (first | with_reducible assumption | with_reducible apply DmaMove.element_canon | with_reducible apply DmaMove.counted_canon | with_reducible intro _ | split)

theorem Dev.movePrism_canon (d : Dev) (fn : Nat) (q : DmaDesc) (fs : List DmaField) (data : List Byte) (h : d.Canon) : (d.movePrism fn q fs data).d.Canon := by
  refine foldl_move_canon _ _ _ ?_ h
  repeat' (first
    | with_reducible assumption
    | with_reducible apply DmaMove.element_canon
    | with_reducible apply DmaMove.counted_canon
    | with_reducible apply foldl_move_canon
    | with_reducible intro _
    | split)

theorem Dev.movePrismr_canon (d : Dev) (fn : Nat) (q : DmaDesc) (fs : List DmaField) (h : d.Canon) : (d.movePrismr fn q fs).d.Canon := by
  refine foldl_move_canon _ _ _ ?_ h
  repeat' (first
    | with_reducible assumption
    | with_reducible apply DmaMove.element_canon
    | with_reducible apply DmaMove.counted_canon
    | with_reducible apply foldl_move_canon
    | with_reducible intro _
    | split)

theorem Dev.moveExport_canon (d : Dev) (fn : Nat) (q : DmaDesc) (h : d.Canon) : (d.moveExport fn q).d.Canon := by
  refine foldl_move_canon _ _ _ ?_ h
  repeat' (first
    | with_reducible assumption
    | with_reducible apply DmaMove.counted_canon
    | with_reducible apply Dev.dmaPut_canon
    | with_reducible intro _
    | split
    | simp only [canon_mk, canon_fold])

theorem Dev.moveData_canon (d : Dev) (fn : Nat) (q : DmaDesc) (fs : List DmaField) (data : List Byte) (h : d.Canon) : (d.moveData fn q fs data).d.Canon := by
  unfold Dev.moveData
  repeat' (first
    | with_reducible assumption
    | with_reducible apply Dev.moveBytes_canon
    | with_reducible apply Dev.moveConvert_canon
    | with_reducible apply Dev.movePrism_canon
    | with_reducible apply Dev.movePrismr_canon
    | with_reducible apply Dev.moveExport_canon
    | with_reducible intro _
    | split)

theorem Dev.runDesc_canon (d : Dev) (e c mode : Nat) (data : List Byte) (fault : DmaFault) (hk : d.Canon) : (Dev.runDesc d e c mode data fault).Canon := by
  unfold Dev.runDesc
  (try dsimp only)
  repeat' (first | with_reducible assumption | with_reducible apply Dev.busStop_canon | with_reducible apply Dev.setChan_canon | with_reducible apply Dev.moveData_canon | with_reducible intro _ | split | simp only [canon_mk, canon_fold])

theorem Dev.writeTail_canon (d : Dev) (e : Nat) (c : Nat) (v : Nat) (hk : d.Canon) : (Dev.writeTail d e c v).Canon := by
  unfold Dev.writeTail
  (try dsimp only)
  repeat' (first
    | with_reducible assumption
    | with_reducible apply Dev.setChan_canon
    | with_reducible apply Dev.setEngine_canon
    | with_reducible apply Dev.answer_canon
    | with_reducible intro _
    | split)

theorem Dev.writeChead_canon (d : Dev) (e : Nat) (c : Nat) (v : Nat) (hk : d.Canon) : (Dev.writeChead d e c v).Canon := by
  unfold Dev.writeChead
  (try dsimp only)
  repeat' (first | with_reducible assumption | with_reducible apply Dev.setChan_canon | with_reducible apply Dev.setEngine_canon | with_reducible intro _ | split)

theorem Dev.writeAuth_canon (d : Dev) (who : Agent) (e : Nat) (c : Nat) (v : Nat) (hk : d.Canon) : (Dev.writeAuth d who e c v).Canon := by
  unfold Dev.writeAuth
  (try dsimp only)
  repeat' (first | with_reducible assumption | with_reducible apply Dev.setChan_canon | with_reducible apply Dev.setEngine_canon | with_reducible intro _ | split)

theorem Dev.writeKmask_canon (d : Dev) (who : Agent) (e : Nat) (c : Nat) (v : Nat) (hk : d.Canon) : (Dev.writeKmask d who e c v).Canon := by
  unfold Dev.writeKmask
  (try dsimp only)
  repeat' (first | with_reducible assumption | with_reducible apply Dev.setChan_canon)

theorem Dev.writeChan_canon (d : Dev) (who : Agent) (e : Nat) (c : Nat) (off : Nat) (v : Nat) (hk : d.Canon) : (Dev.writeChan d who e c off v).Canon := by
  unfold Dev.writeChan
  (try dsimp only)
  repeat' (first
    | with_reducible assumption
    | with_reducible apply Dev.setChan_canon
    | with_reducible apply Dev.writeTail_canon
    | with_reducible apply Dev.writeChead_canon
    | with_reducible apply Dev.writeAuth_canon
    | with_reducible apply Dev.writeKmask_canon
    | with_reducible intro _
    | split)

theorem Dev.restartEngine_canon (d : Dev) (e : Nat) (hk : d.Canon) : (Dev.restartEngine d e).Canon := by
  unfold Dev.restartEngine
  (try dsimp only)
  repeat' (first | with_reducible assumption | with_reducible apply Dev.setEngine_canon | with_reducible intro _ | split)

theorem Dev.chanWrite_canon (d : Dev) (who : Agent) (e : Nat) (c : Nat) (off : Nat) (v : Nat) (hk : d.Canon) : (Dev.chanWrite d who e c off v).Canon := by
  unfold Dev.chanWrite
  repeat' (first | with_reducible assumption | with_reducible apply Dev.writeChan_canon | with_reducible intro _ | split)

theorem Dev.dmaFlr_canon (d : Dev) (f : Nat) (hk : d.Canon) : (Dev.dmaFlr d f).Canon := by
  unfold Dev.dmaFlr
  (try dsimp only)
  repeat' (first | with_reducible assumption | with_reducible apply Dev.setChan_canon | with_reducible apply foldl_canon | with_reducible intro _ | split)

theorem Dev.descriptorStart_canon (d : Dev) (e : Nat) (hk : d.Canon) : (Dev.descriptorStart d e).Canon := by
  unfold Dev.descriptorStart
  (try dsimp only)
  repeat' (first | with_reducible assumption | with_reducible apply Dev.setEngine_canon | with_reducible apply Dev.startDesc_canon | with_reducible intro _ | split)

theorem Dev.shadowSwap_canon (d : Dev) (e : Nat) (c : Nat) (hk : d.Canon) : (Dev.shadowSwap d e c).Canon := by
  unfold Dev.shadowSwap
  (try dsimp only)
  repeat' (first | with_reducible assumption | with_reducible apply Dev.setChan_canon | with_reducible intro _ | split)

theorem Dev.lateWrite_canon (d : Dev) (who : Agent) (e c off v : Nat) (hk : d.Canon) : (Dev.lateWrite d who e c off v).Canon := by
  unfold Dev.lateWrite
  (try dsimp only)
  repeat' (first | with_reducible assumption | with_reducible apply Dev.setChan_canon | with_reducible apply Dev.writeChan_canon | with_reducible intro _ | split)

theorem Dev.swapWith_canon (d : Dev) (e c : Nat) (l : Option (Agent × BitVec 8 × Word)) (hk : d.Canon) : (Dev.swapWith d e c l).Canon := by
  unfold Dev.swapWith
  (try dsimp only)
  repeat' (first | with_reducible assumption | with_reducible apply Dev.lateWrite_canon | with_reducible apply Dev.shadowSwap_canon | with_reducible intro _ | split)

end Sys2Proof.Machine
end

