-- ==== Sys2Proof/Laws/CanonPower.lean ====
section
/-! SUPPORT. Memory stays canonical under every operation of the power block, the boot, Pupor, the mailbox, the pins and the register map. One lemma per function. -/
namespace Sys2Proof.Machine

theorem Dev.recordBad_canon (d : Dev) (kind i : Nat) (hk : d.Canon) : (Dev.recordBad d kind i).Canon := by
  unfold Dev.recordBad
  repeat' (first | with_reducible assumption | with_reducible apply Dev.record_canon | split)

theorem Dev.recordBadBanks_canon (d : Dev) (kind : Nat) (hk : d.Canon) : (Dev.recordBadBanks d kind).Canon := by
  unfold Dev.recordBadBanks
  (try dsimp only)
  repeat' (first | with_reducible assumption | with_reducible apply Dev.recordBad_canon | with_reducible apply foldl_canon | with_reducible intro _ | split )

theorem Dev.recordBadLevel_canon (d : Dev) (level : Nat) (hk : d.Canon) : (Dev.recordBadLevel d level).Canon := by
  unfold Dev.recordBadLevel
  (try dsimp only)
  repeat' (first | with_reducible assumption | with_reducible apply Dev.recordBad_canon | with_reducible apply foldl_canon | with_reducible intro _ | split )

theorem Dev.spoilBank_canon (d : Dev) (i : Nat) (hk : d.Canon) : (Dev.spoilBank d i).Canon := by
  unfold Dev.spoilBank
  (try dsimp only)
  repeat' (first | with_reducible assumption | with_reducible intro _ | split | simp only [canon_mk, canon_fold])

theorem Dev.imgOpenCtl_canon (d : Dev) (v : Nat) (hk : d.Canon) : (Dev.imgOpenCtl d v).Canon := by
  unfold Dev.imgOpenCtl
  (try dsimp only)
  repeat' (first | with_reducible assumption | with_reducible intro _ | split | simp only [canon_mk, canon_fold])

theorem Dev.imgDataCtl_canon (d : Dev) (v : Nat) (hk : d.Canon) : (Dev.imgDataCtl d v).Canon := by
  unfold Dev.imgDataCtl
  (try dsimp only)
  repeat' (first
    | with_reducible assumption
    | (with_reducible refine Dev.append_canon (by with_reducible assumption) ?_)
    | with_reducible intro _
    | split
    | simp only [canon_mk, canon_fold])

theorem Dev.imgCloseCtl_canon (d : Dev) (hk : d.Canon) : (Dev.imgCloseCtl d).Canon := by
  unfold Dev.imgCloseCtl
  (try dsimp only)
  repeat' (first | with_reducible assumption | with_reducible intro _ | split | simp only [canon_mk, canon_fold])

theorem Dev.imgAbandonCtl_canon (d : Dev) (hk : d.Canon) : (Dev.imgAbandonCtl d).Canon := by
  unfold Dev.imgAbandonCtl
  (try dsimp only)
  repeat' (first | with_reducible assumption | with_reducible apply Dev.spoilBank_canon | with_reducible intro _ | split | simp only [canon_mk, canon_fold])

theorem Dev.writeImgCtl_canon (d : Dev) (v : Nat) (hk : d.Canon) : (Dev.writeImgCtl d v).Canon := by
  unfold Dev.writeImgCtl
  repeat' (first
    | with_reducible assumption
    | with_reducible apply Dev.imgOpenCtl_canon
    | with_reducible apply Dev.imgCloseCtl_canon
    | with_reducible apply Dev.imgAbandonCtl_canon
    | with_reducible intro _
    | split)

theorem Dev.imgChecksEnd_fst_canon (d : Dev) (h : d.Canon) : d.imgChecksEnd.1.Canon := by
  unfold Dev.imgChecksEnd
  dsimp only
  repeat' (first
    | with_reducible assumption
    | with_reducible apply Dev.record_canon
    | with_reducible apply Dev.spoilBank_canon
    | with_reducible intro _
    | split
    | simp only [canon_mk, canon_fold])
theorem Dev.imgChecksEnd_canon {d e : Dev} {o : Option Nat} (hx : d.imgChecksEnd = (e, o)) (h : d.Canon) : e.Canon := by
  have := Dev.imgChecksEnd_fst_canon d h
  rwa [hx] at this

theorem Dev.loadPatch_canon (d : Dev) (n : Nat) (bank : Option Nat) (hk : d.Canon) : (Dev.loadPatch d n bank).Canon := by
  unfold Dev.loadPatch
  repeat' (first | with_reducible assumption | with_reducible apply Dev.modCore_canon)

theorem Dev.spill_canon (d : Dev) (n : Nat) (b : Nat) (fab : Bool) (hk : d.Canon) : (Dev.spill d n b fab).Canon := by
  unfold Dev.spill
  (try dsimp only)
  repeat' (first
    | with_reducible assumption
    | with_reducible apply Dev.setBay_canon
    | with_reducible apply Dev.engineStop_canon
    | with_reducible apply Dev.put_canon
    | with_reducible intro _
    | split)

theorem Dev.fill_canon (d : Dev) (n : Nat) (b : Nat) (fab : Bool) (hk : d.Canon) : (Dev.fill d n b fab).Canon := by
  unfold Dev.fill
  (try dsimp only)
  repeat' (first
    | with_reducible assumption
    | with_reducible apply Dev.setBay_canon
    | with_reducible apply Dev.engineStop_canon
    | with_reducible apply Dev.recordBadData_canon
    | with_reducible intro _
    | split)

theorem Dev.setTask_canon (d : Dev) (n : Nat) (i : Nat) (f : Nat → Nat) (hk : d.Canon) : (Dev.setTask d n i f).Canon := by
  unfold Dev.setTask
  (try dsimp only)
  repeat' (first | with_reducible assumption | with_reducible apply Dev.put_canon | with_reducible intro _ | split)

theorem Dev.evictTask_canon {d : Dev} {n b : Nat} {fab redy : Bool} {e : Dev} (hx : d.evictTask n b fab redy = some e) (h : d.Canon) : e.Canon := by
  unfold Dev.evictTask at hx
  dsimp only at hx
  split at hx
  · exact absurd hx (by simp)
  · simp only [Option.some.injEq] at hx
    subst hx
    repeat' (first
    | with_reducible assumption
    | with_reducible apply Dev.setTask_canon
    | with_reducible apply Dev.setBay_canon
    | with_reducible apply Dev.put_canon
    | with_reducible apply foldl_canon
    | with_reducible intro _
    | split)

theorem Dev.loadTask_canon {d : Dev} {n b a : Nat} {limit fab : Bool} {table : Option Nat} {e : Dev} (hx : d.loadTask n b a limit fab table = .ok e) (h : d.Canon) : e.Canon := by
  unfold Dev.loadTask at hx
  dsimp only at hx
  split at hx
  · exact nomatch hx
  · split at hx
    · exact nomatch hx
    · split at hx
      · exact nomatch hx
      · split at hx
        · exact nomatch hx
        · simp only [Except.ok.injEq] at hx
          subst hx
          exact Dev.setBay_canon _ _ _ _ h

theorem Dev.countLoad_canon (d : Dev) (n : Nat) (i : Nat) (hk : d.Canon) : (Dev.countLoad d n i).Canon := by
  unfold Dev.countLoad
  (try dsimp only)
  repeat' (first | with_reducible assumption | with_reducible apply Dev.put_canon)

theorem Dev.resetCore_canon (d : Dev) (n : Nat) (why : Nat) (hk : d.Canon) : (Dev.resetCore d n why).Canon := by
  unfold Dev.resetCore
  (try dsimp only)
  repeat' (first | with_reducible assumption | with_reducible apply Dev.setCore_canon)

theorem Dev.driveLock_canon (d : Dev) (hk : d.Canon) : (Dev.driveLock d).Canon := by
  unfold Dev.driveLock
  (try dsimp only)
  repeat' (first | with_reducible assumption | with_reducible intro _ | split | simp only [canon_mk, canon_fold])

theorem Dev.setDom_canon (d : Dev) (n : Nat) (st : Nat) (hk : d.Canon) : (Dev.setDom d n st).Canon := by
  unfold Dev.setDom
  (try dsimp only)
  repeat' (first | with_reducible assumption | with_reducible intro _ | split | simp only [canon_mk, canon_fold])

theorem Dev.setDomLast_canon (d : Dev) (n : Nat) (r : Nat) (hk : d.Canon) : (Dev.setDomLast d n r).Canon := by
  unfold Dev.setDomLast
  (try dsimp only)
  repeat' (first | with_reducible assumption | with_reducible intro _ | split | simp only [canon_mk, canon_fold])

theorem Dev.setDoms_canon (d : Dev) (ns : List Nat) (st : Nat) (hk : d.Canon) : (Dev.setDoms d ns st).Canon := by
  unfold Dev.setDoms
  repeat' (first | with_reducible assumption | with_reducible apply Dev.setDom_canon | with_reducible apply foldl_canon | with_reducible intro _)

theorem Dev.mboxReply_canon (d : Dev) (status : Nat) (data : List Byte) (hk : d.Canon) : (Dev.mboxReply d status data).Canon := by
  unfold Dev.mboxReply
  (try dsimp only)
  repeat' (first | with_reducible assumption | with_reducible intro _ | split | simp only [canon_mk, canon_fold])

theorem Dev.mboxPd_canon (d : Dev) (r : Nat) (hk : d.Canon) : (Dev.mboxPd d r).Canon := by
  unfold Dev.mboxPd
  repeat' (first | with_reducible assumption | with_reducible apply Dev.mboxReply_canon | with_reducible intro _ | split)

theorem Dev.pdRefuse_canon (d : Dev) (act : Nat) (dom : Nat) (r : Nat) (hk : d.Canon) : (Dev.pdRefuse d act dom r).Canon := by
  unfold Dev.pdRefuse
  (try dsimp only)
  repeat' (first | with_reducible assumption | with_reducible apply Dev.setDomLast_canon | with_reducible intro _ | split | simp only [canon_mk, canon_fold])

theorem Dev.pdAccept_canon (d : Dev) (act : Nat) (dom : Nat) (hk : d.Canon) : (Dev.pdAccept d act dom).Canon := by
  unfold Dev.pdAccept
  (try dsimp only)
  repeat' (first | with_reducible assumption | with_reducible apply Dev.setDomLast_canon | with_reducible intro _ | split | simp only [canon_mk, canon_fold])

theorem Dev.pdEnd_canon (d : Dev) (act : Nat) (dom : Nat) (r : Nat) (hk : d.Canon) : (Dev.pdEnd d act dom r).Canon := by
  unfold Dev.pdEnd
  (try dsimp only)
  repeat' (first
    | with_reducible assumption
    | with_reducible apply Dev.setDomLast_canon
    | with_reducible apply Dev.raiseNote_canon
    | with_reducible apply Dev.mboxPd_canon
    | with_reducible intro _
    | split
    | simp only [canon_mk, canon_fold])

theorem Dev.flushSb_canon (d : Dev) (n : Nat) (hk : d.Canon) : (Dev.flushSb d n).Canon := by
  unfold Dev.flushSb
  (try dsimp only)
  repeat' (first | with_reducible assumption | with_reducible apply Dev.put_canon | with_reducible apply Dev.modCore_canon | with_reducible apply foldl_canon | with_reducible intro _ | split | simp only [canon_mk, canon_fold])

theorem Dev.recoverCore_canon (d : Dev) (n : Nat) (hk : d.Canon) : (Dev.recoverCore d n).Canon := by
  unfold Dev.recoverCore
  (try dsimp only)
  repeat' (first | with_reducible assumption | with_reducible apply Dev.flushSb_canon | with_reducible apply Dev.resetCore_canon | with_reducible apply Dev.modCore_canon | with_reducible apply Dev.driveLock_canon | with_reducible intro _ | split | simp only [canon_mk, canon_fold])

theorem Dev.drainBay_canon (d : Dev) (n b : Nat) (h : d.Canon) : (d.drainBay n b).Canon := by
  unfold Dev.drainBay
  dsimp only
  split
  · exact getD_canon _ _ h fun e he => Dev.evictTask_canon he h
  · exact h

theorem Dev.drainBays_canon (d : Dev) (k : Nat) (hk : d.Canon) : (Dev.drainBays d k).Canon := by
  unfold Dev.drainBays
  repeat' (first | with_reducible assumption | with_reducible apply Dev.drainBay_canon | with_reducible apply foldl_canon | with_reducible intro _)

theorem Dev.beginDrain_canon (d : Dev) (n : Nat) (hk : d.Canon) : (Dev.beginDrain d n).Canon := by
  unfold Dev.beginDrain
  (try dsimp only)
  repeat' (first
    | with_reducible assumption
    | with_reducible apply Dev.setDoms_canon
    | with_reducible apply Dev.drainBays_canon
    | with_reducible apply Dev.drainPort_canon
    | with_reducible apply Dev.setEngine_canon
    | with_reducible intro _
    | split
    | simp only [canon_mk, canon_fold])

theorem Dev.setUp_canon (d : Dev) (k : Nat) (on : Bool) (hk : d.Canon) : (Dev.setUp d k on).Canon := by
  unfold Dev.setUp
  (try dsimp only)
  repeat' (first | with_reducible assumption | with_reducible apply Dev.modCore_canon | with_reducible intro _ | split | simp only [canon_mk, canon_fold])

theorem Dev.drainComplete_canon (d : Dev) (n : Nat) (hk : d.Canon) : (Dev.drainComplete d n).Canon := by
  unfold Dev.drainComplete
  (try dsimp only)
  repeat' (first | with_reducible assumption | with_reducible apply Dev.drainBays_canon | with_reducible apply Dev.setUp_canon | with_reducible apply Dev.setDoms_canon | with_reducible apply Dev.pdEnd_canon | with_reducible intro _ | split | simp only [canon_mk, canon_fold])

theorem Dev.backOn_canon (d : Dev) (n : Nat) (hk : d.Canon) : (Dev.backOn d n).Canon := by
  unfold Dev.backOn
  (try dsimp only)
  repeat' (first | with_reducible assumption | with_reducible apply Dev.setDoms_canon | with_reducible intro _ | split | simp only [canon_mk, canon_fold])

theorem Dev.train_canon (d : Dev) (cs : List Nat) (hk : d.Canon) : (Dev.train d cs).Canon := by
  unfold Dev.train
  (try dsimp only)
  repeat' (first
    | with_reducible assumption
    | with_reducible apply Dev.tickFree_canon
    | with_reducible apply foldl_canon
    | with_reducible intro _
    | split
    | simp only [canon_mk, canon_fold])

theorem Dev.setCap_canon (d : Dev) (hk : d.Canon) : (Dev.setCap d).Canon := by
  unfold Dev.setCap
  (try dsimp only)
  repeat' (first | with_reducible assumption | with_reducible apply foldl_canon | with_reducible intro _ | split | simp only [canon_mk, canon_fold])

theorem Dev.loseUnit_canon (d : Dev) (n : Nat) (hk : d.Canon) : (Dev.loseUnit d n).Canon := by
  unfold Dev.loseUnit
  (try dsimp only)
  repeat' (first | with_reducible assumption | with_reducible apply Dev.setCore_canon | with_reducible apply Dev.clearRange_canon | with_reducible apply Dev.setPort_canon | with_reducible apply Dev.unstomp_canon | with_reducible apply Dev.setEngine_canon | with_reducible intro _ | split | simp only [canon_mk, canon_fold])

theorem Dev.patchPair_canon (d : Dev) (k : Nat) (bank : Option Nat) (hk : d.Canon) : (Dev.patchPair d k bank).Canon := by
  unfold Dev.patchPair
  repeat' (first | with_reducible assumption | with_reducible apply Dev.loadPatch_canon)

theorem Dev.pairVectors_canon (d : Dev) (k : Nat) (hk : d.Canon) : (Dev.pairVectors d k).Canon := by
  unfold Dev.pairVectors
  (try dsimp only)
  repeat' (first | with_reducible assumption | with_reducible apply Dev.applyIds_canon | with_reducible intro _ | split )

theorem Dev.patchAsStart_canon (d : Dev) (k : Nat) (hk : d.Canon) : (Dev.patchAsStart d k).Canon := by
  unfold Dev.patchAsStart
  (try dsimp only)
  repeat' (first | with_reducible assumption | with_reducible apply Dev.recordBadBanks_canon | with_reducible apply Dev.patchPair_canon | with_reducible intro _ | split )

theorem Dev.powerOnEnd_canon (d : Dev) (n : Nat) (hk : d.Canon) : (Dev.powerOnEnd d n).Canon := by
  unfold Dev.powerOnEnd
  (try dsimp only)
  repeat' (first | with_reducible assumption | with_reducible apply Dev.loseUnit_canon | with_reducible apply Dev.pairVectors_canon | with_reducible apply Dev.resetCore_canon | with_reducible apply Dev.patchAsStart_canon | with_reducible apply Dev.setDom_canon | with_reducible apply Dev.pdEnd_canon | with_reducible intro _ | split )

theorem Dev.returnEnd_canon (d : Dev) (n : Nat) (hk : d.Canon) : (Dev.returnEnd d n).Canon := by
  unfold Dev.returnEnd
  (try dsimp only)
  repeat' (first | with_reducible assumption | with_reducible apply Dev.setDom_canon | with_reducible apply Dev.pairVectors_canon | with_reducible apply Dev.resetCore_canon | with_reducible apply Dev.setUp_canon | with_reducible apply Dev.driveLock_canon | with_reducible apply Dev.clearRange_canon | with_reducible apply Dev.train_canon | with_reducible apply Dev.setPort_canon | with_reducible apply Dev.enablePort_canon | with_reducible apply Dev.setEngine_canon | with_reducible apply Dev.pdEnd_canon | with_reducible intro _ | split | simp only [canon_mk, canon_fold])

theorem Dev.selfTestEnd_canon (d : Dev) (n : Nat) (pass : Bool) (hk : d.Canon) : (Dev.selfTestEnd d n pass).Canon := by
  unfold Dev.selfTestEnd
  (try dsimp only)
  repeat' (first | with_reducible assumption | with_reducible apply Dev.setDom_canon | with_reducible apply Dev.pdEnd_canon | with_reducible apply Dev.tickFree_canon | with_reducible apply Dev.clearRange_canon | with_reducible apply Dev.train_canon | with_reducible apply Dev.recordBadLevel_canon | with_reducible apply Dev.patchPair_canon | with_reducible intro _ | split | simp only [canon_mk, canon_fold])

theorem Dev.pdStart_canon (d : Dev) (v : Nat) (hk : d.Canon) : (Dev.pdStart d v).Canon := by
  unfold Dev.pdStart
  (try dsimp only)
  repeat' (first
    | with_reducible assumption
    | with_reducible apply Dev.pdAccept_canon
    | with_reducible apply Dev.beginDrain_canon
    | with_reducible apply Dev.loseUnit_canon
    | with_reducible apply Dev.setDom_canon
    | with_reducible apply Dev.pdEnd_canon
    | with_reducible apply Dev.recoverCore_canon
    | with_reducible apply Dev.backOn_canon
    | with_reducible intro _
    | split
    | simp only [canon_mk, canon_fold])

theorem Dev.pdRequest_canon (d : Dev) (v : Nat) (hk : d.Canon) : (Dev.pdRequest d v).Canon := by
  unfold Dev.pdRequest
  repeat' (first | with_reducible assumption | with_reducible apply Dev.pdRefuse_canon | with_reducible apply Dev.pdStart_canon | with_reducible intro _ | split)

theorem Dev.repatchEnd_canon (d : Dev) (n : Nat) (hk : d.Canon) : (Dev.repatchEnd d n).Canon := by
  unfold Dev.repatchEnd
  (try dsimp only)
  repeat' (first
    | with_reducible assumption
    | with_reducible apply Dev.recordBadBanks_canon
    | with_reducible apply Dev.patchPair_canon
    | with_reducible apply Dev.setDom_canon
    | with_reducible apply Dev.pdEnd_canon
    | with_reducible intro _
    | split
    | simp only [canon_mk, canon_fold])

theorem Dev.dropFrame_canon (d : Dev) (hk : d.Canon) : (Dev.dropFrame d).Canon := by
  unfold Dev.dropFrame
  (try dsimp only)
  repeat' (first | with_reducible assumption | with_reducible apply Dev.clearRange_canon | with_reducible intro _ | split | simp only [canon_mk, canon_fold])

theorem Dev.registerFailure_canon (d : Dev) (hk : d.Canon) : (Dev.registerFailure d).Canon := by
  unfold Dev.registerFailure
  (try dsimp only)
  repeat' (first | with_reducible assumption | with_reducible apply Dev.recordLogged_canon | with_reducible apply Dev.dropFrame_canon | with_reducible intro _ | split | simp only [canon_mk, canon_fold])

theorem Dev.commitQueue_canon (d : Dev) (hk : d.Canon) : (Dev.commitQueue d).Canon := by
  unfold Dev.commitQueue
  (try dsimp only)
  repeat' (first
    | with_reducible assumption
    | with_reducible apply Dev.durable_canon
    | with_reducible apply foldl_canon
    | with_reducible intro _
    | split
    | simp only [canon_mk, canon_fold])

theorem Dev.failureEnd_canon (d : Dev) (hk : d.Canon) : (Dev.failureEnd d).Canon := by
  unfold Dev.failureEnd
  (try dsimp only)
  repeat' (first
    | with_reducible assumption
    | with_reducible apply Dev.commitQueue_canon
    | with_reducible apply Dev.logDurable_canon
    | with_reducible intro _
    | split
    | simp only [canon_mk, canon_fold])

theorem Dev.resetDevice_canon (d : Dev) (h : d.Canon) : (Dev.resetDevice d).Canon := by
  have h1 := Dev.clearRange_canon d 0 0x08000000 h
  refine Memory.wfFrom_congr (d.clearRange 0 0x08000000).dflt _ _ none ?_ (Memory.wfFrom_filter _ _ _ none h1)
  intro c hc
  have := (List.mem_filter.mp hc).2
  simp only [decide_eq_true_eq] at this
  simp [Dev.dflt, this]

theorem Dev.deviceReset_canon (d : Dev) (hk : d.Canon) : (Dev.deviceReset d).Canon := by
  unfold Dev.deviceReset
  (try dsimp only)
  repeat' (first
    | with_reducible assumption
    | with_reducible apply Dev.failureEnd_canon
    | with_reducible apply Dev.commitQueue_canon
    | with_reducible apply Dev.dropFrame_canon
    | with_reducible apply Dev.resetDevice_canon
    | with_reducible intro _
    | split
    | simp only [canon_mk, canon_fold])

theorem Dev.pinReset_canon (d : Dev) (pwrgood : Bool) (hk : d.Canon) : (Dev.pinReset d pwrgood).Canon := by
  unfold Dev.pinReset
  (try dsimp only)
  repeat' (first | with_reducible assumption | with_reducible apply Dev.deviceReset_canon | with_reducible intro _ | split | simp only [canon_mk, canon_fold])

theorem Dev.powerOnReset_canon (d : Dev) (pstate : Nat) (hk : d.Canon) : (Dev.powerOnReset d pstate).Canon := by
  unfold Dev.powerOnReset
  (try dsimp only)
  repeat' (first | with_reducible assumption | with_reducible apply Dev.resetDevice_canon | with_reducible intro _ | split | simp only [canon_mk, canon_fold])

theorem Dev.byHost_canon (d : Dev) (f : Nat) (act : Dev → Dev) (hk : d.Canon) (hact : ∀ z0, z0.Canon → (act z0).Canon) : (Dev.byHost d f act).Canon := by
  unfold Dev.byHost
  repeat' (first | with_reducible assumption | with_reducible apply hact | with_reducible intro _ | split)

theorem Dev.writeFacc_canon (d : Dev) (f : Nat) (n : Nat) (v : DWord) (hk : d.Canon) : (Dev.writeFacc d f n v).Canon := by
  unfold Dev.writeFacc
  (try dsimp only)
  repeat' (first | with_reducible assumption | with_reducible apply Dev.setFn_canon | with_reducible intro _ | split)

theorem Dev.writeFaccHalf_canon (d : Dev) (f : Nat) (n : Nat) (high : Bool) (v : Nat) (hk : d.Canon) : (Dev.writeFaccHalf d f n high v).Canon := by
  unfold Dev.writeFaccHalf
  (try dsimp only)
  repeat' (first | with_reducible assumption | with_reducible apply Dev.writeFacc_canon)

theorem Dev.closeFeat_canon (d : Dev) (f : Nat) (hk : d.Canon) : (Dev.closeFeat d f).Canon := by
  unfold Dev.closeFeat
  (try dsimp only)
  repeat' (first | with_reducible assumption | with_reducible apply Dev.setFn_canon | with_reducible intro _ | split)

theorem Dev.checkRange_canon (d : Dev) (f : Nat) (cq : Bool) (hk : d.Canon) : (Dev.checkRange d f cq).Canon := by
  unfold Dev.checkRange
  (try dsimp only)
  repeat' (first | with_reducible assumption | with_reducible apply Dev.setFn_canon)

theorem Dev.writeVfq_canon (d : Dev) (who : Nat) (f : Nat) (cq : Bool) (v : Nat) (hk : d.Canon) : (Dev.writeVfq d who f cq v).Canon := by
  unfold Dev.writeVfq
  (try dsimp only)
  repeat' (first
    | with_reducible assumption
    | with_reducible apply Dev.cfgErr_canon
    | with_reducible apply Dev.setFn_canon
    | with_reducible apply Dev.checkRange_canon
    | with_reducible intro _
    | split)

theorem Dev.abortRest_canon (d : Dev) (f : Nat) (q : Nat) (hk : d.Canon) : (Dev.abortRest d f q).Canon := by
  unfold Dev.abortRest
  repeat' (first
    | with_reducible assumption
    | with_reducible apply Dev.setSq_canon
    | with_reducible apply Dev.answer_canon
    | with_reducible apply foldl_canon
    | with_reducible intro _)

theorem Dev.sqDisable_canon (d : Dev) (f : Nat) (q : Nat) (hk : d.Canon) : (Dev.sqDisable d f q).Canon := by
  unfold Dev.sqDisable
  (try dsimp only)
  repeat' (first | with_reducible assumption | with_reducible apply Dev.setSq_canon | with_reducible apply Dev.abortRest_canon | with_reducible intro _ | split)

theorem Dev.sqEnable_canon (d : Dev) (f : Nat) (q : Nat) (hk : d.Canon) : (Dev.sqEnable d f q).Canon := by
  unfold Dev.sqEnable
  (try dsimp only)
  repeat' (first | with_reducible assumption | with_reducible apply Dev.cfgErr_canon | with_reducible apply Dev.setSq_canon | with_reducible intro _ | split)

theorem Dev.cqEnable_canon (d : Dev) (f : Nat) (q : Nat) (hk : d.Canon) : (Dev.cqEnable d f q).Canon := by
  unfold Dev.cqEnable
  (try dsimp only)
  repeat' (first | with_reducible assumption | with_reducible apply Dev.setCq_canon | with_reducible intro _ | split)

theorem Dev.cqDisable_canon (d : Dev) (f : Nat) (q : Nat) (hk : d.Canon) : (Dev.cqDisable d f q).Canon := by
  unfold Dev.cqDisable
  (try dsimp only)
  repeat' (first
    | with_reducible assumption
    | with_reducible apply Dev.cfgErr_canon
    | with_reducible apply Dev.setCq_canon
    | with_reducible apply Dev.complete_canon
    | with_reducible apply Dev.retire_canon
    | with_reducible apply foldl_canon
    | with_reducible intro _
    | split)

theorem Dev.writeSqCtl_canon (d : Dev) (f : Nat) (q : Nat) (v : Nat) (hk : d.Canon) : (Dev.writeSqCtl d f q v).Canon := by
  unfold Dev.writeSqCtl
  (try dsimp only)
  repeat' (first
    | with_reducible assumption
    | with_reducible apply Dev.setSq_canon
    | with_reducible apply Dev.cfgErr_canon
    | with_reducible apply Dev.sqDisable_canon
    | with_reducible apply Dev.sqEnable_canon
    | with_reducible intro _
    | split)

theorem Dev.writeCqCtl_canon (d : Dev) (f : Nat) (q : Nat) (v : Nat) (hk : d.Canon) : (Dev.writeCqCtl d f q v).Canon := by
  unfold Dev.writeCqCtl
  (try dsimp only)
  repeat' (first
    | with_reducible assumption
    | with_reducible apply Dev.cfgErr_canon
    | with_reducible apply Dev.cqDisable_canon
    | with_reducible apply Dev.setCq_canon
    | with_reducible apply Dev.cqEnable_canon
    | with_reducible intro _
    | split)

theorem Dev.writeSq_canon (d : Dev) (f : Nat) (q : Nat) (r : Nat) (v : Nat) (hk : d.Canon) : (Dev.writeSq d f q r v).Canon := by
  unfold Dev.writeSq
  (try dsimp only)
  repeat' (first
    | with_reducible assumption
    | with_reducible apply Dev.cfgErr_canon
    | with_reducible apply Dev.setSq_canon
    | with_reducible apply Dev.writeSqCtl_canon
    | with_reducible intro _
    | split)

theorem Dev.writeCq_canon (d : Dev) (f : Nat) (q : Nat) (r : Nat) (v : Nat) (hk : d.Canon) : (Dev.writeCq d f q r v).Canon := by
  unfold Dev.writeCq
  (try dsimp only)
  repeat' (first
    | with_reducible assumption
    | with_reducible apply Dev.cfgErr_canon
    | with_reducible apply Dev.setCq_canon
    | with_reducible apply Dev.writeCqCtl_canon
    | with_reducible intro _
    | split)

theorem Dev.writeQueueReg_canon (d : Dev) (f : Nat) (off : Nat) (v : Nat) (hk : d.Canon) : (Dev.writeQueueReg d f off v).Canon := by
  unfold Dev.writeQueueReg
  repeat' (first | with_reducible assumption | with_reducible apply Dev.writeSq_canon | with_reducible apply Dev.writeCq_canon | with_reducible intro _ | split)

theorem Dev.tailBell_canon (d : Dev) (f : Nat) (q : Nat) (v : Nat) (hk : d.Canon) : (Dev.tailBell d f q v).Canon := by
  unfold Dev.tailBell
  (try dsimp only)
  repeat' (first
    | with_reducible assumption
    | with_reducible apply Dev.dbErr_canon
    | with_reducible apply Dev.setSq_canon
    | with_reducible apply Dev.complete_canon
    | with_reducible intro _
    | split)

theorem Dev.headBell_canon (d : Dev) (f : Nat) (q : Nat) (v : Nat) (hk : d.Canon) : (Dev.headBell d f q v).Canon := by
  unfold Dev.headBell
  (try dsimp only)
  repeat' (first
    | with_reducible assumption
    | with_reducible apply Dev.dbErr_canon
    | with_reducible apply Dev.setCq_canon
    | with_reducible apply Dev.flushCq_canon
    | with_reducible apply Dev.complete_canon
    | with_reducible intro _
    | split)

theorem Dev.takeTurn_canon (d : Dev) (f : Nat) (q : Nat) (hk : d.Canon) : (Dev.takeTurn d f q).Canon := by
  unfold Dev.takeTurn
  (try dsimp only)
  repeat' (first | with_reducible assumption | with_reducible apply Dev.setFn_canon | with_reducible intro _ | split | simp only [canon_mk, canon_fold])

theorem Dev.answerCur_canon (d : Dev) (f q cid sc : Nat) (r0 r1 : Word) (post : Bool) (hk : d.Canon) : (Dev.answerCur d f q cid sc r0 r1 post).Canon := by
  unfold Dev.answerCur
  (try dsimp only)
  repeat' (first | with_reducible assumption | with_reducible apply Dev.setSq_canon | with_reducible apply Dev.finish_canon | with_reducible apply Dev.answer_canon | with_reducible intro _ | split )

theorem Dev.fetchEntry_canon (d : Dev) (entry : Option (List Byte)) (hk : d.Canon) : (Dev.fetchEntry d entry).Canon := by
  unfold Dev.fetchEntry
  (try dsimp only)
  repeat' (first | with_reducible assumption | with_reducible apply Dev.takeTurn_canon | with_reducible apply Dev.setSq_canon | with_reducible apply Dev.record_canon | with_reducible apply Dev.complete_canon | with_reducible apply Dev.setFn_canon | with_reducible apply Dev.answerCur_canon | with_reducible intro _ | split | simp only [canon_mk, canon_fold])

theorem Dev.onEntry_canon (d : Dev) (f : Nat) (q : Nat) (kind : Bool) (opc : Nat) (act : Dev → List Byte → Dev) (hk : d.Canon) (hact : ∀ z0 z1, z0.Canon → (act z0 z1).Canon) : (Dev.onEntry d f q kind opc act).Canon := by
  unfold Dev.onEntry
  repeat' (first | with_reducible assumption | with_reducible apply hact | with_reducible intro _ | split)

theorem Dev.deliverCur_canon (d : Dev) (f : Nat) (q : Nat) (r : Nat) (bs : List Byte) (hk : d.Canon) : (Dev.deliverCur d f q r bs).Canon := by
  unfold Dev.deliverCur
  (try dsimp only)
  repeat' (first
    | with_reducible assumption
    | with_reducible apply Dev.setSq_canon
    | with_reducible apply Dev.fillSlot_canon
    | with_reducible apply Dev.abortRest_canon
    | with_reducible intro _
    | split)

theorem Dev.doPost_canon (d : Dev) (f q : Nat) (hk : d.Canon) : (Dev.doPost d f q).Canon := by
  unfold Dev.doPost
  (try dsimp only)
  repeat' (first | with_reducible assumption | with_reducible apply Dev.onEntry_canon | with_reducible apply Dev.answerCur_canon | with_reducible apply Dev.deliverCur_canon | with_reducible intro _ | split )

theorem Dev.holdEntry_canon (d : Dev) (f : Nat) (q : Nat) (bs : List Byte) (hk : d.Canon) : (Dev.holdEntry d f q bs).Canon := by
  unfold Dev.holdEntry
  (try dsimp only)
  repeat' (first | with_reducible assumption | with_reducible apply Dev.setSq_canon)

theorem Dev.doMark_canon (d : Dev) (f : Nat) (q : Nat) (hk : d.Canon) : (Dev.doMark d f q).Canon := by
  unfold Dev.doMark
  repeat' (first | with_reducible assumption | with_reducible apply Dev.onEntry_canon | with_reducible apply Dev.holdEntry_canon | with_reducible intro _)

theorem Dev.endMark_canon (d : Dev) (f : Nat) (q : Nat) (hk : d.Canon) : (Dev.endMark d f q).Canon := by
  unfold Dev.endMark
  (try dsimp only)
  repeat' (first | with_reducible assumption | with_reducible apply Dev.setSq_canon | with_reducible apply Dev.answerCur_canon | with_reducible intro _ | split)

theorem Dev.doMarkEnd_canon (d : Dev) (f : Nat) (q : Nat) (hk : d.Canon) : (Dev.doMarkEnd d f q).Canon := by
  unfold Dev.doMarkEnd
  (try dsimp only)
  repeat' (first | with_reducible assumption | with_reducible apply Dev.endMark_canon | with_reducible intro _ | split)

theorem Dev.doNop_canon (d : Dev) (f : Nat) (q : Nat) (hk : d.Canon) : (Dev.doNop d f q).Canon := by
  unfold Dev.doNop
  repeat' (first | with_reducible assumption | with_reducible apply Dev.onEntry_canon | with_reducible apply Dev.answerCur_canon | with_reducible intro _)

theorem Dev.doJstat_canon (d : Dev) (f : Nat) (q : Nat) (hk : d.Canon) : (Dev.doJstat d f q).Canon := by
  unfold Dev.doJstat
  (try dsimp only)
  repeat' (first | with_reducible assumption | with_reducible apply Dev.onEntry_canon | with_reducible apply Dev.answerCur_canon | with_reducible intro _ | split)

theorem Dev.doQstat_canon (d : Dev) (f : Nat) (q : Nat) (hk : d.Canon) : (Dev.doQstat d f q).Canon := by
  unfold Dev.doQstat
  (try dsimp only)
  repeat' (first | with_reducible assumption | with_reducible apply Dev.onEntry_canon | with_reducible apply Dev.answerCur_canon | with_reducible intro _ | split)

theorem Dev.doMsg_canon (d : Dev) (f : Nat) (q : Nat) (hk : d.Canon) : (Dev.doMsg d f q).Canon := by
  unfold Dev.doMsg
  (try dsimp only)
  repeat' (first
    | with_reducible assumption
    | with_reducible apply Dev.onEntry_canon
    | with_reducible apply Dev.answerCur_canon
    | with_reducible apply Dev.deliverCur_canon
    | with_reducible intro _
    | split)

theorem Dev.doRread_canon (d : Dev) (f : Nat) (q : Nat) (hk : d.Canon) : (Dev.doRread d f q).Canon := by
  unfold Dev.doRread
  (try dsimp only)
  repeat' (first | with_reducible assumption | with_reducible apply Dev.onEntry_canon | with_reducible apply Dev.answerCur_canon | with_reducible intro _)

theorem Dev.doRsnap_canon (d : Dev) (f : Nat) (q : Nat) (hk : d.Canon) : (Dev.doRsnap d f q).Canon := by
  unfold Dev.doRsnap
  (try dsimp only)
  repeat' (first
    | with_reducible assumption
    | with_reducible apply Dev.onEntry_canon
    | with_reducible apply Dev.snap_canon
    | with_reducible apply Dev.answerCur_canon
    | with_reducible intro _)

theorem Dev.doRclr_canon (d : Dev) (f : Nat) (q : Nat) (hk : d.Canon) : (Dev.doRclr d f q).Canon := by
  unfold Dev.doRclr
  repeat' (first
    | with_reducible assumption
    | with_reducible apply Dev.onEntry_canon
    | with_reducible apply Dev.answerCur_canon
    | with_reducible apply Dev.holdEntry_canon
    | with_reducible apply Dev.clearRecorder_canon
    | with_reducible intro _
    | split)

theorem Dev.answerClears_canon (d : Dev) (hk : d.Canon) : (Dev.answerClears d).Canon := by
  unfold Dev.answerClears
  repeat' (first | with_reducible assumption | with_reducible apply Dev.endMark_canon | with_reducible apply foldl_canon | with_reducible intro _ | split)

theorem Dev.writeRing_canon (d : Dev) (r : Nat) (ctl : Bool) (v : Nat) (hk : d.Canon) : (Dev.writeRing d r ctl v).Canon := by
  unfold Dev.writeRing
  (try dsimp only)
  repeat' (first | with_reducible assumption | with_reducible apply Dev.setRing_canon | with_reducible intro _ | split)

theorem Dev.completeSlot_canon (d : Dev) (r : Nat) (v : Nat) (hk : d.Canon) : (Dev.completeSlot d r v).Canon := by
  unfold Dev.completeSlot
  (try dsimp only)
  repeat' (first
    | with_reducible assumption
    | with_reducible apply Dev.setRing_canon
    | with_reducible apply Dev.markSlot_canon
    | with_reducible apply Dev.cplDrop_canon
    | with_reducible apply Dev.retire_canon
    | with_reducible apply Dev.complete_canon
    | with_reducible intro _
    | split)

theorem Dev.writeHead_canon (d : Dev) (r : Nat) (v : Nat) (hk : d.Canon) : (Dev.writeHead d r v).Canon := by
  unfold Dev.writeHead
  (try dsimp only)
  repeat' (first | with_reducible assumption | with_reducible apply Dev.setRing_canon | with_reducible apply Dev.retire_canon | with_reducible intro _ | split)

theorem Dev.ringWrite_canon (d : Dev) (r : Nat) (off : Nat) (v : Nat) (hk : d.Canon) : (Dev.ringWrite d r off v).Canon := by
  unfold Dev.ringWrite
  (try dsimp only)
  repeat' (first
    | with_reducible assumption
    | with_reducible apply Dev.writeRing_canon
    | with_reducible apply Dev.writeHead_canon
    | with_reducible apply Dev.completeSlot_canon
    | with_reducible apply Dev.setRing_canon
    | with_reducible intro _
    | split)

theorem Dev.ringStore_canon (d : Dev) (who : Agent) (r : Nat) (off : Nat) (v : Nat) (hk : d.Canon) : (Dev.ringStore d who r off v).Canon := by
  unfold Dev.ringStore
  repeat' (first | with_reducible assumption | with_reducible apply Dev.ringWrite_canon | with_reducible intro _ | split)

theorem Dev.modTimer_canon (d : Dev) (f : Nat) (q : Nat) (hk : d.Canon) : (Dev.modTimer d f q).Canon := by
  unfold Dev.modTimer
  (try dsimp only)
  repeat' (first | with_reducible assumption | with_reducible apply Dev.setCq_canon | with_reducible apply Dev.message_canon | with_reducible intro _ | split)

theorem Dev.unmask_canon (d : Dev) (f : Nat) (v : Nat) (hk : d.Canon) : (Dev.unmask d f v).Canon := by
  unfold Dev.unmask
  (try dsimp only)
  repeat' (first | with_reducible assumption | with_reducible apply Dev.setFn_canon | with_reducible apply Dev.message_canon | with_reducible intro _ | split)

theorem Dev.carryOut_canon (d : Dev) (f q : Nat) (hk : d.Canon) : (Dev.carryOut d f q).Canon := by
  unfold Dev.carryOut
  (try dsimp only)
  repeat' (first | with_reducible assumption | with_reducible apply Dev.doPost_canon | with_reducible apply Dev.doMsg_canon | with_reducible apply Dev.doNop_canon | with_reducible apply Dev.doJstat_canon | with_reducible apply Dev.doQstat_canon | with_reducible apply Dev.doRread_canon | with_reducible apply Dev.doRsnap_canon | with_reducible apply Dev.doRclr_canon | with_reducible intro _ | split )

theorem Dev.resetFn_canon (d0 : Dev) (f : Nat) (hk : d0.Canon) : (Dev.resetFn d0 f).Canon := by
  unfold Dev.resetFn
  (try dsimp only)
  repeat' (first | with_reducible assumption | with_reducible apply Dev.carryOut_canon | with_reducible apply Dev.markSlot_canon | with_reducible apply Dev.cplDrop_canon | with_reducible apply Dev.setFn_canon | with_reducible apply Dev.retire_canon | with_reducible apply Dev.dmaFlr_canon | with_reducible apply foldl_canon | with_reducible intro _ | split )

theorem Dev.flrVf_canon (d : Dev) (f : Nat) (hk : d.Canon) : (Dev.flrVf d f).Canon := by
  unfold Dev.flrVf
  repeat' (first | with_reducible assumption | with_reducible apply Dev.resetFn_canon | with_reducible intro _ | split)

theorem Dev.setVfEn_canon (d : Dev) (v : Bool) (hk : d.Canon) : (Dev.setVfEn d v).Canon := by
  unfold Dev.setVfEn
  (try dsimp only)
  repeat' (first
    | with_reducible assumption
    | with_reducible apply Dev.checkRange_canon
    | with_reducible apply Dev.resetFn_canon
    | with_reducible apply foldl_canon
    | with_reducible intro _
    | split
    | simp only [canon_mk, canon_fold])

theorem Dev.flrPf_canon (d : Dev) (hk : d.Canon) : (Dev.flrPf d).Canon := by
  unfold Dev.flrPf
  (try dsimp only)
  repeat' (first
    | with_reducible assumption
    | with_reducible apply Dev.resetFn_canon
    | with_reducible apply Dev.setVfEn_canon
    | with_reducible apply Dev.setStage_canon
    | with_reducible apply foldl_canon
    | with_reducible intro _
    | split
    | simp only [canon_mk, canon_fold])

theorem Dev.writeMwin_canon (d : Dev) (v : Word) (hk : d.Canon) : (Dev.writeMwin d v).Canon := by
  unfold Dev.writeMwin
  repeat' (first | with_reducible assumption | with_reducible apply Dev.mirrorWrite_canon | with_reducible apply Dev.cfgErr_canon | with_reducible intro _ | split)

theorem Dev.writeSlot_canon (d : Dev) (n : Nat) (o : Nat) (v : Nat) (hk : d.Canon) : (Dev.writeSlot d n o v).Canon := by
  unfold Dev.writeSlot
  (try dsimp only)
  repeat' (first | with_reducible assumption | with_reducible apply Dev.put_canon | with_reducible intro _ | split | simp only [canon_mk, canon_fold])

theorem Dev.bootDone_canon (d : Dev) (hk : d.Canon) : (Dev.bootDone d).Canon := by
  unfold Dev.bootDone
  (try dsimp only)
  repeat' (first | with_reducible assumption | with_reducible intro _ | split | simp only [canon_mk, canon_fold])

theorem Dev.writeMemil_canon (d : Dev) (v : Nat) (hk : d.Canon) : (Dev.writeMemil d v).Canon := by
  unfold Dev.writeMemil
  (try dsimp only)
  repeat' (first | with_reducible assumption | with_reducible intro _ | split | simp only [canon_mk, canon_fold])

theorem Dev.writeRcCtl_canon (d : Dev) (who : Agent) (v : Nat) (hk : d.Canon) : (Dev.writeRcCtl d who v).Canon := by
  unfold Dev.writeRcCtl
  (try dsimp only)
  repeat' (first | with_reducible assumption | with_reducible apply Dev.snap_canon | with_reducible intro _ | split | simp only [canon_mk, canon_fold])

theorem Dev.regTouch_canon (d : Dev) (off : Nat) (hk : d.Canon) : (Dev.regTouch d off).Canon := by
  unfold Dev.regTouch
  (try dsimp only)
  repeat' (first
    | with_reducible assumption
    | with_reducible apply Dev.setCore_canon
    | with_reducible apply Dev.setEngine_canon
    | with_reducible apply Dev.setPort_canon
    | with_reducible intro _
    | split
    | simp only [canon_mk, canon_fold])

theorem Dev.writeCore_canon (d : Dev) (n : Nat) (o : Nat) (v : Nat) (hk : d.Canon) : (Dev.writeCore d n o v).Canon := by
  unfold Dev.writeCore
  (try dsimp only)
  repeat' (first | with_reducible assumption | with_reducible apply Dev.setCore_canon | with_reducible intro _ | split)

theorem Dev.writeEngine_canon (d : Dev) (who : Agent) (e : Nat) (o : Nat) (v : Nat) (hk : d.Canon) : (Dev.writeEngine d who e o v).Canon := by
  unfold Dev.writeEngine
  repeat' (first | with_reducible assumption | with_reducible apply Dev.writeChan_canon | with_reducible apply Dev.restartEngine_canon | with_reducible intro _ | split)

theorem Dev.writeDerrik_canon (d : Dev) (who : Agent) (o : Nat) (v : Nat) (hk : d.Canon) : (Dev.writeDerrik d who o v).Canon := by
  unfold Dev.writeDerrik
  (try dsimp only)
  repeat' (first
    | with_reducible assumption
    | with_reducible apply Dev.writeDlCtl_canon
    | with_reducible apply Dev.setPort_canon
    | with_reducible apply Dev.xmSend_canon
    | with_reducible intro _
    | split
    | simp only [canon_mk, canon_fold])

theorem Dev.writeEpoch_canon (d : Dev) (o : Nat) (v : Nat) (hk : d.Canon) : (Dev.writeEpoch d o v).Canon := by
  unfold Dev.writeEpoch
  (try dsimp only)
  repeat' (first
    | with_reducible assumption
    | with_reducible apply Dev.writeSlot_canon
    | with_reducible apply Dev.writeEpctl_canon
    | with_reducible intro _
    | split
    | simp only [canon_mk, canon_fold])

theorem Dev.writeRecorder_canon (d : Dev) (who : Agent) (o v : Nat) (hk : d.Canon) : (Dev.writeRecorder d who o v).Canon := by
  unfold Dev.writeRecorder
  (try dsimp only)
  repeat' (first | with_reducible assumption | with_reducible apply Dev.writeRcCtl_canon | with_reducible apply Dev.clearRecorder_canon | with_reducible intro _ | split | simp only [canon_mk, canon_fold])

theorem Dev.writePower_canon (d : Dev) (o : Nat) (v : Nat) (hk : d.Canon) : (Dev.writePower d o v).Canon := by
  unfold Dev.writePower
  (try dsimp only)
  repeat' (first
    | with_reducible assumption
    | with_reducible apply Dev.pdRequest_canon
    | with_reducible apply Dev.bootDone_canon
    | with_reducible apply Dev.writeMemil_canon
    | with_reducible apply Dev.writeImgCtl_canon
    | with_reducible apply Dev.imgDataCtl_canon
    | with_reducible intro _
    | split
    | simp only [canon_mk, canon_fold])

theorem Dev.writeJournal_canon (d : Dev) (o : Nat) (v : Nat) (hk : d.Canon) : (Dev.writeJournal d o v).Canon := by
  unfold Dev.writeJournal
  (try dsimp only)
  repeat' (first | with_reducible assumption | with_reducible apply Dev.writeJsCtl_canon | with_reducible apply Dev.setStream_canon | with_reducible intro _ | split)

theorem Dev.writeProt_canon (d : Dev) (org : Option Origin) (o : Nat) (v : Nat) (hk : d.Canon) : (Dev.writeProt d org o v).Canon := by
  unfold Dev.writeProt
  (try dsimp only)
  repeat' (first
    | with_reducible assumption
    | with_reducible apply Dev.mcsWrite_canon
    | with_reducible apply Dev.setBank_canon
    | with_reducible intro _
    | split
    | simp only [canon_mk, canon_fold])

theorem Dev.regWrite_canon (d : Dev) (who : Agent) (off : Nat) (v : Nat) (hk : d.Canon) : (Dev.regWrite d who off v).Canon := by
  unfold Dev.regWrite
  (try dsimp only)
  repeat' (first
    | with_reducible assumption
    | with_reducible apply Dev.mirrorWrite_canon
    | with_reducible apply Dev.writeCore_canon
    | with_reducible apply Dev.ringWrite_canon
    | with_reducible apply Dev.writeEngine_canon
    | with_reducible apply Dev.writeDerrik_canon
    | with_reducible apply Dev.writeEpoch_canon
    | with_reducible apply Dev.writeRecorder_canon
    | with_reducible apply Dev.writePower_canon
    | with_reducible apply Dev.writeJournal_canon
    | with_reducible apply Dev.writeProt_canon
    | with_reducible intro _
    | split)

theorem Dev.bar0Touch_canon (d : Dev) (f : Nat) (o : Nat) (hk : d.Canon) : (Dev.bar0Touch d f o).Canon := by
  unfold Dev.bar0Touch
  (try dsimp only)
  repeat' (first | with_reducible assumption | with_reducible apply Dev.regTouch_canon | with_reducible apply Dev.setFn_canon | with_reducible intro _ | split)

theorem Dev.bar0Read_canon (d : Dev) (f o size : Nat) (hk : d.Canon) : (Dev.bar0Read d f o size).Canon := by
  unfold Dev.bar0Read
  (try dsimp only)
  repeat' (first | with_reducible assumption | with_reducible apply Dev.bar0Touch_canon | with_reducible intro _ | split | simp only [canon_mk, canon_fold])

theorem Dev.writeMsix_canon (d : Dev) (f : Nat) (o : Nat) (v : Nat) (hk : d.Canon) : (Dev.writeMsix d f o v).Canon := by
  unfold Dev.writeMsix
  (try dsimp only)
  repeat' (first
    | with_reducible assumption
    | with_reducible apply Dev.put_canon
    | with_reducible apply Dev.setFn_canon
    | with_reducible apply Dev.unmask_canon
    | with_reducible intro _
    | split)

theorem Dev.bar0Write_canon (d : Dev) (f o size v : Nat) (hk : d.Canon) : (Dev.bar0Write d f o size v).Canon := by
  unfold Dev.bar0Write
  (try dsimp only)
  repeat' (first | with_reducible assumption | with_reducible apply Dev.regWrite_canon | with_reducible apply Dev.writeQueueReg_canon | with_reducible apply Dev.writeMsix_canon | with_reducible apply Dev.writeVfq_canon | with_reducible apply Dev.writeFaccHalf_canon | with_reducible apply Dev.closeFeat_canon | with_reducible apply Dev.setFn_canon | with_reducible apply Dev.writeMwin_canon | with_reducible intro _ | split | simp only [canon_mk, canon_fold])

theorem Dev.bar2Write_canon (d : Dev) (f o size v : Nat) (hk : d.Canon) : (Dev.bar2Write d f o size v).Canon := by
  unfold Dev.bar2Write
  (try dsimp only)
  repeat' (first | with_reducible assumption | with_reducible apply Dev.setFn_canon | with_reducible apply Dev.dbErr_canon | with_reducible apply Dev.tailBell_canon | with_reducible apply Dev.headBell_canon | with_reducible intro _ | split | simp only [canon_mk, canon_fold])

theorem Dev.anyWrite_canon (d : Dev) (who : Agent) (a size v : Nat) (hk : d.Canon) : (Dev.anyWrite d who a size v).Canon := by
  unfold Dev.anyWrite
  (try dsimp only)
  repeat' (first | with_reducible assumption | with_reducible apply Dev.byHost_canon | with_reducible apply Dev.bar2Write_canon | with_reducible apply Dev.bar0Write_canon | with_reducible apply Dev.mirrorWrite_canon | with_reducible apply Dev.regWrite_canon | with_reducible intro _ | split )

theorem Dev.anyRead_canon (d : Dev) (who : Agent) (a size : Nat) (hk : d.Canon) : (Dev.anyRead d who a size).Canon := by
  unfold Dev.anyRead
  (try dsimp only)
  repeat' (first | with_reducible assumption | with_reducible apply Dev.byHost_canon | with_reducible apply Dev.bar0Read_canon | with_reducible apply Dev.regTouch_canon | with_reducible intro _ | split )

theorem Dev.countFec_canon (d : Dev) (p c u : Nat) (hk : d.Canon) : (Dev.countFec d p c u).Canon := by
  unfold Dev.countFec
  (try dsimp only)
  repeat' (first | with_reducible assumption | with_reducible apply Dev.setPort_canon | with_reducible intro _ | split )

theorem Dev.report_canon (d : Dev) (source kind : Nat) (detail : List Byte) (hk : d.Canon) : (Dev.report d source kind detail).Canon := by
  unfold Dev.report
  (try dsimp only)
  repeat' (first | with_reducible assumption | with_reducible apply Dev.countEcc_canon | with_reducible apply Dev.countFec_canon | with_reducible apply Dev.record_canon | with_reducible intro _ | split )

theorem Dev.reportAll_canon (d : Dev) (xs : List Report) (hk : d.Canon) : (Dev.reportAll d xs).Canon := by
  unfold Dev.reportAll
  (try dsimp only)
  repeat' (first | with_reducible assumption | with_reducible apply Dev.report_canon | with_reducible apply foldl_canon | with_reducible intro _ | split )

theorem Dev.sampleIn_canon (d : Dev) (ch : Nat) (v : Word) (hk : d.Canon) : (Dev.sampleIn d ch v).Canon := by
  unfold Dev.sampleIn
  (try dsimp only)
  repeat' (first | with_reducible assumption | with_reducible intro _ | split | simp only [canon_mk, canon_fold])

theorem Dev.heat_canon (d : Dev) (ch : Nat) (v : Int) (hk : d.Canon) : (Dev.heat d ch v).Canon := by
  unfold Dev.heat
  (try dsimp only)
  repeat' (first | with_reducible assumption | with_reducible apply Dev.record_canon | with_reducible intro _ | split | simp only [canon_mk, canon_fold])

theorem Dev.overheat_canon (d : Dev) (ch : Nat) (hk : d.Canon) : (Dev.overheat d ch).Canon := by
  unfold Dev.overheat
  (try dsimp only)
  repeat' (first | with_reducible assumption | with_reducible apply Dev.recordLogged_canon | with_reducible apply Dev.registerFailure_canon | with_reducible intro _ | split | simp only [canon_mk, canon_fold])

theorem Dev.reading_canon (d : Dev) (ch : Nat) (v : Int) (hk : d.Canon) : (Dev.reading d ch v).Canon := by
  unfold Dev.reading
  (try dsimp only)
  repeat' (first | with_reducible assumption | with_reducible apply Dev.heat_canon | with_reducible apply Dev.overheat_canon | with_reducible intro _ | split )

theorem Dev.measure_canon (d : Dev) (ch : Nat) (v : Word) (hk : d.Canon) : (Dev.measure d ch v).Canon := by
  unfold Dev.measure
  (try dsimp only)
  repeat' (first | with_reducible assumption | with_reducible apply Dev.sampleIn_canon | with_reducible apply Dev.reading_canon | with_reducible apply Dev.countFec_canon | with_reducible intro _ | split )

theorem Dev.sourceLoss_canon (d : Dev) (altLive : Bool) (hk : d.Canon) : (Dev.sourceLoss d altLive).Canon := by
  unfold Dev.sourceLoss
  (try dsimp only)
  repeat' (first | with_reducible assumption | with_reducible apply Dev.epochEvent_canon | with_reducible intro _ | split | simp only [canon_mk, canon_fold])

theorem Dev.powerFailEnd_canon (d : Dev) (hk : d.Canon) : (Dev.powerFailEnd d).Canon := by
  unfold Dev.powerFailEnd
  (try dsimp only)
  repeat' (first | with_reducible assumption | with_reducible apply Dev.failureEnd_canon | with_reducible apply Dev.deviceReset_canon | with_reducible intro _ | split)

theorem Dev.startFuses_canon (d : Dev) (hk : d.Canon) : (Dev.startFuses d).Canon := by
  unfold Dev.startFuses
  (try dsimp only)
  repeat' (first | with_reducible assumption | with_reducible intro _ | split | simp only [canon_mk, canon_fold])

theorem Dev.startLoam_canon (d : Dev) (hk : d.Canon) : (Dev.startLoam d).Canon := by
  unfold Dev.startLoam
  (try dsimp only)
  repeat' (first
    | with_reducible assumption
    | with_reducible apply Dev.setDoms_canon
    | with_reducible apply Dev.clearRange_canon
    | with_reducible intro _
    | split
    | simp only [canon_mk, canon_fold])

theorem Dev.startImages_canon (d : Dev) (hk : d.Canon) : (Dev.startImages d).Canon := by
  unfold Dev.startImages
  (try dsimp only)
  repeat' (first
    | with_reducible assumption
    | with_reducible apply Dev.recordBadBanks_canon
    | with_reducible apply Dev.put_canon
    | with_reducible intro _
    | split
    | simp only [canon_mk, canon_fold])

theorem Dev.startLinks_canon (d : Dev) (hk : d.Canon) : (Dev.startLinks d).Canon := by
  unfold Dev.startLinks
  repeat' (first | with_reducible assumption | with_reducible apply Dev.setDoms_canon | with_reducible apply Dev.train_canon | with_reducible apply Dev.setCap_canon)

theorem Dev.setVectors_canon (d : Dev) (pc : Word) (hk : d.Canon) : (Dev.setVectors d pc).Canon := by
  unfold Dev.setVectors
  (try dsimp only)
  repeat' (first | with_reducible assumption | with_reducible intro _ | split | simp only [canon_mk, canon_fold])

theorem Dev.startCores_canon (d : Dev) (entry : Nat) (hk : d.Canon) : (Dev.startCores d entry).Canon := by
  unfold Dev.startCores
  (try dsimp only)
  repeat' (first
    | with_reducible assumption
    | with_reducible apply Dev.setDoms_canon
    | with_reducible apply Dev.setVectors_canon
    | with_reducible apply Dev.setCore_canon
    | with_reducible apply Dev.resetCore_canon
    | with_reducible apply Dev.patchPair_canon
    | with_reducible apply foldl_canon
    | with_reducible intro _)

theorem Dev.startEnd_canon (d : Dev) (hk : d.Canon) : (Dev.startEnd d).Canon := by
  unfold Dev.startEnd
  (try dsimp only)
  repeat' (first | with_reducible assumption | with_reducible intro _ | split | simp only [canon_mk, canon_fold])

theorem Dev.startup_canon (d : Dev) (hk : d.Canon) : (Dev.startup d).Canon := by
  unfold Dev.startup
  (try dsimp only)
  repeat' (first
    | with_reducible assumption
    | with_reducible apply Dev.startFuses_canon
    | with_reducible apply Dev.startLoam_canon
    | with_reducible apply Dev.startImages_canon
    | with_reducible apply Dev.startLinks_canon
    | with_reducible apply Dev.startEnd_canon
    | with_reducible apply Dev.startCores_canon
    | with_reducible intro _
    | split
    | simp only [canon_mk, canon_fold])

theorem Dev.releaseCores_canon (d : Dev) (hk : d.Canon) : (Dev.releaseCores d).Canon := by
  unfold Dev.releaseCores
  (try dsimp only)
  repeat' (first | with_reducible assumption | with_reducible apply Dev.setDoms_canon | with_reducible apply Dev.setUp_canon | with_reducible apply foldl_canon | with_reducible intro _ | split | simp only [canon_mk, canon_fold])

theorem Dev.closeChecks_canon (d : Dev) (h : d.Canon) : d.closeChecks.Canon := by
  unfold Dev.closeChecks
  repeat' (first | with_reducible assumption | with_reducible apply Dev.mboxReply_canon | with_reducible intro _ | split | simp only [canon_mk, canon_fold] | dsimp only)
  all_goals exact Dev.imgChecksEnd_canon (by assumption) h

theorem Dev.pdWrite_canon (d : Dev) (who : Agent) (v : Nat) (hk : d.Canon) : (Dev.pdWrite d who v).Canon := by
  unfold Dev.pdWrite
  repeat' (first | with_reducible assumption | with_reducible apply Dev.pdRequest_canon | with_reducible intro _ | split)

theorem Dev.modPu_canon (d : Dev) (f : Pupor → Pupor) (hk : d.Canon) : (Dev.modPu d f).Canon := by
  unfold Dev.modPu
  repeat' (first | with_reducible assumption | with_reducible intro _ | split | simp only [canon_mk, canon_fold])

theorem Dev.startRun_canon (d : Dev) (slot : Nat) (args : List Byte) (byMbox : Bool) (hk : d.Canon) : (Dev.startRun d slot args byMbox).Canon := by
  unfold Dev.startRun
  (try dsimp only)
  repeat' (first | with_reducible assumption | with_reducible apply Dev.modPu_canon)

theorem Dev.runExt_canon (d : Dev) (slot : Nat) (args : List Byte) (byMbox : Bool) (hk : d.Canon) : (Dev.runExt d slot args byMbox).Canon := by
  unfold Dev.runExt
  (try dsimp only)
  repeat' (first | with_reducible assumption | with_reducible apply Dev.startRun_canon | with_reducible apply Dev.recordBad_canon | with_reducible intro _ | split )

theorem Dev.endRun_canon (d : Dev) (aborted : Bool) (hk : d.Canon) : (Dev.endRun d aborted).Canon := by
  unfold Dev.endRun
  (try dsimp only)
  repeat' (first | with_reducible assumption | with_reducible apply Dev.modPu_canon | with_reducible apply Dev.mboxReply_canon | with_reducible intro _ | split)

theorem Dev.abortRun_canon (d : Dev) (hk : d.Canon) : (Dev.abortRun d).Canon := by
  unfold Dev.abortRun
  repeat' (first | with_reducible assumption | with_reducible apply Dev.endRun_canon)

theorem Dev.puDo_canon (d : Dev) (bs : List Byte) (act : Dev → Dev) (hk : d.Canon) (hact : ∀ z0, z0.Canon → (act z0).Canon) : (Dev.puDo d bs act).Canon := by
  unfold Dev.puDo
  repeat' (first | with_reducible assumption | with_reducible apply hact | with_reducible apply Dev.modPu_canon | with_reducible intro _ | split)

theorem Dev.puReg_canon (d : Dev) (bs : List Byte) (f : Pupor → Pupor) (hk : d.Canon) : (Dev.puReg d bs f).Canon := by
  unfold Dev.puReg
  repeat' (first | with_reducible assumption | with_reducible apply Dev.puDo_canon | with_reducible apply Dev.modPu_canon | with_reducible intro _)

theorem Dev.puLoad_canon (d : Dev) (a : Nat) (k : Dev → Byte → Dev) (hk : d.Canon) (hk : ∀ z0 z1, z0.Canon → (k z0 z1).Canon) : (Dev.puLoad d a k).Canon := by
  unfold Dev.puLoad
  (try dsimp only)
  repeat' (first | with_reducible assumption | with_reducible apply hk | with_reducible apply Dev.abortRun_canon | with_reducible intro _ | split)

theorem Dev.puStore_canon (d : Dev) (a : Nat) (v : Byte) (k : Dev → Dev) (hk : d.Canon) (hk : ∀ z0, z0.Canon → (k z0).Canon) : (Dev.puStore d a v k).Canon := by
  unfold Dev.puStore
  (try dsimp only)
  repeat' (first
    | with_reducible assumption
    | with_reducible apply hk
    | with_reducible apply Dev.abortRun_canon
    | with_reducible apply Dev.modPu_canon
    | with_reducible intro _
    | split)

theorem Dev.puPush_canon (d : Dev) (v : Byte) (k : Dev → Dev) (hk : d.Canon) (hk : ∀ z0, z0.Canon → (k z0).Canon) : (Dev.puPush d v k).Canon := by
  unfold Dev.puPush
  (try dsimp only)
  repeat' (first | with_reducible assumption | with_reducible apply hk | with_reducible apply Dev.modPu_canon | with_reducible apply Dev.puStore_canon)

theorem Dev.puPop_canon (d : Dev) (k : Dev → Byte → Dev) (hk : d.Canon) (hk : ∀ z0 z1, z0.Canon → (k z0 z1).Canon) : (Dev.puPop d k).Canon := by
  unfold Dev.puPop
  repeat' (first | with_reducible assumption | with_reducible apply hk | with_reducible apply Dev.puLoad_canon | with_reducible apply Dev.modPu_canon | with_reducible intro _)

theorem Dev.puAccess_canon (d : Dev) (write : Bool) (a : Nat) (v : Nat) (hk : d.Canon) : (Dev.puAccess d write a v).Canon := by
  unfold Dev.puAccess
  (try dsimp only)
  repeat' (first
    | with_reducible assumption
    | with_reducible apply Dev.regWrite_canon
    | with_reducible apply Dev.regTouch_canon
    | with_reducible apply Dev.modPu_canon
    | with_reducible intro _
    | split)

theorem Dev.puAccessEnd_canon (d : Dev) (err : Bool) (hk : d.Canon) : (Dev.puAccessEnd d err).Canon := by
  unfold Dev.puAccessEnd
  (try dsimp only)
  repeat' (first | with_reducible assumption | with_reducible apply Dev.modPu_canon | with_reducible apply Dev.puAccess_canon | with_reducible intro _ | split)

theorem Dev.autoRecover_canon (d : Dev) (n : Nat) (hk : d.Canon) : (Dev.autoRecover d n).Canon := by
  unfold Dev.autoRecover
  (try dsimp only)
  repeat' (first | with_reducible assumption | with_reducible apply Dev.runExt_canon | with_reducible apply Dev.recoverCore_canon | with_reducible intro _ | split )

theorem Dev.mboxTake_canon (d : Dev) (op : Nat) (tag : Byte) (act : Dev → Dev) (hk : d.Canon) (hact : ∀ z0, z0.Canon → (act z0).Canon) : (Dev.mboxTake d op tag act).Canon := by
  unfold Dev.mboxTake
  repeat' (first | with_reducible assumption | with_reducible apply hact | with_reducible apply Dev.modPu_canon | with_reducible intro _ | split)

theorem Dev.mboxForm_canon (d : Dev) (ok : Bool) (act : Dev → Dev) (hk : d.Canon) (hact : ∀ z0, z0.Canon → (act z0).Canon) : (Dev.mboxForm d ok act).Canon := by
  unfold Dev.mboxForm
  repeat' (first | with_reducible assumption | with_reducible apply hact | with_reducible apply Dev.mboxReply_canon | with_reducible intro _ | split)

theorem Dev.trip_canon (d : Dev) (n : Nat) (v : Word) (hk : d.Canon) : (Dev.trip d n v).Canon := by
  unfold Dev.trip
  (try dsimp only)
  repeat' (first | with_reducible assumption | with_reducible apply Dev.reading_canon | with_reducible intro _ | split )

theorem Dev.avsAnswer_canon (d : Dev) (acked : Bool) (hk : d.Canon) : (Dev.avsAnswer d acked).Canon := by
  unfold Dev.avsAnswer
  (try dsimp only)
  repeat' (first | with_reducible assumption | with_reducible apply Dev.record_canon | with_reducible intro _ | split | simp only [canon_mk, canon_fold])

theorem Dev.vsetStep_canon (d : Dev) (up : Bool) (acked : Bool) (hk : d.Canon) : (Dev.vsetStep d up acked).Canon := by
  unfold Dev.vsetStep
  (try dsimp only)
  repeat' (first | with_reducible assumption | with_reducible apply Dev.avsAnswer_canon | with_reducible intro _ | split | simp only [canon_mk, canon_fold])

theorem Dev.stall_canon (d : Dev) (kind : Nat) (unit : Nat) (hk : d.Canon) : (Dev.stall d kind unit).Canon := by
  unfold Dev.stall
  (try dsimp only)
  repeat' (first | with_reducible assumption | with_reducible intro _ | split | simp only [canon_mk, canon_fold])

theorem Dev.asyncCheck_canon (d : Dev) (hk : d.Canon) : (Dev.asyncCheck d).Canon := by
  unfold Dev.asyncCheck
  (try dsimp only)
  repeat' (first | with_reducible assumption | with_reducible apply Dev.raise_canon | with_reducible apply Dev.tickFree_canon | with_reducible intro _ | split )

theorem Dev.scrub_canon (d : Dev) (bank word err : Nat) (hk : d.Canon) : (Dev.scrub d bank word err).Canon := by
  unfold Dev.scrub
  (try dsimp only)
  repeat' (first | with_reducible assumption | with_reducible apply Dev.stall_canon | with_reducible apply Dev.record_canon | with_reducible apply Dev.recordBadData_canon | with_reducible apply Dev.asyncCheck_canon | with_reducible intro _ | split | simp only [canon_mk, canon_fold])

end Sys2Proof.Machine
end

