-- ==== Sys2Proof/Laws/CanonCore.lean ====
section
/-! SUPPORT. Memory stays canonical under every operation of the cores: a syllable's answer, a bundle's completion, programs, exceptions, tasks. One lemma per function. -/
namespace Sys2Proof.Machine

theorem Dev.ctlWrite_canon (d : Dev) (n : Nat) (b : Nat) (c : Nat) (v : Word) (hk : d.Canon) : (Dev.ctlWrite d n b c v).Canon := by
  unfold Dev.ctlWrite
  (try dsimp only)
  repeat' (first
    | with_reducible assumption
    | with_reducible apply Dev.put_canon
    | with_reducible apply Dev.setBay_canon
    | with_reducible apply Dev.mirrorWrite_canon
    | with_reducible apply Dev.modCore_canon
    | with_reducible intro _
    | split)

theorem Dev.invalidate_canon (d : Dev) (n b : Nat) (g : Bool) (f : Core → Core) (hk : d.Canon) : (Dev.invalidate d n b g f).Canon := by
  unfold Dev.invalidate
  (try dsimp only)
  repeat' (first | with_reducible assumption | with_reducible apply Dev.modCore_canon | with_reducible apply Dev.tickFree_canon | with_reducible apply foldl_canon | with_reducible intro _ | split | simp only [canon_mk, canon_fold])

theorem Dev.tlock_canon (d : Dev) (n b : Nat) (v : Word) (pte code : Nat) (hk : d.Canon) : (Dev.tlock d n b v pte code).Canon := by
  unfold Dev.tlock
  (try dsimp only)
  repeat' (first | with_reducible assumption | with_reducible apply Dev.ctlWrite_canon | with_reducible apply Dev.modCore_canon | with_reducible intro _ | split | simp only [canon_mk, canon_fold])

theorem Dev.refuseBundle_canon (d : Dev) (n : Nat) (b : Nat) (pc : Word) (cause : Nat) (pos : Nat) (len : Nat) (reason : Nat) (hk : d.Canon) : (Dev.refuseBundle d n b pc cause pos len reason).Canon := by
  unfold Dev.refuseBundle
  repeat' (first | with_reducible assumption | with_reducible apply Dev.modBay_canon)

theorem Dev.openBundle_canon (d : Dev) (n : Nat) (b : Nat) (len : Nat) (is_ : List Instr) (hk : d.Canon) : (Dev.openBundle d n b len is_).Canon := by
  unfold Dev.openBundle
  (try dsimp only)
  repeat' (first
    | with_reducible assumption
    | with_reducible apply Dev.setBay_canon
    | with_reducible apply Dev.tickFree_canon
    | with_reducible apply Dev.refuseBundle_canon
    | with_reducible intro _
    | split)

theorem Dev.openImplied_canon (d : Dev) (n : Nat) (b : Nat) (i : Instr) (hk : d.Canon) : (Dev.openImplied d n b i).Canon := by
  unfold Dev.openImplied
  (try dsimp only)
  repeat' (first | with_reducible assumption | with_reducible apply Dev.refuseBundle_canon | with_reducible apply Dev.openBundle_canon | with_reducible intro _ | split)

theorem Dev.sbWakeAll_canon (d : Dev) (n : Nat) (hk : d.Canon) : (Dev.sbWakeAll d n).Canon := by
  unfold Dev.sbWakeAll
  repeat' (first | with_reducible assumption | with_reducible apply Dev.modBay_canon | with_reducible apply foldl_canon | with_reducible intro _)

theorem Dev.atLevel_canon (d : Dev) (n : Nat) (b : Nat) (lvl : Nat) (f : Dev → Dev) (hk : d.Canon) (hf : ∀ z0, z0.Canon → (f z0).Canon) : (Dev.atLevel d n b lvl f).Canon := by
  unfold Dev.atLevel
  (try dsimp only)
  repeat' (first
    | with_reducible assumption
    | with_reducible apply hf
    | with_reducible apply Dev.put_canon
    | with_reducible apply Dev.modBay_canon
    | with_reducible intro _
    | split)

theorem Dev.performStore_canon (d : Dev) (n : Nat) (e : SbE) (fab : Bool) (hk : d.Canon) : (Dev.performStore d n e fab).Canon := by
  unfold Dev.performStore
  repeat' (first
    | with_reducible assumption
    | with_reducible apply Dev.raise_canon
    | with_reducible apply Dev.atLevel_canon
    | with_reducible apply Dev.regWrite_canon
    | with_reducible apply Dev.put_canon
    | with_reducible intro _
    | split)

theorem Dev.drainHead_canon (d : Dev) (n : Nat) (fab : Bool) (hk : d.Canon) : (Dev.drainHead d n fab).Canon := by
  unfold Dev.drainHead
  repeat' (first | with_reducible assumption | with_reducible apply Dev.sbWakeAll_canon | with_reducible apply Dev.performStore_canon | with_reducible apply Dev.modCore_canon | split)

theorem Dev.devArrive_canon (d : Dev) (n : Nat) (fab : Bool) (hk : d.Canon) : (Dev.devArrive d n fab).Canon := by
  unfold Dev.devArrive
  repeat' (first | with_reducible assumption | with_reducible apply Dev.sbWakeAll_canon | with_reducible apply Dev.performStore_canon | with_reducible apply Dev.modCore_canon | split)

theorem Dev.drainOne_canon (d : Dev) (n : Nat) (fab : Bool) (hk : d.Canon) : (Dev.drainOne d n fab).Canon := by
  unfold Dev.drainOne
  dsimp only
  repeat' (first | with_reducible assumption | with_reducible apply Dev.tickFree_canon | with_reducible apply Dev.devArrive_canon | with_reducible apply Dev.drainHead_canon | split)

theorem Dev.drainWhile_canon (n : Nat) (p : Core → Bool) (f : Dev → Dev) (k : Nat) (d : Dev) (hf : ∀ e, e.Canon → (f e).Canon) (hk : d.Canon) : (Dev.drainWhile n p f k d).Canon := by
  induction k generalizing d with
  | zero => exact hk
  | succ k ih =>
    unfold Dev.drainWhile
    split
    · exact ih _ (hf _ hk)
    · exact hk

theorem Dev.makeRoom_canon (d : Dev) (n : Nat) (hk : d.Canon) : (Dev.makeRoom d n).Canon :=
  Dev.drainWhile_canon _ _ _ _ _ (fun _ he => Dev.drainHead_canon _ _ _ he) hk

theorem Dev.devSettle_canon (d : Dev) (n b : Nat) (hk : d.Canon) : (Dev.devSettle d n b).Canon :=
  Dev.drainWhile_canon _ _ _ _ _ (fun _ he => Dev.devArrive_canon _ _ _ he) (Dev.drainWhile_canon _ _ _ _ _ (fun _ he => Dev.drainHead_canon _ _ _ he) hk)

theorem Dev.settle_canon (n a len k : Nat) (d : Dev) (h : d.Canon) : (Dev.settle n a len k d).Canon :=
  Dev.drainWhile_canon _ _ _ _ _ (fun _ he => Dev.drainHead_canon _ _ _ he) h

theorem Dev.excFor_canon {d : Dev} {n b pos : Nat} {u : Bundle} {o : SylOut} {e : Dev} {x : Exc} (hx : d.excFor n b pos u o = some (e, x)) (h : d.Canon) : e.Canon := by
  unfold Dev.excFor at hx
  split at hx
  all_goals simp only [Option.some.injEq, Prod.mk.injEq, reduceCtorEq] at hx
  all_goals obtain ⟨rfl, -⟩ := hx
  repeat' (first | with_reducible assumption | with_reducible apply Dev.recordBadData_canon | with_reducible apply Dev.mirrorWrite_canon | with_reducible apply Dev.evalLow_canon)

theorem Dev.gateEnter_canon (d : Dev) (n : Nat) (b : Nat) (g : Nat) (args : Nat) (hk : d.Canon) : (Dev.gateEnter d n b g args).Canon := by
  unfold Dev.gateEnter
  (try dsimp only)
  repeat' (first | with_reducible assumption | with_reducible apply Dev.setBay_canon)

theorem Dev.gateLeave_canon (d : Dev) (n : Nat) (b : Nat) (hk : d.Canon) : (Dev.gateLeave d n b).Canon := by
  unfold Dev.gateLeave
  (try dsimp only)
  repeat' (first | with_reducible assumption | with_reducible apply Dev.setBay_canon | with_reducible intro _ | split)

theorem Dev.act_canon (d : Dev) (n b : Nat) (k : Act) (v w z : Nat) (hk : d.Canon) : (Dev.act d n b k v w z).Canon := by
  unfold Dev.act
  (try dsimp only)
  repeat' (first | with_reducible assumption | with_reducible apply Dev.setBay_canon | with_reducible apply Dev.modCore_canon | with_reducible apply Dev.invalidate_canon | with_reducible apply Dev.put_canon | with_reducible apply Dev.tlock_canon | with_reducible apply Dev.gateEnter_canon | with_reducible apply Dev.gateLeave_canon | with_reducible apply Dev.raise_canon | with_reducible intro _ | split | simp only [canon_mk, canon_fold])

theorem Dev.apply_canon (d : Dev) (n b lvl : Nat) (f : Eff) (hk : d.Canon) : (d.apply n b lvl f).Canon := by
  unfold Dev.apply
  cases f
  case japp s r t =>
    have h := Dev.append_canon (Prod.eta (d.append s r (4 * n + b))).symm hk
    repeat' (first | with_reducible assumption | with_reducible apply Dev.modBay_canon | with_reducible intro _ | split)
  repeat' (first
    | with_reducible assumption
    | with_reducible apply Dev.modBay_canon
    | with_reducible apply Dev.modCore_canon
    | with_reducible apply Dev.makeRoom_canon
    | with_reducible apply Dev.devSettle_canon
    | with_reducible apply Dev.put_canon
    | with_reducible apply Dev.regTouch_canon
    | with_reducible apply Dev.ctlWrite_canon
    | with_reducible apply Dev.release_canon
    | with_reducible apply Dev.act_canon
    | with_reducible intro _
    | split
    | simp only [canon_mk, canon_fold]
    | dsimp only)
  all_goals exact Dev.append_canon (Prod.eta _).symm hk

theorem Dev.applyStage_canon (d : Dev) (n : Nat) (b : Nat) (lvl : Nat) (k : Nat) (es : List Eff) (hk : d.Canon) : (Dev.applyStage d n b lvl k es).Canon := by
  unfold Dev.applyStage
  repeat' (first | with_reducible assumption | with_reducible apply Dev.apply_canon | with_reducible apply foldl_canon | with_reducible intro _)

theorem Dev.applyAll_canon (d : Dev) (n : Nat) (b : Nat) (es : List Eff) (hk : d.Canon) : (Dev.applyAll d n b es).Canon := by
  unfold Dev.applyAll
  (try dsimp only)
  repeat' (first | with_reducible assumption | with_reducible apply Dev.applyStage_canon)

theorem Dev.stepTrap_canon (d : Dev) (n : Nat) (b : Nat) (before : Bay) (hk : d.Canon) : (Dev.stepTrap d n b before).Canon := by
  unfold Dev.stepTrap
  (try dsimp only)
  repeat' (first | with_reducible assumption | with_reducible apply Dev.modBay_canon | with_reducible intro _ | split)

theorem Dev.claim_canon (d : Dev) (n b : Nat) (hk : d.Canon) : (Dev.claim d n b).Canon := by
  unfold Dev.claim
  (try dsimp only)
  repeat' (first | with_reducible assumption | with_reducible apply Dev.modBay_canon | with_reducible apply Dev.drainBay_canon | with_reducible intro _ | split )

theorem Dev.ask_canon (d : Dev) (n b : Nat) (f : Eff) (hk : d.Canon) : (Dev.ask d n b f).Canon := by
  unfold Dev.ask
  repeat' (first | with_reducible assumption | with_reducible apply Dev.claim_canon | with_reducible apply Dev.modBay_canon | split)

theorem Dev.finish_canon (d : Dev) (n : Nat) (b : Nat) (hk : d.Canon) : (Dev.finish d n b).Canon := by
  unfold Dev.finish
  (try dsimp only)
  repeat' (first
    | with_reducible assumption
    | with_reducible apply Dev.setBay_canon
    | with_reducible apply Dev.complete_canon
    | with_reducible apply Dev.applyAll_canon
    | with_reducible apply Dev.stepTrap_canon
    | with_reducible apply Dev.claim_canon
    | with_reducible apply Dev.modBay_canon
    | with_reducible apply Dev.ask_canon
    | (with_reducible refine Dev.excFor_canon (by with_reducible assumption) ?_)
    | with_reducible intro _
    | split)

theorem Dev.sylDone_canon (d : Dev) (n : Nat) (b : Nat) (effs : List Eff) (excs : List (Nat × Exc)) (hk : d.Canon) : (Dev.sylDone d n b effs excs).Canon := by
  unfold Dev.sylDone
  (try dsimp only)
  repeat' (first | with_reducible assumption | with_reducible apply Dev.setBay_canon | with_reducible apply Dev.finish_canon | with_reducible intro _ | split)

theorem Dev.answered_canon (d : Dev) (n b pos : Nat) (u : Bundle) (out : SylOut) (h : d.Canon) (ho : out.Ok) : (d.answered n b pos u out).Canon := by
  unfold Dev.answered
  split
  · exact Dev.sylDone_canon _ _ _ _ _ h
  · exact Dev.modBay_canon _ _ _ _ h
  · exact ho
  · exact Dev.modBay_canon _ _ _ _ h
  · split
    · exact Dev.sylDone_canon _ _ _ _ _ (Dev.excFor_canon (by assumption) h)
    · exact h

theorem Dev.repLoop_canon (n b : Nat) (y : Syl) (f : Dev → SylOut) (k : Nat) (d : Dev) (h : d.Canon) : (Dev.repLoop n b y f k d).Canon := by
  induction k generalizing d with
  | zero => exact Dev.finish_canon _ _ _ (Dev.modBay_canon _ _ _ _ h)
  | succ k ih =>
    unfold Dev.repLoop
    dsimp only
    split
    · exact h
    · split
      · split
        · exact ih _ (Dev.applyAll_canon _ _ _ _ h)
        · have h2 := Dev.tickFree_canon _ (Dev.modBay_canon _ n b (fun z => z.age.countBundle) (Dev.applyAll_canon d n b ‹_› h))
          split
          · exact ih _ h2
          · exact Dev.modBay_canon _ _ _ _ h2
      · exact Dev.modBay_canon _ _ _ _ h
      · split
        · exact Dev.modBay_canon _ _ _ _ (Dev.excFor_canon (by assumption) h)
        · exact h

theorem Dev.inBundle_canon (d : Dev) (y : Syl) (i : Instr) (f : Dev → SylOut) (h : d.Canon) (hf : ∀ e, e.Canon → (f e).Ok) : (d.inBundle y i f).Canon := by
  unfold Dev.inBundle
  dsimp only
  split
  · exact h
  · split
    · exact h
    · split
      · split
        · refine Dev.answered_canon _ _ _ _ _ _ h ?_
          split
          · exact hf _ h
          · trivial
        · exact h
      · split
        · split
          · exact Dev.refuseBundle_canon _ _ _ _ _ _ _ _ (Dev.modBay_canon _ _ _ _ h)
          · exact Dev.repLoop_canon _ _ _ _ _ _ (Dev.modBay_canon _ _ _ _ h)
        · split
          · exact Dev.repLoop_canon _ _ _ _ _ _ h
          · exact h

theorem Dev.runSyl_canon (d : Dev) (y : Syl) (i : Instr) (f : Dev → SylOut) (hk : d.Canon) (hf : ∀ z0, z0.Canon → (f z0).Ok) : (Dev.runSyl d y i f).Canon := by
  unfold Dev.runSyl
  (try dsimp only)
  repeat' (first
    | with_reducible assumption
    | with_reducible apply hf
    | with_reducible apply Dev.openImplied_canon
    | with_reducible apply Dev.inBundle_canon
    | with_reducible intro _
    | split)

theorem Dev.faultOut_canon (d : Dev) (n b lvl : Nat) (k : AccKind) (c r va : Nat) : (d.faultOut n b lvl k c r va).Ok := by
  unfold Dev.faultOut
  repeat' (first | with_reducible assumption | with_reducible intro _ | (exact trivial) | split)

theorem Dev.reach_canon (d : Dev) (n b lvl : Nat) (k : AccKind) (form : Bool) (va size : Nat) : ExOk (d.reach n b lvl k form va size) := by
  unfold Dev.reach
  split
  case h_3 => exact Dev.faultOut_canon _ _ _ _ _ _ _ _
  all_goals trivial

theorem Dev.unreadable_canon (d : Dev) (va : Nat) (hs : List (Nat × Nat))  : OutOk (Dev.unreadable d va hs) := by
  unfold Dev.unreadable
  repeat' (first | with_reducible assumption | with_reducible intro _ | (exact trivial) | split)

theorem Dev.loadOut_canon (d : Dev) (n : Nat) (b : Nat) (va : Nat) (size : Nat) (form : Bool) (t : Dest) (lat : Nat) (mk : List Byte → Nat) (more : List Eff) (hk : d.Canon) : (Dev.loadOut d n b va size form t lat mk more).Ok := by
  unfold Dev.loadOut
  (try dsimp only)
  repeat' (first
    | with_reducible assumption
    | with_reducible apply Dev.reach_canon
    | with_reducible apply Dev.unreadable_canon
    | with_reducible intro _
    | (exact trivial)
    | split
    | simp only [canon_mk, canon_fold]
    | (with_reducible apply SylOut.begin_ok)
    | (with_reducible apply firstOut_nil_ok)
    | (with_reducible apply firstOut_cons_ok)
    | (with_reducible refine OutOk.of_eq (by with_reducible assumption) ?_)
    | (with_reducible refine ExOk.of_eq (by with_reducible assumption) ?_))

theorem Dev.sbHold_canon (d : Dev) (n : Nat) (hk : d.Canon) : (Dev.sbHold d n).Ok := by
  unfold Dev.sbHold
  repeat' (first | with_reducible assumption | with_reducible intro _ | (exact trivial))

theorem Dev.storeOut_canon (d : Dev) (n : Nat) (b : Nat) (va : Nat) (form : Bool) (bs : List Byte) (more : List Eff) (hk : d.Canon) : (Dev.storeOut d n b va form bs more).Ok := by
  unfold Dev.storeOut
  repeat' (first
    | with_reducible assumption
    | with_reducible apply Dev.reach_canon
    | with_reducible apply Dev.sbHold_canon
    | with_reducible intro _
    | (exact trivial)
    | split
    | simp only [canon_mk, canon_fold]
    | (with_reducible apply SylOut.begin_ok)
    | (with_reducible apply firstOut_nil_ok)
    | (with_reducible apply firstOut_cons_ok)
    | (with_reducible refine OutOk.of_eq (by with_reducible assumption) ?_)
    | (with_reducible refine ExOk.of_eq (by with_reducible assumption) ?_))

theorem Bay.needAdvance_canon (x : Bay)  : OutOk (Bay.needAdvance x) := by
  unfold Bay.needAdvance
  repeat' (first | with_reducible assumption | with_reducible intro _ | (exact trivial) | split)

theorem Bay.needRetreat_canon (x : Bay)  : OutOk (Bay.needRetreat x) := by
  unfold Bay.needRetreat
  repeat' (first | with_reducible assumption | with_reducible intro _ | (exact trivial) | split)

theorem Bay.pushTrap_canon (x : Bay)  : OutOk (Bay.pushTrap x) := by
  unfold Bay.pushTrap
  repeat' (first | with_reducible assumption | with_reducible intro _ | (exact trivial) | split)

theorem Bay.popTrap_canon (x : Bay)  : OutOk (Bay.popTrap x) := by
  unfold Bay.popTrap
  repeat' (first | with_reducible assumption | with_reducible intro _ | (exact trivial) | split)

theorem Bay.below_canon (x : Bay) (l : Nat)  : OutOk (Bay.below x l) := by
  unfold Bay.below
  repeat' (first | with_reducible assumption | with_reducible intro _ | (exact trivial) | split)

theorem Dev.fillBlock_canon (d : Dev) (n : Nat) (blk : Nat) (need : List Nat) (hk : d.Canon) : (Dev.fillBlock d n blk need).Canon := by
  unfold Dev.fillBlock
  repeat' (first | with_reducible assumption | with_reducible apply Dev.modCore_canon)

theorem Dev.fetchWords_fst_canon (n b : Nat) (pc : Word) (k i : Nat) (ws need : List Nat) (m : Option Bool) (d : Dev) (h : d.Canon) : (Dev.fetchWords n b pc k i ws need m d).1.Canon := by
  induction k generalizing i ws need m d with
  | zero => exact h
  | succ k ih =>
    unfold Dev.fetchWords
    dsimp only
    repeat' (first
    | with_reducible assumption
    | with_reducible apply Dev.recordBadData_canon
    | with_reducible apply Dev.fillBlock_canon
    | with_reducible apply ih
    | with_reducible intro _
    | split)

theorem Dev.openWords_canon (d : Dev) (n : Nat) (b : Nat) (ws : List Nat) (hk : d.Canon) : (Dev.openWords d n b ws).Canon := by
  unfold Dev.openWords
  (try dsimp only)
  repeat' (first | with_reducible assumption | with_reducible apply Dev.refuseBundle_canon | with_reducible apply Dev.openBundle_canon | with_reducible intro _ | split)

theorem Dev.fetchBundle_canon (d : Dev) (n b : Nat) (h : d.Canon) : (d.fetchBundle n b).Canon := by
  have h1 := Dev.fetchWords_fst_canon n b (d.bay n b).pc 8 0 [] [] none d h
  unfold Dev.fetchBundle
  dsimp only
  split
  all_goals
    rename_i hx
    rw [hx] at h1
    dsimp only at h1
  repeat' (first
    | with_reducible assumption
    | with_reducible apply Dev.setBay_canon
    | with_reducible apply Dev.modBay_canon
    | with_reducible apply Dev.tickFree_canon
    | with_reducible apply Dev.openWords_canon)

theorem Dev.registerCheck_canon (d : Dev) (n b : Nat) (hk : d.Canon) : (Dev.registerCheck d n b).Canon := by
  unfold Dev.registerCheck
  (try dsimp only)
  repeat' (first | with_reducible assumption | with_reducible apply Dev.setBay_canon | with_reducible apply Dev.tickFree_canon | with_reducible apply Dev.record_canon | with_reducible intro _ | split | simp only [canon_mk, canon_fold])

theorem Dev.bundleFetch_canon (d : Dev) (n : Nat) (chk : Bool) (hk : d.Canon) : (Dev.bundleFetch d n chk).Canon := by
  unfold Dev.bundleFetch
  (try dsimp only)
  repeat' (first | with_reducible assumption | with_reducible apply Dev.fetchBundle_canon | with_reducible apply Dev.registerCheck_canon | with_reducible intro _ | split )

theorem Dev.alu_canon (d : Dev) (y : Syl) (r : Reg) (v : Word) (hk : d.Canon) : (Dev.alu d y r v).Ok := by
  unfold Dev.alu
  repeat' (first | with_reducible assumption | with_reducible intro _ | (exact trivial))

theorem Dev.aluV_canon (d : Dev) (y : Syl) (r : Reg) (v : Word) (ov : Bool) (hk : d.Canon) : (Dev.aluV d y r v ov).Ok := by
  unfold Dev.aluV
  repeat' (first | with_reducible assumption | with_reducible intro _ | (exact trivial))

theorem Dev.predOp_canon (d : Dev) (y : Syl) (q : Pred) (v : Bool) (hk : d.Canon) : (Dev.predOp d y q v).Ok := by
  unfold Dev.predOp
  repeat' (first | with_reducible assumption | with_reducible intro _ | (exact trivial))

theorem Dev.compareOut_canon (d : Dev) (y : Syl) (qt : Pred) (mode : BitVec 2) (c : Bool) (hk : d.Canon) : (Dev.compareOut d y qt mode c).Ok := by
  unfold Dev.compareOut
  repeat' (first | with_reducible assumption | with_reducible intro _ | (exact trivial) | split)

theorem Dev.movsOut_canon (d : Dev) (y : Syl) (r : Reg) (code : Nat) (hk : d.Canon) : (Dev.movsOut d y r code).Ok := by
  unfold Dev.movsOut
  (try dsimp only)
  repeat' (first
    | with_reducible assumption
    | with_reducible apply Bay.pushTrap_canon
    | with_reducible intro _
    | (exact trivial)
    | split
    | simp only [canon_mk, canon_fold]
    | (with_reducible apply SylOut.begin_ok)
    | (with_reducible apply firstOut_nil_ok)
    | (with_reducible apply firstOut_cons_ok))

theorem Dev.movfOut_canon (d : Dev) (y : Syl) (r : Reg) (code : Nat) (hk : d.Canon) : (Dev.movfOut d y r code).Ok := by
  unfold Dev.movfOut
  (try dsimp only)
  repeat' (first
    | with_reducible assumption
    | with_reducible apply Bay.popTrap_canon
    | with_reducible intro _
    | (exact trivial)
    | split
    | simp only [canon_mk, canon_fold]
    | (with_reducible apply SylOut.begin_ok)
    | (with_reducible apply firstOut_nil_ok)
    | (with_reducible apply firstOut_cons_ok))

theorem Dev.divOut_canon (d : Dev) (y : Syl) (r : Reg) (signed : Bool) (quotient : Bool) (a : Word) (b : Word) (hk : d.Canon) : (Dev.divOut d y r signed quotient a b).Ok := by
  unfold Dev.divOut
  (try dsimp only)
  repeat' (first | with_reducible assumption | with_reducible intro _ | (exact trivial) | split)

theorem Dev.intLoad_canon (d : Dev) (y : Syl) (r : Reg) (a : Reg) (am : BitVec 2) (low : BitVec 8) (p : Option Limm) (size : Nat) (mk : Nat → Word) (hk : d.Canon) : (Dev.intLoad d y r a am low p size mk).Ok := by
  unfold Dev.intLoad
  repeat' (first | with_reducible assumption | with_reducible apply Dev.loadOut_canon)

theorem Dev.intStore_canon (d : Dev) (y : Syl) (r : Reg) (a : Reg) (am : BitVec 2) (low : BitVec 8) (p : Option Limm) (size : Nat) (hk : d.Canon) : (Dev.intStore d y r a am low p size).Ok := by
  unfold Dev.intStore
  repeat' (first | with_reducible assumption | with_reducible apply Dev.storeOut_canon)

theorem Dev.atomicOut_canon (d : Dev) (y : Syl) (op : Nat) (r : Reg) (a : Reg) (b : Reg) (hk : d.Canon) : (Dev.atomicOut d y op r a b).Ok := by
  unfold Dev.atomicOut
  (try dsimp only)
  repeat' (first
    | with_reducible assumption
    | with_reducible apply Dev.reach_canon
    | with_reducible apply Dev.unreadable_canon
    | with_reducible apply Dev.sbHold_canon
    | with_reducible intro _
    | (exact trivial)
    | split
    | simp only [canon_mk, canon_fold]
    | (with_reducible apply SylOut.begin_ok)
    | (with_reducible apply firstOut_nil_ok)
    | (with_reducible apply firstOut_cons_ok)
    | (with_reducible refine OutOk.of_eq (by with_reducible assumption) ?_)
    | (with_reducible refine ExOk.of_eq (by with_reducible assumption) ?_))

theorem Dev.callOut_canon (d : Dev) (y : Syl) (t : Word) (hk : d.Canon) : (Dev.callOut d y t).Ok := by
  unfold Dev.callOut
  repeat' (first
    | with_reducible assumption
    | with_reducible apply Bay.pushTrap_canon
    | with_reducible intro _
    | (exact trivial)
    | split
    | simp only [canon_mk, canon_fold]
    | (with_reducible apply SylOut.begin_ok)
    | (with_reducible apply firstOut_nil_ok)
    | (with_reducible apply firstOut_cons_ok))

theorem Dev.callWOut_canon (d : Dev) (y : Syl) (t : Word) (hk : d.Canon) : (Dev.callWOut d y t).Ok := by
  unfold Dev.callWOut
  repeat' (first
    | with_reducible assumption
    | with_reducible apply Bay.needAdvance_canon
    | with_reducible apply Bay.pushTrap_canon
    | with_reducible intro _
    | (exact trivial)
    | split
    | simp only [canon_mk, canon_fold]
    | (with_reducible apply SylOut.begin_ok)
    | (with_reducible apply firstOut_nil_ok)
    | (with_reducible apply firstOut_cons_ok))

theorem Dev.ctlBelow_canon (d : Dev) (y : Syl) (l : Nat)  : OutOk (Dev.ctlBelow d y l) := by
  unfold Dev.ctlBelow
  repeat' (first | with_reducible assumption | with_reducible intro _ | (exact trivial) | split)

theorem refusedIf_canon (c : Bool) (reason : Nat) (v : Word)  : OutOk (refusedIf c reason v) := by
  unfold refusedIf
  repeat' (first | with_reducible assumption | with_reducible intro _ | (exact trivial) | split)

theorem Dev.keyUnreadable_canon (d : Dev) (a : Nat)  : OutOk (Dev.keyUnreadable d a) := by
  unfold Dev.keyUnreadable
  repeat' (first | with_reducible assumption | with_reducible apply Dev.unreadable_canon)

theorem Dev.kpvOut_canon (d : Dev) (y : Syl) (v : Word) (hk : d.Canon) : (Dev.kpvOut d y v).Ok := by
  unfold Dev.kpvOut
  (try dsimp only)
  repeat' (first
    | with_reducible assumption
    | with_reducible apply Dev.keyUnreadable_canon
    | with_reducible apply Dev.act_canon
    | with_reducible intro _
    | (exact trivial)
    | split
    | simp only [canon_mk, canon_fold]
    | (with_reducible apply SylOut.begin_ok)
    | (with_reducible apply firstOut_nil_ok)
    | (with_reducible apply firstOut_cons_ok))

theorem Dev.kpvRead_canon (d : Dev) (y : Syl) (r : Reg) (hk : d.Canon) : (Dev.kpvRead d y r).Ok := by
  unfold Dev.kpvRead
  repeat' (first
    | with_reducible assumption
    | with_reducible apply Dev.keyUnreadable_canon
    | with_reducible intro _
    | (exact trivial)
    | split
    | simp only [canon_mk, canon_fold]
    | (with_reducible apply SylOut.begin_ok)
    | (with_reducible apply firstOut_nil_ok)
    | (with_reducible apply firstOut_cons_ok))

theorem Dev.tlockOut_canon (d : Dev) (y : Syl) (v : Word) (fab : Bool) (hk : d.Canon) : (Dev.tlockOut d y v fab).Ok := by
  unfold Dev.tlockOut
  (try dsimp only)
  repeat' (first | with_reducible assumption | with_reducible apply Dev.act_canon | with_reducible apply Dev.tlock_canon | with_reducible intro _ | (exact trivial) | split)

theorem Dev.tsbpOut_canon (d : Dev) (y : Syl) (v : Word) (hk : d.Canon) : (Dev.tsbpOut d y v).Ok := by
  unfold Dev.tsbpOut
  repeat' (first
    | with_reducible assumption
    | with_reducible apply Dev.ctlBelow_canon
    | with_reducible apply refusedIf_canon
    | with_reducible intro _
    | (exact trivial)
    | split
    | simp only [canon_mk, canon_fold]
    | (with_reducible apply SylOut.begin_ok)
    | (with_reducible apply firstOut_nil_ok)
    | (with_reducible apply firstOut_cons_ok))

theorem Dev.astbOut_canon (d : Dev) (y : Syl) (v : Word) (hk : d.Canon) : (Dev.astbOut d y v).Ok := by
  unfold Dev.astbOut
  repeat' (first
    | with_reducible assumption
    | with_reducible apply Dev.ctlBelow_canon
    | with_reducible apply refusedIf_canon
    | with_reducible intro _
    | (exact trivial)
    | split
    | simp only [canon_mk, canon_fold]
    | (with_reducible apply SylOut.begin_ok)
    | (with_reducible apply firstOut_nil_ok)
    | (with_reducible apply firstOut_cons_ok))

theorem Dev.etimeOut_canon (d : Dev) (y : Syl) (r : Reg) (hk : d.Canon) : (Dev.etimeOut d y r).Ok := by
  unfold Dev.etimeOut
  repeat' (first | with_reducible assumption | with_reducible apply Dev.act_canon | with_reducible intro _ | (exact trivial))

theorem Dev.mfcOut_canon (d : Dev) (y : Syl) (r : Reg) (c : Nat) (hk : d.Canon) : (Dev.mfcOut d y r c).Ok := by
  unfold Dev.mfcOut
  repeat' (first
    | with_reducible assumption
    | with_reducible apply Dev.etimeOut_canon
    | with_reducible apply Dev.ctlBelow_canon
    | with_reducible apply Dev.kpvRead_canon
    | with_reducible intro _
    | (exact trivial)
    | split
    | simp only [canon_mk, canon_fold]
    | (with_reducible apply SylOut.begin_ok)
    | (with_reducible apply firstOut_nil_ok)
    | (with_reducible apply firstOut_cons_ok))

theorem Dev.mtcOut_canon (d : Dev) (y : Syl) (r : Reg) (c : Nat) (hk : d.Canon) : (Dev.mtcOut d y r c).Ok := by
  unfold Dev.mtcOut
  repeat' (first
    | with_reducible assumption
    | with_reducible apply Dev.tsbpOut_canon
    | with_reducible apply Dev.astbOut_canon
    | with_reducible apply Dev.tlockOut_canon
    | with_reducible apply Dev.kpvOut_canon
    | with_reducible intro _
    | (exact trivial)
    | split)

theorem Dev.decOut_canon (d : Dev) (y : Syl) (t : Dest) (v : Nat) (lat : Nat) (f : DFlags) (more : List Eff) (hk : d.Canon) : (Dev.decOut d y t v lat f more).Ok := by
  unfold Dev.decOut
  repeat' (first | with_reducible assumption | with_reducible intro _ | (exact trivial) | split)

theorem Dev.decR_canon (d : Dev) (y : Syl) (r : DReg) (lat : Nat) (o : DOut) (hk : d.Canon) : (Dev.decR d y r lat o).Ok := by
  unfold Dev.decR
  repeat' (first | with_reducible assumption | with_reducible apply Dev.decOut_canon)

theorem Dev.checked_canon (d : Dev) (y : Syl) (t : Dest) (lat : Nat) (err : Option Nat) (subst : Nat) (v : Nat) (f : DFlags) (hk : d.Canon) : (Dev.checked d y t lat err subst v f).Ok := by
  unfold Dev.checked
  repeat' (first | with_reducible assumption | with_reducible apply Dev.decOut_canon | with_reducible intro _ | (exact trivial) | split)

theorem Dev.packed1_canon (d : Dev) (y : Syl) (r : DReg) (lat : Nat) (a : QWord) (subst : QWord) (o : DOut) (hk : d.Canon) : (Dev.packed1 d y r lat a subst o).Ok := by
  unfold Dev.packed1
  repeat' (first | with_reducible assumption | with_reducible apply Dev.checked_canon)

theorem Dev.packed2_canon (d : Dev) (y : Syl) (r : DReg) (lat : Nat) (a : QWord) (b : QWord) (o : DOut) (hk : d.Canon) : (Dev.packed2 d y r lat a b o).Ok := by
  unfold Dev.packed2
  repeat' (first | with_reducible assumption | with_reducible apply Dev.checked_canon)

theorem Dev.decLoad_canon (d : Dev) (y : Syl) (r : DReg) (va : Word) (size : Nat) (mk : List Byte → Nat) (hk : d.Canon) : (Dev.decLoad d y r va size mk).Ok := by
  unfold Dev.decLoad
  repeat' (first | with_reducible assumption | with_reducible apply Dev.loadOut_canon)

theorem Dev.decStore_canon (d : Dev) (y : Syl) (r : DReg) (va : Word) (size : Nat) (hk : d.Canon) : (Dev.decStore d y r va size).Ok := by
  unfold Dev.decStore
  repeat' (first | with_reducible assumption | with_reducible apply Dev.storeOut_canon)

theorem Dev.stpSyl_canon (d : Dev) (y : Syl) (r : DReg) (va : Word) (l : Nat) (hk : d.Canon) : (Dev.stpSyl d y r va l).Ok := by
  unfold Dev.stpSyl
  (try dsimp only)
  repeat' (first | with_reducible assumption | with_reducible apply Dev.storeOut_canon | with_reducible intro _ | (exact trivial) | split)

theorem Dev.stzSyl_canon (d : Dev) (y : Syl) (r : DReg) (va : Word) (n : Nat) (hk : d.Canon) : (Dev.stzSyl d y r va n).Ok := by
  unfold Dev.stzSyl
  (try dsimp only)
  repeat' (first | with_reducible assumption | with_reducible apply Dev.storeOut_canon | with_reducible intro _ | (exact trivial) | split)

theorem Dev.ldzSyl_canon (d : Dev) (y : Syl) (r : DReg) (va : Word) (n : Nat) (hk : d.Canon) : (Dev.ldzSyl d y r va n).Ok := by
  unfold Dev.ldzSyl
  (try dsimp only)
  repeat' (first
    | with_reducible assumption
    | with_reducible apply Dev.reach_canon
    | with_reducible apply Dev.unreadable_canon
    | with_reducible intro _
    | (exact trivial)
    | split
    | simp only [canon_mk, canon_fold]
    | (with_reducible apply SylOut.begin_ok)
    | (with_reducible apply firstOut_nil_ok)
    | (with_reducible apply firstOut_cons_ok)
    | (with_reducible refine OutOk.of_eq (by with_reducible assumption) ?_)
    | (with_reducible refine ExOk.of_eq (by with_reducible assumption) ?_))

theorem Dev.progStopped_canon (d : Dev) (n b : Nat) (o : SylOut) (h : d.Canon) : (d.progStopped n b o).Canon := by
  unfold Dev.progStopped
  split
  · exact Dev.modBay_canon _ _ _ _ h
  · split
    · exact Dev.modBay_canon _ _ _ _ (Dev.excFor_canon (by assumption) h)
    · exact h

theorem Dev.progMiss_canon (d : Dev) (n : Nat) (b : Nat) (m : Option Bool) (hk : d.Canon) : (Dev.progMiss d n b m).Canon := by
  unfold Dev.progMiss
  repeat' (first | with_reducible assumption | with_reducible apply Dev.apply_canon | with_reducible apply Dev.tickFree_canon | with_reducible intro _ | split)

theorem Dev.fieldIn_canon (d : Dev) (n : Nat) (b : Nat) (va : Nat) (size : Nat)  : ExOk (Dev.fieldIn d n b va size) := by
  unfold Dev.fieldIn
  (try dsimp only)
  repeat' (first
    | with_reducible assumption
    | with_reducible apply Dev.reach_canon
    | with_reducible apply Dev.unreadable_canon
    | with_reducible intro _
    | (exact trivial)
    | split
    | simp only [canon_mk, canon_fold]
    | (with_reducible apply SylOut.begin_ok)
    | (with_reducible apply firstOut_nil_ok)
    | (with_reducible apply firstOut_cons_ok)
    | (with_reducible refine OutOk.of_eq (by with_reducible assumption) ?_)
    | (with_reducible refine ExOk.of_eq (by with_reducible assumption) ?_)
    | (with_reducible apply ByteOk.next)
    | (with_reducible apply ExOk.error))

theorem Dev.fieldOut_canon (d : Dev) (n : Nat) (b : Nat) (va : Nat) (size : Nat)  : ExOk (Dev.fieldOut d n b va size) := by
  unfold Dev.fieldOut
  repeat' (first
    | with_reducible assumption
    | with_reducible apply Dev.reach_canon
    | with_reducible apply Dev.sbHold_canon
    | with_reducible intro _
    | (exact trivial)
    | split
    | simp only [canon_mk, canon_fold]
    | (with_reducible apply SylOut.begin_ok)
    | (with_reducible apply firstOut_nil_ok)
    | (with_reducible apply firstOut_cons_ok)
    | (with_reducible refine OutOk.of_eq (by with_reducible assumption) ?_)
    | (with_reducible refine ExOk.of_eq (by with_reducible assumption) ?_)
    | (with_reducible apply ByteOk.next)
    | (with_reducible apply ExOk.error))

theorem Dev.emit_canon (d : Dev) (n : Nat) (b : Nat) (hs : List (Nat × Nat)) (bs : List Byte) (hk : d.Canon) : (Dev.emit d n b hs bs).Canon := by
  unfold Dev.emit
  repeat' (first | with_reducible assumption | with_reducible apply Dev.apply_canon | with_reducible apply foldl_canon | with_reducible intro _)

theorem Dev.streamOut_canon (d : Dev) (y : Syl) (k : ProgKind) (dk : DReg) (a : Reg) (b : Reg) (c : Reg) (hk : d.Canon) : (Dev.streamOut d y k dk a b c).Ok := by
  unfold Dev.streamOut
  repeat' (first
    | with_reducible assumption
    | with_reducible apply Dev.modBay_canon
    | with_reducible intro _
    | (exact trivial)
    | split
    | simp only [canon_mk, canon_fold]
    | (with_reducible apply SylOut.begin_ok))

theorem Dev.elementRun_canon (d : Dev) (n : Nat) (b : Nat) (p : Prog) (x : Nat) (z : Nat) (hs : List (Nat × Nat)) (m : Option Bool) (hk : d.Canon) : (Dev.elementRun d n b p x z hs m).Canon := by
  unfold Dev.elementRun
  (try dsimp only)
  repeat' (first
    | with_reducible assumption
    | with_reducible apply DmaMove.element_canon
    | with_reducible apply Dev.progStopped_canon
    | with_reducible apply Dev.emit_canon
    | with_reducible apply Dev.setBay_canon
    | with_reducible apply Dev.modBay_canon
    | with_reducible apply Dev.sylDone_canon
    | with_reducible apply Dev.progMiss_canon
    | with_reducible intro _
    | split)

theorem Dev.streamElement_canon (d : Dev) (n : Nat) (b : Nat) (hk : d.Canon) : (Dev.streamElement d n b).Canon := by
  unfold Dev.streamElement
  (try dsimp only)
  repeat' (first
    | with_reducible assumption
    | with_reducible apply Dev.fieldIn_canon
    | with_reducible apply Dev.progStopped_canon
    | with_reducible apply Dev.fieldOut_canon
    | with_reducible apply Dev.elementRun_canon
    | with_reducible intro _
    | split)

theorem Dev.byteOut_canon {d : Dev} {n b va : Nat} {v : Byte} {first : Bool} {e : Dev} (hx : d.byteOut n b va v first = .ok e) (h : d.Canon) : e.Canon := by
  unfold Dev.byteOut at hx
  split at hx
  · exact absurd hx (by simp)
  · split at hx
    · exact absurd hx (by simp)
    · simp only [Except.ok.injEq] at hx
      subst hx
      exact Dev.modCore_canon _ _ _ h

theorem Dev.spStep_canon (d : Dev) (n : Nat) (b : Nat) (src : Bool) (dst : Bool) (hk : d.Canon) : (Dev.spStep d n b src dst).Canon := by
  unfold Dev.spStep
  repeat' (first | with_reducible assumption | with_reducible apply Dev.modBay_canon)

theorem Dev.byteIn_canon (d : Dev) (n : Nat) (b : Nat) (va : Nat)  : ExOk (Dev.byteIn d n b va) := by
  unfold Dev.byteIn
  repeat' (first | with_reducible assumption | with_reducible apply Dev.fieldIn_canon | with_reducible apply ExOk.map)

theorem Dev.mvsByte_canon (d : Dev) (n : Nat) (b : Nat) (q : Desc) (first : Bool) (hk : d.Canon) : ByteOk (Dev.mvsByte d n b q first) := by
  unfold Dev.mvsByte
  (try dsimp only)
  repeat' (first
    | with_reducible assumption
    | with_reducible apply Dev.byteIn_canon
    | (with_reducible refine Dev.byteOut_canon (by with_reducible assumption) ?_)
    | with_reducible apply Dev.spStep_canon
    | with_reducible intro _
    | (exact trivial)
    | split
    | simp only [canon_mk, canon_fold]
    | (with_reducible apply SylOut.begin_ok)
    | (with_reducible apply firstOut_nil_ok)
    | (with_reducible apply firstOut_cons_ok)
    | (with_reducible refine OutOk.of_eq (by with_reducible assumption) ?_)
    | (with_reducible refine ExOk.of_eq (by with_reducible assumption) ?_)
    | (with_reducible apply ByteOk.next))

theorem Dev.trsByte_canon (d : Dev) (n : Nat) (b : Nat) (q : Desc) (first : Bool) (hk : d.Canon) : ByteOk (Dev.trsByte d n b q first) := by
  unfold Dev.trsByte
  (try dsimp only)
  repeat' (first
    | with_reducible assumption
    | with_reducible apply Dev.byteIn_canon
    | (with_reducible refine Dev.byteOut_canon (by with_reducible assumption) ?_)
    | with_reducible apply Dev.spStep_canon
    | with_reducible intro _
    | (exact trivial)
    | split
    | simp only [canon_mk, canon_fold]
    | (with_reducible apply SylOut.begin_ok)
    | (with_reducible apply firstOut_nil_ok)
    | (with_reducible apply firstOut_cons_ok)
    | (with_reducible refine OutOk.of_eq (by with_reducible assumption) ?_)
    | (with_reducible refine ExOk.of_eq (by with_reducible assumption) ?_)
    | (with_reducible apply ByteOk.next))

theorem Dev.cmsByte_canon (d : Dev) (n : Nat) (b : Nat) (q : Desc) (hk : d.Canon) : ByteOk (Dev.cmsByte d n b q) := by
  unfold Dev.cmsByte
  (try dsimp only)
  repeat' (first
    | with_reducible assumption
    | with_reducible apply Dev.byteIn_canon
    | with_reducible apply Dev.spStep_canon
    | with_reducible intro _
    | (exact trivial)
    | split
    | simp only [canon_mk, canon_fold]
    | (with_reducible apply SylOut.begin_ok)
    | (with_reducible apply firstOut_nil_ok)
    | (with_reducible apply firstOut_cons_ok)
    | (with_reducible refine OutOk.of_eq (by with_reducible assumption) ?_)
    | (with_reducible refine ExOk.of_eq (by with_reducible assumption) ?_)
    | (with_reducible apply ByteOk.next))

theorem Dev.scnByte_canon (d : Dev) (n : Nat) (b : Nat) (p : Prog) (hk : d.Canon) : ByteOk (Dev.scnByte d n b p) := by
  unfold Dev.scnByte
  (try dsimp only)
  repeat' (first
    | with_reducible assumption
    | with_reducible apply Dev.byteIn_canon
    | with_reducible apply Dev.spStep_canon
    | with_reducible intro _
    | (exact trivial)
    | split
    | simp only [canon_mk, canon_fold]
    | (with_reducible apply SylOut.begin_ok)
    | (with_reducible apply firstOut_nil_ok)
    | (with_reducible apply firstOut_cons_ok)
    | (with_reducible refine OutOk.of_eq (by with_reducible assumption) ?_)
    | (with_reducible refine ExOk.of_eq (by with_reducible assumption) ?_)
    | (with_reducible apply ByteOk.next))

theorem Dev.strByte_canon (d : Dev) (n : Nat) (b : Nat) (p : Prog) (first : Bool) (hk : d.Canon) : ByteOk (Dev.strByte d n b p first) := by
  unfold Dev.strByte
  repeat' (first
    | with_reducible assumption
    | with_reducible apply Dev.mvsByte_canon
    | with_reducible apply Dev.trsByte_canon
    | with_reducible apply Dev.cmsByte_canon
    | with_reducible apply Dev.scnByte_canon
    | with_reducible intro _
    | (exact trivial)
    | split)

theorem Dev.progDone_canon (d : Dev) (n : Nat) (b : Nat) (state : Nat) (effs : List Eff) (hk : d.Canon) : (Dev.progDone d n b state effs).Canon := by
  unfold Dev.progDone
  repeat' (first | with_reducible assumption | with_reducible apply Dev.modBay_canon | with_reducible apply Dev.sylDone_canon)

theorem Dev.strDone_canon (d : Dev) (n : Nat) (b : Nat) (p : Prog) (v : Nat) (q : Bool) (r : Bool) (t : Nat) (hk : d.Canon) : (Dev.strDone d n b p v q r t).Canon := by
  unfold Dev.strDone
  (try dsimp only)
  repeat' (first | with_reducible assumption | with_reducible apply Dev.progDone_canon)

theorem Dev.strEnd_canon (d : Dev) (n : Nat) (b : Nat) (p : Prog) (hk : d.Canon) : (Dev.strEnd d n b p).Canon := by
  unfold Dev.strEnd
  repeat' (first | with_reducible assumption | with_reducible apply Dev.strDone_canon | with_reducible intro _ | split)

theorem Dev.midChunk_canon (d : Dev) (n b left : Nat) (o : SylOut) (hk : d.Canon) : (Dev.midChunk d n b left o).Canon := by
  unfold Dev.midChunk
  repeat' (first | with_reducible assumption | with_reducible apply Dev.modBay_canon | split)

theorem Dev.strLoop_canon (n b : Nat) (p : Prog) (k : Nat) (first : Bool) (m : Option Bool) (d : Dev) (h : d.Canon) : (Dev.strLoop n b p k first m d).Canon := by
  induction k generalizing first m d with
  | zero =>
    unfold Dev.strLoop
    repeat' (first | with_reducible assumption | with_reducible apply Dev.progMiss_canon | with_reducible apply Dev.strEnd_canon | with_reducible intro _ | split)
  | succ k ih =>
    unfold Dev.strLoop
    split
    · exact Dev.progMiss_canon _ _ _ _ (Dev.strEnd_canon _ _ _ _ h)
    · split
      · exact ih _ _ _ (ByteOk.of_eq (by assumption) (Dev.strByte_canon _ _ _ _ _ h))
      · exact Dev.progMiss_canon _ _ _ _ (Dev.strDone_canon _ _ _ _ _ _ _ _ h)
      · refine Dev.progMiss_canon _ _ _ _ (Dev.progStopped_canon _ _ _ _ ?_)
        split
        · exact h
        · exact Dev.midChunk_canon _ _ _ _ _ h

theorem Dev.microError_canon (d : Dev) (n : Nat) (b : Nat) (hk : d.Canon) : (Dev.microError d n b).Canon := by
  unfold Dev.microError
  repeat' (first | with_reducible assumption | with_reducible apply Dev.progStopped_canon | with_reducible apply Dev.record_canon)

theorem Dev.sequencerTo_canon (d : Dev) (n b : Nat) (a : Option Nat) (hk : d.Canon) : (d.sequencerTo n b a).Canon := by
  unfold Dev.sequencerTo
  repeat' (first | with_reducible assumption | with_reducible apply Dev.modBay_canon | split)

theorem Dev.microRun_canon (d : Dev) (n b : Nat) (p : Prog) (f : Dev → Dev) (hf : ∀ e, e.Canon → (f e).Canon) (hk : d.Canon) : (Dev.microRun d n b p f).Canon := by
  unfold Dev.microRun
  repeat' (first | with_reducible assumption | with_reducible apply Dev.microError_canon | with_reducible apply Dev.sequencerTo_canon | with_reducible apply hf | split)

theorem Dev.stringSetup_canon (d : Dev) (y : Syl) (k : ProgKind) (rd : Reg) (ra : Reg) (qt : Pred) (hk : d.Canon) : (Dev.stringSetup d y k rd ra qt).Ok := by
  unfold Dev.stringSetup
  (try dsimp only)
  repeat' (first
    | with_reducible assumption
    | with_reducible apply Dev.fieldIn_canon
    | with_reducible apply Dev.microRun_canon
    | with_reducible apply Dev.modBay_canon
    | with_reducible apply Dev.strEnd_canon
    | with_reducible apply Dev.progMiss_canon
    | with_reducible intro _
    | (exact trivial)
    | split
    | simp only [canon_mk, canon_fold]
    | (with_reducible apply SylOut.begin_ok)
    | (with_reducible apply firstOut_nil_ok)
    | (with_reducible apply firstOut_cons_ok)
    | (with_reducible refine OutOk.of_eq (by with_reducible assumption) ?_)
    | (with_reducible refine ExOk.of_eq (by with_reducible assumption) ?_))

theorem Dev.stringStep_canon (d : Dev) (n : Nat) (b : Nat) (chk : Bool) (hk : d.Canon) : (Dev.stringStep d n b chk).Canon := by
  unfold Dev.stringStep
  repeat' (first
    | with_reducible assumption
    | with_reducible apply Dev.microError_canon
    | with_reducible apply Dev.claim_canon
    | with_reducible apply Dev.microRun_canon
    | with_reducible apply Dev.progMiss_canon
    | with_reducible apply Dev.modBay_canon
    | with_reducible apply Dev.strLoop_canon
    | with_reducible intro _
    | split)

theorem Dev.prescanRead_canon (d : Dev) (n b k va : Nat) : ExOk (Dev.prescanRead d n b k va) := by
  induction k generalizing va with
  | zero => trivial
  | succ k ih =>
    unfold Dev.prescanRead
    repeat' (first
    | with_reducible assumption
    | with_reducible apply Dev.byteIn_canon
    | with_reducible apply ih
    | with_reducible intro _
    | (exact trivial)
    | split
    | simp only [canon_mk, canon_fold]
    | (with_reducible apply SylOut.begin_ok)
    | (with_reducible apply firstOut_nil_ok)
    | (with_reducible apply firstOut_cons_ok)
    | (with_reducible refine OutOk.of_eq (by with_reducible assumption) ?_)
    | (with_reducible refine ExOk.of_eq (by with_reducible assumption) ?_)
    | (with_reducible apply ByteOk.next)
    | (with_reducible apply ExOk.error))

theorem Dev.editDone_canon (d : Dev) (n : Nat) (b : Nat) (p : Prog) (hk : d.Canon) : (Dev.editDone d n b p).Canon := by
  unfold Dev.editDone
  (try dsimp only)
  repeat' (first | with_reducible assumption | with_reducible apply Dev.progDone_canon)

theorem Dev.editApply_canon (d : Dev) (n b : Nat) (p : Prog) (o : EditOut) (m : Option Bool) (h : d.Canon) : (d.editApply n b p o m).Canon := by
  unfold Dev.editApply
  dsimp only
  split
  · exact Dev.progStopped_canon _ _ _ _ h
  · rename_i d1 hx
    have h1 : d1.Canon := by
      split at hx
      · exact Dev.byteOut_canon hx h
      · simp only [Except.ok.injEq] at hx
        exact hx ▸ h
    repeat' (first
    | with_reducible assumption
    | with_reducible apply Dev.progMiss_canon
    | with_reducible apply Dev.editDone_canon
    | with_reducible apply Dev.modBay_canon
    | with_reducible intro _
    | split)

theorem Dev.editInvalid_canon (d : Dev) (n : Nat) (b : Nat) (p : Prog) (reason : Nat) (o : EditOut) (m : Option Bool) (hk : d.Canon) : (Dev.editInvalid d n b p reason o m).Canon := by
  unfold Dev.editInvalid
  (try dsimp only)
  repeat' (first | with_reducible assumption | with_reducible apply Dev.progStopped_canon | with_reducible apply Dev.editApply_canon | with_reducible intro _ | split)

theorem Dev.editRun_canon (d : Dev) (n : Nat) (b : Nat) (p : Prog) (kind : Nat) (len : Nat) (m : Option Bool) (hk : d.Canon) : (Dev.editRun d n b p kind len m).Canon := by
  unfold Dev.editRun
  (try dsimp only)
  repeat' (first
    | with_reducible assumption
    | with_reducible apply Dev.editApply_canon
    | with_reducible apply Dev.prescanRead_canon
    | with_reducible apply Dev.progStopped_canon
    | with_reducible apply Dev.editInvalid_canon
    | with_reducible apply Dev.byteIn_canon
    | with_reducible intro _
    | split)

theorem Dev.editStep_canon (d : Dev) (n : Nat) (b : Nat) (chk : Bool) (hk : d.Canon) : (Dev.editStep d n b chk).Canon := by
  unfold Dev.editStep
  (try dsimp only)
  repeat' (first
    | with_reducible assumption
    | with_reducible apply Dev.microError_canon
    | with_reducible apply Dev.claim_canon
    | with_reducible apply Dev.microRun_canon
    | with_reducible apply Dev.editDone_canon
    | with_reducible apply Dev.byteIn_canon
    | with_reducible apply Dev.progStopped_canon
    | with_reducible apply Dev.editRun_canon
    | with_reducible apply Dev.editApply_canon
    | with_reducible intro _
    | split)

theorem Dev.journalRefusal_canon (d : Dev) (y : Syl) (bv : Word) : OutOk (d.journalRefusal y bv) := by
  unfold Dev.journalRefusal
  cases d.journalCheck y.core.toNat y.bay.toNat bv <;> trivial

theorem Dev.jappSource_canon (d : Dev) (n : Nat) (b : Nat) (va : Nat)  : ExOk (Dev.jappSource d n b va) := by
  unfold Dev.jappSource
  (try dsimp only)
  repeat' (first
    | with_reducible assumption
    | with_reducible apply Dev.faultOut_canon
    | with_reducible intro _
    | (exact trivial)
    | split
    | simp only [canon_mk, canon_fold]
    | (with_reducible apply SylOut.begin_ok)
    | (with_reducible apply firstOut_nil_ok)
    | (with_reducible apply firstOut_cons_ok)
    | (with_reducible refine OutOk.of_eq (by with_reducible assumption) ?_)
    | (with_reducible refine ExOk.of_eq (by with_reducible assumption) ?_)
    | (with_reducible apply ByteOk.next)
    | (with_reducible apply ExOk.error))

theorem appendRefusal_canon (s k : Nat) : (appendRefusal s k).Ok := by
  unfold appendRefusal
  split <;> trivial

theorem Dev.jappOut_canon (d : Dev) (y : Syl) (rd : Reg) (ra : Reg) (rb : Reg) (hk : d.Canon) : (Dev.jappOut d y rd ra rb).Ok := by
  unfold Dev.jappOut
  (try dsimp only)
  repeat' (first
    | with_reducible assumption
    | with_reducible apply appendRefusal_canon
    | with_reducible apply Dev.journalRefusal_canon
    | with_reducible apply Dev.jappSource_canon
    | with_reducible apply Dev.unreadable_canon
    | with_reducible intro _
    | (exact trivial)
    | split
    | simp only [canon_mk, canon_fold]
    | (with_reducible apply SylOut.begin_ok)
    | (with_reducible apply firstOut_nil_ok)
    | (with_reducible apply firstOut_cons_ok)
    | (with_reducible refine OutOk.of_eq (by with_reducible assumption) ?_)
    | (with_reducible refine ExOk.of_eq (by with_reducible assumption) ?_))

theorem Dev.jwaitOut_canon (d : Dev) (y : Syl) (ra : Reg) (rb : Reg) (hk : d.Canon) : (Dev.jwaitOut d y ra rb).Ok := by
  unfold Dev.jwaitOut
  (try dsimp only)
  repeat' (first
    | with_reducible assumption
    | with_reducible apply Dev.journalRefusal_canon
    | with_reducible intro _
    | (exact trivial)
    | split
    | simp only [canon_mk, canon_fold]
    | (with_reducible apply SylOut.begin_ok)
    | (with_reducible apply firstOut_nil_ok)
    | (with_reducible apply firstOut_cons_ok)
    | (with_reducible refine OutOk.of_eq (by with_reducible assumption) ?_))

theorem Dev.jdurOut_canon (d : Dev) (y : Syl) (rd : Reg) (rb : Reg) (hk : d.Canon) : (Dev.jdurOut d y rd rb).Ok := by
  unfold Dev.jdurOut
  (try dsimp only)
  repeat' (first
    | with_reducible assumption
    | with_reducible apply Dev.journalRefusal_canon
    | with_reducible intro _
    | (exact trivial)
    | split
    | simp only [canon_mk, canon_fold]
    | (with_reducible apply SylOut.begin_ok)
    | (with_reducible apply firstOut_nil_ok)
    | (with_reducible apply firstOut_cons_ok)
    | (with_reducible refine OutOk.of_eq (by with_reducible assumption) ?_))

theorem Dev.jrelOut_canon (d : Dev) (y : Syl) (ra : Reg) (rb : Reg) (hk : d.Canon) : (Dev.jrelOut d y ra rb).Ok := by
  unfold Dev.jrelOut
  (try dsimp only)
  repeat' (first
    | with_reducible assumption
    | with_reducible apply Dev.journalRefusal_canon
    | with_reducible intro _
    | (exact trivial)
    | split
    | simp only [canon_mk, canon_fold]
    | (with_reducible apply SylOut.begin_ok)
    | (with_reducible apply firstOut_nil_ok)
    | (with_reducible apply firstOut_cons_ok)
    | (with_reducible refine OutOk.of_eq (by with_reducible assumption) ?_))

theorem Dev.wakeAppend_canon (d : Dev) (site : Nat) (hk : d.Canon) : (Dev.wakeAppend d site).Canon := by
  unfold Dev.wakeAppend
  repeat' (first | with_reducible assumption | with_reducible apply Dev.modBay_canon)

theorem Dev.queueSpace_canon (d : Dev) (hk : d.Canon) : (Dev.queueSpace d).Canon := by
  unfold Dev.queueSpace
  (try dsimp only)
  repeat' (first | with_reducible assumption | with_reducible apply Dev.wakeAppend_canon | with_reducible intro _ | split | simp only [canon_mk, canon_fold])

theorem Dev.wakeJwait_canon (d : Dev) (n : Nat) (b : Nat) (s : Nat) (hk : d.Canon) : (Dev.wakeJwait d n b s).Canon := by
  unfold Dev.wakeJwait
  (try dsimp only)
  repeat' (first | with_reducible assumption | with_reducible apply Dev.setBay_canon | with_reducible apply Dev.sylDone_canon | with_reducible intro _ | split)

theorem Dev.recordDurable_canon (d : Dev) (s : Nat) (hk : d.Canon) : (Dev.recordDurable d s).Canon := by
  unfold Dev.recordDurable
  (try dsimp only)
  repeat' (first
    | with_reducible assumption
    | with_reducible apply Dev.durable_canon
    | with_reducible apply Dev.wakeJwait_canon
    | with_reducible apply foldl_canon
    | with_reducible intro _
    | split
    | simp only [canon_mk, canon_fold])

theorem Dev.gcallOut_canon (d : Dev) (y : Syl) (g : Nat) (hk : d.Canon) : (Dev.gcallOut d y g).Ok := by
  unfold Dev.gcallOut
  (try dsimp only)
  repeat' (first
    | with_reducible assumption
    | with_reducible apply Bay.needAdvance_canon
    | with_reducible apply Dev.act_canon
    | with_reducible apply foldl_canon
    | with_reducible intro _
    | (exact trivial)
    | split
    | simp only [canon_mk, canon_fold]
    | (with_reducible apply SylOut.begin_ok)
    | (with_reducible apply firstOut_nil_ok)
    | (with_reducible apply firstOut_cons_ok))

theorem Dev.gretOut_canon (d : Dev) (y : Syl) (hk : d.Canon) : (Dev.gretOut d y).Ok := by
  unfold Dev.gretOut
  (try dsimp only)
  repeat' (first
    | with_reducible assumption
    | with_reducible apply Bay.needRetreat_canon
    | with_reducible apply Dev.act_canon
    | with_reducible intro _
    | (exact trivial)
    | split
    | simp only [canon_mk, canon_fold]
    | (with_reducible apply SylOut.begin_ok)
    | (with_reducible apply firstOut_nil_ok)
    | (with_reducible apply firstOut_cons_ok))

theorem Dev.retFrame_canon (d : Dev) (y : Syl) (a : Nat)  : OutOk (Dev.retFrame d y a) := by
  unfold Dev.retFrame
  repeat' (first | with_reducible assumption | with_reducible apply Dev.unreadable_canon)

theorem Dev.sretOut_canon (d : Dev) (y : Syl) (hk : d.Canon) : (Dev.sretOut d y).Ok := by
  unfold Dev.sretOut
  (try dsimp only)
  repeat' (first
    | with_reducible assumption
    | with_reducible apply Bay.below_canon
    | with_reducible apply Dev.retFrame_canon
    | with_reducible apply Bay.needRetreat_canon
    | with_reducible apply Dev.act_canon
    | with_reducible intro _
    | (exact trivial)
    | split
    | simp only [canon_mk, canon_fold]
    | (with_reducible apply SylOut.begin_ok)
    | (with_reducible apply firstOut_nil_ok)
    | (with_reducible apply firstOut_cons_ok))

theorem Dev.mretOut_canon (d : Dev) (y : Syl) (hk : d.Canon) : (Dev.mretOut d y).Ok := by
  unfold Dev.mretOut
  (try dsimp only)
  repeat' (first
    | with_reducible assumption
    | with_reducible apply Bay.below_canon
    | with_reducible apply Dev.retFrame_canon
    | with_reducible apply Dev.act_canon
    | with_reducible intro _
    | (exact trivial)
    | split
    | simp only [canon_mk, canon_fold]
    | (with_reducible apply SylOut.begin_ok)
    | (with_reducible apply firstOut_nil_ok)
    | (with_reducible apply firstOut_cons_ok))

theorem Dev.scallOut_canon (d : Dev) (y : Syl) (n : Nat) (hk : d.Canon) : (Dev.scallOut d y n).Ok := by
  unfold Dev.scallOut
  (try dsimp only)
  repeat' (first | with_reducible assumption | with_reducible apply Dev.act_canon | with_reducible intro _ | (exact trivial) | split)

theorem Dev.fretOut_canon (d : Dev) (y : Syl) (hk : d.Canon) : (Dev.fretOut d y).Ok := by
  unfold Dev.fretOut
  (try dsimp only)
  repeat' (first
    | with_reducible assumption
    | with_reducible apply Bay.below_canon
    | with_reducible apply Dev.act_canon
    | with_reducible intro _
    | (exact trivial)
    | split
    | simp only [canon_mk, canon_fold]
    | (with_reducible apply SylOut.begin_ok)
    | (with_reducible apply firstOut_nil_ok)
    | (with_reducible apply firstOut_cons_ok))

theorem Dev.waitSyl_canon (d : Dev) (y : Syl) (hk : d.Canon) : (Dev.waitSyl d y).Ok := by
  unfold Dev.waitSyl
  (try dsimp only)
  repeat' (first | with_reducible assumption | with_reducible apply Dev.act_canon | with_reducible intro _ | (exact trivial) | split)

theorem Dev.signalOut_canon (d : Dev) (y : Syl) (ra : Reg) (imm : Nat) (hk : d.Canon) : (Dev.signalOut d y ra imm).Ok := by
  unfold Dev.signalOut
  (try dsimp only)
  repeat' (first
    | with_reducible assumption
    | with_reducible apply Bay.below_canon
    | with_reducible apply Dev.act_canon
    | with_reducible intro _
    | (exact trivial)
    | split
    | simp only [canon_mk, canon_fold]
    | (with_reducible apply SylOut.begin_ok)
    | (with_reducible apply firstOut_nil_ok)
    | (with_reducible apply firstOut_cons_ok))

theorem Dev.tevictOut_canon (d : Dev) (y : Syl) (t : Nat) (hk : d.Canon) : (Dev.tevictOut d y t).Ok := by
  unfold Dev.tevictOut
  (try dsimp only)
  repeat' (first
    | with_reducible assumption
    | with_reducible apply Bay.below_canon
    | with_reducible apply Dev.modBay_canon
    | with_reducible apply Dev.claim_canon
    | with_reducible intro _
    | (exact trivial)
    | split
    | simp only [canon_mk, canon_fold]
    | (with_reducible apply SylOut.begin_ok)
    | (with_reducible apply firstOut_nil_ok)
    | (with_reducible apply firstOut_cons_ok))

theorem Dev.tloadOut_canon (d : Dev) (y : Syl) (t : Nat) (ra : Reg) (hk : d.Canon) : (Dev.tloadOut d y t ra).Ok := by
  unfold Dev.tloadOut
  (try dsimp only)
  repeat' (first
    | with_reducible assumption
    | with_reducible apply Bay.below_canon
    | with_reducible apply Dev.modBay_canon
    | with_reducible intro _
    | (exact trivial)
    | split
    | simp only [canon_mk, canon_fold]
    | (with_reducible apply SylOut.begin_ok)
    | (with_reducible apply firstOut_nil_ok)
    | (with_reducible apply firstOut_cons_ok))

theorem Dev.askerDone_canon (d : Dev) (n a : Nat) (o : Option SylOut) (h : d.Canon) : (d.askerDone n a o).Canon := by
  have h1 := Dev.modBay_canon d n a (fun x => { x with st := .ready, wait := .none }) h
  unfold Dev.askerDone
  dsimp only
  split
  · exact h1
  · split
    · rename_i hx
      rw [Option.bind_eq_some_iff] at hx
      obtain ⟨r, -, hx⟩ := hx
      exact Dev.finish_canon _ _ _ (Dev.modBay_canon _ _ _ _ (Dev.excFor_canon hx h1))
    · exact Dev.finish_canon _ _ _ (Dev.modBay_canon _ _ _ _ h1)

theorem Dev.tevictComplete_canon (d : Dev) (n : Nat) (b : Nat) (fab : Bool) (hk : d.Canon) : (Dev.tevictComplete d n b fab).Canon := by
  unfold Dev.tevictComplete
  repeat' (first
    | with_reducible assumption
    | (with_reducible refine Dev.evictTask_canon (by with_reducible assumption) ?_)
    | with_reducible apply Dev.askerDone_canon
    | with_reducible apply Dev.modBay_canon
    | with_reducible intro _
    | split)

theorem Dev.autoLoaded_canon (d : Dev) (n : Nat) (b : Nat) (i : Nat) (hk : d.Canon) : (Dev.autoLoaded d n b i).Canon := by
  unfold Dev.autoLoaded
  repeat' (first | with_reducible assumption | with_reducible apply Dev.setTask_canon | with_reducible apply Dev.countLoad_canon)

theorem Dev.autoRefused_canon (d : Dev) (n : Nat) (b : Nat) (i : Nat) (hk : d.Canon) : (Dev.autoRefused d n b i).Canon := by
  unfold Dev.autoRefused
  repeat' (first | with_reducible assumption | with_reducible apply Dev.modBay_canon | with_reducible apply Dev.setTask_canon | with_reducible apply Dev.modCore_canon)

theorem Dev.tloadComplete_canon (d : Dev) (n : Nat) (b : Nat) (fab : Bool) (hk : d.Canon) : (Dev.tloadComplete d n b fab).Canon := by
  unfold Dev.tloadComplete
  repeat' (first
    | with_reducible assumption
    | (with_reducible refine Dev.loadTask_canon (by with_reducible assumption) ?_)
    | with_reducible apply Dev.askerDone_canon
    | with_reducible apply Dev.modBay_canon
    | with_reducible apply Dev.autoLoaded_canon
    | with_reducible apply Dev.autoRefused_canon
    | with_reducible intro _
    | split)

theorem Dev.lockup_canon (d : Dev) (n : Nat) (b : Nat) (lvl : Nat) (word : Nat) (e : Entry) (fail : Nat) (hk : d.Canon) : (Dev.lockup d n b lvl word e fail).Canon := by
  unfold Dev.lockup
  (try dsimp only)
  repeat' (first
    | with_reducible assumption
    | with_reducible apply Dev.modBay_canon
    | with_reducible apply Dev.modCore_canon
    | with_reducible apply Dev.driveLock_canon
    | with_reducible apply Dev.record_canon
    | with_reducible apply foldl_canon
    | with_reducible intro _
    | split
    | simp only [canon_mk, canon_fold])

theorem Dev.enter_canon (d : Dev) (n : Nat) (b : Nat) (lvl : Nat) (e : Entry) (fab : Bool) (hk : d.Canon) : (Dev.enter d n b lvl e fab).Canon := by
  unfold Dev.enter
  (try dsimp only)
  repeat' (first
    | with_reducible assumption
    | with_reducible apply Dev.settle_canon
    | with_reducible apply Dev.lockup_canon
    | with_reducible apply Dev.put_canon
    | with_reducible apply Dev.modBay_canon
    | with_reducible intro _
    | split)

theorem Dev.takeEntry_canon (d : Dev) (n : Nat) (b : Nat) (lvl : Nat) (e : Entry) (fab : Bool) (clear : Bay → Bay) (hk : d.Canon) : (Dev.takeEntry d n b lvl e fab clear).Canon := by
  unfold Dev.takeEntry
  (try dsimp only)
  repeat' (first | with_reducible assumption | with_reducible apply Dev.enter_canon | with_reducible apply Dev.modBay_canon | with_reducible intro _ | split)

theorem Dev.syncEntry_canon (d : Dev) (n : Nat) (b : Nat) (e : Exc) (fab : Bool) (hk : d.Canon) : (Dev.syncEntry d n b e fab).Canon := by
  unfold Dev.syncEntry
  (try dsimp only)
  repeat' (first | with_reducible assumption | with_reducible apply Dev.setBay_canon | with_reducible apply Dev.takeEntry_canon)

theorem Dev.asyncEntry_canon (d : Dev) (n : Nat) (b : Nat) (c : Nat) (fab : Bool) (hk : d.Canon) : (Dev.asyncEntry d n b c fab).Canon := by
  unfold Dev.asyncEntry
  (try dsimp only)
  repeat' (first | with_reducible assumption | with_reducible apply Dev.setBay_canon | with_reducible apply Dev.takeEntry_canon)

theorem Dev.exceptionEntry_canon (d : Dev) (n : Nat) (b : Nat) (fab : Bool) (hk : d.Canon) : (Dev.exceptionEntry d n b fab).Canon := by
  unfold Dev.exceptionEntry
  (try dsimp only)
  repeat' (first
    | with_reducible assumption
    | with_reducible apply Dev.syncEntry_canon
    | with_reducible apply Dev.claim_canon
    | with_reducible apply Dev.asyncEntry_canon
    | with_reducible intro _
    | split)

theorem Dev.select_canon (d : Dev) (n : Nat) (b : Nat) (hk : d.Canon) : (Dev.select d n b).Canon := by
  unfold Dev.select
  (try dsimp only)
  repeat' (first | with_reducible assumption | with_reducible apply Dev.modCore_canon | with_reducible apply Dev.modBay_canon | with_reducible apply Dev.tickFree_canon)

theorem Dev.schedule_canon (d : Dev) (n : Nat) (hk : d.Canon) : (Dev.schedule d n).Canon := by
  unfold Dev.schedule
  (try dsimp only)
  repeat' (first | with_reducible assumption | with_reducible apply Dev.select_canon | with_reducible intro _ | split)

theorem Dev.giveWay_canon (d : Dev) (n : Nat) (ok : Bay → Bool) (rel : Nat → Nat → Bool) (hk : d.Canon) : (Dev.giveWay d n ok rel).Canon := by
  unfold Dev.giveWay
  (try dsimp only)
  repeat' (first | with_reducible assumption | with_reducible apply Dev.setBay_canon | with_reducible intro _ | split)

theorem Dev.automaticLoad_canon (d : Dev) (n : Nat) (hk : d.Canon) : (Dev.automaticLoad d n).Canon := by
  unfold Dev.automaticLoad
  repeat' (first | with_reducible assumption | with_reducible apply Dev.modBay_canon | with_reducible intro _ | split)

theorem Dev.dataReturn_canon (d : Dev) (n : Nat) (b : Nat) (hk : d.Canon) : (Dev.dataReturn d n b).Canon := by
  unfold Dev.dataReturn
  (try dsimp only)
  repeat' (first | with_reducible assumption | with_reducible apply Dev.setBay_canon | with_reducible apply Dev.claim_canon | with_reducible intro _ | split)

theorem Dev.walkStep_canon (d : Dev) (n : Nat) (b : Nat) (fab : Bool) (hk : d.Canon) : (Dev.walkStep d n b fab).Canon := by
  unfold Dev.walkStep
  (try dsimp only)
  repeat' (first | with_reducible assumption | with_reducible apply Dev.pageWalk_canon | with_reducible intro _ | split)

theorem Dev.invalidated_canon (d : Dev) (n : Nat) (b : Nat) (t : Nat) (hk : d.Canon) : (Dev.invalidated d n b t).Canon := by
  unfold Dev.invalidated
  (try dsimp only)
  repeat' (first | with_reducible assumption | with_reducible apply Dev.modCore_canon | with_reducible apply Dev.modBay_canon | with_reducible intro _ | split)

theorem Dev.millisecond_canon (d : Dev) (hk : d.Canon) : (Dev.millisecond d).Canon := by
  unfold Dev.millisecond
  (try dsimp only)
  repeat' (first | with_reducible assumption | with_reducible apply Dev.ageStage_canon | with_reducible apply foldl_canon | with_reducible intro _ | split | simp only [canon_mk, canon_fold])

end Sys2Proof.Machine
end

