-- ==== Sys2Proof/Laws/CanonMeanings.lean ====
section
/-! SUPPORT. Memory stays canonical under every meaning: one lemma per meaning, named after it. -/

namespace Sys2Proof.Machine

theorem countOut_ok (c : Word) (t : Dest) (g : Word) : (countOut c t g).Ok := by
  unfold countOut
  repeat' (first | exact trivial | split)

theorem run_canon (s t : State) (f : Dev → Dev) (hf : ∀ d, d.Canon → (f d).Canon) (h : s.dev.Canon) (ht : Host.Outcome.next (s.run f) = (.next t : Host.Outcome State Fault Refusal)) : t.dev.Canon := by
  cases ht
  unfold State.run
  split
  · exact h
  · exact hf _ h

theorem reached_canon (s t : State) (f : Dev → Dev) (hf : ∀ d, d.Canon → (f d).Canon) (h : s.dev.Canon) (ht : Host.Outcome.next (s.reached f) = (.next t : Host.Outcome State Fault Refusal)) : t.dev.Canon := by
  cases ht
  unfold State.reached
  split
  · exact h
  · exact hf _ h

theorem always_canon (s t : State) (f : Dev → Dev) (hf : ∀ d, d.Canon → (f d).Canon) (h : s.dev.Canon) (ht : Host.Outcome.next (s.always f) = (.next t : Host.Outcome State Fault Refusal)) : t.dev.Canon := by
  cases ht
  exact hf _ h

theorem execStartup_canon (s : State) (t : State) (h : s.dev.Canon) (ht : execStartup s = .next t) : t.dev.Canon := by
  refine run_canon s t _ ?_ h ht
  repeat' with_reducible apply Dev.startup_canon
theorem execCoreRelease_canon (s : State) (t : State) (h : s.dev.Canon) (ht : execCoreRelease s = .next t) : t.dev.Canon := by
  refine run_canon s t _ ?_ h ht
  repeat' with_reducible apply Dev.releaseCores_canon
theorem execBootDone_canon (s : State) (t : State) (h : s.dev.Canon) (ht : execBootDone s = .next t) : t.dev.Canon := by
  refine run_canon s t _ ?_ h ht
  repeat' (first | (with_reducible first | assumption | intro _ | apply Dev.bootDone_canon) | split)
theorem execBootTimeout_canon (s : State) (t : State) (h : s.dev.Canon) (ht : execBootTimeout s = .next t) : t.dev.Canon := by
  refine run_canon s t _ ?_ h ht
  repeat' (first | (with_reducible first | assumption | intro _ | apply Dev.startEnd_canon) | split | simp only [canon_mk, canon_fold])
theorem execMemilWrite_canon (who : Agent) (value : Word) (s : State) (t : State) (h : s.dev.Canon) (ht : execMemilWrite who value s = .next t) : t.dev.Canon := by
  refine run_canon s t _ ?_ h ht
  repeat' (first | (with_reducible first | assumption | intro _ | apply Dev.writeMemil_canon) | split)
theorem execPowerOnReset_canon (s : State) (t : State) (h : s.dev.Canon) (ht : execPowerOnReset s = .next t) : t.dev.Canon := by
  refine always_canon s t _ ?_ h ht
  repeat' (with_reducible first | assumption | intro _ | apply Dev.powerOnReset_canon)
theorem execVddAonRemoved_canon (s : State) (t : State) (h : s.dev.Canon) (ht : execVddAonRemoved s = .next t) : t.dev.Canon := by
  refine always_canon s t _ ?_ h ht
  repeat' (with_reducible first | assumption | intro _ | apply Dev.powerOnReset_canon)
theorem execDeviceReset_canon (s : State) (t : State) (h : s.dev.Canon) (ht : execDeviceReset s = .next t) : t.dev.Canon := by
  refine reached_canon s t _ ?_ h ht
  repeat' (with_reducible first | assumption | intro _ | apply Dev.tickFree_canon | apply Dev.pinReset_canon)
theorem execImgOpen_canon (who : Agent) (value : Word) (s : State) (t : State) (h : s.dev.Canon) (ht : execImgOpen who value s = .next t) : t.dev.Canon := by
  refine run_canon s t _ ?_ h ht
  repeat' (first | (with_reducible first | assumption | intro _ | apply Dev.imgOpenCtl_canon) | split)
theorem execImgDataWrite_canon (who : Agent) (value : Word) (s : State) (t : State) (h : s.dev.Canon) (ht : execImgDataWrite who value s = .next t) : t.dev.Canon := by
  refine run_canon s t _ ?_ h ht
  repeat' (first | (with_reducible first | assumption | intro _ | apply Dev.imgDataCtl_canon) | split)
theorem execImgClose_canon (who : Agent) (s : State) (t : State) (h : s.dev.Canon) (ht : execImgClose who s = .next t) : t.dev.Canon := by
  refine run_canon s t _ ?_ h ht
  repeat' (first | (with_reducible first | assumption | intro _ | apply Dev.imgCloseCtl_canon) | split)
theorem execImgAbandon_canon (who : Agent) (s : State) (t : State) (h : s.dev.Canon) (ht : execImgAbandon who s = .next t) : t.dev.Canon := by
  refine run_canon s t _ ?_ h ht
  repeat' (first | (with_reducible first | assumption | intro _ | apply Dev.imgAbandonCtl_canon) | split)
theorem execImageCloseChecksEnd_canon (s : State) (t : State) (h : s.dev.Canon) (ht : execImageCloseChecksEnd s = .next t) : t.dev.Canon := by
  refine run_canon s t _ ?_ h ht
  repeat' with_reducible apply Dev.closeChecks_canon
theorem execDrain_canon (who : Agent) (dom : BitVec 7) (s : State) (t : State) (h : s.dev.Canon) (ht : execDrain who dom s = .next t) : t.dev.Canon := by
  refine run_canon s t _ ?_ h ht
  repeat' (with_reducible first | assumption | intro _ | apply Dev.pdWrite_canon)
theorem execOfff_canon (who : Agent) (dom : BitVec 7) (s : State) (t : State) (h : s.dev.Canon) (ht : execOfff who dom s = .next t) : t.dev.Canon := by
  refine run_canon s t _ ?_ h ht
  repeat' (with_reducible first | assumption | intro _ | apply Dev.pdWrite_canon)
theorem execOnn_canon (who : Agent) (dom : BitVec 7) (s : State) (t : State) (h : s.dev.Canon) (ht : execOnn who dom s = .next t) : t.dev.Canon := by
  refine run_canon s t _ ?_ h ht
  repeat' (with_reducible first | assumption | intro _ | apply Dev.pdWrite_canon)
theorem execReturnn_canon (who : Agent) (dom : BitVec 7) (s : State) (t : State) (h : s.dev.Canon) (ht : execReturnn who dom s = .next t) : t.dev.Canon := by
  refine run_canon s t _ ?_ h ht
  repeat' (with_reducible first | assumption | intro _ | apply Dev.pdWrite_canon)
theorem execTest_canon (who : Agent) (dom : BitVec 7) (s : State) (t : State) (h : s.dev.Canon) (ht : execTest who dom s = .next t) : t.dev.Canon := by
  refine run_canon s t _ ?_ h ht
  repeat' (with_reducible first | assumption | intro _ | apply Dev.pdWrite_canon)
theorem execRepatch_canon (who : Agent) (dom : BitVec 7) (s : State) (t : State) (h : s.dev.Canon) (ht : execRepatch who dom s = .next t) : t.dev.Canon := by
  refine run_canon s t _ ?_ h ht
  repeat' (with_reducible first | assumption | intro _ | apply Dev.pdWrite_canon)
theorem execRecover_canon (who : Agent) (core : BitVec 7) (s : State) (t : State) (h : s.dev.Canon) (ht : execRecover who core s = .next t) : t.dev.Canon := by
  refine run_canon s t _ ?_ h ht
  repeat' (with_reducible first | assumption | intro _ | apply Dev.pdWrite_canon)
theorem execCancel_canon (who : Agent) (dom : BitVec 7) (s : State) (t : State) (h : s.dev.Canon) (ht : execCancel who dom s = .next t) : t.dev.Canon := by
  refine run_canon s t _ ?_ h ht
  repeat' (with_reducible first | assumption | intro _ | apply Dev.pdWrite_canon)
theorem execPdReqMalformed_canon (who : Agent) (value : Word) (s : State) (t : State) (h : s.dev.Canon) (ht : execPdReqMalformed who value s = .next t) : t.dev.Canon := by
  refine run_canon s t _ ?_ h ht
  repeat' (first | (with_reducible first | assumption | intro _ | apply Dev.pdWrite_canon) | split)
theorem execDrainComplete_canon (dom : BitVec 7) (s : State) (t : State) (h : s.dev.Canon) (ht : execDrainComplete dom s = .next t) : t.dev.Canon := by
  refine run_canon s t _ ?_ h ht
  repeat' (first | (with_reducible first | assumption | intro _ | apply Dev.drainComplete_canon) | split)
theorem execDrainTimeout_canon (dom : BitVec 7) (s : State) (t : State) (h : s.dev.Canon) (ht : execDrainTimeout dom s = .next t) : t.dev.Canon := by
  refine run_canon s t _ ?_ h ht
  repeat' (first | (with_reducible first | assumption | intro _ | apply Dev.backOn_canon | apply Dev.pdEnd_canon) | split)
theorem execSelfTestEnd_canon (dom : BitVec 7) (pass : Bool) (s : State) (t : State) (h : s.dev.Canon) (ht : execSelfTestEnd dom pass s = .next t) : t.dev.Canon := by
  refine run_canon s t _ ?_ h ht
  repeat' (with_reducible first | assumption | intro _ | apply Dev.selfTestEnd_canon)
theorem execRepatchEnd_canon (dom : BitVec 7) (s : State) (t : State) (h : s.dev.Canon) (ht : execRepatchEnd dom s = .next t) : t.dev.Canon := by
  refine run_canon s t _ ?_ h ht
  repeat' (with_reducible first | assumption | intro _ | apply Dev.repatchEnd_canon)
theorem execPowerOnEnd_canon (dom : BitVec 7) (s : State) (t : State) (h : s.dev.Canon) (ht : execPowerOnEnd dom s = .next t) : t.dev.Canon := by
  refine run_canon s t _ ?_ h ht
  repeat' (with_reducible first | assumption | intro _ | apply Dev.powerOnEnd_canon)
theorem execReturnEnd_canon (dom : BitVec 7) (s : State) (t : State) (h : s.dev.Canon) (ht : execReturnEnd dom s = .next t) : t.dev.Canon := by
  refine run_canon s t _ ?_ h ht
  repeat' (with_reducible first | assumption | intro _ | apply Dev.returnEnd_canon)
theorem execBr_canon (y : Syl) (disp : BitVec 20) (s : State) (t : State) (h : s.dev.Canon) (ht : execBr y disp s = .next t) : t.dev.Canon := by
  refine run_canon s t _ ?_ h ht
  repeat' (first | (with_reducible first | assumption | intro _ | apply Dev.runSyl_canon) | exact trivial)
theorem execCall_canon (y : Syl) (disp : BitVec 19) (s : State) (t : State) (h : s.dev.Canon) (ht : execCall y disp s = .next t) : t.dev.Canon := by
  refine run_canon s t _ ?_ h ht
  repeat' (with_reducible first | assumption | intro _ | apply Dev.runSyl_canon | apply Dev.callOut_canon)
theorem execCallW_canon (y : Syl) (disp : BitVec 19) (s : State) (t : State) (h : s.dev.Canon) (ht : execCallW y disp s = .next t) : t.dev.Canon := by
  refine run_canon s t _ ?_ h ht
  repeat' (with_reducible first | assumption | intro _ | apply Dev.runSyl_canon | apply Dev.callWOut_canon)
theorem execBri_canon (y : Syl) (a : Reg) (s : State) (t : State) (h : s.dev.Canon) (ht : execBri y a s = .next t) : t.dev.Canon := by
  refine run_canon s t _ ?_ h ht
  repeat' (first | (with_reducible first | assumption | intro _ | apply Dev.runSyl_canon) | exact trivial)
theorem execCalli_canon (y : Syl) (a : Reg) (s : State) (t : State) (h : s.dev.Canon) (ht : execCalli y a s = .next t) : t.dev.Canon := by
  refine run_canon s t _ ?_ h ht
  repeat' (with_reducible first | assumption | intro _ | apply Dev.runSyl_canon | apply Dev.callOut_canon)
theorem execCalliW_canon (y : Syl) (a : Reg) (s : State) (t : State) (h : s.dev.Canon) (ht : execCalliW y a s = .next t) : t.dev.Canon := by
  refine run_canon s t _ ?_ h ht
  repeat' (with_reducible first | assumption | intro _ | apply Dev.runSyl_canon | apply Dev.callWOut_canon)
theorem execRet_canon (y : Syl) (s : State) (t : State) (h : s.dev.Canon) (ht : execRet y s = .next t) : t.dev.Canon := by
  refine run_canon s t _ ?_ h ht
  repeat' (first | (with_reducible first | assumption | intro _ | apply Dev.runSyl_canon | apply Bay.popTrap_canon | apply firstOut_cons_ok) | exact trivial)
theorem execRetW_canon (y : Syl) (s : State) (t : State) (h : s.dev.Canon) (ht : execRetW y s = .next t) : t.dev.Canon := by
  refine run_canon s t _ ?_ h ht
  repeat' (first | (with_reducible first | assumption | intro _ | apply Dev.runSyl_canon | apply Bay.needRetreat_canon | apply Bay.popTrap_canon | apply firstOut_cons_ok) | exact trivial)
theorem execRetl_canon (y : Syl) (s : State) (t : State) (h : s.dev.Canon) (ht : execRetl y s = .next t) : t.dev.Canon := by
  refine run_canon s t _ ?_ h ht
  repeat' (first | (with_reducible first | assumption | intro _ | apply Dev.runSyl_canon) | exact trivial)
theorem execDb_canon (y : Syl) (c : Reg) (disp : BitVec 15) (s : State) (t : State) (h : s.dev.Canon) (ht : execDb y c disp s = .next t) : t.dev.Canon := by
  refine run_canon s t _ ?_ h ht
  repeat' (with_reducible first | assumption | intro _ | apply Dev.runSyl_canon | apply countOut_ok)
theorem execDblc_canon (y : Syl) (disp : BitVec 20) (s : State) (t : State) (h : s.dev.Canon) (ht : execDblc y disp s = .next t) : t.dev.Canon := by
  refine run_canon s t _ ?_ h ht
  repeat' (with_reducible first | assumption | intro _ | apply Dev.runSyl_canon | apply countOut_ok)
theorem execRep_canon (y : Syl) (cr : Reg) (i : Bool) (imm : BitVec 8) (s : State) (t : State) (h : s.dev.Canon) (ht : execRep y cr i imm s = .next t) : t.dev.Canon := by
  refine run_canon s t _ ?_ h ht
  repeat' (first | (with_reducible first | assumption | intro _ | apply Dev.runSyl_canon) | exact trivial)
theorem execDadd_canon (y : Syl) (d a b : DReg) (s : State) (t : State) (h : s.dev.Canon) (ht : execDadd y d a b s = .next t) : t.dev.Canon := by
  refine run_canon s t _ ?_ h ht
  repeat' (with_reducible first | assumption | intro _ | apply Dev.runSyl_canon | apply Dev.decR_canon)
theorem execDsub_canon (y : Syl) (d a b : DReg) (s : State) (t : State) (h : s.dev.Canon) (ht : execDsub y d a b s = .next t) : t.dev.Canon := by
  refine run_canon s t _ ?_ h ht
  repeat' (with_reducible first | assumption | intro _ | apply Dev.runSyl_canon | apply Dev.decR_canon)
theorem execDmul_canon (y : Syl) (d a b : DReg) (s : State) (t : State) (h : s.dev.Canon) (ht : execDmul y d a b s = .next t) : t.dev.Canon := by
  refine run_canon s t _ ?_ h ht
  repeat' (with_reducible first | assumption | intro _ | apply Dev.runSyl_canon | apply Dev.decR_canon)
theorem execDdiv_canon (y : Syl) (d a b : DReg) (s : State) (t : State) (h : s.dev.Canon) (ht : execDdiv y d a b s = .next t) : t.dev.Canon := by
  refine run_canon s t _ ?_ h ht
  repeat' (with_reducible first | assumption | intro _ | apply Dev.runSyl_canon | apply Dev.decR_canon)
theorem execDqua_canon (y : Syl) (d a b : DReg) (s : State) (t : State) (h : s.dev.Canon) (ht : execDqua y d a b s = .next t) : t.dev.Canon := by
  refine run_canon s t _ ?_ h ht
  repeat' (with_reducible first | assumption | intro _ | apply Dev.runSyl_canon | apply Dev.decR_canon)
theorem execDrni_canon (y : Syl) (d a : DReg) (s : State) (t : State) (h : s.dev.Canon) (ht : execDrni y d a s = .next t) : t.dev.Canon := by
  refine run_canon s t _ ?_ h ht
  repeat' (with_reducible first | assumption | intro _ | apply Dev.runSyl_canon | apply Dev.decR_canon)
theorem execDneg_canon (y : Syl) (d a : DReg) (s : State) (t : State) (h : s.dev.Canon) (ht : execDneg y d a s = .next t) : t.dev.Canon := by
  refine run_canon s t _ ?_ h ht
  repeat' (first | (with_reducible first | assumption | intro _ | apply Dev.runSyl_canon) | exact trivial)
theorem execDabs_canon (y : Syl) (d a : DReg) (s : State) (t : State) (h : s.dev.Canon) (ht : execDabs y d a s = .next t) : t.dev.Canon := by
  refine run_canon s t _ ?_ h ht
  repeat' (first | (with_reducible first | assumption | intro _ | apply Dev.runSyl_canon) | exact trivial)
theorem execDcps_canon (y : Syl) (d a b : DReg) (s : State) (t : State) (h : s.dev.Canon) (ht : execDcps y d a b s = .next t) : t.dev.Canon := by
  refine run_canon s t _ ?_ h ht
  repeat' (first | (with_reducible first | assumption | intro _ | apply Dev.runSyl_canon) | exact trivial)
theorem execDaddX_canon (y : Syl) (d a b : DReg) (s : State) (t : State) (h : s.dev.Canon) (ht : execDaddX y d a b s = .next t) : t.dev.Canon := by
  refine run_canon s t _ ?_ h ht
  repeat' (with_reducible first | assumption | intro _ | apply Dev.runSyl_canon | apply Dev.decR_canon)
theorem execDsubX_canon (y : Syl) (d a b : DReg) (s : State) (t : State) (h : s.dev.Canon) (ht : execDsubX y d a b s = .next t) : t.dev.Canon := by
  refine run_canon s t _ ?_ h ht
  repeat' (with_reducible first | assumption | intro _ | apply Dev.runSyl_canon | apply Dev.decR_canon)
theorem execDmulX_canon (y : Syl) (d a b : DReg) (s : State) (t : State) (h : s.dev.Canon) (ht : execDmulX y d a b s = .next t) : t.dev.Canon := by
  refine run_canon s t _ ?_ h ht
  repeat' (with_reducible first | assumption | intro _ | apply Dev.runSyl_canon | apply Dev.decR_canon)
theorem execDdivX_canon (y : Syl) (d a b : DReg) (s : State) (t : State) (h : s.dev.Canon) (ht : execDdivX y d a b s = .next t) : t.dev.Canon := by
  refine run_canon s t _ ?_ h ht
  repeat' (with_reducible first | assumption | intro _ | apply Dev.runSyl_canon | apply Dev.decR_canon)
theorem execDquaX_canon (y : Syl) (d a b : DReg) (s : State) (t : State) (h : s.dev.Canon) (ht : execDquaX y d a b s = .next t) : t.dev.Canon := by
  refine run_canon s t _ ?_ h ht
  repeat' (with_reducible first | assumption | intro _ | apply Dev.runSyl_canon | apply Dev.decR_canon)
theorem execDrniX_canon (y : Syl) (d a : DReg) (s : State) (t : State) (h : s.dev.Canon) (ht : execDrniX y d a s = .next t) : t.dev.Canon := by
  refine run_canon s t _ ?_ h ht
  repeat' (with_reducible first | assumption | intro _ | apply Dev.runSyl_canon | apply Dev.decR_canon)
theorem execDnegX_canon (y : Syl) (d a : DReg) (s : State) (t : State) (h : s.dev.Canon) (ht : execDnegX y d a s = .next t) : t.dev.Canon := by
  refine run_canon s t _ ?_ h ht
  repeat' (first | (with_reducible first | assumption | intro _ | apply Dev.runSyl_canon) | exact trivial)
theorem execDabsX_canon (y : Syl) (d a : DReg) (s : State) (t : State) (h : s.dev.Canon) (ht : execDabsX y d a s = .next t) : t.dev.Canon := by
  refine run_canon s t _ ?_ h ht
  repeat' (first | (with_reducible first | assumption | intro _ | apply Dev.runSyl_canon) | exact trivial)
theorem execDcpsX_canon (y : Syl) (d a b : DReg) (s : State) (t : State) (h : s.dev.Canon) (ht : execDcpsX y d a b s = .next t) : t.dev.Canon := by
  refine run_canon s t _ ?_ h ht
  repeat' (first | (with_reducible first | assumption | intro _ | apply Dev.runSyl_canon) | exact trivial)
theorem execCvtX_canon (y : Syl) (d a : DReg) (s : State) (t : State) (h : s.dev.Canon) (ht : execCvtX y d a s = .next t) : t.dev.Canon := by
  refine run_canon s t _ ?_ h ht
  repeat' (with_reducible first | assumption | intro _ | apply Dev.runSyl_canon | apply Dev.decR_canon)
theorem execCvtD_canon (y : Syl) (d a : DReg) (s : State) (t : State) (h : s.dev.Canon) (ht : execCvtD y d a s = .next t) : t.dev.Canon := by
  refine run_canon s t _ ?_ h ht
  repeat' (with_reducible first | assumption | intro _ | apply Dev.runSyl_canon | apply Dev.decR_canon)
theorem execCvid_canon (y : Syl) (d : DReg) (a : Reg) (s : State) (t : State) (h : s.dev.Canon) (ht : execCvid y d a s = .next t) : t.dev.Canon := by
  refine run_canon s t _ ?_ h ht
  repeat' (with_reducible first | assumption | intro _ | apply Dev.runSyl_canon | apply Dev.decR_canon)
theorem execCvdi_canon (y : Syl) (d : Reg) (a : DReg) (s : State) (t : State) (h : s.dev.Canon) (ht : execCvdi y d a s = .next t) : t.dev.Canon := by
  refine run_canon s t _ ?_ h ht
  repeat' (with_reducible first | assumption | intro _ | apply Dev.runSyl_canon | apply Dev.decOut_canon)
theorem execCvpd_canon (y : Syl) (d a : DReg) (n : BitVec 5) (s : State) (t : State) (h : s.dev.Canon) (ht : execCvpd y d a n s = .next t) : t.dev.Canon := by
  refine run_canon s t _ ?_ h ht
  repeat' (with_reducible first | assumption | intro _ | apply Dev.runSyl_canon | apply Dev.packed1_canon)
theorem execCvpx_canon (y : Syl) (d a : DReg) (n : BitVec 5) (s : State) (t : State) (h : s.dev.Canon) (ht : execCvpx y d a n s = .next t) : t.dev.Canon := by
  refine run_canon s t _ ?_ h ht
  repeat' (with_reducible first | assumption | intro _ | apply Dev.runSyl_canon | apply Dev.packed1_canon)
theorem execCvdp_canon (y : Syl) (d a : DReg) (n : BitVec 5) (s : State) (t : State) (h : s.dev.Canon) (ht : execCvdp y d a n s = .next t) : t.dev.Canon := by
  refine run_canon s t _ ?_ h ht
  repeat' (with_reducible first | assumption | intro _ | apply Dev.runSyl_canon | apply Dev.decR_canon)
theorem execCvxp_canon (y : Syl) (d a : DReg) (n : BitVec 5) (s : State) (t : State) (h : s.dev.Canon) (ht : execCvxp y d a n s = .next t) : t.dev.Canon := by
  refine run_canon s t _ ?_ h ht
  repeat' (with_reducible first | assumption | intro _ | apply Dev.runSyl_canon | apply Dev.decR_canon)
theorem execPadd_canon (y : Syl) (d a b : DReg) (s : State) (t : State) (h : s.dev.Canon) (ht : execPadd y d a b s = .next t) : t.dev.Canon := by
  refine run_canon s t _ ?_ h ht
  repeat' (with_reducible first | assumption | intro _ | apply Dev.runSyl_canon | apply Dev.packed2_canon)
theorem execPsub_canon (y : Syl) (d a b : DReg) (s : State) (t : State) (h : s.dev.Canon) (ht : execPsub y d a b s = .next t) : t.dev.Canon := by
  refine run_canon s t _ ?_ h ht
  repeat' (with_reducible first | assumption | intro _ | apply Dev.runSyl_canon | apply Dev.packed2_canon)
theorem execPshl_canon (y : Syl) (d a : DReg) (n : BitVec 5) (s : State) (t : State) (h : s.dev.Canon) (ht : execPshl y d a n s = .next t) : t.dev.Canon := by
  refine run_canon s t _ ?_ h ht
  repeat' (with_reducible first | assumption | intro _ | apply Dev.runSyl_canon | apply Dev.packed1_canon)
theorem execPshr_canon (y : Syl) (d a : DReg) (n : BitVec 5) (s : State) (t : State) (h : s.dev.Canon) (ht : execPshr y d a n s = .next t) : t.dev.Canon := by
  refine run_canon s t _ ?_ h ht
  repeat' (with_reducible first | assumption | intro _ | apply Dev.runSyl_canon | apply Dev.packed1_canon)
theorem execPchk_canon (y : Syl) (d a : DReg) (s : State) (t : State) (h : s.dev.Canon) (ht : execPchk y d a s = .next t) : t.dev.Canon := by
  refine run_canon s t _ ?_ h ht
  repeat' (with_reducible first | assumption | intro _ | apply Dev.runSyl_canon | apply Dev.packed1_canon)
theorem execDcmp_canon (y : Syl) (qt : Pred) (sg : Bool) (a b : DReg) (cond : BitVec 3) (w : Bool) (s : State) (t : State) (h : s.dev.Canon) (ht : execDcmp y qt sg a b cond w s = .next t) : t.dev.Canon := by
  refine run_canon s t _ ?_ h ht
  repeat' (with_reducible first | assumption | intro _ | apply Dev.runSyl_canon | apply Dev.decOut_canon)
theorem execPcmp_canon (y : Syl) (qt : Pred) (a b : DReg) (cond : BitVec 3) (s : State) (t : State) (h : s.dev.Canon) (ht : execPcmp y qt a b cond s = .next t) : t.dev.Canon := by
  refine run_canon s t _ ?_ h ht
  repeat' (with_reducible first | assumption | intro _ | apply Dev.runSyl_canon | apply Dev.checked_canon)
theorem execLdd_canon (y : Syl) (d : DReg) (a : Reg) (disp : BitVec 6) (p : Option Limm) (s : State) (t : State) (h : s.dev.Canon) (ht : execLdd y d a disp p s = .next t) : t.dev.Canon := by
  refine run_canon s t _ ?_ h ht
  repeat' (with_reducible first | assumption | intro _ | apply Dev.runSyl_canon | apply Dev.decLoad_canon)
theorem execLddX_canon (y : Syl) (d : DReg) (a : Reg) (disp : BitVec 6) (p : Option Limm) (s : State) (t : State) (h : s.dev.Canon) (ht : execLddX y d a disp p s = .next t) : t.dev.Canon := by
  refine run_canon s t _ ?_ h ht
  repeat' (with_reducible first | assumption | intro _ | apply Dev.runSyl_canon | apply Dev.decLoad_canon)
theorem execStd_canon (y : Syl) (d : DReg) (a : Reg) (disp : BitVec 6) (p : Option Limm) (s : State) (t : State) (h : s.dev.Canon) (ht : execStd y d a disp p s = .next t) : t.dev.Canon := by
  refine run_canon s t _ ?_ h ht
  repeat' (with_reducible first | assumption | intro _ | apply Dev.runSyl_canon | apply Dev.decStore_canon)
theorem execStdX_canon (y : Syl) (d : DReg) (a : Reg) (disp : BitVec 6) (p : Option Limm) (s : State) (t : State) (h : s.dev.Canon) (ht : execStdX y d a disp p s = .next t) : t.dev.Canon := by
  refine run_canon s t _ ?_ h ht
  repeat' (with_reducible first | assumption | intro _ | apply Dev.runSyl_canon | apply Dev.decStore_canon)
theorem execLdp_canon (y : Syl) (d : DReg) (a : Reg) (len : BitVec 5) (s : State) (t : State) (h : s.dev.Canon) (ht : execLdp y d a len s = .next t) : t.dev.Canon := by
  refine run_canon s t _ ?_ h ht
  repeat' (with_reducible first | assumption | intro _ | apply Dev.runSyl_canon | apply Dev.decLoad_canon)
theorem execStp_canon (y : Syl) (d : DReg) (a : Reg) (len : BitVec 5) (s : State) (t : State) (h : s.dev.Canon) (ht : execStp y d a len s = .next t) : t.dev.Canon := by
  refine run_canon s t _ ?_ h ht
  repeat' (with_reducible first | assumption | intro _ | apply Dev.runSyl_canon | apply Dev.stpSyl_canon)
theorem execLdz_canon (y : Syl) (d : DReg) (a : Reg) (len : BitVec 5) (s : State) (t : State) (h : s.dev.Canon) (ht : execLdz y d a len s = .next t) : t.dev.Canon := by
  refine run_canon s t _ ?_ h ht
  repeat' (with_reducible first | assumption | intro _ | apply Dev.runSyl_canon | apply Dev.ldzSyl_canon)
theorem execStz_canon (y : Syl) (d : DReg) (a : Reg) (len : BitVec 5) (s : State) (t : State) (h : s.dev.Canon) (ht : execStz y d a len s = .next t) : t.dev.Canon := by
  refine run_canon s t _ ?_ h ht
  repeat' (with_reducible first | assumption | intro _ | apply Dev.runSyl_canon | apply Dev.stzSyl_canon)
theorem execPortEnable_canon (who : Agent) (p : BitVec 2) (s : State) (t : State) (h : s.dev.Canon) (ht : execPortEnable who p s = .next t) : t.dev.Canon := by
  refine run_canon s t _ ?_ h ht
  repeat' (first | (with_reducible first | assumption | intro _ | apply Dev.enablePort_canon) | split)
theorem execLinkTrainingComplete_canon (p : BitVec 2) (hello : List Byte) (s : State) (t : State) (h : s.dev.Canon) (ht : execLinkTrainingComplete p hello s = .next t) : t.dev.Canon := by
  refine run_canon s t _ ?_ h ht
  repeat' (with_reducible first | assumption | intro _ | apply Dev.trained_canon)
theorem execLinkRetrain_canon (p : BitVec 2) (s : State) (t : State) (h : s.dev.Canon) (ht : execLinkRetrain p s = .next t) : t.dev.Canon := by
  refine run_canon s t _ ?_ h ht
  repeat' (with_reducible first | assumption | intro _ | apply Dev.retrain_canon)
theorem execPosting_canon (p : BitVec 2) (frame : List Byte) (s : State) (t : State) (h : s.dev.Canon) (ht : execPosting p frame s = .next t) : t.dev.Canon := by
  refine run_canon s t _ ?_ h ht
  repeat' (with_reducible first | assumption | intro _ | apply Dev.frameIn_canon | apply Dev.onPosting_canon)
theorem execMarkFrame_canon (p : BitVec 2) (frame : List Byte) (s : State) (t : State) (h : s.dev.Canon) (ht : execMarkFrame p frame s = .next t) : t.dev.Canon := by
  refine run_canon s t _ ?_ h ht
  repeat' (with_reducible first | assumption | intro _ | apply Dev.frameIn_canon | apply Dev.onMark_canon)
theorem execDigest_canon (p : BitVec 2) (frame : List Byte) (s : State) (t : State) (h : s.dev.Canon) (ht : execDigest p frame s = .next t) : t.dev.Canon := by
  refine run_canon s t _ ?_ h ht
  repeat' (with_reducible first | assumption | intro _ | apply Dev.frameIn_canon | apply Dev.onDigest_canon)
theorem execAck_canon (p : BitVec 2) (frame : List Byte) (s : State) (t : State) (h : s.dev.Canon) (ht : execAck p frame s = .next t) : t.dev.Canon := by
  refine run_canon s t _ ?_ h ht
  repeat' (with_reducible first | assumption | intro _ | apply Dev.frameIn_canon | apply Dev.onAck_canon)
theorem execNak_canon (p : BitVec 2) (frame : List Byte) (s : State) (t : State) (h : s.dev.Canon) (ht : execNak p frame s = .next t) : t.dev.Canon := by
  refine run_canon s t _ ?_ h ht
  repeat' (with_reducible first | assumption | intro _ | apply Dev.frameIn_canon | apply Dev.onNak_canon)
theorem execHello_canon (p : BitVec 2) (frame : List Byte) (s : State) (t : State) (h : s.dev.Canon) (ht : execHello p frame s = .next t) : t.dev.Canon := by
  refine run_canon s t _ ?_ h ht
  repeat' (with_reducible first | assumption | intro _ | apply Dev.frameIn_canon | apply Dev.onHello_canon)
theorem execReservedTypeFrame_canon (p : BitVec 2) (frame : List Byte) (s : State) (t : State) (h : s.dev.Canon) (ht : execReservedTypeFrame p frame s = .next t) : t.dev.Canon := by
  refine run_canon s t _ ?_ h ht
  repeat' (first | (with_reducible first | assumption | intro _ | apply Dev.receive_canon) | split)
theorem execAckTimer_canon (p : BitVec 2) (s : State) (t : State) (h : s.dev.Canon) (ht : execAckTimer p s = .next t) : t.dev.Canon := by
  refine run_canon s t _ ?_ h ht
  repeat' (with_reducible first | assumption | intro _ | apply Dev.sendAck_canon)
theorem execXmSend_canon (who : Agent) (stream : BitVec 6) (addr : DWord) (s : State) (t : State) (h : s.dev.Canon) (ht : execXmSend who stream addr s = .next t) : t.dev.Canon := by
  refine run_canon s t _ ?_ h ht
  repeat' (first | (with_reducible first | assumption | intro _ | apply Dev.xmSend_canon) | split)
theorem execHeldPostingDelivery_canon (p : BitVec 2) (s : State) (t : State) (h : s.dev.Canon) (ht : execHeldPostingDelivery p s = .next t) : t.dev.Canon := by
  refine run_canon s t _ ?_ h ht
  repeat' (with_reducible first | assumption | intro _ | apply Dev.deliverHeld_canon)
theorem execMalfWindowEnd_canon (s : State) (t : State) (h : s.dev.Canon) (ht : execMalfWindowEnd s = .next t) : t.dev.Canon := by
  refine run_canon s t _ ?_ h ht
  repeat' (with_reducible first | assumption | intro _ | apply foldl_canon | apply Dev.malfWindow_canon)
theorem execPortDrain_canon (who : Agent) (p : BitVec 2) (s : State) (t : State) (h : s.dev.Canon) (ht : execPortDrain who p s = .next t) : t.dev.Canon := by
  refine run_canon s t _ ?_ h ht
  repeat' (first | (with_reducible first | assumption | intro _ | apply Dev.drainPort_canon) | split)
theorem execPortDrained_canon (p : BitVec 2) (s : State) (t : State) (h : s.dev.Canon) (ht : execPortDrained p s = .next t) : t.dev.Canon := by
  refine run_canon s t _ ?_ h ht
  repeat' (with_reducible first | assumption | intro _ | apply Dev.drainedPort_canon)
theorem execDmaTailDoorbell_canon (who : Agent) (e : BitVec 2) (c : BitVec 4) (value : Word) (s : State) (t : State) (h : s.dev.Canon) (ht : execDmaTailDoorbell who e c value s = .next t) : t.dev.Canon := by
  refine run_canon s t _ ?_ h ht
  repeat' (with_reducible first | assumption | intro _ | apply Dev.chanWrite_canon)
theorem execDmaCheadWrite_canon (who : Agent) (e : BitVec 2) (c : BitVec 4) (value : Word) (s : State) (t : State) (h : s.dev.Canon) (ht : execDmaCheadWrite who e c value s = .next t) : t.dev.Canon := by
  refine run_canon s t _ ?_ h ht
  repeat' (with_reducible first | assumption | intro _ | apply Dev.chanWrite_canon)
theorem execDmaRingConfigWrite_canon (who : Agent) (e : BitVec 2) (c : BitVec 4) (off : BitVec 8) (value : Word) (s : State) (t : State) (h : s.dev.Canon) (ht : execDmaRingConfigWrite who e c off value s = .next t) : t.dev.Canon := by
  refine run_canon s t _ ?_ h ht
  repeat' (first | (with_reducible first | assumption | intro _ | apply Dev.chanWrite_canon) | split)
theorem execDmaChannelEnable_canon (who : Agent) (e : BitVec 2) (c : BitVec 4) (s : State) (t : State) (h : s.dev.Canon) (ht : execDmaChannelEnable who e c s = .next t) : t.dev.Canon := by
  refine run_canon s t _ ?_ h ht
  repeat' (with_reducible first | assumption | intro _ | apply Dev.chanWrite_canon)
theorem execDmaStopRequest_canon (who : Agent) (e : BitVec 2) (c : BitVec 4) (s : State) (t : State) (h : s.dev.Canon) (ht : execDmaStopRequest who e c s = .next t) : t.dev.Canon := by
  refine run_canon s t _ ?_ h ht
  repeat' (with_reducible first | assumption | intro _ | apply Dev.chanWrite_canon)
theorem execChAuthWrite_canon (who : Agent) (e : BitVec 2) (c : BitVec 4) (value : Word) (s : State) (t : State) (h : s.dev.Canon) (ht : execChAuthWrite who e c value s = .next t) : t.dev.Canon := by
  refine run_canon s t _ ?_ h ht
  repeat' (with_reducible first | assumption | intro _ | apply Dev.chanWrite_canon)
theorem execChTrigWrite_canon (who : Agent) (e : BitVec 2) (c : BitVec 4) (value : Word) (s : State) (t : State) (h : s.dev.Canon) (ht : execChTrigWrite who e c value s = .next t) : t.dev.Canon := by
  refine run_canon s t _ ?_ h ht
  repeat' (with_reducible first | assumption | intro _ | apply Dev.chanWrite_canon)
theorem execChShctlArm_canon (who : Agent) (e : BitVec 2) (c : BitVec 4) (s : State) (t : State) (h : s.dev.Canon) (ht : execChShctlArm who e c s = .next t) : t.dev.Canon := by
  refine run_canon s t _ ?_ h ht
  repeat' (with_reducible first | assumption | intro _ | apply Dev.chanWrite_canon)
theorem execShadowSwap_canon (e : BitVec 2) (c : BitVec 4) (late : Option (Agent × BitVec 8 × Word)) (s : State) (t : State) (h : s.dev.Canon) (ht : execShadowSwap e c late s = .next t) : t.dev.Canon := by
  refine run_canon s t _ ?_ h ht
  repeat' (with_reducible first | assumption | intro _ | apply Dev.swapWith_canon)
theorem execDescriptorStart_canon (e : BitVec 2) (s : State) (t : State) (h : s.dev.Canon) (ht : execDescriptorStart e s = .next t) : t.dev.Canon := by
  refine run_canon s t _ ?_ h ht
  repeat' (with_reducible first | assumption | intro _ | apply Dev.descriptorStart_canon)
theorem execDmaNop_canon (e : BitVec 2) (c : BitVec 4) (hostData : List Byte) (fault : DmaFault) (s : State) (t : State) (h : s.dev.Canon) (ht : execDmaNop e c hostData fault s = .next t) : t.dev.Canon := by
  refine run_canon s t _ ?_ h ht
  repeat' (with_reducible first | assumption | intro _ | apply Dev.runDesc_canon)
theorem execCopy_canon (e : BitVec 2) (c : BitVec 4) (hostData : List Byte) (fault : DmaFault) (s : State) (t : State) (h : s.dev.Canon) (ht : execCopy e c hostData fault s = .next t) : t.dev.Canon := by
  refine run_canon s t _ ?_ h ht
  repeat' (with_reducible first | assumption | intro _ | apply Dev.runDesc_canon)
theorem execFill_canon (e : BitVec 2) (c : BitVec 4) (hostData : List Byte) (fault : DmaFault) (s : State) (t : State) (h : s.dev.Canon) (ht : execFill e c hostData fault s = .next t) : t.dev.Canon := by
  refine run_canon s t _ ?_ h ht
  repeat' (with_reducible first | assumption | intro _ | apply Dev.runDesc_canon)
theorem execConvert_canon (e : BitVec 2) (c : BitVec 4) (hostData : List Byte) (fault : DmaFault) (s : State) (t : State) (h : s.dev.Canon) (ht : execConvert e c hostData fault s = .next t) : t.dev.Canon := by
  refine run_canon s t _ ?_ h ht
  repeat' (with_reducible first | assumption | intro _ | apply Dev.runDesc_canon)
theorem execPrism_canon (e : BitVec 2) (c : BitVec 4) (hostData : List Byte) (fault : DmaFault) (s : State) (t : State) (h : s.dev.Canon) (ht : execPrism e c hostData fault s = .next t) : t.dev.Canon := by
  refine run_canon s t _ ?_ h ht
  repeat' (with_reducible first | assumption | intro _ | apply Dev.runDesc_canon)
theorem execPrismr_canon (e : BitVec 2) (c : BitVec 4) (hostData : List Byte) (fault : DmaFault) (s : State) (t : State) (h : s.dev.Canon) (ht : execPrismr e c hostData fault s = .next t) : t.dev.Canon := by
  refine run_canon s t _ ?_ h ht
  repeat' (with_reducible first | assumption | intro _ | apply Dev.runDesc_canon)
theorem execJexport_canon (e : BitVec 2) (c : BitVec 4) (hostData : List Byte) (fault : DmaFault) (s : State) (t : State) (h : s.dev.Canon) (ht : execJexport e c hostData fault s = .next t) : t.dev.Canon := by
  refine run_canon s t _ ?_ h ht
  repeat' (with_reducible first | assumption | intro _ | apply Dev.runDesc_canon)
theorem execDmaCompletionRecord_canon (e : BitVec 2) (c : BitVec 4) (s : State) (t : State) (h : s.dev.Canon) (ht : execDmaCompletionRecord e c s = .next t) : t.dev.Canon := by
  refine run_canon s t _ ?_ h ht
  repeat' (first | (with_reducible first | assumption | intro _ | apply Dev.nextRecord_canon) | split)
theorem execDmaBusError_canon (e : BitVec 2) (kind : BitVec 4) (addr : DWord) (s : State) (t : State) (h : s.dev.Canon) (ht : execDmaBusError e kind addr s = .next t) : t.dev.Canon := by
  refine run_canon s t _ ?_ h ht
  repeat' (first | (with_reducible first | assumption | intro _ | apply Dev.busStop_canon) | split)
theorem execDeRestart_canon (who : Agent) (e : BitVec 2) (s : State) (t : State) (h : s.dev.Canon) (ht : execDeRestart who e s = .next t) : t.dev.Canon := by
  refine run_canon s t _ ?_ h ht
  repeat' (first | (with_reducible first | assumption | intro _ | apply Dev.restartEngine_canon) | split)
theorem execEditStep_canon (core : CoreNo) (bay : BayNo) (chk : Bool) (s : State) (t : State) (h : s.dev.Canon) (ht : execEditStep core bay chk s = .next t) : t.dev.Canon := by
  refine run_canon s t _ ?_ h ht
  repeat' (with_reducible first | assumption | intro _ | apply Dev.editStep_canon)
theorem execWindowSpill_canon (core : CoreNo) (bay : BayNo) (fab : Bool) (s : State) (t : State) (h : s.dev.Canon) (ht : execWindowSpill core bay fab s = .next t) : t.dev.Canon := by
  refine run_canon s t _ ?_ h ht
  repeat' (first | (with_reducible first | assumption | intro _ | apply Dev.spill_canon) | split)
theorem execWindowFill_canon (core : CoreNo) (bay : BayNo) (fab : Bool) (s : State) (t : State) (h : s.dev.Canon) (ht : execWindowFill core bay fab s = .next t) : t.dev.Canon := by
  refine run_canon s t _ ?_ h ht
  repeat' (first | (with_reducible first | assumption | intro _ | apply Dev.fill_canon) | split)
theorem execSchedulerSelect_canon (core : CoreNo) (s : State) (t : State) (h : s.dev.Canon) (ht : execSchedulerSelect core s = .next t) : t.dev.Canon := by
  refine run_canon s t _ ?_ h ht
  repeat' (with_reducible first | assumption | intro _ | apply Dev.schedule_canon)
theorem execPreemption_canon (core : CoreNo) (s : State) (t : State) (h : s.dev.Canon) (ht : execPreemption core s = .next t) : t.dev.Canon := by
  refine run_canon s t _ ?_ h ht
  repeat' (with_reducible first | assumption | intro _ | apply Dev.giveWay_canon)
theorem execQuantumExpiry_canon (core : CoreNo) (s : State) (t : State) (h : s.dev.Canon) (ht : execQuantumExpiry core s = .next t) : t.dev.Canon := by
  refine run_canon s t _ ?_ h ht
  repeat' (with_reducible first | assumption | intro _ | apply Dev.giveWay_canon)
theorem execAutomaticLoad_canon (core : CoreNo) (s : State) (t : State) (h : s.dev.Canon) (ht : execAutomaticLoad core s = .next t) : t.dev.Canon := by
  refine run_canon s t _ ?_ h ht
  repeat' (with_reducible first | assumption | intro _ | apply Dev.automaticLoad_canon)
theorem execMissDataReturn_canon (core : CoreNo) (bay : BayNo) (s : State) (t : State) (h : s.dev.Canon) (ht : execMissDataReturn core bay s = .next t) : t.dev.Canon := by
  refine run_canon s t _ ?_ h ht
  repeat' (with_reducible first | assumption | intro _ | apply Dev.dataReturn_canon)
theorem execPageWalk_canon (core : CoreNo) (bay : BayNo) (fab : Bool) (s : State) (t : State) (h : s.dev.Canon) (ht : execPageWalk core bay fab s = .next t) : t.dev.Canon := by
  refine run_canon s t _ ?_ h ht
  repeat' (with_reducible first | assumption | intro _ | apply Dev.walkStep_canon)
theorem execTlbInvalidationComplete_canon (core : CoreNo) (bay : BayNo) (target : CoreNo) (s : State) (t : State) (h : s.dev.Canon) (ht : execTlbInvalidationComplete core bay target s = .next t) : t.dev.Canon := by
  refine run_canon s t _ ?_ h ht
  repeat' (with_reducible first | assumption | intro _ | apply Dev.invalidated_canon)
theorem execTickIn_canon (epochIn : Bool) (s : State) (t : State) (h : s.dev.Canon) (ht : execTickIn epochIn s = .next t) : t.dev.Canon := by
  refine run_canon s t _ ?_ h ht
  repeat' (with_reducible first | assumption | intro _ | apply Dev.tickIn_canon)
theorem execEpochSourceLoss_canon (altLive : Bool) (s : State) (t : State) (h : s.dev.Canon) (ht : execEpochSourceLoss altLive s = .next t) : t.dev.Canon := by
  refine run_canon s t _ ?_ h ht
  repeat' (with_reducible first | assumption | intro _ | apply Dev.sourceLoss_canon)
theorem execEpctlWrite_canon (who : Agent) (value : Word) (s : State) (t : State) (h : s.dev.Canon) (ht : execEpctlWrite who value s = .next t) : t.dev.Canon := by
  refine run_canon s t _ ?_ h ht
  repeat' (first | (with_reducible first | assumption | intro _ | apply Dev.writeEpctl_canon) | split)
theorem execEsCtlWrite_canon (who : Agent) (slot : BitVec 8) (value : Word) (s : State) (t : State) (h : s.dev.Canon) (ht : execEsCtlWrite who slot value s = .next t) : t.dev.Canon := by
  refine run_canon s t _ ?_ h ht
  repeat' (first | (with_reducible first | assumption | intro _ | apply Dev.writeSlot_canon) | split)
theorem execEventSlotFire_canon (s : State) (t : State) (h : s.dev.Canon) (ht : execEventSlotFire s = .next t) : t.dev.Canon := by
  refine run_canon s t _ ?_ h ht
  repeat' with_reducible apply Dev.fireSlot_canon
theorem execStoreBufferDrain_canon (core : CoreNo) (fab : Bool) (s : State) (t : State) (h : s.dev.Canon) (ht : execStoreBufferDrain core fab s = .next t) : t.dev.Canon := by
  refine run_canon s t _ ?_ h ht
  repeat' (with_reducible first | assumption | intro _ | apply Dev.drainOne_canon)
theorem execExceptionEntry_canon (core : CoreNo) (bay : BayNo) (fab : Bool) (s : State) (t : State) (h : s.dev.Canon) (ht : execExceptionEntry core bay fab s = .next t) : t.dev.Canon := by
  refine run_canon s t _ ?_ h ht
  repeat' (with_reducible first | assumption | intro _ | apply Dev.exceptionEntry_canon)
theorem execBundleFetch_canon (core : FetchAt) (s : State) (t : State) (h : s.dev.Canon) (ht : execBundleFetch core s = .next t) : t.dev.Canon := by
  refine run_canon s t _ ?_ h ht
  repeat' (with_reducible first | assumption | intro _ | apply Dev.bundleFetch_canon)
theorem execFaccWrite_canon (fn : FnNo) (n : BitVec 2) (value : DWord) (s : State) (t : State) (h : s.dev.Canon) (ht : execFaccWrite fn n value s = .next t) : t.dev.Canon := by
  refine run_canon s t _ ?_ h ht
  repeat' (with_reducible first | assumption | intro _ | apply Dev.byHost_canon | apply Dev.writeFacc_canon)
theorem execFeatCtlClose_canon (fn : FnNo) (s : State) (t : State) (h : s.dev.Canon) (ht : execFeatCtlClose fn s = .next t) : t.dev.Canon := by
  refine run_canon s t _ ?_ h ht
  repeat' (with_reducible first | assumption | intro _ | apply Dev.byHost_canon | apply Dev.closeFeat_canon)
theorem execEprElRead_canon (fn : FnNo) (s : State) (t : State) (h : s.dev.Canon) (ht : execEprElRead fn s = .next t) : t.dev.Canon := by
  refine run_canon s t _ ?_ h ht
  repeat' (first | (with_reducible first | assumption | intro _ | apply Dev.byHost_canon | apply Dev.setFn_canon) | split | simp only [canon_mk, canon_fold])
theorem execMwinDataWrite_canon (fn : FnNo) (value : Word) (s : State) (t : State) (h : s.dev.Canon) (ht : execMwinDataWrite fn value s = .next t) : t.dev.Canon := by
  refine run_canon s t _ ?_ h ht
  repeat' (first | (with_reducible first | assumption | intro _ | apply Dev.byHost_canon | apply Dev.writeMwin_canon) | split)
theorem execVfqWrite_canon (who fn : FnNo) (cq : Bool) (value : Word) (s : State) (t : State) (h : s.dev.Canon) (ht : execVfqWrite who fn cq value s = .next t) : t.dev.Canon := by
  refine run_canon s t _ ?_ h ht
  repeat' (with_reducible first | assumption | intro _ | apply Dev.byHost_canon | apply Dev.writeVfq_canon)
theorem execVfEnable_canon (value : Bool) (s : State) (t : State) (h : s.dev.Canon) (ht : execVfEnable value s = .next t) : t.dev.Canon := by
  refine run_canon s t _ ?_ h ht
  repeat' (with_reducible first | assumption | intro _ | apply Dev.byHost_canon | apply Dev.setVfEn_canon)
theorem execQueueRegWrite_canon (fn : FnNo) (off : BitVec 16) (value : Word) (s : State) (t : State) (h : s.dev.Canon) (ht : execQueueRegWrite fn off value s = .next t) : t.dev.Canon := by
  refine run_canon s t _ ?_ h ht
  repeat' (with_reducible first | assumption | intro _ | apply Dev.byHost_canon | apply Dev.writeQueueReg_canon)
theorem execSqEnable_canon (fn : FnNo) (q : BitVec 8) (s : State) (t : State) (h : s.dev.Canon) (ht : execSqEnable fn q s = .next t) : t.dev.Canon := by
  refine run_canon s t _ ?_ h ht
  repeat' (first | (with_reducible first | assumption | intro _ | apply Dev.byHost_canon | apply Dev.sqEnable_canon) | split)
theorem execSqDisable_canon (fn : FnNo) (q : BitVec 8) (s : State) (t : State) (h : s.dev.Canon) (ht : execSqDisable fn q s = .next t) : t.dev.Canon := by
  refine run_canon s t _ ?_ h ht
  repeat' (first | (with_reducible first | assumption | intro _ | apply Dev.byHost_canon | apply Dev.sqDisable_canon) | split)
theorem execCqEnable_canon (fn : FnNo) (q : BitVec 8) (s : State) (t : State) (h : s.dev.Canon) (ht : execCqEnable fn q s = .next t) : t.dev.Canon := by
  refine run_canon s t _ ?_ h ht
  repeat' (first | (with_reducible first | assumption | intro _ | apply Dev.byHost_canon | apply Dev.cqEnable_canon) | split)
theorem execCqDisable_canon (fn : FnNo) (q : BitVec 8) (s : State) (t : State) (h : s.dev.Canon) (ht : execCqDisable fn q s = .next t) : t.dev.Canon := by
  refine run_canon s t _ ?_ h ht
  repeat' (first | (with_reducible first | assumption | intro _ | apply Dev.byHost_canon | apply Dev.cqDisable_canon) | split)
theorem execSqTailDoorbell_canon (fn : FnNo) (q : BitVec 8) (value : Word) (s : State) (t : State) (h : s.dev.Canon) (ht : execSqTailDoorbell fn q value s = .next t) : t.dev.Canon := by
  refine run_canon s t _ ?_ h ht
  repeat' (with_reducible first | assumption | intro _ | apply Dev.byHost_canon | apply Dev.tailBell_canon)
theorem execCqHeadDoorbell_canon (fn : FnNo) (q : BitVec 8) (value : Word) (s : State) (t : State) (h : s.dev.Canon) (ht : execCqHeadDoorbell fn q value s = .next t) : t.dev.Canon := by
  refine run_canon s t _ ?_ h ht
  repeat' (with_reducible first | assumption | intro _ | apply Dev.byHost_canon | apply Dev.headBell_canon)
theorem execSubmissionFetch_canon (entry : Option (List Byte)) (s : State) (t : State) (h : s.dev.Canon) (ht : execSubmissionFetch entry s = .next t) : t.dev.Canon := by
  refine run_canon s t _ ?_ h ht
  repeat' (with_reducible first | assumption | intro _ | apply Dev.byHost_canon | apply Dev.fetchEntry_canon)
theorem execPost_canon (fn : FnNo) (q : BitVec 8) (s : State) (t : State) (h : s.dev.Canon) (ht : execPost fn q s = .next t) : t.dev.Canon := by
  refine run_canon s t _ ?_ h ht
  repeat' (with_reducible first | assumption | intro _ | apply Dev.doPost_canon)
theorem execMark_canon (fn : FnNo) (q : BitVec 8) (s : State) (t : State) (h : s.dev.Canon) (ht : execMark fn q s = .next t) : t.dev.Canon := by
  refine run_canon s t _ ?_ h ht
  repeat' (with_reducible first | assumption | intro _ | apply Dev.doMark_canon)
theorem execMarkComplete_canon (fn : FnNo) (q : BitVec 8) (s : State) (t : State) (h : s.dev.Canon) (ht : execMarkComplete fn q s = .next t) : t.dev.Canon := by
  refine run_canon s t _ ?_ h ht
  repeat' (with_reducible first | assumption | intro _ | apply Dev.doMarkEnd_canon)
theorem execNop_canon (fn : FnNo) (q : BitVec 8) (s : State) (t : State) (h : s.dev.Canon) (ht : execNop fn q s = .next t) : t.dev.Canon := by
  refine run_canon s t _ ?_ h ht
  repeat' (with_reducible first | assumption | intro _ | apply Dev.doNop_canon)
theorem execJstat_canon (fn : FnNo) (q : BitVec 8) (s : State) (t : State) (h : s.dev.Canon) (ht : execJstat fn q s = .next t) : t.dev.Canon := by
  refine run_canon s t _ ?_ h ht
  repeat' (with_reducible first | assumption | intro _ | apply Dev.doJstat_canon)
theorem execQstat_canon (fn : FnNo) (q : BitVec 8) (s : State) (t : State) (h : s.dev.Canon) (ht : execQstat fn q s = .next t) : t.dev.Canon := by
  refine run_canon s t _ ?_ h ht
  repeat' (with_reducible first | assumption | intro _ | apply Dev.doQstat_canon)
theorem execMsg_canon (fn : FnNo) (q : BitVec 8) (s : State) (t : State) (h : s.dev.Canon) (ht : execMsg fn q s = .next t) : t.dev.Canon := by
  refine run_canon s t _ ?_ h ht
  repeat' (with_reducible first | assumption | intro _ | apply Dev.doMsg_canon)
theorem execRread_canon (fn : FnNo) (q : BitVec 8) (s : State) (t : State) (h : s.dev.Canon) (ht : execRread fn q s = .next t) : t.dev.Canon := by
  refine run_canon s t _ ?_ h ht
  repeat' (with_reducible first | assumption | intro _ | apply Dev.doRread_canon)
theorem execRsnap_canon (fn : FnNo) (q : BitVec 8) (s : State) (t : State) (h : s.dev.Canon) (ht : execRsnap fn q s = .next t) : t.dev.Canon := by
  refine run_canon s t _ ?_ h ht
  repeat' (with_reducible first | assumption | intro _ | apply Dev.doRsnap_canon)
theorem execRclr_canon (fn : FnNo) (q : BitVec 8) (s : State) (t : State) (h : s.dev.Canon) (ht : execRclr fn q s = .next t) : t.dev.Canon := by
  refine run_canon s t _ ?_ h ht
  repeat' (with_reducible first | assumption | intro _ | apply Dev.doRclr_canon)
theorem execInRingConfigWrite_canon (who : Agent) (ring : BitVec 7) (ctl : Bool) (value : Word) (s : State) (t : State) (h : s.dev.Canon) (ht : execInRingConfigWrite who ring ctl value s = .next t) : t.dev.Canon := by
  refine run_canon s t _ ?_ h ht
  repeat' (with_reducible first | assumption | intro _ | apply Dev.ringStore_canon)
theorem execInCplWrite_canon (who : Agent) (ring : BitVec 7) (value : Word) (s : State) (t : State) (h : s.dev.Canon) (ht : execInCplWrite who ring value s = .next t) : t.dev.Canon := by
  refine run_canon s t _ ?_ h ht
  repeat' (with_reducible first | assumption | intro _ | apply Dev.ringStore_canon)
theorem execInHeadWrite_canon (who : Agent) (ring : BitVec 7) (value : Word) (s : State) (t : State) (h : s.dev.Canon) (ht : execInHeadWrite who ring value s = .next t) : t.dev.Canon := by
  refine run_canon s t _ ?_ h ht
  repeat' (with_reducible first | assumption | intro _ | apply Dev.ringStore_canon)
theorem execCqModTimerExpiry_canon (fn : FnNo) (q : BitVec 8) (s : State) (t : State) (h : s.dev.Canon) (ht : execCqModTimerExpiry fn q s = .next t) : t.dev.Canon := by
  refine run_canon s t _ ?_ h ht
  repeat' (with_reducible first | assumption | intro _ | apply Dev.byHost_canon | apply Dev.modTimer_canon)
theorem execFunctionLevelResetVf_canon (fn : FnNo) (s : State) (t : State) (h : s.dev.Canon) (ht : execFunctionLevelResetVf fn s = .next t) : t.dev.Canon := by
  refine run_canon s t _ ?_ h ht
  repeat' (with_reducible first | assumption | intro _ | apply Dev.byHost_canon | apply Dev.flrVf_canon)
theorem execFunctionLevelResetPf_canon (s : State) (t : State) (h : s.dev.Canon) (ht : execFunctionLevelResetPf s = .next t) : t.dev.Canon := by
  refine run_canon s t _ ?_ h ht
  repeat' (with_reducible first | assumption | intro _ | apply Dev.byHost_canon | apply Dev.flrPf_canon)
theorem execMsixUnmask_canon (fn : FnNo) (vec : BitVec 7) (s : State) (t : State) (h : s.dev.Canon) (ht : execMsixUnmask fn vec s = .next t) : t.dev.Canon := by
  refine run_canon s t _ ?_ h ht
  repeat' (with_reducible first | assumption | intro _ | apply Dev.byHost_canon | apply Dev.unmask_canon)
theorem execAdd_canon (y : Syl) (d a b : Reg) (s : State) (t : State) (h : s.dev.Canon) (ht : execAdd y d a b s = .next t) : t.dev.Canon := by
  refine run_canon s t _ ?_ h ht
  repeat' (first | (with_reducible first | assumption | intro _ | apply Dev.runSyl_canon) | exact trivial)
theorem execSub_canon (y : Syl) (d a b : Reg) (s : State) (t : State) (h : s.dev.Canon) (ht : execSub y d a b s = .next t) : t.dev.Canon := by
  refine run_canon s t _ ?_ h ht
  repeat' (first | (with_reducible first | assumption | intro _ | apply Dev.runSyl_canon) | exact trivial)
theorem execAndd_canon (y : Syl) (d a b : Reg) (s : State) (t : State) (h : s.dev.Canon) (ht : execAndd y d a b s = .next t) : t.dev.Canon := by
  refine run_canon s t _ ?_ h ht
  repeat' (first | (with_reducible first | assumption | intro _ | apply Dev.runSyl_canon) | exact trivial)
theorem execOrr_canon (y : Syl) (d a b : Reg) (s : State) (t : State) (h : s.dev.Canon) (ht : execOrr y d a b s = .next t) : t.dev.Canon := by
  refine run_canon s t _ ?_ h ht
  repeat' (first | (with_reducible first | assumption | intro _ | apply Dev.runSyl_canon) | exact trivial)
theorem execXor_canon (y : Syl) (d a b : Reg) (s : State) (t : State) (h : s.dev.Canon) (ht : execXor y d a b s = .next t) : t.dev.Canon := by
  refine run_canon s t _ ?_ h ht
  repeat' (first | (with_reducible first | assumption | intro _ | apply Dev.runSyl_canon) | exact trivial)
theorem execAndn_canon (y : Syl) (d a b : Reg) (s : State) (t : State) (h : s.dev.Canon) (ht : execAndn y d a b s = .next t) : t.dev.Canon := by
  refine run_canon s t _ ?_ h ht
  repeat' (first | (with_reducible first | assumption | intro _ | apply Dev.runSyl_canon) | exact trivial)
theorem execShl_canon (y : Syl) (d a b : Reg) (s : State) (t : State) (h : s.dev.Canon) (ht : execShl y d a b s = .next t) : t.dev.Canon := by
  refine run_canon s t _ ?_ h ht
  repeat' (first | (with_reducible first | assumption | intro _ | apply Dev.runSyl_canon) | exact trivial)
theorem execShr_canon (y : Syl) (d a b : Reg) (s : State) (t : State) (h : s.dev.Canon) (ht : execShr y d a b s = .next t) : t.dev.Canon := by
  refine run_canon s t _ ?_ h ht
  repeat' (first | (with_reducible first | assumption | intro _ | apply Dev.runSyl_canon) | exact trivial)
theorem execSar_canon (y : Syl) (d a b : Reg) (s : State) (t : State) (h : s.dev.Canon) (ht : execSar y d a b s = .next t) : t.dev.Canon := by
  refine run_canon s t _ ?_ h ht
  repeat' (first | (with_reducible first | assumption | intro _ | apply Dev.runSyl_canon) | exact trivial)
theorem execRol_canon (y : Syl) (d a b : Reg) (s : State) (t : State) (h : s.dev.Canon) (ht : execRol y d a b s = .next t) : t.dev.Canon := by
  refine run_canon s t _ ?_ h ht
  repeat' (first | (with_reducible first | assumption | intro _ | apply Dev.runSyl_canon) | exact trivial)
theorem execMin_canon (y : Syl) (d a b : Reg) (s : State) (t : State) (h : s.dev.Canon) (ht : execMin y d a b s = .next t) : t.dev.Canon := by
  refine run_canon s t _ ?_ h ht
  repeat' (first | (with_reducible first | assumption | intro _ | apply Dev.runSyl_canon) | exact trivial)
theorem execMax_canon (y : Syl) (d a b : Reg) (s : State) (t : State) (h : s.dev.Canon) (ht : execMax y d a b s = .next t) : t.dev.Canon := by
  refine run_canon s t _ ?_ h ht
  repeat' (first | (with_reducible first | assumption | intro _ | apply Dev.runSyl_canon) | exact trivial)
theorem execMinu_canon (y : Syl) (d a b : Reg) (s : State) (t : State) (h : s.dev.Canon) (ht : execMinu y d a b s = .next t) : t.dev.Canon := by
  refine run_canon s t _ ?_ h ht
  repeat' (first | (with_reducible first | assumption | intro _ | apply Dev.runSyl_canon) | exact trivial)
theorem execMaxu_canon (y : Syl) (d a b : Reg) (s : State) (t : State) (h : s.dev.Canon) (ht : execMaxu y d a b s = .next t) : t.dev.Canon := by
  refine run_canon s t _ ?_ h ht
  repeat' (first | (with_reducible first | assumption | intro _ | apply Dev.runSyl_canon) | exact trivial)
theorem execAddv_canon (y : Syl) (d a b : Reg) (s : State) (t : State) (h : s.dev.Canon) (ht : execAddv y d a b s = .next t) : t.dev.Canon := by
  refine run_canon s t _ ?_ h ht
  repeat' (first | (with_reducible first | assumption | intro _ | apply Dev.runSyl_canon) | exact trivial)
theorem execSubv_canon (y : Syl) (d a b : Reg) (s : State) (t : State) (h : s.dev.Canon) (ht : execSubv y d a b s = .next t) : t.dev.Canon := by
  refine run_canon s t _ ?_ h ht
  repeat' (first | (with_reducible first | assumption | intro _ | apply Dev.runSyl_canon) | exact trivial)
theorem execNeg_canon (y : Syl) (d a : Reg) (s : State) (t : State) (h : s.dev.Canon) (ht : execNeg y d a s = .next t) : t.dev.Canon := by
  refine run_canon s t _ ?_ h ht
  repeat' (first | (with_reducible first | assumption | intro _ | apply Dev.runSyl_canon) | exact trivial)
theorem execAbs_canon (y : Syl) (d a : Reg) (s : State) (t : State) (h : s.dev.Canon) (ht : execAbs y d a s = .next t) : t.dev.Canon := by
  refine run_canon s t _ ?_ h ht
  repeat' (first | (with_reducible first | assumption | intro _ | apply Dev.runSyl_canon) | exact trivial)
theorem execClz_canon (y : Syl) (d a : Reg) (s : State) (t : State) (h : s.dev.Canon) (ht : execClz y d a s = .next t) : t.dev.Canon := by
  refine run_canon s t _ ?_ h ht
  repeat' (first | (with_reducible first | assumption | intro _ | apply Dev.runSyl_canon) | exact trivial)
theorem execPopc_canon (y : Syl) (d a : Reg) (s : State) (t : State) (h : s.dev.Canon) (ht : execPopc y d a s = .next t) : t.dev.Canon := by
  refine run_canon s t _ ?_ h ht
  repeat' (first | (with_reducible first | assumption | intro _ | apply Dev.runSyl_canon) | exact trivial)
theorem execSextb_canon (y : Syl) (d a : Reg) (s : State) (t : State) (h : s.dev.Canon) (ht : execSextb y d a s = .next t) : t.dev.Canon := by
  refine run_canon s t _ ?_ h ht
  repeat' (first | (with_reducible first | assumption | intro _ | apply Dev.runSyl_canon) | exact trivial)
theorem execSexth_canon (y : Syl) (d a : Reg) (s : State) (t : State) (h : s.dev.Canon) (ht : execSexth y d a s = .next t) : t.dev.Canon := by
  refine run_canon s t _ ?_ h ht
  repeat' (first | (with_reducible first | assumption | intro _ | apply Dev.runSyl_canon) | exact trivial)
theorem execZextb_canon (y : Syl) (d a : Reg) (s : State) (t : State) (h : s.dev.Canon) (ht : execZextb y d a s = .next t) : t.dev.Canon := by
  refine run_canon s t _ ?_ h ht
  repeat' (first | (with_reducible first | assumption | intro _ | apply Dev.runSyl_canon) | exact trivial)
theorem execZexth_canon (y : Syl) (d a : Reg) (s : State) (t : State) (h : s.dev.Canon) (ht : execZexth y d a s = .next t) : t.dev.Canon := by
  refine run_canon s t _ ?_ h ht
  repeat' (first | (with_reducible first | assumption | intro _ | apply Dev.runSyl_canon) | exact trivial)
theorem execBswap_canon (y : Syl) (d a : Reg) (s : State) (t : State) (h : s.dev.Canon) (ht : execBswap y d a s = .next t) : t.dev.Canon := by
  refine run_canon s t _ ?_ h ht
  repeat' (first | (with_reducible first | assumption | intro _ | apply Dev.runSyl_canon) | exact trivial)
theorem execAddi_canon (y : Syl) (d a : Reg) (imm : BitVec 10) (p : Option Limm) (s : State) (t : State) (h : s.dev.Canon) (ht : execAddi y d a imm p s = .next t) : t.dev.Canon := by
  refine run_canon s t _ ?_ h ht
  repeat' (first | (with_reducible first | assumption | intro _ | apply Dev.runSyl_canon) | exact trivial)
theorem execAndi_canon (y : Syl) (d a : Reg) (imm : BitVec 10) (p : Option Limm) (s : State) (t : State) (h : s.dev.Canon) (ht : execAndi y d a imm p s = .next t) : t.dev.Canon := by
  refine run_canon s t _ ?_ h ht
  repeat' (first | (with_reducible first | assumption | intro _ | apply Dev.runSyl_canon) | exact trivial)
theorem execOri_canon (y : Syl) (d a : Reg) (imm : BitVec 10) (p : Option Limm) (s : State) (t : State) (h : s.dev.Canon) (ht : execOri y d a imm p s = .next t) : t.dev.Canon := by
  refine run_canon s t _ ?_ h ht
  repeat' (first | (with_reducible first | assumption | intro _ | apply Dev.runSyl_canon) | exact trivial)
theorem execXori_canon (y : Syl) (d a : Reg) (imm : BitVec 10) (p : Option Limm) (s : State) (t : State) (h : s.dev.Canon) (ht : execXori y d a imm p s = .next t) : t.dev.Canon := by
  refine run_canon s t _ ?_ h ht
  repeat' (first | (with_reducible first | assumption | intro _ | apply Dev.runSyl_canon) | exact trivial)
theorem execShli_canon (y : Syl) (d a : Reg) (count : BitVec 6) (s : State) (t : State) (h : s.dev.Canon) (ht : execShli y d a count s = .next t) : t.dev.Canon := by
  refine run_canon s t _ ?_ h ht
  repeat' (first | (with_reducible first | assumption | intro _ | apply Dev.runSyl_canon) | exact trivial)
theorem execShri_canon (y : Syl) (d a : Reg) (count : BitVec 6) (s : State) (t : State) (h : s.dev.Canon) (ht : execShri y d a count s = .next t) : t.dev.Canon := by
  refine run_canon s t _ ?_ h ht
  repeat' (first | (with_reducible first | assumption | intro _ | apply Dev.runSyl_canon) | exact trivial)
theorem execSari_canon (y : Syl) (d a : Reg) (count : BitVec 6) (s : State) (t : State) (h : s.dev.Canon) (ht : execSari y d a count s = .next t) : t.dev.Canon := by
  refine run_canon s t _ ?_ h ht
  repeat' (first | (with_reducible first | assumption | intro _ | apply Dev.runSyl_canon) | exact trivial)
theorem execRoli_canon (y : Syl) (d a : Reg) (count : BitVec 6) (s : State) (t : State) (h : s.dev.Canon) (ht : execRoli y d a count s = .next t) : t.dev.Canon := by
  refine run_canon s t _ ?_ h ht
  repeat' (first | (with_reducible first | assumption | intro _ | apply Dev.runSyl_canon) | exact trivial)
theorem execSel_canon (y : Syl) (d a b : Reg) (qs : Pred) (s : State) (t : State) (h : s.dev.Canon) (ht : execSel y d a b qs s = .next t) : t.dev.Canon := by
  refine run_canon s t _ ?_ h ht
  repeat' (first | (with_reducible first | assumption | intro _ | apply Dev.runSyl_canon) | exact trivial)
theorem execCmp_canon (y : Syl) (qt : Pred) (a b : Reg) (cond : BitVec 3) (mode : BitVec 2) (s : State) (t : State) (h : s.dev.Canon) (ht : execCmp y qt a b cond mode s = .next t) : t.dev.Canon := by
  refine run_canon s t _ ?_ h ht
  repeat' (with_reducible first | assumption | intro _ | apply Dev.runSyl_canon | apply Dev.compareOut_canon)
theorem execCmpi_canon (y : Syl) (qt : Pred) (a : Reg) (cond : BitVec 3) (mode : BitVec 2) (imm : BitVec 6) (p : Option Limm) (s : State) (t : State) (h : s.dev.Canon) (ht : execCmpi y qt a cond mode imm p s = .next t) : t.dev.Canon := by
  refine run_canon s t _ ?_ h ht
  repeat' (with_reducible first | assumption | intro _ | apply Dev.runSyl_canon | apply Dev.compareOut_canon)
theorem execPand_canon (y : Syl) (qd qa qb : Pred) (s : State) (t : State) (h : s.dev.Canon) (ht : execPand y qd qa qb s = .next t) : t.dev.Canon := by
  refine run_canon s t _ ?_ h ht
  repeat' (first | (with_reducible first | assumption | intro _ | apply Dev.runSyl_canon) | exact trivial)
theorem execPor_canon (y : Syl) (qd qa qb : Pred) (s : State) (t : State) (h : s.dev.Canon) (ht : execPor y qd qa qb s = .next t) : t.dev.Canon := by
  refine run_canon s t _ ?_ h ht
  repeat' (first | (with_reducible first | assumption | intro _ | apply Dev.runSyl_canon) | exact trivial)
theorem execPxor_canon (y : Syl) (qd qa qb : Pred) (s : State) (t : State) (h : s.dev.Canon) (ht : execPxor y qd qa qb s = .next t) : t.dev.Canon := by
  refine run_canon s t _ ?_ h ht
  repeat' (first | (with_reducible first | assumption | intro _ | apply Dev.runSyl_canon) | exact trivial)
theorem execPandn_canon (y : Syl) (qd qa qb : Pred) (s : State) (t : State) (h : s.dev.Canon) (ht : execPandn y qd qa qb s = .next t) : t.dev.Canon := by
  refine run_canon s t _ ?_ h ht
  repeat' (first | (with_reducible first | assumption | intro _ | apply Dev.runSyl_canon) | exact trivial)
theorem execPnot_canon (y : Syl) (qd qa : Pred) (s : State) (t : State) (h : s.dev.Canon) (ht : execPnot y qd qa s = .next t) : t.dev.Canon := by
  refine run_canon s t _ ?_ h ht
  repeat' (first | (with_reducible first | assumption | intro _ | apply Dev.runSyl_canon) | exact trivial)
theorem execMovs_canon (y : Syl) (r : Reg) (code : BitVec 5) (s : State) (t : State) (h : s.dev.Canon) (ht : execMovs y r code s = .next t) : t.dev.Canon := by
  refine run_canon s t _ ?_ h ht
  repeat' (with_reducible first | assumption | intro _ | apply Dev.runSyl_canon | apply Dev.movsOut_canon)
theorem execMovf_canon (y : Syl) (r : Reg) (code : BitVec 5) (s : State) (t : State) (h : s.dev.Canon) (ht : execMovf y r code s = .next t) : t.dev.Canon := by
  refine run_canon s t _ ?_ h ht
  repeat' (with_reducible first | assumption | intro _ | apply Dev.runSyl_canon | apply Dev.movfOut_canon)
theorem execJsCtlWrite_canon (who : Agent) (stream : BitVec 6) (value : Word) (s : State) (t : State) (h : s.dev.Canon) (ht : execJsCtlWrite who stream value s = .next t) : t.dev.Canon := by
  refine run_canon s t _ ?_ h ht
  repeat' (first | (with_reducible first | assumption | intro _ | apply Dev.writeJsCtl_canon) | split)
theorem execJsCtlReopen_canon (who : Agent) (stream : BitVec 6) (s : State) (t : State) (h : s.dev.Canon) (ht : execJsCtlReopen who stream s = .next t) : t.dev.Canon := by
  refine run_canon s t _ ?_ h ht
  repeat' (first | (with_reducible first | assumption | intro _ | apply Dev.writeJsCtl_canon) | split)
theorem execDigestSeal_canon (stream : BitVec 6) (s : State) (t : State) (h : s.dev.Canon) (ht : execDigestSeal stream s = .next t) : t.dev.Canon := by
  refine run_canon s t _ ?_ h ht
  repeat' (with_reducible first | assumption | intro _ | apply Dev.sealDigest_canon)
theorem execDigestCompare_canon (stream : BitVec 6) (bridge : Bool) (origin : BitVec 4) (s : State) (t : State) (h : s.dev.Canon) (ht : execDigestCompare stream bridge origin s = .next t) : t.dev.Canon := by
  refine run_canon s t _ ?_ h ht
  repeat' (with_reducible first | assumption | intro _ | apply Dev.compareDigest_canon)
theorem execDigestWaitExpiry_canon (stream : BitVec 6) (s : State) (t : State) (h : s.dev.Canon) (ht : execDigestWaitExpiry stream s = .next t) : t.dev.Canon := by
  refine run_canon s t _ ?_ h ht
  repeat' (with_reducible first | assumption | intro _ | apply Dev.waitOut_canon)
theorem execPowerFail_canon (s : State) (t : State) (h : s.dev.Canon) (ht : execPowerFail s = .next t) : t.dev.Canon := by
  refine run_canon s t _ ?_ h ht
  repeat' with_reducible apply Dev.registerFailure_canon
theorem execPowerFailSequenceEnd_canon (s : State) (t : State) (h : s.dev.Canon) (ht : execPowerFailSequenceEnd s = .next t) : t.dev.Canon := by
  refine run_canon s t _ ?_ h ht
  repeat' with_reducible apply Dev.powerFailEnd_canon
theorem execRecoveryScanEnd_canon (s : State) (t : State) (h : s.dev.Canon) (ht : execRecoveryScanEnd s = .next t) : t.dev.Canon := by
  refine run_canon s t _ ?_ h ht
  repeat' (first | (with_reducible first | assumption | intro _ | apply Dev.recoverAll_canon) | split)
theorem execJapp_canon (y : Syl) (d a b : Reg) (s : State) (t : State) (h : s.dev.Canon) (ht : execJapp y d a b s = .next t) : t.dev.Canon := by
  refine run_canon s t _ ?_ h ht
  repeat' (with_reducible first | assumption | intro _ | apply Dev.runSyl_canon | apply Dev.jappOut_canon)
theorem execJwait_canon (y : Syl) (a b : Reg) (s : State) (t : State) (h : s.dev.Canon) (ht : execJwait y a b s = .next t) : t.dev.Canon := by
  refine run_canon s t _ ?_ h ht
  repeat' (with_reducible first | assumption | intro _ | apply Dev.runSyl_canon | apply Dev.jwaitOut_canon)
theorem execJdur_canon (y : Syl) (d b : Reg) (s : State) (t : State) (h : s.dev.Canon) (ht : execJdur y d b s = .next t) : t.dev.Canon := by
  refine run_canon s t _ ?_ h ht
  repeat' (with_reducible first | assumption | intro _ | apply Dev.runSyl_canon | apply Dev.jdurOut_canon)
theorem execJrel_canon (y : Syl) (a b : Reg) (s : State) (t : State) (h : s.dev.Canon) (ht : execJrel y a b s = .next t) : t.dev.Canon := by
  refine run_canon s t _ ?_ h ht
  repeat' (with_reducible first | assumption | intro _ | apply Dev.runSyl_canon | apply Dev.jrelOut_canon)
theorem execJournalQueueSpace_canon (s : State) (t : State) (h : s.dev.Canon) (ht : execJournalQueueSpace s = .next t) : t.dev.Canon := by
  refine run_canon s t _ ?_ h ht
  repeat' with_reducible apply Dev.queueSpace_canon
theorem execRecordDurable_canon (stream : BitVec 6) (s : State) (t : State) (h : s.dev.Canon) (ht : execRecordDurable stream s = .next t) : t.dev.Canon := by
  refine run_canon s t _ ?_ h ht
  repeat' (with_reducible first | assumption | intro _ | apply Dev.recordDurable_canon)
theorem execStatus_canon (tag : Byte) (args : List Byte) (s : State) (t : State) (h : s.dev.Canon) (ht : execStatus tag args s = .next t) : t.dev.Canon := by
  refine run_canon s t _ ?_ h ht
  repeat' (with_reducible first | assumption | intro _ | apply Dev.mboxTake_canon | apply Dev.mboxForm_canon | apply Dev.mboxReply_canon)
theorem execRrec_canon (tag : Byte) (args : List Byte) (s : State) (t : State) (h : s.dev.Canon) (ht : execRrec tag args s = .next t) : t.dev.Canon := by
  refine run_canon s t _ ?_ h ht
  repeat' (with_reducible first | assumption | intro _ | apply Dev.mboxTake_canon | apply Dev.mboxForm_canon | apply Dev.mboxReply_canon)
theorem execPdreq_canon (tag : Byte) (args : List Byte) (s : State) (t : State) (h : s.dev.Canon) (ht : execPdreq tag args s = .next t) : t.dev.Canon := by
  refine run_canon s t _ ?_ h ht
  repeat' (first | (with_reducible first | assumption | intro _ | apply Dev.mboxTake_canon | apply Dev.mboxForm_canon | apply Dev.pdRefuse_canon | apply Dev.mboxReply_canon | apply Dev.pdStart_canon) | split | simp only [canon_mk, canon_fold])
theorem execPdstat_canon (tag : Byte) (args : List Byte) (s : State) (t : State) (h : s.dev.Canon) (ht : execPdstat tag args s = .next t) : t.dev.Canon := by
  refine run_canon s t _ ?_ h ht
  repeat' (with_reducible first | assumption | intro _ | apply Dev.mboxTake_canon | apply Dev.mboxForm_canon | apply Dev.mboxReply_canon)
theorem execLkrec_canon (tag : Byte) (args : List Byte) (s : State) (t : State) (h : s.dev.Canon) (ht : execLkrec tag args s = .next t) : t.dev.Canon := by
  refine run_canon s t _ ?_ h ht
  repeat' (with_reducible first | assumption | intro _ | apply Dev.mboxTake_canon | apply Dev.mboxForm_canon | apply Dev.mboxReply_canon)
theorem execStage_canon (tag : Byte) (args : List Byte) (s : State) (t : State) (h : s.dev.Canon) (ht : execStage tag args s = .next t) : t.dev.Canon := by
  refine run_canon s t _ ?_ h ht
  repeat' (with_reducible first | assumption | intro _ | apply Dev.mboxTake_canon | apply Dev.mboxForm_canon | apply Dev.mirrorWrite_canon | apply Dev.mboxReply_canon)
theorem execCsign_canon (tag : Byte) (args : List Byte) (s : State) (t : State) (h : s.dev.Canon) (ht : execCsign tag args s = .next t) : t.dev.Canon := by
  refine run_canon s t _ ?_ h ht
  repeat' (with_reducible first | assumption | intro _ | apply Dev.mboxTake_canon | apply Dev.mboxForm_canon | apply Dev.setBank_canon | apply Dev.mcsWrite_canon | apply Dev.mboxReply_canon)
theorem execRunext_canon (tag : Byte) (args : List Byte) (s : State) (t : State) (h : s.dev.Canon) (ht : execRunext tag args s = .next t) : t.dev.Canon := by
  refine run_canon s t _ ?_ h ht
  repeat' (first | (with_reducible first | assumption | intro _ | apply Dev.mboxTake_canon | apply Dev.mboxForm_canon | apply Dev.mboxReply_canon | apply Dev.runExt_canon) | split)
theorem execImgopen_canon (tag : Byte) (args : List Byte) (s : State) (t : State) (h : s.dev.Canon) (ht : execImgopen tag args s = .next t) : t.dev.Canon := by
  refine run_canon s t _ ?_ h ht
  repeat' (first | (with_reducible first | assumption | intro _ | apply Dev.mboxTake_canon | apply Dev.mboxForm_canon | apply Dev.mboxReply_canon) | split | simp only [canon_mk, canon_fold])
theorem execImgdata_canon (tag : Byte) (args : List Byte) (s : State) (t : State) (h : s.dev.Canon) (ht : execImgdata tag args s = .next t) : t.dev.Canon := by
  refine run_canon s t _ ?_ h ht
  repeat' (first | (with_reducible first | assumption | intro _ | apply Dev.mboxTake_canon | apply Dev.mboxForm_canon | apply Dev.mboxReply_canon) | split | simp only [canon_mk, canon_fold])
theorem execImgclose_canon (tag : Byte) (args : List Byte) (s : State) (t : State) (h : s.dev.Canon) (ht : execImgclose tag args s = .next t) : t.dev.Canon := by
  refine run_canon s t _ ?_ h ht
  repeat' (first | (with_reducible first | assumption | intro _ | apply Dev.mboxTake_canon | apply Dev.mboxForm_canon | apply Dev.mboxReply_canon) | split | simp only [canon_mk, canon_fold])
theorem execSmbusRclr_canon (tag : Byte) (args : List Byte) (s : State) (t : State) (h : s.dev.Canon) (ht : execSmbusRclr tag args s = .next t) : t.dev.Canon := by
  refine run_canon s t _ ?_ h ht
  repeat' (with_reducible first | assumption | intro _ | apply Dev.mboxTake_canon | apply Dev.mboxForm_canon | apply Dev.clearRecorder_canon | apply Dev.mboxReply_canon)
theorem execDevrst_canon (tag : Byte) (args : List Byte) (s : State) (t : State) (h : s.dev.Canon) (ht : execDevrst tag args s = .next t) : t.dev.Canon := by
  refine run_canon s t _ ?_ h ht
  repeat' (first | (with_reducible first | assumption | intro _ | apply Dev.mboxTake_canon | apply Dev.mboxForm_canon | apply Dev.mboxReply_canon) | simp only [canon_mk, canon_fold])
theorem execMailboxBadreq_canon (tag opcode : Byte) (s : State) (t : State) (h : s.dev.Canon) (ht : execMailboxBadreq tag opcode s = .next t) : t.dev.Canon := by
  refine run_canon s t _ ?_ h ht
  repeat' (first | (with_reducible first | assumption | intro _ | apply Dev.mboxTake_canon | apply Dev.mboxReply_canon) | split)
theorem execSmbusTimeout_canon (s : State) (t : State) (h : s.dev.Canon) (ht : execSmbusTimeout s = .next t) : t.dev.Canon := by
  refine run_canon s t _ ?_ h ht
  repeat' (first | (with_reducible first | assumption | intro _ | apply Dev.modPu_canon) | simp only [canon_mk, canon_fold])
theorem execMailboxResponseRead_canon (s : State) (t : State) (h : s.dev.Canon) (ht : execMailboxResponseRead s = .next t) : t.dev.Canon := by
  refine run_canon s t _ ?_ h ht
  repeat' (first | (with_reducible first | assumption | intro _ | apply Dev.modPu_canon | apply Dev.deviceReset_canon) | split)
theorem execLdb_canon (y : Syl) (d a : Reg) (am : BitVec 2) (low : BitVec 8) (p : Option Limm) (s : State) (t : State) (h : s.dev.Canon) (ht : execLdb y d a am low p s = .next t) : t.dev.Canon := by
  refine run_canon s t _ ?_ h ht
  repeat' (with_reducible first | assumption | intro _ | apply Dev.runSyl_canon | apply Dev.intLoad_canon)
theorem execLdbu_canon (y : Syl) (d a : Reg) (am : BitVec 2) (low : BitVec 8) (p : Option Limm) (s : State) (t : State) (h : s.dev.Canon) (ht : execLdbu y d a am low p s = .next t) : t.dev.Canon := by
  refine run_canon s t _ ?_ h ht
  repeat' (with_reducible first | assumption | intro _ | apply Dev.runSyl_canon | apply Dev.intLoad_canon)
theorem execLdh_canon (y : Syl) (d a : Reg) (am : BitVec 2) (low : BitVec 8) (p : Option Limm) (s : State) (t : State) (h : s.dev.Canon) (ht : execLdh y d a am low p s = .next t) : t.dev.Canon := by
  refine run_canon s t _ ?_ h ht
  repeat' (with_reducible first | assumption | intro _ | apply Dev.runSyl_canon | apply Dev.intLoad_canon)
theorem execLdhu_canon (y : Syl) (d a : Reg) (am : BitVec 2) (low : BitVec 8) (p : Option Limm) (s : State) (t : State) (h : s.dev.Canon) (ht : execLdhu y d a am low p s = .next t) : t.dev.Canon := by
  refine run_canon s t _ ?_ h ht
  repeat' (with_reducible first | assumption | intro _ | apply Dev.runSyl_canon | apply Dev.intLoad_canon)
theorem execLdw_canon (y : Syl) (d a : Reg) (am : BitVec 2) (low : BitVec 8) (p : Option Limm) (s : State) (t : State) (h : s.dev.Canon) (ht : execLdw y d a am low p s = .next t) : t.dev.Canon := by
  refine run_canon s t _ ?_ h ht
  repeat' (with_reducible first | assumption | intro _ | apply Dev.runSyl_canon | apply Dev.intLoad_canon)
theorem execStb_canon (y : Syl) (d a : Reg) (am : BitVec 2) (low : BitVec 8) (p : Option Limm) (s : State) (t : State) (h : s.dev.Canon) (ht : execStb y d a am low p s = .next t) : t.dev.Canon := by
  refine run_canon s t _ ?_ h ht
  repeat' (with_reducible first | assumption | intro _ | apply Dev.runSyl_canon | apply Dev.intStore_canon)
theorem execSth_canon (y : Syl) (d a : Reg) (am : BitVec 2) (low : BitVec 8) (p : Option Limm) (s : State) (t : State) (h : s.dev.Canon) (ht : execSth y d a am low p s = .next t) : t.dev.Canon := by
  refine run_canon s t _ ?_ h ht
  repeat' (with_reducible first | assumption | intro _ | apply Dev.runSyl_canon | apply Dev.intStore_canon)
theorem execStw_canon (y : Syl) (d a : Reg) (am : BitVec 2) (low : BitVec 8) (p : Option Limm) (s : State) (t : State) (h : s.dev.Canon) (ht : execStw y d a am low p s = .next t) : t.dev.Canon := by
  refine run_canon s t _ ?_ h ht
  repeat' (with_reducible first | assumption | intro _ | apply Dev.runSyl_canon | apply Dev.intStore_canon)
theorem execSwapw_canon (y : Syl) (d a b : Reg) (s : State) (t : State) (h : s.dev.Canon) (ht : execSwapw y d a b s = .next t) : t.dev.Canon := by
  refine run_canon s t _ ?_ h ht
  repeat' (with_reducible first | assumption | intro _ | apply Dev.runSyl_canon | apply Dev.atomicOut_canon)
theorem execCasw_canon (y : Syl) (d a b : Reg) (s : State) (t : State) (h : s.dev.Canon) (ht : execCasw y d a b s = .next t) : t.dev.Canon := by
  refine run_canon s t _ ?_ h ht
  repeat' (with_reducible first | assumption | intro _ | apply Dev.runSyl_canon | apply Dev.atomicOut_canon)
theorem execFaddw_canon (y : Syl) (d a b : Reg) (s : State) (t : State) (h : s.dev.Canon) (ht : execFaddw y d a b s = .next t) : t.dev.Canon := by
  refine run_canon s t _ ?_ h ht
  repeat' (with_reducible first | assumption | intro _ | apply Dev.runSyl_canon | apply Dev.atomicOut_canon)
theorem execFandw_canon (y : Syl) (d a b : Reg) (s : State) (t : State) (h : s.dev.Canon) (ht : execFandw y d a b s = .next t) : t.dev.Canon := by
  refine run_canon s t _ ?_ h ht
  repeat' (with_reducible first | assumption | intro _ | apply Dev.runSyl_canon | apply Dev.atomicOut_canon)
theorem execForw_canon (y : Syl) (d a b : Reg) (s : State) (t : State) (h : s.dev.Canon) (ht : execForw y d a b s = .next t) : t.dev.Canon := by
  refine run_canon s t _ ?_ h ht
  repeat' (with_reducible first | assumption | intro _ | apply Dev.runSyl_canon | apply Dev.atomicOut_canon)
theorem execMirrorStage_canon (who : Agent) (id value : Word) (s : State) (t : State) (h : s.dev.Canon) (ht : execMirrorStage who id value s = .next t) : t.dev.Canon := by
  refine run_canon s t _ ?_ h ht
  repeat' (first | (with_reducible first | assumption | intro _ | apply Dev.mirrorWrite_canon) | split)
theorem execMcsCountersign_canon (org : Origin) (slot : BitVec 4) (ticket : Half) (s : State) (t : State) (h : s.dev.Canon) (ht : execMcsCountersign org slot ticket s = .next t) : t.dev.Canon := by
  refine run_canon s t _ ?_ h ht
  repeat' (first | (with_reducible first | assumption | intro _ | apply Dev.countersign_canon) | split)
theorem execMcsReject_canon (org : Origin) (slot : BitVec 4) (ticket : Half) (s : State) (t : State) (h : s.dev.Canon) (ht : execMcsReject org slot ticket s = .next t) : t.dev.Canon := by
  refine run_canon s t _ ?_ h ht
  repeat' (first | (with_reducible first | assumption | intro _ | apply Dev.rejectStage_canon) | split)
theorem execMcsGroupCountersign_canon (org : Origin) (s : State) (t : State) (h : s.dev.Canon) (ht : execMcsGroupCountersign org s = .next t) : t.dev.Canon := by
  refine run_canon s t _ ?_ h ht
  repeat' (first | (with_reducible first | assumption | intro _ | apply Dev.countersignGroup_canon) | split)
theorem execStageExpiry_canon (slot : BitVec 4) (s : State) (t : State) (h : s.dev.Canon) (ht : execStageExpiry slot s = .next t) : t.dev.Canon := by
  refine run_canon s t _ ?_ h ht
  repeat' (with_reducible first | assumption | intro _ | apply Dev.expireStage_canon)
theorem execCommittedValueApplied_canon (s : State) (t : State) (h : s.dev.Canon) (ht : execCommittedValueApplied s = .next t) : t.dev.Canon := by
  refine run_canon s t _ ?_ h ht
  repeat' with_reducible apply Dev.applyCommitted_canon
theorem execMul_canon (y : Syl) (d a b : Reg) (s : State) (t : State) (h : s.dev.Canon) (ht : execMul y d a b s = .next t) : t.dev.Canon := by
  refine run_canon s t _ ?_ h ht
  repeat' (first | (with_reducible first | assumption | intro _ | apply Dev.runSyl_canon) | exact trivial)
theorem execMulh_canon (y : Syl) (d a b : Reg) (s : State) (t : State) (h : s.dev.Canon) (ht : execMulh y d a b s = .next t) : t.dev.Canon := by
  refine run_canon s t _ ?_ h ht
  repeat' (first | (with_reducible first | assumption | intro _ | apply Dev.runSyl_canon) | exact trivial)
theorem execMulhu_canon (y : Syl) (d a b : Reg) (s : State) (t : State) (h : s.dev.Canon) (ht : execMulhu y d a b s = .next t) : t.dev.Canon := by
  refine run_canon s t _ ?_ h ht
  repeat' (first | (with_reducible first | assumption | intro _ | apply Dev.runSyl_canon) | exact trivial)
theorem execMulv_canon (y : Syl) (d a b : Reg) (s : State) (t : State) (h : s.dev.Canon) (ht : execMulv y d a b s = .next t) : t.dev.Canon := by
  refine run_canon s t _ ?_ h ht
  repeat' (first | (with_reducible first | assumption | intro _ | apply Dev.runSyl_canon) | exact trivial)
theorem execDiv_canon (y : Syl) (d a b : Reg) (s : State) (t : State) (h : s.dev.Canon) (ht : execDiv y d a b s = .next t) : t.dev.Canon := by
  refine run_canon s t _ ?_ h ht
  repeat' (with_reducible first | assumption | intro _ | apply Dev.runSyl_canon | apply Dev.divOut_canon)
theorem execDivu_canon (y : Syl) (d a b : Reg) (s : State) (t : State) (h : s.dev.Canon) (ht : execDivu y d a b s = .next t) : t.dev.Canon := by
  refine run_canon s t _ ?_ h ht
  repeat' (with_reducible first | assumption | intro _ | apply Dev.runSyl_canon | apply Dev.divOut_canon)
theorem execRem_canon (y : Syl) (d a b : Reg) (s : State) (t : State) (h : s.dev.Canon) (ht : execRem y d a b s = .next t) : t.dev.Canon := by
  refine run_canon s t _ ?_ h ht
  repeat' (with_reducible first | assumption | intro _ | apply Dev.runSyl_canon | apply Dev.divOut_canon)
theorem execRemu_canon (y : Syl) (d a b : Reg) (s : State) (t : State) (h : s.dev.Canon) (ht : execRemu y d a b s = .next t) : t.dev.Canon := by
  refine run_canon s t _ ?_ h ht
  repeat' (with_reducible first | assumption | intro _ | apply Dev.runSyl_canon | apply Dev.divOut_canon)
theorem execThermtrip_canon (sensor : BitVec 4) (value : Word) (s : State) (t : State) (h : s.dev.Canon) (ht : execThermtrip sensor value s = .next t) : t.dev.Canon := by
  refine run_canon s t _ ?_ h ht
  repeat' (with_reducible first | assumption | intro _ | apply Dev.trip_canon)
theorem execRailExcursion_canon (rail : Byte) (s : State) (t : State) (h : s.dev.Canon) (ht : execRailExcursion rail s = .next t) : t.dev.Canon := by
  refine run_canon s t _ ?_ h ht
  repeat' (first | (with_reducible first | assumption | intro _ | apply Dev.record_canon) | split)
theorem execVsetStep_canon (up : Bool) (acked : Bool) (s : State) (t : State) (h : s.dev.Canon) (ht : execVsetStep up acked s = .next t) : t.dev.Canon := by
  refine run_canon s t _ ?_ h ht
  repeat' (with_reducible first | assumption | intro _ | apply Dev.vsetStep_canon)
theorem execAvsRetry_canon (acked : Bool) (s : State) (t : State) (h : s.dev.Canon) (ht : execAvsRetry acked s = .next t) : t.dev.Canon := by
  refine run_canon s t _ ?_ h ht
  repeat' (first | (with_reducible first | assumption | intro _ | apply Dev.avsAnswer_canon) | split)
theorem execRefclkLoss_canon (s : State) (t : State) (h : s.dev.Canon) (ht : execRefclkLoss s = .next t) : t.dev.Canon := by
  refine run_canon s t _ ?_ h ht
  repeat' (first | (with_reducible first | assumption | intro _ | apply Dev.registerFailure_canon) | split)
theorem execDdrRefresh_canon (ch : BitVec 4) (rank : BitVec 2) (s : State) (t : State) (h : s.dev.Canon) (ht : execDdrRefresh ch rank s = .next t) : t.dev.Canon := by
  refine run_canon s t _ ?_ h ht
  repeat' (first | (with_reducible first | assumption | intro _ | apply Dev.stall_canon) | split)
theorem execDdrZqCalibration_canon (ch : BitVec 4) (s : State) (t : State) (h : s.dev.Canon) (ht : execDdrZqCalibration ch s = .next t) : t.dev.Canon := by
  refine run_canon s t _ ?_ h ht
  repeat' (first | (with_reducible first | assumption | intro _ | apply Dev.stall_canon) | split)
theorem execDdrPhyTracking_canon (ch : BitVec 4) (s : State) (t : State) (h : s.dev.Canon) (ht : execDdrPhyTracking ch s = .next t) : t.dev.Canon := by
  refine run_canon s t _ ?_ h ht
  repeat' (first | (with_reducible first | assumption | intro _ | apply Dev.stall_canon) | split)
theorem execLoamScrub_canon (bank : BitVec 3) (word : BitVec 21) (err : BitVec 2) (s : State) (t : State) (h : s.dev.Canon) (ht : execLoamScrub bank word err s = .next t) : t.dev.Canon := by
  refine run_canon s t _ ?_ h ht
  repeat' (first | (with_reducible first | assumption | intro _ | apply Dev.scrub_canon) | split)
theorem execPuporLdImm_canon (i : Byte) (s : State) (t : State) (h : s.dev.Canon) (ht : execPuporLdImm i s = .next t) : t.dev.Canon := by
  refine run_canon s t _ ?_ h ht
  repeat' (with_reducible first | assumption | intro _ | apply Dev.puReg_canon)
theorem execPuporLdAbs_canon (a : Half) (s : State) (t : State) (h : s.dev.Canon) (ht : execPuporLdAbs a s = .next t) : t.dev.Canon := by
  refine run_canon s t _ ?_ h ht
  repeat' (with_reducible first | assumption | intro _ | apply Dev.puDo_canon | apply Dev.puLoad_canon | apply Dev.modPu_canon)
theorem execPuporLdJ_canon (disp : Byte) (s : State) (t : State) (h : s.dev.Canon) (ht : execPuporLdJ disp s = .next t) : t.dev.Canon := by
  refine run_canon s t _ ?_ h ht
  repeat' (with_reducible first | assumption | intro _ | apply Dev.puDo_canon | apply Dev.puLoad_canon | apply Dev.modPu_canon)
theorem execPuporLdK_canon (s : State) (t : State) (h : s.dev.Canon) (ht : execPuporLdK s = .next t) : t.dev.Canon := by
  refine run_canon s t _ ?_ h ht
  repeat' (with_reducible first | assumption | intro _ | apply Dev.puDo_canon | apply Dev.puLoad_canon | apply Dev.modPu_canon)
theorem execPuporStAbs_canon (a : Half) (s : State) (t : State) (h : s.dev.Canon) (ht : execPuporStAbs a s = .next t) : t.dev.Canon := by
  refine run_canon s t _ ?_ h ht
  repeat' (with_reducible first | assumption | intro _ | apply Dev.puDo_canon | apply Dev.puStore_canon)
theorem execPuporStJ_canon (disp : Byte) (s : State) (t : State) (h : s.dev.Canon) (ht : execPuporStJ disp s = .next t) : t.dev.Canon := by
  refine run_canon s t _ ?_ h ht
  repeat' (with_reducible first | assumption | intro _ | apply Dev.puDo_canon | apply Dev.puStore_canon)
theorem execPuporStK_canon (s : State) (t : State) (h : s.dev.Canon) (ht : execPuporStK s = .next t) : t.dev.Canon := by
  refine run_canon s t _ ?_ h ht
  repeat' (with_reducible first | assumption | intro _ | apply Dev.puDo_canon | apply Dev.puStore_canon | apply Dev.modPu_canon)
theorem execPuporLdjImm_canon (a : Half) (s : State) (t : State) (h : s.dev.Canon) (ht : execPuporLdjImm a s = .next t) : t.dev.Canon := by
  refine run_canon s t _ ?_ h ht
  repeat' (with_reducible first | assumption | intro _ | apply Dev.puReg_canon)
theorem execPuporLdkImm_canon (a : Half) (s : State) (t : State) (h : s.dev.Canon) (ht : execPuporLdkImm a s = .next t) : t.dev.Canon := by
  refine run_canon s t _ ?_ h ht
  repeat' (with_reducible first | assumption | intro _ | apply Dev.puReg_canon)
theorem execPuporLdjAbs_canon (a : Half) (s : State) (t : State) (h : s.dev.Canon) (ht : execPuporLdjAbs a s = .next t) : t.dev.Canon := by
  refine run_canon s t _ ?_ h ht
  repeat' (with_reducible first | assumption | intro _ | apply Dev.puDo_canon | apply Dev.puLoad_canon | apply Dev.modPu_canon)
theorem execPuporStj_canon (a : Half) (s : State) (t : State) (h : s.dev.Canon) (ht : execPuporStj a s = .next t) : t.dev.Canon := by
  refine run_canon s t _ ?_ h ht
  repeat' (with_reducible first | assumption | intro _ | apply Dev.puDo_canon | apply Dev.puStore_canon)
theorem execPuporSwjk_canon (s : State) (t : State) (h : s.dev.Canon) (ht : execPuporSwjk s = .next t) : t.dev.Canon := by
  refine run_canon s t _ ?_ h ht
  repeat' (with_reducible first | assumption | intro _ | apply Dev.puReg_canon)
theorem execPuporAdj_canon (s : State) (t : State) (h : s.dev.Canon) (ht : execPuporAdj s = .next t) : t.dev.Canon := by
  refine run_canon s t _ ?_ h ht
  repeat' (with_reducible first | assumption | intro _ | apply Dev.puReg_canon)
theorem execPuporMovCntAcc_canon (s : State) (t : State) (h : s.dev.Canon) (ht : execPuporMovCntAcc s = .next t) : t.dev.Canon := by
  refine run_canon s t _ ?_ h ht
  repeat' (with_reducible first | assumption | intro _ | apply Dev.puReg_canon)
theorem execPuporMovAccCnt_canon (s : State) (t : State) (h : s.dev.Canon) (ht : execPuporMovAccCnt s = .next t) : t.dev.Canon := by
  refine run_canon s t _ ?_ h ht
  repeat' (with_reducible first | assumption | intro _ | apply Dev.puReg_canon)
theorem execPuporAddImm_canon (i : Byte) (s : State) (t : State) (h : s.dev.Canon) (ht : execPuporAddImm i s = .next t) : t.dev.Canon := by
  refine run_canon s t _ ?_ h ht
  repeat' (with_reducible first | assumption | intro _ | apply Dev.puReg_canon)
theorem execPuporAddAbs_canon (a : Half) (s : State) (t : State) (h : s.dev.Canon) (ht : execPuporAddAbs a s = .next t) : t.dev.Canon := by
  refine run_canon s t _ ?_ h ht
  repeat' (with_reducible first | assumption | intro _ | apply Dev.puDo_canon | apply Dev.puLoad_canon | apply Dev.modPu_canon)
theorem execPuporAddc_canon (a : Half) (s : State) (t : State) (h : s.dev.Canon) (ht : execPuporAddc a s = .next t) : t.dev.Canon := by
  refine run_canon s t _ ?_ h ht
  repeat' (with_reducible first | assumption | intro _ | apply Dev.puDo_canon | apply Dev.puLoad_canon | apply Dev.modPu_canon)
theorem execPuporSubImm_canon (i : Byte) (s : State) (t : State) (h : s.dev.Canon) (ht : execPuporSubImm i s = .next t) : t.dev.Canon := by
  refine run_canon s t _ ?_ h ht
  repeat' (with_reducible first | assumption | intro _ | apply Dev.puReg_canon)
theorem execPuporSubAbs_canon (a : Half) (s : State) (t : State) (h : s.dev.Canon) (ht : execPuporSubAbs a s = .next t) : t.dev.Canon := by
  refine run_canon s t _ ?_ h ht
  repeat' (with_reducible first | assumption | intro _ | apply Dev.puDo_canon | apply Dev.puLoad_canon | apply Dev.modPu_canon)
theorem execPuporSubc_canon (a : Half) (s : State) (t : State) (h : s.dev.Canon) (ht : execPuporSubc a s = .next t) : t.dev.Canon := by
  refine run_canon s t _ ?_ h ht
  repeat' (with_reducible first | assumption | intro _ | apply Dev.puDo_canon | apply Dev.puLoad_canon | apply Dev.modPu_canon)
theorem execPuporAnd_canon (i : Byte) (s : State) (t : State) (h : s.dev.Canon) (ht : execPuporAnd i s = .next t) : t.dev.Canon := by
  refine run_canon s t _ ?_ h ht
  repeat' (with_reducible first | assumption | intro _ | apply Dev.puReg_canon)
theorem execPuporIor_canon (i : Byte) (s : State) (t : State) (h : s.dev.Canon) (ht : execPuporIor i s = .next t) : t.dev.Canon := by
  refine run_canon s t _ ?_ h ht
  repeat' (with_reducible first | assumption | intro _ | apply Dev.puReg_canon)
theorem execPuporXor_canon (i : Byte) (s : State) (t : State) (h : s.dev.Canon) (ht : execPuporXor i s = .next t) : t.dev.Canon := by
  refine run_canon s t _ ?_ h ht
  repeat' (with_reducible first | assumption | intro _ | apply Dev.puReg_canon)
theorem execPuporCmpImm_canon (i : Byte) (s : State) (t : State) (h : s.dev.Canon) (ht : execPuporCmpImm i s = .next t) : t.dev.Canon := by
  refine run_canon s t _ ?_ h ht
  repeat' (with_reducible first | assumption | intro _ | apply Dev.puReg_canon)
theorem execPuporCmpAbs_canon (a : Half) (s : State) (t : State) (h : s.dev.Canon) (ht : execPuporCmpAbs a s = .next t) : t.dev.Canon := by
  refine run_canon s t _ ?_ h ht
  repeat' (with_reducible first | assumption | intro _ | apply Dev.puDo_canon | apply Dev.puLoad_canon | apply Dev.modPu_canon)
theorem execPuporShl_canon (s : State) (t : State) (h : s.dev.Canon) (ht : execPuporShl s = .next t) : t.dev.Canon := by
  refine run_canon s t _ ?_ h ht
  repeat' (with_reducible first | assumption | intro _ | apply Dev.puReg_canon)
theorem execPuporShr_canon (s : State) (t : State) (h : s.dev.Canon) (ht : execPuporShr s = .next t) : t.dev.Canon := by
  refine run_canon s t _ ?_ h ht
  repeat' (with_reducible first | assumption | intro _ | apply Dev.puReg_canon)
theorem execPuporInc_canon (s : State) (t : State) (h : s.dev.Canon) (ht : execPuporInc s = .next t) : t.dev.Canon := by
  refine run_canon s t _ ?_ h ht
  repeat' (with_reducible first | assumption | intro _ | apply Dev.puReg_canon)
theorem execPuporDec_canon (s : State) (t : State) (h : s.dev.Canon) (ht : execPuporDec s = .next t) : t.dev.Canon := by
  refine run_canon s t _ ?_ h ht
  repeat' (with_reducible first | assumption | intro _ | apply Dev.puReg_canon)
theorem execPuporJmp_canon (a : Half) (s : State) (t : State) (h : s.dev.Canon) (ht : execPuporJmp a s = .next t) : t.dev.Canon := by
  refine run_canon s t _ ?_ h ht
  repeat' (with_reducible first | assumption | intro _ | apply Dev.puReg_canon)
theorem execPuporCall_canon (a : Half) (s : State) (t : State) (h : s.dev.Canon) (ht : execPuporCall a s = .next t) : t.dev.Canon := by
  refine run_canon s t _ ?_ h ht
  repeat' (with_reducible first | assumption | intro _ | apply Dev.puDo_canon | apply Dev.puPush_canon | apply Dev.modPu_canon)
theorem execPuporRet_canon (s : State) (t : State) (h : s.dev.Canon) (ht : execPuporRet s = .next t) : t.dev.Canon := by
  refine run_canon s t _ ?_ h ht
  repeat' (with_reducible first | assumption | intro _ | apply Dev.puDo_canon | apply Dev.puPop_canon | apply Dev.modPu_canon)
theorem execPuporJz_canon (r : Byte) (s : State) (t : State) (h : s.dev.Canon) (ht : execPuporJz r s = .next t) : t.dev.Canon := by
  refine run_canon s t _ ?_ h ht
  repeat' (with_reducible first | assumption | intro _ | apply Dev.puReg_canon)
theorem execPuporJnz_canon (r : Byte) (s : State) (t : State) (h : s.dev.Canon) (ht : execPuporJnz r s = .next t) : t.dev.Canon := by
  refine run_canon s t _ ?_ h ht
  repeat' (with_reducible first | assumption | intro _ | apply Dev.puReg_canon)
theorem execPuporJc_canon (r : Byte) (s : State) (t : State) (h : s.dev.Canon) (ht : execPuporJc r s = .next t) : t.dev.Canon := by
  refine run_canon s t _ ?_ h ht
  repeat' (with_reducible first | assumption | intro _ | apply Dev.puReg_canon)
theorem execPuporJnc_canon (r : Byte) (s : State) (t : State) (h : s.dev.Canon) (ht : execPuporJnc r s = .next t) : t.dev.Canon := by
  refine run_canon s t _ ?_ h ht
  repeat' (with_reducible first | assumption | intro _ | apply Dev.puReg_canon)
theorem execPuporJs_canon (r : Byte) (s : State) (t : State) (h : s.dev.Canon) (ht : execPuporJs r s = .next t) : t.dev.Canon := by
  refine run_canon s t _ ?_ h ht
  repeat' (with_reducible first | assumption | intro _ | apply Dev.puReg_canon)
theorem execPuporLoop_canon (r : Byte) (s : State) (t : State) (h : s.dev.Canon) (ht : execPuporLoop r s = .next t) : t.dev.Canon := by
  refine run_canon s t _ ?_ h ht
  repeat' (with_reducible first | assumption | intro _ | apply Dev.puReg_canon)
theorem execPuporPush_canon (s : State) (t : State) (h : s.dev.Canon) (ht : execPuporPush s = .next t) : t.dev.Canon := by
  refine run_canon s t _ ?_ h ht
  repeat' (with_reducible first | assumption | intro _ | apply Dev.puDo_canon | apply Dev.puPush_canon)
theorem execPuporPop_canon (s : State) (t : State) (h : s.dev.Canon) (ht : execPuporPop s = .next t) : t.dev.Canon := by
  refine run_canon s t _ ?_ h ht
  repeat' (with_reducible first | assumption | intro _ | apply Dev.puDo_canon | apply Dev.puPop_canon | apply Dev.modPu_canon)
theorem execPuporIn_canon (p : Byte) (s : State) (t : State) (h : s.dev.Canon) (ht : execPuporIn p s = .next t) : t.dev.Canon := by
  refine run_canon s t _ ?_ h ht
  repeat' (first | (with_reducible first | assumption | intro _ | apply Dev.puDo_canon | apply Dev.abortRun_canon | apply Dev.modPu_canon) | split)
theorem execPuporOut_canon (p : Byte) (s : State) (t : State) (h : s.dev.Canon) (ht : execPuporOut p s = .next t) : t.dev.Canon := by
  refine run_canon s t _ ?_ h ht
  repeat' (first | (with_reducible first | assumption | intro _ | apply Dev.puDo_canon | apply Dev.abortRun_canon) | split | simp only [canon_mk, canon_fold])
theorem execPuporDeviceRead_canon (s : State) (t : State) (h : s.dev.Canon) (ht : execPuporDeviceRead s = .next t) : t.dev.Canon := by
  refine run_canon s t _ ?_ h ht
  repeat' (first | (with_reducible first | assumption | intro _ | apply Dev.puReg_canon) | split)
theorem execPuporDeviceWrite_canon (s : State) (t : State) (h : s.dev.Canon) (ht : execPuporDeviceWrite s = .next t) : t.dev.Canon := by
  refine run_canon s t _ ?_ h ht
  repeat' (first | (with_reducible first | assumption | intro _ | apply Dev.puReg_canon) | split)
theorem execPuporDeviceAccessEnd_canon (err : Bool) (s : State) (t : State) (h : s.dev.Canon) (ht : execPuporDeviceAccessEnd err s = .next t) : t.dev.Canon := by
  refine run_canon s t _ ?_ h ht
  repeat' (with_reducible first | assumption | intro _ | apply Dev.puAccessEnd_canon)
theorem execPuporSysWait_canon (i : Byte) (s : State) (t : State) (h : s.dev.Canon) (ht : execPuporSysWait i s = .next t) : t.dev.Canon := by
  refine run_canon s t _ ?_ h ht
  repeat' (first | (with_reducible first | assumption | intro _ | apply Dev.puDo_canon | apply Dev.modPu_canon | apply Dev.abortRun_canon) | split)
theorem execPuporSysWaitEnd_canon (s : State) (t : State) (h : s.dev.Canon) (ht : execPuporSysWaitEnd s = .next t) : t.dev.Canon := by
  refine run_canon s t _ ?_ h ht
  repeat' (first | (with_reducible first | assumption | intro _ | apply Dev.modPu_canon) | split)
theorem execPuporIdle_canon (s : State) (t : State) (h : s.dev.Canon) (ht : execPuporIdle s = .next t) : t.dev.Canon := by
  refine run_canon s t _ ?_ h ht
  repeat' (with_reducible first | assumption | intro _ | apply Dev.puReg_canon)
theorem execPuporIdleWake_canon (s : State) (t : State) (h : s.dev.Canon) (ht : execPuporIdleWake s = .next t) : t.dev.Canon := by
  refine run_canon s t _ ?_ h ht
  repeat' (first | (with_reducible first | assumption | intro _ | apply Dev.modPu_canon) | split)
theorem execPuporStop_canon (s : State) (t : State) (h : s.dev.Canon) (ht : execPuporStop s = .next t) : t.dev.Canon := by
  refine run_canon s t _ ?_ h ht
  repeat' (with_reducible first | assumption | intro _ | apply Dev.puDo_canon | apply Dev.endRun_canon)
theorem execPuporNop_canon (s : State) (t : State) (h : s.dev.Canon) (ht : execPuporNop s = .next t) : t.dev.Canon := by
  refine run_canon s t _ ?_ h ht
  repeat' (with_reducible first | assumption | intro _ | apply Dev.puReg_canon)
theorem execPuporReservedOpcode_canon (op : Byte) (s : State) (t : State) (h : s.dev.Canon) (ht : execPuporReservedOpcode op s = .next t) : t.dev.Canon := by
  refine run_canon s t _ ?_ h ht
  repeat' (first | (with_reducible first | assumption | intro _ | apply Dev.puDo_canon | apply Dev.abortRun_canon) | split)
theorem execExtensionInstructionLimit_canon (s : State) (t : State) (h : s.dev.Canon) (ht : execExtensionInstructionLimit s = .next t) : t.dev.Canon := by
  refine run_canon s t _ ?_ h ht
  repeat' (first | (with_reducible first | assumption | intro _ | apply Dev.abortRun_canon) | split)
theorem execLockupAutoRecover_canon (core : CoreNo) (s : State) (t : State) (h : s.dev.Canon) (ht : execLockupAutoRecover core s = .next t) : t.dev.Canon := by
  refine run_canon s t _ ?_ h ht
  repeat' (with_reducible first | assumption | intro _ | apply Dev.autoRecover_canon)
theorem execEventRecorded_canon (source : BitVec 16) (kind : BitVec 8) (detail : EventData) (s : State) (t : State) (h : s.dev.Canon) (ht : execEventRecorded source kind detail s = .next t) : t.dev.Canon := by
  refine run_canon s t _ ?_ h ht
  repeat' (with_reducible first | assumption | intro _ | apply Dev.reportAll_canon)
theorem execMeasurementSample_canon (ch : BitVec 5) (value : Word) (s : State) (t : State) (h : s.dev.Canon) (ht : execMeasurementSample ch value s = .next t) : t.dev.Canon := by
  refine run_canon s t _ ?_ h ht
  repeat' (with_reducible first | assumption | intro _ | apply Dev.measure_canon)
theorem execRcCtlSnap_canon (who : Agent) (s : State) (t : State) (h : s.dev.Canon) (ht : execRcCtlSnap who s = .next t) : t.dev.Canon := by
  refine run_canon s t _ ?_ h ht
  repeat' (first | (with_reducible first | assumption | intro _ | apply Dev.snap_canon) | split)
theorem execSnapshotPeriodExpiry_canon (s : State) (t : State) (h : s.dev.Canon) (ht : execSnapshotPeriodExpiry s = .next t) : t.dev.Canon := by
  refine run_canon s t _ ?_ h ht
  repeat' (first | (with_reducible first | assumption | intro _ | apply Dev.snap_canon) | split)
theorem execSnapshotWriteEnd_canon (s : State) (t : State) (h : s.dev.Canon) (ht : execSnapshotWriteEnd s = .next t) : t.dev.Canon := by
  refine run_canon s t _ ?_ h ht
  repeat' with_reducible apply Dev.frameDone_canon
theorem execRcCtlWrite_canon (who : Agent) (value : Word) (s : State) (t : State) (h : s.dev.Canon) (ht : execRcCtlWrite who value s = .next t) : t.dev.Canon := by
  refine run_canon s t _ ?_ h ht
  repeat' (first | (with_reducible first | assumption | intro _ | apply Dev.writeRcCtl_canon) | split)
theorem execRecorderClear_canon (who : Agent) (value : Word) (s : State) (t : State) (h : s.dev.Canon) (ht : execRecorderClear who value s = .next t) : t.dev.Canon := by
  refine run_canon s t _ ?_ h ht
  repeat' (first | (with_reducible first | assumption | intro _ | apply Dev.writeRecorder_canon) | split)
theorem execRecorderClearEnd_canon (s : State) (t : State) (h : s.dev.Canon) (ht : execRecorderClearEnd s = .next t) : t.dev.Canon := by
  refine run_canon s t _ ?_ h ht
  repeat' (first | (with_reducible first | assumption | intro _ | apply Dev.clearDone_canon | apply Dev.answerClears_canon) | split)
theorem execOptSave_canon (s : State) (t : State) (h : s.dev.Canon) (ht : execOptSave s = .next t) : t.dev.Canon := by
  refine run_canon s t _ ?_ h ht
  repeat' (first | (with_reducible first | assumption | intro _) | simp only [canon_mk, canon_fold])
theorem execRcOptLRead_canon (who : Agent) (s : State) (t : State) (h : s.dev.Canon) (ht : execRcOptLRead who s = .next t) : t.dev.Canon := by
  refine run_canon s t _ ?_ h ht
  repeat' (first | (with_reducible first | assumption | intro _ | apply Dev.regTouch_canon) | split)
theorem execLogRecordDurable_canon (s : State) (t : State) (h : s.dev.Canon) (ht : execLogRecordDurable s = .next t) : t.dev.Canon := by
  refine run_canon s t _ ?_ h ht
  repeat' with_reducible apply Dev.logDurable_canon
theorem execRegisterWrite_canon (who : Agent) (addr : RegAccess) (value : Word) (s : State) (t : State) (h : s.dev.Canon) (ht : execRegisterWrite who addr value s = .next t) : t.dev.Canon := by
  refine run_canon s t _ ?_ h ht
  repeat' (with_reducible first | assumption | intro _ | apply Dev.anyWrite_canon)
theorem execReadClearRegister_canon (who : Agent) (addr : RegAccess) (s : State) (t : State) (h : s.dev.Canon) (ht : execReadClearRegister who addr s = .next t) : t.dev.Canon := by
  refine run_canon s t _ ?_ h ht
  repeat' (with_reducible first | assumption | intro _ | apply Dev.anyRead_canon)
theorem execMacsD_canon (y : Syl) (k : DReg) (a b c : Reg) (s : State) (t : State) (h : s.dev.Canon) (ht : execMacsD y k a b c s = .next t) : t.dev.Canon := by
  refine run_canon s t _ ?_ h ht
  repeat' (with_reducible first | assumption | intro _ | apply Dev.runSyl_canon | apply Dev.streamOut_canon)
theorem execMacuD_canon (y : Syl) (k : DReg) (a b c : Reg) (s : State) (t : State) (h : s.dev.Canon) (ht : execMacuD y k a b c s = .next t) : t.dev.Canon := by
  refine run_canon s t _ ?_ h ht
  repeat' (with_reducible first | assumption | intro _ | apply Dev.runSyl_canon | apply Dev.streamOut_canon)
theorem execMacsB_canon (y : Syl) (k : DReg) (a b c : Reg) (s : State) (t : State) (h : s.dev.Canon) (ht : execMacsB y k a b c s = .next t) : t.dev.Canon := by
  refine run_canon s t _ ?_ h ht
  repeat' (with_reducible first | assumption | intro _ | apply Dev.runSyl_canon | apply Dev.streamOut_canon)
theorem execMacuB_canon (y : Syl) (k : DReg) (a b c : Reg) (s : State) (t : State) (h : s.dev.Canon) (ht : execMacuB y k a b c s = .next t) : t.dev.Canon := by
  refine run_canon s t _ ?_ h ht
  repeat' (with_reducible first | assumption | intro _ | apply Dev.runSyl_canon | apply Dev.streamOut_canon)
theorem execStreamElement_canon (core : CoreNo) (bay : BayNo) (s : State) (t : State) (h : s.dev.Canon) (ht : execStreamElement core bay s = .next t) : t.dev.Canon := by
  refine run_canon s t _ ?_ h ht
  repeat' (with_reducible first | assumption | intro _ | apply Dev.streamElement_canon)
theorem execMvs_canon (y : Syl) (a : Reg) (s : State) (t : State) (h : s.dev.Canon) (ht : execMvs y a s = .next t) : t.dev.Canon := by
  refine run_canon s t _ ?_ h ht
  repeat' (with_reducible first | assumption | intro _ | apply Dev.runSyl_canon | apply Dev.stringSetup_canon)
theorem execTrs_canon (y : Syl) (a : Reg) (s : State) (t : State) (h : s.dev.Canon) (ht : execTrs y a s = .next t) : t.dev.Canon := by
  refine run_canon s t _ ?_ h ht
  repeat' (with_reducible first | assumption | intro _ | apply Dev.runSyl_canon | apply Dev.stringSetup_canon)
theorem execCms_canon (y : Syl) (d a : Reg) (qt : Pred) (s : State) (t : State) (h : s.dev.Canon) (ht : execCms y d a qt s = .next t) : t.dev.Canon := by
  refine run_canon s t _ ?_ h ht
  repeat' (with_reducible first | assumption | intro _ | apply Dev.runSyl_canon | apply Dev.stringSetup_canon)
theorem execScn_canon (y : Syl) (d a : Reg) (qt : Pred) (s : State) (t : State) (h : s.dev.Canon) (ht : execScn y d a qt s = .next t) : t.dev.Canon := by
  refine run_canon s t _ ?_ h ht
  repeat' (with_reducible first | assumption | intro _ | apply Dev.runSyl_canon | apply Dev.stringSetup_canon)
theorem execScne_canon (y : Syl) (d a : Reg) (qt : Pred) (s : State) (t : State) (h : s.dev.Canon) (ht : execScne y d a qt s = .next t) : t.dev.Canon := by
  refine run_canon s t _ ?_ h ht
  repeat' (with_reducible first | assumption | intro _ | apply Dev.runSyl_canon | apply Dev.stringSetup_canon)
theorem execEdit_canon (y : Syl) (d a : Reg) (qt : Pred) (s : State) (t : State) (h : s.dev.Canon) (ht : execEdit y d a qt s = .next t) : t.dev.Canon := by
  refine run_canon s t _ ?_ h ht
  repeat' (with_reducible first | assumption | intro _ | apply Dev.runSyl_canon | apply Dev.stringSetup_canon)
theorem execStringStep_canon (core : CoreNo) (bay : BayNo) (chk : Bool) (s : State) (t : State) (h : s.dev.Canon) (ht : execStringStep core bay chk s = .next t) : t.dev.Canon := by
  refine run_canon s t _ ?_ h ht
  repeat' (with_reducible first | assumption | intro _ | apply Dev.stringStep_canon)
theorem execMfc_canon (y : Syl) (r : Reg) (cnum : BitVec 6) (s : State) (t : State) (h : s.dev.Canon) (ht : execMfc y r cnum s = .next t) : t.dev.Canon := by
  refine run_canon s t _ ?_ h ht
  repeat' (with_reducible first | assumption | intro _ | apply Dev.runSyl_canon | apply Dev.mfcOut_canon)
theorem execMtc_canon (y : Syl) (r : Reg) (cnum : BitVec 6) (s : State) (t : State) (h : s.dev.Canon) (ht : execMtc y r cnum s = .next t) : t.dev.Canon := by
  refine run_canon s t _ ?_ h ht
  repeat' (with_reducible first | assumption | intro _ | apply Dev.runSyl_canon | apply Dev.mtcOut_canon)
theorem execMtcStatus_canon (y : Syl) (r : Reg) (s : State) (t : State) (h : s.dev.Canon) (ht : execMtcStatus y r s = .next t) : t.dev.Canon := by
  refine run_canon s t _ ?_ h ht
  repeat' (first | (with_reducible first | assumption | intro _ | apply Dev.runSyl_canon | apply Dev.ctlBelow_canon | apply firstOut_cons_ok) | exact trivial)
theorem execMtcTsbp_canon (y : Syl) (r : Reg) (s : State) (t : State) (h : s.dev.Canon) (ht : execMtcTsbp y r s = .next t) : t.dev.Canon := by
  refine run_canon s t _ ?_ h ht
  repeat' (with_reducible first | assumption | intro _ | apply Dev.runSyl_canon | apply Dev.tsbpOut_canon)
theorem execMtcAstb_canon (y : Syl) (r : Reg) (s : State) (t : State) (h : s.dev.Canon) (ht : execMtcAstb y r s = .next t) : t.dev.Canon := by
  refine run_canon s t _ ?_ h ht
  repeat' (with_reducible first | assumption | intro _ | apply Dev.runSyl_canon | apply Dev.astbOut_canon)
theorem execMtcAstag_canon (y : Syl) (r : Reg) (m : Bool) (s : State) (t : State) (h : s.dev.Canon) (ht : execMtcAstag y r m s = .next t) : t.dev.Canon := by
  refine run_canon s t _ ?_ h ht
  repeat' (first | (with_reducible first | assumption | intro _ | apply Dev.runSyl_canon | apply Dev.ctlBelow_canon | apply firstOut_cons_ok) | exact trivial)
theorem execMtcKmask_canon (y : Syl) (r : Reg) (s : State) (t : State) (h : s.dev.Canon) (ht : execMtcKmask y r s = .next t) : t.dev.Canon := by
  refine run_canon s t _ ?_ h ht
  repeat' (first | (with_reducible first | assumption | intro _ | apply Dev.runSyl_canon | apply Dev.ctlBelow_canon | apply firstOut_cons_ok) | exact trivial)
theorem execMtcKpv_canon (y : Syl) (r : Reg) (s : State) (t : State) (h : s.dev.Canon) (ht : execMtcKpv y r s = .next t) : t.dev.Canon := by
  refine run_canon s t _ ?_ h ht
  repeat' (with_reducible first | assumption | intro _ | apply Dev.runSyl_canon | apply Dev.ctlBelow_canon | apply Dev.kpvOut_canon | apply firstOut_nil_ok | apply firstOut_cons_ok)
theorem execMfcKpv_canon (y : Syl) (r : Reg) (s : State) (t : State) (h : s.dev.Canon) (ht : execMfcKpv y r s = .next t) : t.dev.Canon := by
  refine run_canon s t _ ?_ h ht
  repeat' (with_reducible first | assumption | intro _ | apply Dev.runSyl_canon | apply Dev.ctlBelow_canon | apply Dev.kpvRead_canon | apply firstOut_nil_ok | apply firstOut_cons_ok)
theorem execMtcTlock_canon (y : Syl) (r : LockReg) (s : State) (t : State) (h : s.dev.Canon) (ht : execMtcTlock y r s = .next t) : t.dev.Canon := by
  refine run_canon s t _ ?_ h ht
  repeat' (with_reducible first | assumption | intro _ | apply Dev.runSyl_canon | apply Dev.ctlBelow_canon | apply Dev.tlockOut_canon | apply firstOut_nil_ok | apply firstOut_cons_ok)
theorem execMtcWinctl_canon (y : Syl) (r : Reg) (s : State) (t : State) (h : s.dev.Canon) (ht : execMtcWinctl y r s = .next t) : t.dev.Canon := by
  refine run_canon s t _ ?_ h ht
  repeat' (first | (with_reducible first | assumption | intro _ | apply Dev.runSyl_canon | apply Dev.ctlBelow_canon | apply firstOut_cons_ok) | exact trivial)
theorem execMtcDecctl_canon (y : Syl) (r : Reg) (s : State) (t : State) (h : s.dev.Canon) (ht : execMtcDecctl y r s = .next t) : t.dev.Canon := by
  refine run_canon s t _ ?_ h ht
  repeat' (first | (with_reducible first | assumption | intro _ | apply Dev.runSyl_canon) | exact trivial)
theorem execMfcEtimeL_canon (y : Syl) (r : Reg) (s : State) (t : State) (h : s.dev.Canon) (ht : execMfcEtimeL y r s = .next t) : t.dev.Canon := by
  refine run_canon s t _ ?_ h ht
  repeat' (first | (with_reducible first | assumption | intro _ | apply Dev.runSyl_canon) | exact trivial)
theorem execFenceS_canon (y : Syl) (s : State) (t : State) (h : s.dev.Canon) (ht : execFenceS y s = .next t) : t.dev.Canon := by
  refine run_canon s t _ ?_ h ht
  repeat' (first | (with_reducible first | assumption | intro _ | apply Dev.runSyl_canon) | exact trivial)
theorem execSyncI_canon (y : Syl) (s : State) (t : State) (h : s.dev.Canon) (ht : execSyncI y s = .next t) : t.dev.Canon := by
  refine run_canon s t _ ?_ h ht
  repeat' (first | (with_reducible first | assumption | intro _ | apply Dev.runSyl_canon) | exact trivial)
theorem execIflush_canon (y : Syl) (a : Reg) (s : State) (t : State) (h : s.dev.Canon) (ht : execIflush y a s = .next t) : t.dev.Canon := by
  refine run_canon s t _ ?_ h ht
  repeat' (first | (with_reducible first | assumption | intro _ | apply Dev.runSyl_canon) | exact trivial)
theorem execSyncT_canon (y : Syl) (s : State) (t : State) (h : s.dev.Canon) (ht : execSyncT y s = .next t) : t.dev.Canon := by
  refine run_canon s t _ ?_ h ht
  repeat' (first | (with_reducible first | assumption | intro _ | apply Dev.runSyl_canon | apply Bay.below_canon | apply firstOut_cons_ok) | exact trivial)
theorem execTlbiVa_canon (y : Syl) (r a : Reg) (g : Bool) (s : State) (t : State) (h : s.dev.Canon) (ht : execTlbiVa y r a g s = .next t) : t.dev.Canon := by
  refine run_canon s t _ ?_ h ht
  repeat' (first | (with_reducible first | assumption | intro _ | apply Dev.runSyl_canon | apply Bay.below_canon | apply firstOut_cons_ok) | exact trivial)
theorem execTlbiTag_canon (y : Syl) (a : Reg) (g : Bool) (s : State) (t : State) (h : s.dev.Canon) (ht : execTlbiTag y a g s = .next t) : t.dev.Canon := by
  refine run_canon s t _ ?_ h ht
  repeat' (first | (with_reducible first | assumption | intro _ | apply Dev.runSyl_canon | apply Bay.below_canon | apply firstOut_cons_ok) | exact trivial)
theorem execTlbiAll_canon (y : Syl) (g : Bool) (s : State) (t : State) (h : s.dev.Canon) (ht : execTlbiAll y g s = .next t) : t.dev.Canon := by
  refine run_canon s t _ ?_ h ht
  repeat' (first | (with_reducible first | assumption | intro _ | apply Dev.runSyl_canon | apply Bay.below_canon | apply firstOut_cons_ok) | exact trivial)
theorem execTlbiAllk_canon (y : Syl) (g : Bool) (s : State) (t : State) (h : s.dev.Canon) (ht : execTlbiAllk y g s = .next t) : t.dev.Canon := by
  refine run_canon s t _ ?_ h ht
  repeat' (first | (with_reducible first | assumption | intro _ | apply Dev.runSyl_canon | apply Bay.below_canon | apply firstOut_cons_ok) | exact trivial)
theorem execBrk_canon (y : Syl) (s : State) (t : State) (h : s.dev.Canon) (ht : execBrk y s = .next t) : t.dev.Canon := by
  refine run_canon s t _ ?_ h ht
  repeat' (first | (with_reducible first | assumption | intro _ | apply Dev.runSyl_canon) | exact trivial)
theorem execTevict_canon (y : Syl) (bay : BayNo) (s : State) (t : State) (h : s.dev.Canon) (ht : execTevict y bay s = .next t) : t.dev.Canon := by
  refine run_canon s t _ ?_ h ht
  repeat' (with_reducible first | assumption | intro _ | apply Dev.runSyl_canon | apply Dev.tevictOut_canon)
theorem execTload_canon (y : Syl) (bay : BayNo) (a : Reg) (s : State) (t : State) (h : s.dev.Canon) (ht : execTload y bay a s = .next t) : t.dev.Canon := by
  refine run_canon s t _ ?_ h ht
  repeat' (with_reducible first | assumption | intro _ | apply Dev.runSyl_canon | apply Dev.tloadOut_canon)
theorem execWaitt_canon (y : Syl) (s : State) (t : State) (h : s.dev.Canon) (ht : execWaitt y s = .next t) : t.dev.Canon := by
  refine run_canon s t _ ?_ h ht
  repeat' (first | (with_reducible first | assumption | intro _ | apply Dev.runSyl_canon) | exact trivial)
theorem execYield_canon (y : Syl) (s : State) (t : State) (h : s.dev.Canon) (ht : execYield y s = .next t) : t.dev.Canon := by
  refine run_canon s t _ ?_ h ht
  repeat' (first | (with_reducible first | assumption | intro _ | apply Dev.runSyl_canon) | exact trivial)
theorem execSignal_canon (y : Syl) (a : Reg) (imm : BitVec 8) (s : State) (t : State) (h : s.dev.Canon) (ht : execSignal y a imm s = .next t) : t.dev.Canon := by
  refine run_canon s t _ ?_ h ht
  repeat' (with_reducible first | assumption | intro _ | apply Dev.runSyl_canon | apply Dev.signalOut_canon)
theorem execScall_canon (y : Syl) (n : BitVec 8) (s : State) (t : State) (h : s.dev.Canon) (ht : execScall y n s = .next t) : t.dev.Canon := by
  refine run_canon s t _ ?_ h ht
  repeat' (with_reducible first | assumption | intro _ | apply Dev.runSyl_canon | apply Dev.scallOut_canon)
theorem execFret_canon (y : Syl) (s : State) (t : State) (h : s.dev.Canon) (ht : execFret y s = .next t) : t.dev.Canon := by
  refine run_canon s t _ ?_ h ht
  repeat' (with_reducible first | assumption | intro _ | apply Dev.runSyl_canon | apply Dev.fretOut_canon)
theorem execGcall_canon (y : Syl) (n : BitVec 8) (s : State) (t : State) (h : s.dev.Canon) (ht : execGcall y n s = .next t) : t.dev.Canon := by
  refine run_canon s t _ ?_ h ht
  repeat' (with_reducible first | assumption | intro _ | apply Dev.runSyl_canon | apply Dev.gcallOut_canon)
theorem execGret_canon (y : Syl) (s : State) (t : State) (h : s.dev.Canon) (ht : execGret y s = .next t) : t.dev.Canon := by
  refine run_canon s t _ ?_ h ht
  repeat' (with_reducible first | assumption | intro _ | apply Dev.runSyl_canon | apply Dev.gretOut_canon)
theorem execSret_canon (y : Syl) (s : State) (t : State) (h : s.dev.Canon) (ht : execSret y s = .next t) : t.dev.Canon := by
  refine run_canon s t _ ?_ h ht
  repeat' (with_reducible first | assumption | intro _ | apply Dev.runSyl_canon | apply Dev.sretOut_canon)
theorem execMret_canon (y : Syl) (s : State) (t : State) (h : s.dev.Canon) (ht : execMret y s = .next t) : t.dev.Canon := by
  refine run_canon s t _ ?_ h ht
  repeat' (with_reducible first | assumption | intro _ | apply Dev.runSyl_canon | apply Dev.mretOut_canon)
theorem execTevictComplete_canon (core : CoreNo) (bay : BayNo) (fab : Bool) (s : State) (t : State) (h : s.dev.Canon) (ht : execTevictComplete core bay fab s = .next t) : t.dev.Canon := by
  refine run_canon s t _ ?_ h ht
  repeat' (with_reducible first | assumption | intro _ | apply Dev.tevictComplete_canon)
theorem execTloadComplete_canon (core : CoreNo) (bay : BayNo) (fab : Bool) (s : State) (t : State) (h : s.dev.Canon) (ht : execTloadComplete core bay fab s = .next t) : t.dev.Canon := by
  refine run_canon s t _ ?_ h ht
  repeat' (with_reducible first | assumption | intro _ | apply Dev.tloadComplete_canon)

end Sys2Proof.Machine
end

