-- ==== Sys2Proof/Laws/Tab.lean ====
section
/-! SUPPORT. What a sparse table holds after a key is set or erased. -/

namespace Sys2Proof

variable {α : Type}

/-- A key just set is found with its value. -/
@[simp] theorem Tab.find_set_self (t : Tab α) (k : Nat) (v : α) : Tab.find (Tab.set t k v) k = some v := by
  induction t with
  | nil => simp [Tab.set, Tab.find]
  | cons p t ih =>
    obtain ⟨j, w⟩ := p
    simp only [Tab.set]
    split
    · simp [Tab.find]
    · split
      · simp [Tab.find]
      · rename_i h1 h2
        simp [Tab.find, Ne.symm h2, ih]

/-- Other keys are found as before. -/
@[simp] theorem Tab.find_set_ne (t : Tab α) {k j : Nat} (v : α) (h : j ≠ k) : Tab.find (Tab.set t k v) j = Tab.find t j := by
  induction t with
  | nil => simp [Tab.set, Tab.find, Ne.symm h]
  | cons p t ih =>
    obtain ⟨i, w⟩ := p
    simp only [Tab.set]
    split
    · simp [Tab.find, Ne.symm h]
    · split
      · rename_i h1 h2
        subst h2
        simp [Tab.find, Ne.symm h]
      · simp [Tab.find, ih]

/-- Setting a key twice keeps the second value. -/
@[simp] theorem Tab.set_set (t : Tab α) (k : Nat) (v w : α) : Tab.set (Tab.set t k v) k w = Tab.set t k w := by
  induction t with
  | nil => simp [Tab.set]
  | cons p t ih =>
    obtain ⟨j, u⟩ := p
    by_cases h1 : k < j
    · simp [Tab.set, h1]
    · by_cases h2 : k = j
      · subst h2
        simp [Tab.set]
      · simp [Tab.set, h1, h2, ih]

/-- A key just set reads as its value. -/
@[simp] theorem Tab.get_set_self (t : Tab α) (k : Nat) (v d : α) : Tab.get (Tab.set t k v) k d = v := by
  simp [Tab.get]
/-- Other keys read as before. -/
@[simp] theorem Tab.get_set_ne (t : Tab α) {k j : Nat} (v d : α) (h : j ≠ k) : Tab.get (Tab.set t k v) j d = Tab.get t j d := by
  simp [Tab.get, h]

end Sys2Proof
end

