-- ==== Sys2Proof/Laws/Syllables.lean ====
section
/-! SUPPORT. What the last syllable of an open bundle does, once for all syllables: its answer becomes the bundle's completion, or the exception. -/

namespace Sys2Proof.Machine

open Sys2Proof.Safety

@[simp] theorem Core.bay_setBay_self (c : Core) (n b : Nat) (x : Bay) : (c.setBay b x).bay n b = x := by
  simp [Core.setBay, Core.bay]
@[simp] theorem Core.setBay_setBay (c : Core) (b : Nat) (x y : Bay) : (c.setBay b x).setBay b y = c.setBay b y := by
  simp [Core.setBay]
@[simp] theorem Dev.core_setCore_self (d : Dev) (n : Nat) (c : Core) : (d.setCore n c).core n = c := by
  simp [Dev.setCore, Dev.core]
@[simp] theorem Dev.setCore_setCore (d : Dev) (n : Nat) (c e : Core) : (d.setCore n c).setCore n e = d.setCore n e := by
  simp [Dev.setCore]
@[simp] theorem Dev.bay_setBay_self (d : Dev) (n b : Nat) (x : Bay) : (d.setBay n b x).bay n b = x := by
  simp [Dev.setBay, Dev.bay]
@[simp] theorem Dev.setBay_setBay (d : Dev) (n b : Nat) (x y : Bay) : (d.setBay n b x).setBay n b y = d.setBay n b y := by
  simp [Dev.setBay]

/-- A powered device runs the command. -/
theorem State.run_on (s : State) (f : Dev → Dev) (h : Powered s) : s.run f = { s with dev := f s.dev } := if_neg h

/-- Completing a bundle looks at its address, its length and its syllables alone. -/
theorem Bay.complete_congr (x : Bay) (v : Option Bundle) (u w : Bundle) (hp : w.pc = u.pc) (hl : w.len = u.len) (ha : w.all = u.all) :
    Bay.complete { x with bundle := v } w = x.complete u := by
  unfold Bay.complete Bay.returned
  rw [hp, hl, ha]
  cases h : x.afterRet <;> cases h2 : x.spState.getLsbD 31 <;> simp only [h, if_true, Bool.false_eq_true, if_false] <;> rfl
theorem Dev.stepTrap_congr (d : Dev) (n b : Nat) (x : Bay) (v : Option Bundle) : d.stepTrap n b { x with bundle := v } = d.stepTrap n b x := rfl

/-- The late checks look at no bundle. -/
theorem Dev.lateFault_congr (d : Dev) (n b : Nat) (v : Option Bundle) : (d.setBay n b { d.bay n b with bundle := v }).lateFault n b = d.lateFault n b := by
  funext f
  have hb : ∀ c, ∃ w, (d.setBay n b { d.bay n b with bundle := v }).bay n c = { d.bay n c with bundle := w } := by
    intro c
    by_cases h : c = b
    · exact ⟨v, by rw [h, Dev.bay_setBay_self]⟩
    · exact ⟨(d.bay n c).bundle, by simp [Dev.bay, Dev.setBay, Core.bay, Core.setBay, Tab.find_set_ne _ _ h]⟩
  cases f <;> try rfl
  case act k t w z =>
    obtain ⟨v', hv⟩ := hb t
    have h1 : (d.setBay n b { d.bay n b with bundle := v }).tevictBad n b t = d.tevictBad n b t := by
      unfold Dev.tevictBad; rw [hv]; rfl
    have h2 : ((d.setBay n b { d.bay n b with bundle := v }).bay n t).st = (d.bay n t).st := by rw [hv]
    cases k <;> first | rfl | (simp only [Dev.lateFault, h1]; done) | (simp only [Dev.lateFault, h2]; done)

/-- Settled effects are found by neither the late checks nor the search for what the bundle waits for. -/
theorem Settled.none {d : Dev} {n b : Nat} {es : List Eff} (h : Settled d n b es = true) : es.findSome? (d.lateFault n b) = none ∧ es.find? Eff.asks = none := by
  simp only [Settled, List.all_eq_true, Bool.and_eq_true, Bool.not_eq_true', Option.isNone_iff_eq_none] at h
  exact ⟨List.findSome?_eq_none_iff.mpr fun f hf => (h f hf).2, List.find?_eq_none.mpr fun f hf => by simp [(h f hf).1]⟩

/-- The last syllable's effects complete the bundle, where all its effects are settled. -/
theorem Dev.sylDone_last (d : Dev) (n b : Nat) (es : List Eff) (u : Bundle) (i : Instr) (hb : (d.bay n b).bundle = some u) (ht : u.todo = [i]) (hx : u.excs = [])
    (hu : Settled d n b u.effs = true) (hs : Settled d n b es = true) :
    d.sylDone n b es [] = (((d.setBay n b ((d.bay n b).complete u)).applyAll n b (u.effs ++ es)).stepTrap n b (d.bay n b)).claim n b := by
  have hall : Settled d n b (u.effs ++ es) = true := by
    unfold Settled at *
    rw [List.all_append, hu, hs]; rfl
  unfold Dev.sylDone
  simp only [hb, ht, List.tail_cons, if_true, Dev.finish, Dev.bay_setBay_self, hx, List.append_nil, pickExc, Dev.setBay_setBay, Dev.lateFault_congr, Settled.none hall]
  exact congrArg (fun z => ((Dev.stepTrap ((d.setBay n b z).applyAll n b (u.effs ++ es)) n b (d.bay n b)).claim n b)) (Bay.complete_congr (d.bay n b) _ u _ rfl rfl rfl)

/-- The last syllable's effect asks for what the bundle waits for: the bundle stays open with it. -/
theorem Dev.sylDone_asks (d : Dev) (n b : Nat) (f : Eff) (u : Bundle) (i : Instr) (hb : (d.bay n b).bundle = some u) (ht : u.todo = [i]) (hx : u.excs = [])
    (hu : Settled d n b u.effs = true) (hf : f.asks = true) (hl : d.lateFault n b f = none) :
    d.sylDone n b [f] [] = (d.setBay n b { d.bay n b with bundle := some { u with todo := [], effs := u.effs ++ [f] } }).ask n b f := by
  have h := Settled.none hu
  unfold Dev.sylDone
  simp only [hb, ht, List.tail_cons, if_true, Dev.finish, Dev.bay_setBay_self, hx, List.append_nil, pickExc, Dev.lateFault_congr, List.findSome?_append, h.1, List.find?_append, h.2]
  simp only [List.findSome?_cons, hl, List.findSome?_nil, Option.or_none, List.find?_cons, hf, Option.none_or]

/-- A syllable's command with its bundle open and nothing else left in it: its answer is taken in. -/
theorem run_last (s : State) (y : Syl) (i : Instr) (u : Bundle) (f : Dev → SylOut) (h : Executes s y i u) :
    s.run (fun e => e.runSyl y (asDecoded i) f) = { s with dev := s.dev.answered y.core.toNat y.bay.toNat y.pos.toNat u (f s.dev) } := by
  obtain ⟨hp, hi, hb, hr, ht, -, hg, -⟩ := h
  rw [State.run_on s _ hp]
  unfold Dev.home at hb hg
  simp [Dev.runSyl, hb, Dev.inBundle, hi, hr, ht, hg]

/-- A syllable that executes completes its bundle with its effects. -/
theorem run_done {s : State} {y : Syl} {i : Instr} {u : Bundle} {f : Dev → SylOut} {es : List Eff} (h : Executes s y i u) (hf : f s.dev = .done es)
    (hs : Settled s.dev y.core.toNat y.bay.toNat es = true) :
    s.run (fun e => e.runSyl y (asDecoded i) f) = completes s y u es := by
  rw [run_last s y i u f h, hf]
  exact congrArg (fun e => ({ s with dev := e } : State)) (Dev.sylDone_last _ _ _ es u _ h.2.2.1 h.2.2.2.2.1 h.2.2.2.2.2.1 h.2.2.2.2.2.2.2 hs)

/-- An exception of the last syllable leaves the bundle without effect. -/
theorem Dev.sylDone_exc (d : Dev) (n b p : Nat) (e : Exc) (u : Bundle) (i : Instr) (hb : (d.bay n b).bundle = some u) (ht : u.todo = [i]) (hx : u.excs = []) :
    d.sylDone n b [] [(p, e)] = d.modBay n b (fun x => { x with bundle := none, exc := some e }) := by
  unfold Dev.sylDone
  simp only [hb]
  simp only [ht, List.tail_cons, if_true, Dev.finish, Dev.bay_setBay_self, hx, List.nil_append, pickExc, Dev.setBay_setBay]
  rfl

/-- A syllable that answers an exception in the layout of R76 traps with it. -/
theorem run_exc {s : State} {y : Syl} {i : Instr} {u : Bundle} {f : Dev → SylOut} {c low : Nat} {fa aux : Word} (h : Executes s y i u) (hf : f s.dev = .exc c low fa aux) :
    s.run (fun e => e.runSyl y (asDecoded i) f) = traps s y u c (detailOf y.pos.toNat u.len low) fa aux := by
  rw [run_last s y i u f h, hf]
  exact congrArg (fun e => ({ s with dev := e } : State)) (Dev.sylDone_exc _ _ _ _ _ u _ h.2.2.1 h.2.2.2.2.1 h.2.2.2.2.2.1)

/-- A syllable that stops its bay leaves the bundle open: it comes again. -/
theorem run_hold {s : State} {y : Syl} {i : Instr} {u : Bundle} {f : Dev → SylOut} {st : BayState} {w : Wait} (h : Executes s y i u) (hf : f s.dev = .hold st w) :
    s.run (fun e => e.runSyl y (asDecoded i) f) = { s with dev := s.dev.modBay y.core.toNat y.bay.toNat (fun x => { x with st := st, wait := w }) } := by
  rw [run_last s y i u f h, hf]
  rfl

/-- A syllable that goes on by other commands. -/
theorem run_begin {s : State} {y : Syl} {i : Instr} {u : Bundle} {f : Dev → SylOut} {d : Dev} (h : Executes s y i u) (hf : f s.dev = .begin d) :
    s.run (fun e => e.runSyl y (asDecoded i) f) = { s with dev := d } := by
  rw [run_last s y i u f h, hf]
  rfl

end Sys2Proof.Machine
end

