-- ==== Sys2Proof/Laws/Completion.lean ====
section
/-! SUPPORT. How a statement about a syllable's or a command's answer follows from its meaning, and the arithmetic the results rest on. -/

namespace Sys2Proof

open Sys2Proof.Machine
open Sys2Proof.Safety

/-! ## Effects that end their bundle at once -/

@[simp] theorem settled_nil (d : Dev) (n b : Nat) : Settled d n b [] = true := rfl
@[simp] theorem settled_cons (d : Dev) (n b : Nat) (f : Eff) (es : List Eff) : Settled d n b (f :: es) = ((!f.asks && (d.lateFault n b f).isNone) && Settled d n b es) := rfl
@[simp] theorem settled_append (d : Dev) (n b : Nat) (es fs : List Eff) : Settled d n b (es ++ fs) = (Settled d n b es && Settled d n b fs) := List.all_append
@[simp] theorem settled_ite (d : Dev) (n b : Nat) (c : Prop) [Decidable c] (es fs : List Eff) : Settled d n b (if c then es else fs) = if c then Settled d n b es else Settled d n b fs := by
  split <;> rfl
@[simp] theorem settled_asr (d : Dev) (n b fl lat : Nat) : Settled d n b (asrEffs fl lat) = true := by unfold asrEffs; split <;> rfl
@[simp] theorem settled_dec (d : Dev) (n b : Nat) (f : DFlags) (lat : Nat) : Settled d n b (decEffs f lat) = true := by unfold decEffs; split <;> rfl
@[simp] theorem settled_dq (d e : Dev) (n b : Nat) (y : Syl) (v : Bool) (lat : Nat) : Settled d n b (e.dqEffs y v lat) = true := by unfold Dev.dqEffs; dsimp only; split <;> rfl
@[simp] theorem settled_miss (d e : Dev) (n b k m lvl va : Nat) (hs : List (Nat × Nat)) : Settled d n b (e.missEffs k m lvl va hs) = true := by
  unfold Dev.missEffs; cases e.missOf k m lvl va hs <;> rfl
@[simp] theorem settled_store (d e : Dev) (n b : Nat) (hs : List (Nat × Nat)) (bs : List Byte) : Settled d n b (e.storeEffs hs bs) = true := by
  unfold Dev.storeEffs; split <;> rfl

@[simp] theorem settled_base (d e : Dev) (n b : Nat) (y : Syl) (a : Reg) (am : BitVec 2) (low : BitVec 8) : Settled d n b (e.baseEffs y a am low) = true := by
  unfold Dev.baseEffs; split <;> rfl

theorem done_of {s : State} {y : Syl} {i : Instr} {f : Dev → SylOut} {es : List Eff} (hx : exec i s = .next (s.run (fun e => e.runSyl y (asDecoded i) f))) (hf : f s.dev = .done es)
    (hs : Settled s.dev y.core.toNat y.bay.toNat es = true := by first | rfl | (simp [Eff.asks, Dev.lateFault]; done) | (simp +zetaDelta [Eff.asks, Dev.lateFault]; done) | (simp +zetaDelta only [settled_cons, settled_append]; split <;> rfl) | (dsimp only; split <;> rfl)) : Completes s y i es :=
  fun _ h => hx.trans (congrArg _ (run_done h hf hs))

theorem traps_of {s : State} {y : Syl} {i : Instr} {f : Dev → SylOut} {c low : Nat} {fa aux : Word} (hx : exec i s = .next (s.run (fun e => e.runSyl y (asDecoded i) f))) (hf : f s.dev = .exc c low fa aux) : TrapsWith s y i c low fa aux :=
  fun _ h => hx.trans (congrArg _ (run_exc h hf))

theorem waits_of {s : State} {y : Syl} {i : Instr} {f : Dev → SylOut} {st : BayState} {w : Wait} (hx : exec i s = .next (s.run (fun e => e.runSyl y (asDecoded i) f))) (hf : f s.dev = .hold st w) : Waits s y i st w :=
  fun _ h => hx.trans (congrArg _ (run_hold h hf))

theorem asr_ov (v : Int) (n : Nat) : asrEffs (asrOV * b2n (overflows v)) n = if v < -2 ^ 31 ∨ 2 ^ 31 ≤ v then [Eff.land .asr 1 n] else [] := by
  by_cases h : v < -2 ^ 31 ∨ 2 ^ 31 ≤ v
  · rw [if_pos h]
    have : overflows v = true := by
      simp only [overflows, Bool.or_eq_true, decide_eq_true_eq]; omega
    simp [asrEffs, asrOV, this, b2n]
  · rw [if_neg h]
    have : overflows v = false := by
      simp only [overflows, Bool.or_eq_false_iff, decide_eq_false_iff_not]; omega
    simp [asrEffs, this, b2n]

theorem sextW_eq (w : Nat) (x : BitVec w) (h : w ≤ 32) (h0 : 0 < w) : sextW w x.toNat = x.signExtend 32 := by
  unfold sextW sextI
  rw [BitVec.signExtend, BitVec.toInt_eq_toNat_cond]
  have := x.isLt
  have h2 : 2 ^ w = 2 * 2 ^ (w-1) := by rw [← Nat.pow_succ']; congr; omega
  rw [Nat.mod_eq_of_lt this]
  dsimp only
  congr 1
  split <;> split <;> first | rfl | omega

theorem min_ov (a : Word) : (a == 0x80000000) = overflows (-a.toInt) := by
  have h1 := a.isLt
  by_cases h : a = 0x80000000
  · subst h; decide
  · have h2 : a.toNat ≠ 2147483648 := fun k => h (BitVec.eq_of_toNat_eq k)
    have : overflows (-a.toInt) = false := by
      simp only [overflows, Bool.or_eq_false_iff, decide_eq_false_iff_not, BitVec.toInt_eq_toNat_cond]
      split <;> omega
    rw [this]
    exact beq_false_of_ne h

theorem min_abs (a : Word) : (a == 0x80000000) = overflows a.toInt.natAbs := by
  rw [min_ov]
  have h1 := a.isLt
  simp only [overflows, BitVec.toInt_eq_toNat_cond]
  split <;> congr 1 <;> simp only [decide_eq_decide] <;> omega

theorem msb_lt (a : Word) : a.msb = decide (a.toInt < 0) := by
  rw [BitVec.msb_eq_toInt]

theorem append_ofNat {n k : Nat} (q : BitVec n) (x : BitVec k) (h : n + k = 32) : BitVec.ofNat 32 (q.toNat * 2 ^ k + x.toNat) = (q ++ x).cast h := by
  apply BitVec.eq_of_toNat_eq
  have h1 := q.isLt
  have h2 := x.isLt
  simp only [BitVec.toNat_cast, BitVec.toNat_append, BitVec.toNat_ofNat]
  rw [Nat.shiftLeft_eq, Nat.mul_comm q.toNat, ← Nat.two_pow_add_eq_or_of_lt h2, Nat.mod_eq_of_lt]
  rw [← h, Nat.pow_add, Nat.mul_comm (2 ^ n)]
  calc _ < 2 ^ k * q.toNat + 2 ^ k := by omega
    _ = 2 ^ k * (q.toNat + 1) := by rw [Nat.mul_succ]
    _ ≤ _ := Nat.mul_le_mul_left _ h1

theorem popc_count (a : Word) : popc32 a = (List.range 32).countP (fun i => a.getLsbD i) := by
  have : ∀ l : List Nat, (l.map (fun i => b2n (a.getLsbD i))).sum = l.countP (fun i => a.getLsbD i) := by
    intro l
    induction l with
    | nil => rfl
    | cons i l ih => rw [List.map_cons, List.sum_cons, ih, List.countP_cons, b2n]; split <;> simp_all [Nat.add_comm]
  exact this _

theorem toNat_ofNat_lt (n : Nat) (h : n < 2 ^ 32) : (BitVec.ofNat 32 n).toNat = n := by
  rw [BitVec.toNat_ofNat, Nat.mod_eq_of_lt h]

theorem clz_lt (a : Word) : clz32 a ≤ 32 := by unfold clz32; split <;> omega

theorem sext8 (a : Word) : sextW 8 a.toNat = (a.setWidth 8).signExtend 32 := by
  rw [← sextW_eq 8 _ (by omega) (by omega)]
  simp [sextW, sextI, BitVec.toNat_setWidth]

theorem sext16 (a : Word) : sextW 16 a.toNat = (a.setWidth 16).signExtend 32 := by
  rw [← sextW_eq 16 _ (by omega) (by omega)]
  simp [sextW, sextI, BitVec.toNat_setWidth]

theorem and_mask (a : Word) : (a &&& 0xFF).toNat = a.toNat % 256 ∧ (a &&& 0xFFFF).toNat = a.toNat % 65536 := by
  constructor
  · rw [BitVec.toNat_and]; exact Nat.and_two_pow_sub_one_eq_mod a.toNat 8
  · rw [BitVec.toNat_and]; exact Nat.and_two_pow_sub_one_eq_mod a.toNat 16

theorem bswap_eq (a : Word) : (bswap32 a).toNat = a.toNat % 256 * 2 ^ 24 + a.toNat / 2 ^ 8 % 256 * 2 ^ 16 + a.toNat / 2 ^ 16 % 256 * 2 ^ 8 + a.toNat / 2 ^ 24 := by
  have := a.isLt
  unfold bswap32
  rw [toNat_ofNat_lt]
  all_goals simp [fromBe, fromLe, toLe, Nat.div_div_eq_div_mul]
  all_goals omega

theorem cond_eq (cond : BitVec 3) (A V : Word) : cmpCond cond A V = match cond with
      | 0 => decide (A = V)
      | 1 => decide (A ≠ V)
      | 2 => decide (A.toInt < V.toInt)
      | 3 => decide (V.toInt ≤ A.toInt)
      | 4 => decide (A.toNat < V.toNat)
      | 5 => decide (V.toNat ≤ A.toNat)
      | 6 => decide (A &&& V ≠ 0)
      | 7 => decide (A &&& V = 0) := by
    have : cond = 0 ∨ cond = 1 ∨ cond = 2 ∨ cond = 3 ∨ cond = 4 ∨ cond = 5 ∨ cond = 6 ∨ cond = 7 := by revert cond; decide
    have hb : ∀ x z : Word, (x == z) = decide (x = z) := fun x z => rfl
    rcases this with rfl | rfl | rfl | rfl | rfl | rfl | rfl | rfl
    · exact hb _ _
    · show (!(A == V)) = decide (A ≠ V)
      rw [hb, decide_not]
    · rfl
    · show (!decide (A.toInt < V.toInt)) = decide (V.toInt ≤ A.toInt)
      rw [← decide_not]; simp only [Int.not_lt]
    · rfl
    · show (!decide (A.toNat < V.toNat)) = decide (V.toNat ≤ A.toNat)
      rw [← decide_not]; simp only [Nat.not_lt]
    · show (!(A &&& V == 0)) = decide (A &&& V ≠ 0)
      rw [hb, decide_not]
    · exact hb _ _

theorem toLe_range (k v : Nat) : toLe k v = (List.range k).map (fun i => BitVec.ofNat 8 (v / 256 ^ i)) := by
  induction k generalizing v with
  | zero => rfl
  | succ k ih =>
    rw [toLe, ih, List.range_succ_eq_map]
    simp [Nat.pow_succ', Nat.div_div_eq_div_mul]

theorem runSyl_rep {d : Dev} {y : Syl} {i : Instr} {f : Dev → SylOut} {u : Bundle} {k : Nat} {l : List Instr} (hb : (d.bay y.core.toNat y.bay.toNat).bundle = some u) (hi : d.issuing y.core.toNat y.bay.toNat = true)
    (hr : u.rep = some k) (hf : u.free = 0) (ht : u.todo = i :: l) : d.runSyl y i f = Dev.repLoop y.core.toNat y.bay.toNat y f k d := by
  simp [Dev.runSyl, Dev.inBundle, hb, hi, hr, hf, ht]

theorem repLoop_one {d : Dev} {n b : Nat} {y : Syl} {f : Dev → SylOut} {u : Bundle} {es : List Eff} (hb : (d.bay n b).bundle = some u) (hg : (d.bay n b).guard d.free y = true) (hf : f d = .done es) :
    Dev.repLoop n b y f 1 d = Dev.repLoop n b y f 0 (d.applyAll n b es) := by
  show Dev.repLoop n b y f (0 + 1) d = _
  rw [Dev.repLoop.eq_2]
  simp [hb, hg, hf]

theorem runSyl_next {d : Dev} {y : Syl} {i : Instr} {f : Dev → SylOut} {u : Bundle} {l : List Instr} (hb : (d.bay y.core.toNat y.bay.toNat).bundle = some u) (hi : d.issuing y.core.toNat y.bay.toNat = true)
    (hg : (d.bay y.core.toNat y.bay.toNat).guard d.free y = true) (hr : u.rep = none) (ht : u.todo = i :: l) : d.runSyl y i f = d.answered y.core.toNat y.bay.toNat y.pos.toNat u (f d) := by
  simp [Dev.runSyl, Dev.inBundle, hb, hi, hr, hg, ht]

theorem decOut_cases (d : Dev) (y : Syl) (t : Dest) (v lat : Nat) (f : DFlags) (more : List Eff) :
    let on := fun (k : Nat) => (d.home y).decctl.toNat.testBit k
    (f.vf && on 18 → d.decOut y t v lat f more = .exc 0x0B 1 0 0)
      ∧ (!(f.vf && on 18) && f.zf && on 17 → d.decOut y t v lat f more = .exc 0x0B 2 0 0)
      ∧ (!(f.vf && on 18) && !(f.zf && on 17) && f.of && on 16 → d.decOut y t v lat f more = .exc 0x0B 3 0 0)
      ∧ (!(f.vf && on 18) && !(f.zf && on 17) && !(f.of && on 16) → d.decOut y t v lat f more = .done ((.land t v lat :: (if f.toWord = 0 then [] else [.land .decctl f.toWord.toNat lat])) ++ more)) := by
  intro on
  have hb : ∀ k, bit (d.decNow y) k = on k := fun k => rfl
  unfold Dev.decOut decTrap
  simp only [hb]
  cases f.vf <;> cases f.zf <;> cases f.of <;> cases on 18 <;> cases on 17 <;> cases on 16 <;> simp [decEffs]

theorem rm_eq {s : State} {y : Syl} : s.dev.rm y = (s.dev.home y).decctl.toNat / 2 ^ 24 % 8 := by
  show bits (s.dev.home y).decctl.toNat 26 24 = _
  unfold bits
  rw [show 2 ^ (26 + 1 - 24) = 8 from rfl, Nat.shiftRight_eq_div_pow]

theorem land_none (z : Bay) : z.land .decctl (32 * b2n false) = z := by
  show { z with decctl := z.decctl ||| BitVec.ofNat 32 0 } = z
  simp

theorem becomes_of {s : State} {c : Instr} {f : Dev → Dev} {d : Dev} (hx : exec c s = .next (s.run f)) (h : f s.dev = d) : Becomes c s d := by
  intro hp
  rw [hx, State.run_on s _ hp, h]

theorem range4 : List.range 4 = [0, 1, 2, 3] := rfl

theorem foldl_id {α β : Type} (f : α → β → α) (a : α) (l : List β) (h : ∀ b, f a b = a) : l.foldl f a = a := by
  induction l with
  | nil => rfl
  | cons b l ih => rw [List.foldl_cons, h, ih]

theorem put_setBay (d : Dev) (n b : Nat) (x : Bay) (a : Nat) (l : List Byte) : (d.setBay n b x).put a l = (d.put a l).setBay n b x := rfl

theorem bay_put (d : Dev) (n b : Nat) (a : Nat) (l : List Byte) : (d.put a l).bay n b = d.bay n b := rfl

/-- Whether a buffered store of a core meets a range. -/
abbrev overlaps (d : Dev) (n a len : Nat) : Bool := (d.core n).sb.any (fun e => e.overlaps a len)

theorem overlaps_setBay (d : Dev) (n b : Nat) (x : Bay) (a k : Nat) : overlaps (d.setBay n b x) n a k = overlaps d n a k := by
  unfold overlaps; rw [Dev.setBay, Dev.core_setCore_self]; rfl

theorem servedAt_setBay (d : Dev) (n b : Nat) (x : Bay) (a : Nat) : (d.setBay n b x).servedAt a = d.servedAt a := rfl

theorem inForce_setBay (d : Dev) (n b : Nat) (x : Bay) (a : Nat) : (d.setBay n b x).inForce a = d.inForce a := rfl

theorem settle_none (d : Dev) (n a k : Nat) (h : overlaps d n a k = false) : Dev.settle n a k 16 d = d := by
  unfold Dev.settle; rw [Dev.drainWhile, if_neg]; intro hc; exact absurd (hc.symm.trans h) (by decide)

theorem enter_ok (d : Dev) (n b lvl : Nat) (z : Bay) (en : Entry) (p : Nat) (hp : p = z.tsbp.toNat + (if lvl = 3 then 0x40 else 0)) (h1 : d.servedAt p = true) (h2 : overlaps d n p 64 = false) :
    Dev.enter (d.setBay n b z) n b lvl en false = (d.put p (z.frame en (en.word z.level))).setBay n b (z.entered lvl (en.word z.level) en (if lvl = 3 then d.inForce (midEVECM n b) else z.evecS)) := by
  subst hp
  unfold Dev.enter
  dsimp only
  rw [Dev.bay_setBay_self, settle_none _ _ _ _ (by rw [overlaps_setBay]; exact h2), if_neg, Dev.bay_setBay_self, put_setBay]
  · unfold Dev.modBay
    rw [Dev.bay_setBay_self, Dev.setBay_setBay]
    rfl
  · rintro (h | h)
    · cases h
    · exact h h1

theorem tab_find_map {α : Type} (t : List (Nat × α)) (f : α → α) (k : Nat) : Tab.find (t.map (fun p => (p.1, f p.2))) k = (Tab.find t k).map f := by
  induction t with
  | nil => rfl
  | cons p t ih =>
    simp only [List.map_cons, Tab.find]
    split <;> first | rfl | exact ih

theorem exec_syl (s : State) (c : Instr) (f : SInfo) (hc : sylInfo c = some f) : ∃ g : Dev → SylOut, exec c s = .next (s.run (fun e => e.runSyl f.syl (asDecoded c) g)) := by
  cases c <;> cases hc <;> exact ⟨_, rfl⟩

end Sys2Proof
end

