-- ==== Sys2Proof/Laws/PerInstr.lean ====
section
/-! SUPPORT. The family Shape: every register a syllable writes is one the core has, at a latency the spec gives: 1 to 40 bundles. One lemma per command. -/

namespace Sys2Proof.Laws

open Sys2Proof.Machine

/-- A write of a syllable is to an integer register, a decimal register, a predicate, LC, LK or the return stack (a push by MOVS, number 82), at a latency of 1 to 40. -/
def goodWrite (w : Nat × Nat) : Bool := decide (1 ≤ w.2) && decide (w.2 ≤ 40) && decide (w.1 ≤ 82)

/-- Every register a syllable writes is one the core has, at a latency the spec gives. -/
def Shape.Statement (i : Instr) : Prop := ∀ f, sylInfo i = some f → f.writes.all goodWrite = true

theorem goodWrite_reg (n k l : Nat) (h : n < 32) (hk : k ≤ 49) (hl : 1 ≤ l ∧ l ≤ 40) : goodWrite (k + n, l) = true := by
  simp only [goodWrite, Bool.and_eq_true, decide_eq_true_eq]
  omega

theorem good_wI (r : Reg) (l : Nat) (h : 1 ≤ l ∧ l ≤ 40) : (wI r l).all goodWrite = true := by
  unfold wI
  split
  · rfl
  · have := goodWrite_reg r.toNat 0 l r.isLt (by omega) h
    rw [Nat.zero_add] at this
    simp [this]

theorem good_wD (r : DReg) (l : Nat) (h : 1 ≤ l ∧ l ≤ 40) : (wD r l).all goodWrite = true := by
  simp [wD, goodWrite_reg r.toNat 32 l r.isLt (by omega) h]

theorem good_wQ (q : Pred) (l : Nat) (h : 1 ≤ l ∧ l ≤ 40) : (wQ q l).all goodWrite = true := by
  unfold wQ
  split
  · rfl
  · have hq := q.isLt
    simp only [goodWrite, List.all_cons, List.all_nil, Bool.and_true, Bool.and_eq_true, decide_eq_true_eq]
    omega

theorem good_append (a b : List (Nat × Nat)) (h : a.all goodWrite = true) (k : b.all goodWrite = true) : (a ++ b).all goodWrite = true := by
  rw [List.all_append, h, k]
  rfl

theorem good_if (c : Prop) [Decidable c] (a b : List (Nat × Nat)) (h : a.all goodWrite = true) (k : b.all goodWrite = true) : (if c then a else b).all goodWrite = true := by
  split
  · exact h
  · exact k

theorem good_load (y : Syl) (d a : Reg) (am : BitVec 2) (low : BitVec 8) (p : Option Limm) : (loadInfo y d a am low p).writes.all goodWrite = true := by
  refine good_append _ _ (good_wI _ _ (by omega)) ?_
  exact good_if _ _ _ (good_wI _ _ (by omega)) rfl

theorem good_store (y : Syl) (a : Reg) (am : BitVec 2) (low : BitVec 8) (p : Option Limm) : (storeInfo y a am low p).writes.all goodWrite = true :=
  good_if _ _ _ (good_wI _ _ (by omega)) rfl

theorem good_stream (y : Syl) (k : DReg) (a b c : Reg) (m : Bool) : (streamInfo y k a b c m).writes.all goodWrite = true :=
  good_if _ _ _ (good_wD _ _ (by omega)) rfl
theorem Shape.bundleFetch (core : FetchAt) : Shape.Statement (.bundleFetch core) := by
  rintro _ ⟨⟩
theorem Shape.add (y : Syl) (d : Reg) (a : Reg) (b : Reg) : Shape.Statement (.add y d a b) := by
  rintro _ ⟨⟩
  exact good_wI _ _ (by omega)
theorem Shape.sub (y : Syl) (d : Reg) (a : Reg) (b : Reg) : Shape.Statement (.sub y d a b) := by
  rintro _ ⟨⟩
  exact good_wI _ _ (by omega)
theorem Shape.addv (y : Syl) (d : Reg) (a : Reg) (b : Reg) : Shape.Statement (.addv y d a b) := by
  rintro _ ⟨⟩
  exact good_wI _ _ (by omega)
theorem Shape.subv (y : Syl) (d : Reg) (a : Reg) (b : Reg) : Shape.Statement (.subv y d a b) := by
  rintro _ ⟨⟩
  exact good_wI _ _ (by omega)
theorem Shape.andd (y : Syl) (d : Reg) (a : Reg) (b : Reg) : Shape.Statement (.andd y d a b) := by
  rintro _ ⟨⟩
  exact good_wI _ _ (by omega)
theorem Shape.orr (y : Syl) (d : Reg) (a : Reg) (b : Reg) : Shape.Statement (.orr y d a b) := by
  rintro _ ⟨⟩
  exact good_wI _ _ (by omega)
theorem Shape.xor (y : Syl) (d : Reg) (a : Reg) (b : Reg) : Shape.Statement (.xor y d a b) := by
  rintro _ ⟨⟩
  exact good_wI _ _ (by omega)
theorem Shape.andn (y : Syl) (d : Reg) (a : Reg) (b : Reg) : Shape.Statement (.andn y d a b) := by
  rintro _ ⟨⟩
  exact good_wI _ _ (by omega)
theorem Shape.shl (y : Syl) (d : Reg) (a : Reg) (b : Reg) : Shape.Statement (.shl y d a b) := by
  rintro _ ⟨⟩
  exact good_wI _ _ (by omega)
theorem Shape.shr (y : Syl) (d : Reg) (a : Reg) (b : Reg) : Shape.Statement (.shr y d a b) := by
  rintro _ ⟨⟩
  exact good_wI _ _ (by omega)
theorem Shape.sar (y : Syl) (d : Reg) (a : Reg) (b : Reg) : Shape.Statement (.sar y d a b) := by
  rintro _ ⟨⟩
  exact good_wI _ _ (by omega)
theorem Shape.rol (y : Syl) (d : Reg) (a : Reg) (b : Reg) : Shape.Statement (.rol y d a b) := by
  rintro _ ⟨⟩
  exact good_wI _ _ (by omega)
theorem Shape.min (y : Syl) (d : Reg) (a : Reg) (b : Reg) : Shape.Statement (.min y d a b) := by
  rintro _ ⟨⟩
  exact good_wI _ _ (by omega)
theorem Shape.max (y : Syl) (d : Reg) (a : Reg) (b : Reg) : Shape.Statement (.max y d a b) := by
  rintro _ ⟨⟩
  exact good_wI _ _ (by omega)
theorem Shape.minu (y : Syl) (d : Reg) (a : Reg) (b : Reg) : Shape.Statement (.minu y d a b) := by
  rintro _ ⟨⟩
  exact good_wI _ _ (by omega)
theorem Shape.maxu (y : Syl) (d : Reg) (a : Reg) (b : Reg) : Shape.Statement (.maxu y d a b) := by
  rintro _ ⟨⟩
  exact good_wI _ _ (by omega)
theorem Shape.neg (y : Syl) (d : Reg) (a : Reg) : Shape.Statement (.neg y d a) := by
  rintro _ ⟨⟩
  exact good_wI _ _ (by omega)
theorem Shape.abs (y : Syl) (d : Reg) (a : Reg) : Shape.Statement (.abs y d a) := by
  rintro _ ⟨⟩
  exact good_wI _ _ (by omega)
theorem Shape.clz (y : Syl) (d : Reg) (a : Reg) : Shape.Statement (.clz y d a) := by
  rintro _ ⟨⟩
  exact good_wI _ _ (by omega)
theorem Shape.popc (y : Syl) (d : Reg) (a : Reg) : Shape.Statement (.popc y d a) := by
  rintro _ ⟨⟩
  exact good_wI _ _ (by omega)
theorem Shape.sextb (y : Syl) (d : Reg) (a : Reg) : Shape.Statement (.sextb y d a) := by
  rintro _ ⟨⟩
  exact good_wI _ _ (by omega)
theorem Shape.sexth (y : Syl) (d : Reg) (a : Reg) : Shape.Statement (.sexth y d a) := by
  rintro _ ⟨⟩
  exact good_wI _ _ (by omega)
theorem Shape.zextb (y : Syl) (d : Reg) (a : Reg) : Shape.Statement (.zextb y d a) := by
  rintro _ ⟨⟩
  exact good_wI _ _ (by omega)
theorem Shape.zexth (y : Syl) (d : Reg) (a : Reg) : Shape.Statement (.zexth y d a) := by
  rintro _ ⟨⟩
  exact good_wI _ _ (by omega)
theorem Shape.bswap (y : Syl) (d : Reg) (a : Reg) : Shape.Statement (.bswap y d a) := by
  rintro _ ⟨⟩
  exact good_wI _ _ (by omega)
theorem Shape.addi (y : Syl) (d : Reg) (a : Reg) (imm : BitVec 10) (p : Option Limm) : Shape.Statement (.addi y d a imm p) := by
  rintro _ ⟨⟩
  exact good_wI _ _ (by omega)
theorem Shape.andi (y : Syl) (d : Reg) (a : Reg) (imm : BitVec 10) (p : Option Limm) : Shape.Statement (.andi y d a imm p) := by
  rintro _ ⟨⟩
  exact good_wI _ _ (by omega)
theorem Shape.ori (y : Syl) (d : Reg) (a : Reg) (imm : BitVec 10) (p : Option Limm) : Shape.Statement (.ori y d a imm p) := by
  rintro _ ⟨⟩
  exact good_wI _ _ (by omega)
theorem Shape.xori (y : Syl) (d : Reg) (a : Reg) (imm : BitVec 10) (p : Option Limm) : Shape.Statement (.xori y d a imm p) := by
  rintro _ ⟨⟩
  exact good_wI _ _ (by omega)
theorem Shape.shli (y : Syl) (d : Reg) (a : Reg) (count : BitVec 6) : Shape.Statement (.shli y d a count) := by
  rintro _ ⟨⟩
  exact good_wI _ _ (by omega)
theorem Shape.shri (y : Syl) (d : Reg) (a : Reg) (count : BitVec 6) : Shape.Statement (.shri y d a count) := by
  rintro _ ⟨⟩
  exact good_wI _ _ (by omega)
theorem Shape.sari (y : Syl) (d : Reg) (a : Reg) (count : BitVec 6) : Shape.Statement (.sari y d a count) := by
  rintro _ ⟨⟩
  exact good_wI _ _ (by omega)
theorem Shape.roli (y : Syl) (d : Reg) (a : Reg) (count : BitVec 6) : Shape.Statement (.roli y d a count) := by
  rintro _ ⟨⟩
  exact good_wI _ _ (by omega)
theorem Shape.cmp (y : Syl) (qt : Pred) (a : Reg) (b : Reg) (cond : BitVec 3) (mode : BitVec 2) : Shape.Statement (.cmp y qt a b cond mode) := by
  rintro _ ⟨⟩
  simp only [cmpInfo]
  repeat' (first | exact good_load _ _ _ _ _ _ | exact good_store _ _ _ _ _ | exact good_stream _ _ _ _ _ _ | exact good_wI _ _ (by omega) | exact good_wD _ _ (by omega) | exact good_wQ _ _ (by omega) | with_reducible apply good_append | with_reducible apply good_if | rfl)
theorem Shape.cmpi (y : Syl) (qt : Pred) (a : Reg) (cond : BitVec 3) (mode : BitVec 2) (imm : BitVec 6) (p : Option Limm) : Shape.Statement (.cmpi y qt a cond mode imm p) := by
  rintro _ ⟨⟩
  simp only [cmpInfo]
  repeat' (first | exact good_load _ _ _ _ _ _ | exact good_store _ _ _ _ _ | exact good_stream _ _ _ _ _ _ | exact good_wI _ _ (by omega) | exact good_wD _ _ (by omega) | exact good_wQ _ _ (by omega) | with_reducible apply good_append | with_reducible apply good_if | rfl)
theorem Shape.pand (y : Syl) (qd : Pred) (qa : Pred) (qb : Pred) : Shape.Statement (.pand y qd qa qb) := by
  rintro _ ⟨⟩
  exact good_wQ _ _ (by omega)
theorem Shape.por (y : Syl) (qd : Pred) (qa : Pred) (qb : Pred) : Shape.Statement (.por y qd qa qb) := by
  rintro _ ⟨⟩
  exact good_wQ _ _ (by omega)
theorem Shape.pxor (y : Syl) (qd : Pred) (qa : Pred) (qb : Pred) : Shape.Statement (.pxor y qd qa qb) := by
  rintro _ ⟨⟩
  exact good_wQ _ _ (by omega)
theorem Shape.pandn (y : Syl) (qd : Pred) (qa : Pred) (qb : Pred) : Shape.Statement (.pandn y qd qa qb) := by
  rintro _ ⟨⟩
  exact good_wQ _ _ (by omega)
theorem Shape.pnot (y : Syl) (qd : Pred) (qa : Pred) : Shape.Statement (.pnot y qd qa) := by
  rintro _ ⟨⟩
  exact good_wQ _ _ (by omega)
theorem Shape.movs (y : Syl) (r : Reg) (code : BitVec 5) : Shape.Statement (.movs y r code) := by
  rintro _ ⟨⟩
  dsimp only
  split <;> rfl
theorem Shape.movf (y : Syl) (r : Reg) (code : BitVec 5) : Shape.Statement (.movf y r code) := by
  rintro _ ⟨⟩
  exact good_wI _ _ (by omega)
theorem Shape.sel (y : Syl) (d : Reg) (a : Reg) (b : Reg) (qs : Pred) : Shape.Statement (.sel y d a b qs) := by
  rintro _ ⟨⟩
  exact good_wI _ _ (by omega)
theorem Shape.ldb (y : Syl) (d : Reg) (a : Reg) (am : BitVec 2) (low : BitVec 8) (p : Option Limm) : Shape.Statement (.ldb y d a am low p) := by
  rintro _ ⟨⟩
  exact good_load _ _ _ _ _ _
theorem Shape.ldbu (y : Syl) (d : Reg) (a : Reg) (am : BitVec 2) (low : BitVec 8) (p : Option Limm) : Shape.Statement (.ldbu y d a am low p) := by
  rintro _ ⟨⟩
  exact good_load _ _ _ _ _ _
theorem Shape.ldh (y : Syl) (d : Reg) (a : Reg) (am : BitVec 2) (low : BitVec 8) (p : Option Limm) : Shape.Statement (.ldh y d a am low p) := by
  rintro _ ⟨⟩
  exact good_load _ _ _ _ _ _
theorem Shape.ldhu (y : Syl) (d : Reg) (a : Reg) (am : BitVec 2) (low : BitVec 8) (p : Option Limm) : Shape.Statement (.ldhu y d a am low p) := by
  rintro _ ⟨⟩
  exact good_load _ _ _ _ _ _
theorem Shape.ldw (y : Syl) (d : Reg) (a : Reg) (am : BitVec 2) (low : BitVec 8) (p : Option Limm) : Shape.Statement (.ldw y d a am low p) := by
  rintro _ ⟨⟩
  exact good_load _ _ _ _ _ _
theorem Shape.stb (y : Syl) (d : Reg) (a : Reg) (am : BitVec 2) (low : BitVec 8) (p : Option Limm) : Shape.Statement (.stb y d a am low p) := by
  rintro _ ⟨⟩
  exact good_store _ _ _ _ _
theorem Shape.sth (y : Syl) (d : Reg) (a : Reg) (am : BitVec 2) (low : BitVec 8) (p : Option Limm) : Shape.Statement (.sth y d a am low p) := by
  rintro _ ⟨⟩
  exact good_store _ _ _ _ _
theorem Shape.stw (y : Syl) (d : Reg) (a : Reg) (am : BitVec 2) (low : BitVec 8) (p : Option Limm) : Shape.Statement (.stw y d a am low p) := by
  rintro _ ⟨⟩
  exact good_store _ _ _ _ _
theorem Shape.swapw (y : Syl) (d : Reg) (a : Reg) (b : Reg) : Shape.Statement (.swapw y d a b) := by
  rintro _ ⟨⟩
  exact good_wI _ _ (by omega)
theorem Shape.casw (y : Syl) (d : Reg) (a : Reg) (b : Reg) : Shape.Statement (.casw y d a b) := by
  rintro _ ⟨⟩
  exact good_wI _ _ (by omega)
theorem Shape.faddw (y : Syl) (d : Reg) (a : Reg) (b : Reg) : Shape.Statement (.faddw y d a b) := by
  rintro _ ⟨⟩
  exact good_wI _ _ (by omega)
theorem Shape.fandw (y : Syl) (d : Reg) (a : Reg) (b : Reg) : Shape.Statement (.fandw y d a b) := by
  rintro _ ⟨⟩
  exact good_wI _ _ (by omega)
theorem Shape.forw (y : Syl) (d : Reg) (a : Reg) (b : Reg) : Shape.Statement (.forw y d a b) := by
  rintro _ ⟨⟩
  exact good_wI _ _ (by omega)
theorem Shape.mul (y : Syl) (d : Reg) (a : Reg) (b : Reg) : Shape.Statement (.mul y d a b) := by
  rintro _ ⟨⟩
  exact good_wI _ _ (by omega)
theorem Shape.mulh (y : Syl) (d : Reg) (a : Reg) (b : Reg) : Shape.Statement (.mulh y d a b) := by
  rintro _ ⟨⟩
  exact good_wI _ _ (by omega)
theorem Shape.mulhu (y : Syl) (d : Reg) (a : Reg) (b : Reg) : Shape.Statement (.mulhu y d a b) := by
  rintro _ ⟨⟩
  exact good_wI _ _ (by omega)
theorem Shape.mulv (y : Syl) (d : Reg) (a : Reg) (b : Reg) : Shape.Statement (.mulv y d a b) := by
  rintro _ ⟨⟩
  exact good_wI _ _ (by omega)
theorem Shape.div (y : Syl) (d : Reg) (a : Reg) (b : Reg) : Shape.Statement (.div y d a b) := by
  rintro _ ⟨⟩
  exact good_wI _ _ (by omega)
theorem Shape.divu (y : Syl) (d : Reg) (a : Reg) (b : Reg) : Shape.Statement (.divu y d a b) := by
  rintro _ ⟨⟩
  exact good_wI _ _ (by omega)
theorem Shape.rem (y : Syl) (d : Reg) (a : Reg) (b : Reg) : Shape.Statement (.rem y d a b) := by
  rintro _ ⟨⟩
  exact good_wI _ _ (by omega)
theorem Shape.remu (y : Syl) (d : Reg) (a : Reg) (b : Reg) : Shape.Statement (.remu y d a b) := by
  rintro _ ⟨⟩
  exact good_wI _ _ (by omega)
theorem Shape.br (y : Syl) (disp : BitVec 20) : Shape.Statement (.br y disp) := by
  rintro _ ⟨⟩
  rfl
theorem Shape.call (y : Syl) (disp : BitVec 19) : Shape.Statement (.call y disp) := by
  rintro _ ⟨⟩
  rfl
theorem Shape.callW (y : Syl) (disp : BitVec 19) : Shape.Statement (.callW y disp) := by
  rintro _ ⟨⟩
  rfl
theorem Shape.bri (y : Syl) (a : Reg) : Shape.Statement (.bri y a) := by
  rintro _ ⟨⟩
  rfl
theorem Shape.calli (y : Syl) (a : Reg) : Shape.Statement (.calli y a) := by
  rintro _ ⟨⟩
  rfl
theorem Shape.calliW (y : Syl) (a : Reg) : Shape.Statement (.calliW y a) := by
  rintro _ ⟨⟩
  rfl
theorem Shape.ret (y : Syl) : Shape.Statement (.ret y) := by
  rintro _ ⟨⟩
  rfl
theorem Shape.retW (y : Syl) : Shape.Statement (.retW y) := by
  rintro _ ⟨⟩
  rfl
theorem Shape.retl (y : Syl) : Shape.Statement (.retl y) := by
  rintro _ ⟨⟩
  rfl
theorem Shape.db (y : Syl) (c : Reg) (disp : BitVec 15) : Shape.Statement (.db y c disp) := by
  rintro _ ⟨⟩
  exact good_wI _ _ (by omega)
theorem Shape.dblc (y : Syl) (disp : BitVec 20) : Shape.Statement (.dblc y disp) := by
  rintro _ ⟨⟩
  rfl
theorem Shape.rep (y : Syl) (cr : Reg) (i : Bool) (imm : BitVec 8) : Shape.Statement (.rep y cr i imm) := by
  rintro _ ⟨⟩
  rfl
theorem Shape.mfc (y : Syl) (r : Reg) (cnum : BitVec 6) : Shape.Statement (.mfc y r cnum) := by
  rintro _ ⟨⟩
  exact good_wI _ _ (by omega)
theorem Shape.mtc (y : Syl) (r : Reg) (cnum : BitVec 6) : Shape.Statement (.mtc y r cnum) := by
  rintro _ ⟨⟩
  rfl
theorem Shape.mtcStatus (y : Syl) (r : Reg) : Shape.Statement (.mtcStatus y r) := by
  rintro _ ⟨⟩
  rfl
theorem Shape.mtcTsbp (y : Syl) (r : Reg) : Shape.Statement (.mtcTsbp y r) := by
  rintro _ ⟨⟩
  rfl
theorem Shape.mtcAstb (y : Syl) (r : Reg) : Shape.Statement (.mtcAstb y r) := by
  rintro _ ⟨⟩
  rfl
theorem Shape.mtcAstag (y : Syl) (r : Reg) (m : Bool) : Shape.Statement (.mtcAstag y r m) := by
  rintro _ ⟨⟩
  rfl
theorem Shape.mtcKmask (y : Syl) (r : Reg) : Shape.Statement (.mtcKmask y r) := by
  rintro _ ⟨⟩
  rfl
theorem Shape.mtcKpv (y : Syl) (r : Reg) : Shape.Statement (.mtcKpv y r) := by
  rintro _ ⟨⟩
  rfl
theorem Shape.mfcKpv (y : Syl) (r : Reg) : Shape.Statement (.mfcKpv y r) := by
  rintro _ ⟨⟩
  exact good_wI _ _ (by omega)
theorem Shape.mtcTlock (y : Syl) (r : LockReg) : Shape.Statement (.mtcTlock y r) := by
  rintro _ ⟨⟩
  rfl
theorem Shape.mtcWinctl (y : Syl) (r : Reg) : Shape.Statement (.mtcWinctl y r) := by
  rintro _ ⟨⟩
  rfl
theorem Shape.mtcDecctl (y : Syl) (r : Reg) : Shape.Statement (.mtcDecctl y r) := by
  rintro _ ⟨⟩
  rfl
theorem Shape.mfcEtimeL (y : Syl) (r : Reg) : Shape.Statement (.mfcEtimeL y r) := by
  rintro _ ⟨⟩
  exact good_wI _ _ (by omega)
theorem Shape.fenceS (y : Syl) : Shape.Statement (.fenceS y) := by
  rintro _ ⟨⟩
  rfl
theorem Shape.syncI (y : Syl) : Shape.Statement (.syncI y) := by
  rintro _ ⟨⟩
  rfl
theorem Shape.iflush (y : Syl) (a : Reg) : Shape.Statement (.iflush y a) := by
  rintro _ ⟨⟩
  rfl
theorem Shape.syncT (y : Syl) : Shape.Statement (.syncT y) := by
  rintro _ ⟨⟩
  rfl
theorem Shape.tlbiVa (y : Syl) (r : Reg) (a : Reg) (g : Bool) : Shape.Statement (.tlbiVa y r a g) := by
  rintro _ ⟨⟩
  rfl
theorem Shape.tlbiTag (y : Syl) (a : Reg) (g : Bool) : Shape.Statement (.tlbiTag y a g) := by
  rintro _ ⟨⟩
  rfl
theorem Shape.tlbiAll (y : Syl) (g : Bool) : Shape.Statement (.tlbiAll y g) := by
  rintro _ ⟨⟩
  rfl
theorem Shape.tlbiAllk (y : Syl) (g : Bool) : Shape.Statement (.tlbiAllk y g) := by
  rintro _ ⟨⟩
  rfl
theorem Shape.tlbInvalidationComplete (core : CoreNo) (bay : BayNo) (target : CoreNo) : Shape.Statement (.tlbInvalidationComplete core bay target) := by
  rintro _ ⟨⟩
theorem Shape.brk (y : Syl) : Shape.Statement (.brk y) := by
  rintro _ ⟨⟩
  rfl
theorem Shape.missDataReturn (core : CoreNo) (bay : BayNo) : Shape.Statement (.missDataReturn core bay) := by
  rintro _ ⟨⟩
theorem Shape.pageWalk (core : CoreNo) (bay : BayNo) (fab : Bool) : Shape.Statement (.pageWalk core bay fab) := by
  rintro _ ⟨⟩
theorem Shape.storeBufferDrain (core : CoreNo) (fab : Bool) : Shape.Statement (.storeBufferDrain core fab) := by
  rintro _ ⟨⟩
theorem Shape.dadd (y : Syl) (d : DReg) (a : DReg) (b : DReg) : Shape.Statement (.dadd y d a b) := by
  rintro _ ⟨⟩
  exact good_wD _ _ (by omega)
theorem Shape.dsub (y : Syl) (d : DReg) (a : DReg) (b : DReg) : Shape.Statement (.dsub y d a b) := by
  rintro _ ⟨⟩
  exact good_wD _ _ (by omega)
theorem Shape.dmul (y : Syl) (d : DReg) (a : DReg) (b : DReg) : Shape.Statement (.dmul y d a b) := by
  rintro _ ⟨⟩
  exact good_wD _ _ (by omega)
theorem Shape.ddiv (y : Syl) (d : DReg) (a : DReg) (b : DReg) : Shape.Statement (.ddiv y d a b) := by
  rintro _ ⟨⟩
  exact good_wD _ _ (by omega)
theorem Shape.dqua (y : Syl) (d : DReg) (a : DReg) (b : DReg) : Shape.Statement (.dqua y d a b) := by
  rintro _ ⟨⟩
  exact good_wD _ _ (by omega)
theorem Shape.drni (y : Syl) (d : DReg) (a : DReg) : Shape.Statement (.drni y d a) := by
  rintro _ ⟨⟩
  exact good_wD _ _ (by omega)
theorem Shape.dneg (y : Syl) (d : DReg) (a : DReg) : Shape.Statement (.dneg y d a) := by
  rintro _ ⟨⟩
  exact good_wD _ _ (by omega)
theorem Shape.dabs (y : Syl) (d : DReg) (a : DReg) : Shape.Statement (.dabs y d a) := by
  rintro _ ⟨⟩
  exact good_wD _ _ (by omega)
theorem Shape.dcps (y : Syl) (d : DReg) (a : DReg) (b : DReg) : Shape.Statement (.dcps y d a b) := by
  rintro _ ⟨⟩
  exact good_wD _ _ (by omega)
theorem Shape.daddX (y : Syl) (d : DReg) (a : DReg) (b : DReg) : Shape.Statement (.daddX y d a b) := by
  rintro _ ⟨⟩
  exact good_wD _ _ (by omega)
theorem Shape.dsubX (y : Syl) (d : DReg) (a : DReg) (b : DReg) : Shape.Statement (.dsubX y d a b) := by
  rintro _ ⟨⟩
  exact good_wD _ _ (by omega)
theorem Shape.dmulX (y : Syl) (d : DReg) (a : DReg) (b : DReg) : Shape.Statement (.dmulX y d a b) := by
  rintro _ ⟨⟩
  exact good_wD _ _ (by omega)
theorem Shape.ddivX (y : Syl) (d : DReg) (a : DReg) (b : DReg) : Shape.Statement (.ddivX y d a b) := by
  rintro _ ⟨⟩
  exact good_wD _ _ (by omega)
theorem Shape.dquaX (y : Syl) (d : DReg) (a : DReg) (b : DReg) : Shape.Statement (.dquaX y d a b) := by
  rintro _ ⟨⟩
  exact good_wD _ _ (by omega)
theorem Shape.drniX (y : Syl) (d : DReg) (a : DReg) : Shape.Statement (.drniX y d a) := by
  rintro _ ⟨⟩
  exact good_wD _ _ (by omega)
theorem Shape.dnegX (y : Syl) (d : DReg) (a : DReg) : Shape.Statement (.dnegX y d a) := by
  rintro _ ⟨⟩
  exact good_wD _ _ (by omega)
theorem Shape.dabsX (y : Syl) (d : DReg) (a : DReg) : Shape.Statement (.dabsX y d a) := by
  rintro _ ⟨⟩
  exact good_wD _ _ (by omega)
theorem Shape.dcpsX (y : Syl) (d : DReg) (a : DReg) (b : DReg) : Shape.Statement (.dcpsX y d a b) := by
  rintro _ ⟨⟩
  exact good_wD _ _ (by omega)
theorem Shape.cvtX (y : Syl) (d : DReg) (a : DReg) : Shape.Statement (.cvtX y d a) := by
  rintro _ ⟨⟩
  exact good_wD _ _ (by omega)
theorem Shape.cvtD (y : Syl) (d : DReg) (a : DReg) : Shape.Statement (.cvtD y d a) := by
  rintro _ ⟨⟩
  exact good_wD _ _ (by omega)
theorem Shape.cvid (y : Syl) (d : DReg) (a : Reg) : Shape.Statement (.cvid y d a) := by
  rintro _ ⟨⟩
  exact good_wD _ _ (by omega)
theorem Shape.cvdi (y : Syl) (d : Reg) (a : DReg) : Shape.Statement (.cvdi y d a) := by
  rintro _ ⟨⟩
  exact good_wI _ _ (by omega)
theorem Shape.cvpd (y : Syl) (d : DReg) (a : DReg) (n : BitVec 5) : Shape.Statement (.cvpd y d a n) := by
  rintro _ ⟨⟩
  exact good_wD _ _ (by omega)
theorem Shape.cvpx (y : Syl) (d : DReg) (a : DReg) (n : BitVec 5) : Shape.Statement (.cvpx y d a n) := by
  rintro _ ⟨⟩
  exact good_wD _ _ (by omega)
theorem Shape.cvdp (y : Syl) (d : DReg) (a : DReg) (n : BitVec 5) : Shape.Statement (.cvdp y d a n) := by
  rintro _ ⟨⟩
  exact good_wD _ _ (by omega)
theorem Shape.cvxp (y : Syl) (d : DReg) (a : DReg) (n : BitVec 5) : Shape.Statement (.cvxp y d a n) := by
  rintro _ ⟨⟩
  exact good_wD _ _ (by omega)
theorem Shape.padd (y : Syl) (d : DReg) (a : DReg) (b : DReg) : Shape.Statement (.padd y d a b) := by
  rintro _ ⟨⟩
  exact good_wD _ _ (by omega)
theorem Shape.psub (y : Syl) (d : DReg) (a : DReg) (b : DReg) : Shape.Statement (.psub y d a b) := by
  rintro _ ⟨⟩
  exact good_wD _ _ (by omega)
theorem Shape.pshl (y : Syl) (d : DReg) (a : DReg) (n : BitVec 5) : Shape.Statement (.pshl y d a n) := by
  rintro _ ⟨⟩
  exact good_wD _ _ (by omega)
theorem Shape.pshr (y : Syl) (d : DReg) (a : DReg) (n : BitVec 5) : Shape.Statement (.pshr y d a n) := by
  rintro _ ⟨⟩
  exact good_wD _ _ (by omega)
theorem Shape.pchk (y : Syl) (d : DReg) (a : DReg) : Shape.Statement (.pchk y d a) := by
  rintro _ ⟨⟩
  exact good_wD _ _ (by omega)
theorem Shape.dcmp (y : Syl) (qt : Pred) (s : Bool) (a : DReg) (b : DReg) (cond : BitVec 3) (w : Bool) : Shape.Statement (.dcmp y qt s a b cond w) := by
  rintro _ ⟨⟩
  exact good_wQ _ _ (by omega)
theorem Shape.pcmp (y : Syl) (qt : Pred) (a : DReg) (b : DReg) (cond : BitVec 3) : Shape.Statement (.pcmp y qt a b cond) := by
  rintro _ ⟨⟩
  exact good_wQ _ _ (by omega)
theorem Shape.ldd (y : Syl) (d : DReg) (a : Reg) (disp : BitVec 6) (p : Option Limm) : Shape.Statement (.ldd y d a disp p) := by
  rintro _ ⟨⟩
  exact good_wD _ _ (by omega)
theorem Shape.lddX (y : Syl) (d : DReg) (a : Reg) (disp : BitVec 6) (p : Option Limm) : Shape.Statement (.lddX y d a disp p) := by
  rintro _ ⟨⟩
  exact good_wD _ _ (by omega)
theorem Shape.std (y : Syl) (d : DReg) (a : Reg) (disp : BitVec 6) (p : Option Limm) : Shape.Statement (.std y d a disp p) := by
  rintro _ ⟨⟩
  rfl
theorem Shape.stdX (y : Syl) (d : DReg) (a : Reg) (disp : BitVec 6) (p : Option Limm) : Shape.Statement (.stdX y d a disp p) := by
  rintro _ ⟨⟩
  rfl
theorem Shape.ldp (y : Syl) (d : DReg) (a : Reg) (len : BitVec 5) : Shape.Statement (.ldp y d a len) := by
  rintro _ ⟨⟩
  exact good_wD _ _ (by omega)
theorem Shape.stp (y : Syl) (d : DReg) (a : Reg) (len : BitVec 5) : Shape.Statement (.stp y d a len) := by
  rintro _ ⟨⟩
  rfl
theorem Shape.ldz (y : Syl) (d : DReg) (a : Reg) (len : BitVec 5) : Shape.Statement (.ldz y d a len) := by
  rintro _ ⟨⟩
  exact good_wD _ _ (by omega)
theorem Shape.stz (y : Syl) (d : DReg) (a : Reg) (len : BitVec 5) : Shape.Statement (.stz y d a len) := by
  rintro _ ⟨⟩
  rfl
theorem Shape.macsD (y : Syl) (k : DReg) (a : Reg) (b : Reg) (c : Reg) : Shape.Statement (.macsD y k a b c) := by
  rintro _ ⟨⟩
  exact good_wD _ _ (by omega)
theorem Shape.macuD (y : Syl) (k : DReg) (a : Reg) (b : Reg) (c : Reg) : Shape.Statement (.macuD y k a b c) := by
  rintro _ ⟨⟩
  exact good_stream _ _ _ _ _ _
theorem Shape.macsB (y : Syl) (k : DReg) (a : Reg) (b : Reg) (c : Reg) : Shape.Statement (.macsB y k a b c) := by
  rintro _ ⟨⟩
  exact good_wD _ _ (by omega)
theorem Shape.macuB (y : Syl) (k : DReg) (a : Reg) (b : Reg) (c : Reg) : Shape.Statement (.macuB y k a b c) := by
  rintro _ ⟨⟩
  exact good_stream _ _ _ _ _ _
theorem Shape.streamElement (core : CoreNo) (bay : BayNo) : Shape.Statement (.streamElement core bay) := by
  rintro _ ⟨⟩
theorem Shape.mvs (y : Syl) (a : Reg) : Shape.Statement (.mvs y a) := by
  rintro _ ⟨⟩
  rfl
theorem Shape.trs (y : Syl) (a : Reg) : Shape.Statement (.trs y a) := by
  rintro _ ⟨⟩
  rfl
theorem Shape.cms (y : Syl) (d : Reg) (a : Reg) (qt : Pred) : Shape.Statement (.cms y d a qt) := by
  rintro _ ⟨⟩
  repeat' (first | exact good_load _ _ _ _ _ _ | exact good_store _ _ _ _ _ | exact good_stream _ _ _ _ _ _ | exact good_wI _ _ (by omega) | exact good_wD _ _ (by omega) | exact good_wQ _ _ (by omega) | with_reducible apply good_append | with_reducible apply good_if | rfl)
theorem Shape.scn (y : Syl) (d : Reg) (a : Reg) (qt : Pred) : Shape.Statement (.scn y d a qt) := by
  rintro _ ⟨⟩
  repeat' (first | exact good_load _ _ _ _ _ _ | exact good_store _ _ _ _ _ | exact good_stream _ _ _ _ _ _ | exact good_wI _ _ (by omega) | exact good_wD _ _ (by omega) | exact good_wQ _ _ (by omega) | with_reducible apply good_append | with_reducible apply good_if | rfl)
theorem Shape.scne (y : Syl) (d : Reg) (a : Reg) (qt : Pred) : Shape.Statement (.scne y d a qt) := by
  rintro _ ⟨⟩
  repeat' (first | exact good_load _ _ _ _ _ _ | exact good_store _ _ _ _ _ | exact good_stream _ _ _ _ _ _ | exact good_wI _ _ (by omega) | exact good_wD _ _ (by omega) | exact good_wQ _ _ (by omega) | with_reducible apply good_append | with_reducible apply good_if | rfl)
theorem Shape.edit (y : Syl) (d : Reg) (a : Reg) (qt : Pred) : Shape.Statement (.edit y d a qt) := by
  rintro _ ⟨⟩
  repeat' (first | exact good_load _ _ _ _ _ _ | exact good_store _ _ _ _ _ | exact good_stream _ _ _ _ _ _ | exact good_wI _ _ (by omega) | exact good_wD _ _ (by omega) | exact good_wQ _ _ (by omega) | with_reducible apply good_append | with_reducible apply good_if | rfl)
theorem Shape.stringStep (core : CoreNo) (bay : BayNo) (chk : Bool) : Shape.Statement (.stringStep core bay chk) := by
  rintro _ ⟨⟩
theorem Shape.editStep (core : CoreNo) (bay : BayNo) (chk : Bool) : Shape.Statement (.editStep core bay chk) := by
  rintro _ ⟨⟩
theorem Shape.japp (y : Syl) (d : Reg) (a : Reg) (b : Reg) : Shape.Statement (.japp y d a b) := by
  rintro _ ⟨⟩
  exact good_wI _ _ (by omega)
theorem Shape.jwait (y : Syl) (a : Reg) (b : Reg) : Shape.Statement (.jwait y a b) := by
  rintro _ ⟨⟩
  rfl
theorem Shape.jdur (y : Syl) (d : Reg) (b : Reg) : Shape.Statement (.jdur y d b) := by
  rintro _ ⟨⟩
  exact good_wI _ _ (by omega)
theorem Shape.jrel (y : Syl) (a : Reg) (b : Reg) : Shape.Statement (.jrel y a b) := by
  rintro _ ⟨⟩
  rfl
theorem Shape.journalQueueSpace : Shape.Statement (.journalQueueSpace) := by
  rintro _ ⟨⟩
theorem Shape.recordDurable (stream : BitVec 6) : Shape.Statement (.recordDurable stream) := by
  rintro _ ⟨⟩
theorem Shape.jsCtlWrite (who : Agent) (stream : BitVec 6) (value : Word) : Shape.Statement (.jsCtlWrite who stream value) := by
  rintro _ ⟨⟩
theorem Shape.jsCtlReopen (who : Agent) (stream : BitVec 6) : Shape.Statement (.jsCtlReopen who stream) := by
  rintro _ ⟨⟩
theorem Shape.digestSeal (stream : BitVec 6) : Shape.Statement (.digestSeal stream) := by
  rintro _ ⟨⟩
theorem Shape.digestCompare (stream : BitVec 6) (bridge : Bool) (origin : BitVec 4) : Shape.Statement (.digestCompare stream bridge origin) := by
  rintro _ ⟨⟩
theorem Shape.digestWaitExpiry (stream : BitVec 6) : Shape.Statement (.digestWaitExpiry stream) := by
  rintro _ ⟨⟩
theorem Shape.tickIn (epochIn : Bool) : Shape.Statement (.tickIn epochIn) := by
  rintro _ ⟨⟩
theorem Shape.epochSourceLoss (altLive : Bool) : Shape.Statement (.epochSourceLoss altLive) := by
  rintro _ ⟨⟩
theorem Shape.epctlWrite (who : Agent) (value : Word) : Shape.Statement (.epctlWrite who value) := by
  rintro _ ⟨⟩
theorem Shape.esCtlWrite (who : Agent) (slot : BitVec 8) (value : Word) : Shape.Statement (.esCtlWrite who slot value) := by
  rintro _ ⟨⟩
theorem Shape.eventSlotFire : Shape.Statement (.eventSlotFire) := by
  rintro _ ⟨⟩
theorem Shape.powerFail : Shape.Statement (.powerFail) := by
  rintro _ ⟨⟩
theorem Shape.powerFailSequenceEnd : Shape.Statement (.powerFailSequenceEnd) := by
  rintro _ ⟨⟩
theorem Shape.recoveryScanEnd : Shape.Statement (.recoveryScanEnd) := by
  rintro _ ⟨⟩
theorem Shape.tevict (y : Syl) (bay : BayNo) : Shape.Statement (.tevict y bay) := by
  rintro _ ⟨⟩
  rfl
theorem Shape.tevictComplete (core : CoreNo) (bay : BayNo) (fab : Bool) : Shape.Statement (.tevictComplete core bay fab) := by
  rintro _ ⟨⟩
theorem Shape.tload (y : Syl) (bay : BayNo) (a : Reg) : Shape.Statement (.tload y bay a) := by
  rintro _ ⟨⟩
  rfl
theorem Shape.tloadComplete (core : CoreNo) (bay : BayNo) (fab : Bool) : Shape.Statement (.tloadComplete core bay fab) := by
  rintro _ ⟨⟩
theorem Shape.waitt (y : Syl) : Shape.Statement (.waitt y) := by
  rintro _ ⟨⟩
  rfl
theorem Shape.yield (y : Syl) : Shape.Statement (.yield y) := by
  rintro _ ⟨⟩
  rfl
theorem Shape.signal (y : Syl) (a : Reg) (imm : BitVec 8) : Shape.Statement (.signal y a imm) := by
  rintro _ ⟨⟩
  rfl
theorem Shape.scall (y : Syl) (n : BitVec 8) : Shape.Statement (.scall y n) := by
  rintro _ ⟨⟩
  rfl
theorem Shape.fret (y : Syl) : Shape.Statement (.fret y) := by
  rintro _ ⟨⟩
  rfl
theorem Shape.gcall (y : Syl) (n : BitVec 8) : Shape.Statement (.gcall y n) := by
  rintro _ ⟨⟩
  rfl
theorem Shape.gret (y : Syl) : Shape.Statement (.gret y) := by
  rintro _ ⟨⟩
  rfl
theorem Shape.sret (y : Syl) : Shape.Statement (.sret y) := by
  rintro _ ⟨⟩
  rfl
theorem Shape.mret (y : Syl) : Shape.Statement (.mret y) := by
  rintro _ ⟨⟩
  rfl
theorem Shape.exceptionEntry (core : CoreNo) (bay : BayNo) (fab : Bool) : Shape.Statement (.exceptionEntry core bay fab) := by
  rintro _ ⟨⟩
theorem Shape.windowSpill (core : CoreNo) (bay : BayNo) (fab : Bool) : Shape.Statement (.windowSpill core bay fab) := by
  rintro _ ⟨⟩
theorem Shape.windowFill (core : CoreNo) (bay : BayNo) (fab : Bool) : Shape.Statement (.windowFill core bay fab) := by
  rintro _ ⟨⟩
theorem Shape.schedulerSelect (core : CoreNo) : Shape.Statement (.schedulerSelect core) := by
  rintro _ ⟨⟩
theorem Shape.preemption (core : CoreNo) : Shape.Statement (.preemption core) := by
  rintro _ ⟨⟩
theorem Shape.quantumExpiry (core : CoreNo) : Shape.Statement (.quantumExpiry core) := by
  rintro _ ⟨⟩
theorem Shape.automaticLoad (core : CoreNo) : Shape.Statement (.automaticLoad core) := by
  rintro _ ⟨⟩
theorem Shape.mirrorStage (who : Agent) (id : Word) (value : Word) : Shape.Statement (.mirrorStage who id value) := by
  rintro _ ⟨⟩
theorem Shape.mcsCountersign (org : Origin) (slot : BitVec 4) (ticket : Half) : Shape.Statement (.mcsCountersign org slot ticket) := by
  rintro _ ⟨⟩
theorem Shape.mcsReject (org : Origin) (slot : BitVec 4) (ticket : Half) : Shape.Statement (.mcsReject org slot ticket) := by
  rintro _ ⟨⟩
theorem Shape.mcsGroupCountersign (org : Origin) : Shape.Statement (.mcsGroupCountersign org) := by
  rintro _ ⟨⟩
theorem Shape.stageExpiry (slot : BitVec 4) : Shape.Statement (.stageExpiry slot) := by
  rintro _ ⟨⟩
theorem Shape.committedValueApplied : Shape.Statement (.committedValueApplied) := by
  rintro _ ⟨⟩
theorem Shape.faccWrite (fn : FnNo) (n : BitVec 2) (value : DWord) : Shape.Statement (.faccWrite fn n value) := by
  rintro _ ⟨⟩
theorem Shape.featCtlClose (fn : FnNo) : Shape.Statement (.featCtlClose fn) := by
  rintro _ ⟨⟩
theorem Shape.eprElRead (fn : FnNo) : Shape.Statement (.eprElRead fn) := by
  rintro _ ⟨⟩
theorem Shape.mwinDataWrite (fn : FnNo) (value : Word) : Shape.Statement (.mwinDataWrite fn value) := by
  rintro _ ⟨⟩
theorem Shape.vfqWrite (who : FnNo) (fn : FnNo) (cq : Bool) (value : Word) : Shape.Statement (.vfqWrite who fn cq value) := by
  rintro _ ⟨⟩
theorem Shape.vfEnable (value : Bool) : Shape.Statement (.vfEnable value) := by
  rintro _ ⟨⟩
theorem Shape.queueRegWrite (fn : FnNo) (off : BitVec 16) (value : Word) : Shape.Statement (.queueRegWrite fn off value) := by
  rintro _ ⟨⟩
theorem Shape.sqEnable (fn : FnNo) (q : BitVec 8) : Shape.Statement (.sqEnable fn q) := by
  rintro _ ⟨⟩
theorem Shape.sqDisable (fn : FnNo) (q : BitVec 8) : Shape.Statement (.sqDisable fn q) := by
  rintro _ ⟨⟩
theorem Shape.cqEnable (fn : FnNo) (q : BitVec 8) : Shape.Statement (.cqEnable fn q) := by
  rintro _ ⟨⟩
theorem Shape.cqDisable (fn : FnNo) (q : BitVec 8) : Shape.Statement (.cqDisable fn q) := by
  rintro _ ⟨⟩
theorem Shape.sqTailDoorbell (fn : FnNo) (q : BitVec 8) (value : Word) : Shape.Statement (.sqTailDoorbell fn q value) := by
  rintro _ ⟨⟩
theorem Shape.cqHeadDoorbell (fn : FnNo) (q : BitVec 8) (value : Word) : Shape.Statement (.cqHeadDoorbell fn q value) := by
  rintro _ ⟨⟩
theorem Shape.submissionFetch (entry : Option (List Byte)) : Shape.Statement (.submissionFetch entry) := by
  rintro _ ⟨⟩
theorem Shape.post (fn : FnNo) (q : BitVec 8) : Shape.Statement (.post fn q) := by
  rintro _ ⟨⟩
theorem Shape.mark (fn : FnNo) (q : BitVec 8) : Shape.Statement (.mark fn q) := by
  rintro _ ⟨⟩
theorem Shape.markComplete (fn : FnNo) (q : BitVec 8) : Shape.Statement (.markComplete fn q) := by
  rintro _ ⟨⟩
theorem Shape.nop (fn : FnNo) (q : BitVec 8) : Shape.Statement (.nop fn q) := by
  rintro _ ⟨⟩
theorem Shape.jstat (fn : FnNo) (q : BitVec 8) : Shape.Statement (.jstat fn q) := by
  rintro _ ⟨⟩
theorem Shape.qstat (fn : FnNo) (q : BitVec 8) : Shape.Statement (.qstat fn q) := by
  rintro _ ⟨⟩
theorem Shape.msg (fn : FnNo) (q : BitVec 8) : Shape.Statement (.msg fn q) := by
  rintro _ ⟨⟩
theorem Shape.rread (fn : FnNo) (q : BitVec 8) : Shape.Statement (.rread fn q) := by
  rintro _ ⟨⟩
theorem Shape.rsnap (fn : FnNo) (q : BitVec 8) : Shape.Statement (.rsnap fn q) := by
  rintro _ ⟨⟩
theorem Shape.rclr (fn : FnNo) (q : BitVec 8) : Shape.Statement (.rclr fn q) := by
  rintro _ ⟨⟩
theorem Shape.inRingConfigWrite (who : Agent) (ring : BitVec 7) (ctl : Bool) (value : Word) : Shape.Statement (.inRingConfigWrite who ring ctl value) := by
  rintro _ ⟨⟩
theorem Shape.inCplWrite (who : Agent) (ring : BitVec 7) (value : Word) : Shape.Statement (.inCplWrite who ring value) := by
  rintro _ ⟨⟩
theorem Shape.inHeadWrite (who : Agent) (ring : BitVec 7) (value : Word) : Shape.Statement (.inHeadWrite who ring value) := by
  rintro _ ⟨⟩
theorem Shape.cqModTimerExpiry (fn : FnNo) (q : BitVec 8) : Shape.Statement (.cqModTimerExpiry fn q) := by
  rintro _ ⟨⟩
theorem Shape.functionLevelResetVf (fn : FnNo) : Shape.Statement (.functionLevelResetVf fn) := by
  rintro _ ⟨⟩
theorem Shape.functionLevelResetPf : Shape.Statement (.functionLevelResetPf) := by
  rintro _ ⟨⟩
theorem Shape.dmaTailDoorbell (who : Agent) (e : BitVec 2) (c : BitVec 4) (value : Word) : Shape.Statement (.dmaTailDoorbell who e c value) := by
  rintro _ ⟨⟩
theorem Shape.dmaCheadWrite (who : Agent) (e : BitVec 2) (c : BitVec 4) (value : Word) : Shape.Statement (.dmaCheadWrite who e c value) := by
  rintro _ ⟨⟩
theorem Shape.dmaRingConfigWrite (who : Agent) (e : BitVec 2) (c : BitVec 4) (off : BitVec 8) (value : Word) : Shape.Statement (.dmaRingConfigWrite who e c off value) := by
  rintro _ ⟨⟩
theorem Shape.dmaChannelEnable (who : Agent) (e : BitVec 2) (c : BitVec 4) : Shape.Statement (.dmaChannelEnable who e c) := by
  rintro _ ⟨⟩
theorem Shape.dmaStopRequest (who : Agent) (e : BitVec 2) (c : BitVec 4) : Shape.Statement (.dmaStopRequest who e c) := by
  rintro _ ⟨⟩
theorem Shape.chAuthWrite (who : Agent) (e : BitVec 2) (c : BitVec 4) (value : Word) : Shape.Statement (.chAuthWrite who e c value) := by
  rintro _ ⟨⟩
theorem Shape.chTrigWrite (who : Agent) (e : BitVec 2) (c : BitVec 4) (value : Word) : Shape.Statement (.chTrigWrite who e c value) := by
  rintro _ ⟨⟩
theorem Shape.chShctlArm (who : Agent) (e : BitVec 2) (c : BitVec 4) : Shape.Statement (.chShctlArm who e c) := by
  rintro _ ⟨⟩
theorem Shape.shadowSwap (e : BitVec 2) (c : BitVec 4) (late : Option (Agent × BitVec 8 × Word)) : Shape.Statement (.shadowSwap e c late) := by
  rintro _ ⟨⟩
theorem Shape.descriptorStart (e : BitVec 2) : Shape.Statement (.descriptorStart e) := by
  rintro _ ⟨⟩
theorem Shape.dmaNop (e : BitVec 2) (c : BitVec 4) (hostData : List Byte) (fault : DmaFault) : Shape.Statement (.dmaNop e c hostData fault) := by
  rintro _ ⟨⟩
theorem Shape.copy (e : BitVec 2) (c : BitVec 4) (hostData : List Byte) (fault : DmaFault) : Shape.Statement (.copy e c hostData fault) := by
  rintro _ ⟨⟩
theorem Shape.fill (e : BitVec 2) (c : BitVec 4) (hostData : List Byte) (fault : DmaFault) : Shape.Statement (.fill e c hostData fault) := by
  rintro _ ⟨⟩
theorem Shape.convert (e : BitVec 2) (c : BitVec 4) (hostData : List Byte) (fault : DmaFault) : Shape.Statement (.convert e c hostData fault) := by
  rintro _ ⟨⟩
theorem Shape.prism (e : BitVec 2) (c : BitVec 4) (hostData : List Byte) (fault : DmaFault) : Shape.Statement (.prism e c hostData fault) := by
  rintro _ ⟨⟩
theorem Shape.prismr (e : BitVec 2) (c : BitVec 4) (hostData : List Byte) (fault : DmaFault) : Shape.Statement (.prismr e c hostData fault) := by
  rintro _ ⟨⟩
theorem Shape.jexport (e : BitVec 2) (c : BitVec 4) (hostData : List Byte) (fault : DmaFault) : Shape.Statement (.jexport e c hostData fault) := by
  rintro _ ⟨⟩
theorem Shape.dmaCompletionRecord (e : BitVec 2) (c : BitVec 4) : Shape.Statement (.dmaCompletionRecord e c) := by
  rintro _ ⟨⟩
theorem Shape.dmaBusError (e : BitVec 2) (kind : BitVec 4) (addr : DWord) : Shape.Statement (.dmaBusError e kind addr) := by
  rintro _ ⟨⟩
theorem Shape.deRestart (who : Agent) (e : BitVec 2) : Shape.Statement (.deRestart who e) := by
  rintro _ ⟨⟩
theorem Shape.portEnable (who : Agent) (port : BitVec 2) : Shape.Statement (.portEnable who port) := by
  rintro _ ⟨⟩
theorem Shape.linkTrainingComplete (port : BitVec 2) (hello : List Byte) : Shape.Statement (.linkTrainingComplete port hello) := by
  rintro _ ⟨⟩
theorem Shape.linkRetrain (port : BitVec 2) : Shape.Statement (.linkRetrain port) := by
  rintro _ ⟨⟩
theorem Shape.posting (port : BitVec 2) (frame : List Byte) : Shape.Statement (.posting port frame) := by
  rintro _ ⟨⟩
theorem Shape.markFrame (port : BitVec 2) (frame : List Byte) : Shape.Statement (.markFrame port frame) := by
  rintro _ ⟨⟩
theorem Shape.digest (port : BitVec 2) (frame : List Byte) : Shape.Statement (.digest port frame) := by
  rintro _ ⟨⟩
theorem Shape.ack (port : BitVec 2) (frame : List Byte) : Shape.Statement (.ack port frame) := by
  rintro _ ⟨⟩
theorem Shape.nak (port : BitVec 2) (frame : List Byte) : Shape.Statement (.nak port frame) := by
  rintro _ ⟨⟩
theorem Shape.hello (port : BitVec 2) (frame : List Byte) : Shape.Statement (.hello port frame) := by
  rintro _ ⟨⟩
theorem Shape.ackTimer (port : BitVec 2) : Shape.Statement (.ackTimer port) := by
  rintro _ ⟨⟩
theorem Shape.xmSend (who : Agent) (stream : BitVec 6) (addr : DWord) : Shape.Statement (.xmSend who stream addr) := by
  rintro _ ⟨⟩
theorem Shape.heldPostingDelivery (port : BitVec 2) : Shape.Statement (.heldPostingDelivery port) := by
  rintro _ ⟨⟩
theorem Shape.malfWindowEnd : Shape.Statement (.malfWindowEnd) := by
  rintro _ ⟨⟩
theorem Shape.portDrain (who : Agent) (port : BitVec 2) : Shape.Statement (.portDrain who port) := by
  rintro _ ⟨⟩
theorem Shape.portDrained (port : BitVec 2) : Shape.Statement (.portDrained port) := by
  rintro _ ⟨⟩
theorem Shape.eventRecorded (source : BitVec 16) (kind : BitVec 8) (detail : EventData) : Shape.Statement (.eventRecorded source kind detail) := by
  rintro _ ⟨⟩
theorem Shape.rcCtlSnap (who : Agent) : Shape.Statement (.rcCtlSnap who) := by
  rintro _ ⟨⟩
theorem Shape.snapshotPeriodExpiry : Shape.Statement (.snapshotPeriodExpiry) := by
  rintro _ ⟨⟩
theorem Shape.snapshotWriteEnd : Shape.Statement (.snapshotWriteEnd) := by
  rintro _ ⟨⟩
theorem Shape.measurementSample (ch : BitVec 5) (value : Word) : Shape.Statement (.measurementSample ch value) := by
  rintro _ ⟨⟩
theorem Shape.rcCtlWrite (who : Agent) (value : Word) : Shape.Statement (.rcCtlWrite who value) := by
  rintro _ ⟨⟩
theorem Shape.recorderClear (who : Agent) (value : Word) : Shape.Statement (.recorderClear who value) := by
  rintro _ ⟨⟩
theorem Shape.recorderClearEnd : Shape.Statement (.recorderClearEnd) := by
  rintro _ ⟨⟩
theorem Shape.optSave : Shape.Statement (.optSave) := by
  rintro _ ⟨⟩
theorem Shape.rcOptLRead (who : Agent) : Shape.Statement (.rcOptLRead who) := by
  rintro _ ⟨⟩
theorem Shape.drain (who : Agent) (dom : BitVec 7) : Shape.Statement (.drain who dom) := by
  rintro _ ⟨⟩
theorem Shape.drainComplete (dom : BitVec 7) : Shape.Statement (.drainComplete dom) := by
  rintro _ ⟨⟩
theorem Shape.drainTimeout (dom : BitVec 7) : Shape.Statement (.drainTimeout dom) := by
  rintro _ ⟨⟩
theorem Shape.cancel (who : Agent) (dom : BitVec 7) : Shape.Statement (.cancel who dom) := by
  rintro _ ⟨⟩
theorem Shape.test (who : Agent) (dom : BitVec 7) : Shape.Statement (.test who dom) := by
  rintro _ ⟨⟩
theorem Shape.selfTestEnd (dom : BitVec 7) (pass : Bool) : Shape.Statement (.selfTestEnd dom pass) := by
  rintro _ ⟨⟩
theorem Shape.repatch (who : Agent) (dom : BitVec 7) : Shape.Statement (.repatch who dom) := by
  rintro _ ⟨⟩
theorem Shape.repatchEnd (dom : BitVec 7) : Shape.Statement (.repatchEnd dom) := by
  rintro _ ⟨⟩
theorem Shape.offf (who : Agent) (dom : BitVec 7) : Shape.Statement (.offf who dom) := by
  rintro _ ⟨⟩
theorem Shape.onn (who : Agent) (dom : BitVec 7) : Shape.Statement (.onn who dom) := by
  rintro _ ⟨⟩
theorem Shape.powerOnEnd (dom : BitVec 7) : Shape.Statement (.powerOnEnd dom) := by
  rintro _ ⟨⟩
theorem Shape.returnn (who : Agent) (dom : BitVec 7) : Shape.Statement (.returnn who dom) := by
  rintro _ ⟨⟩
theorem Shape.returnEnd (dom : BitVec 7) : Shape.Statement (.returnEnd dom) := by
  rintro _ ⟨⟩
theorem Shape.recover (who : Agent) (core : BitVec 7) : Shape.Statement (.recover who core) := by
  rintro _ ⟨⟩
theorem Shape.lockupAutoRecover (core : CoreNo) : Shape.Statement (.lockupAutoRecover core) := by
  rintro _ ⟨⟩
theorem Shape.powerOnReset : Shape.Statement (.powerOnReset) := by
  rintro _ ⟨⟩
theorem Shape.deviceReset : Shape.Statement (.deviceReset) := by
  rintro _ ⟨⟩
theorem Shape.startup : Shape.Statement (.startup) := by
  rintro _ ⟨⟩
theorem Shape.bootDone : Shape.Statement (.bootDone) := by
  rintro _ ⟨⟩
theorem Shape.bootTimeout : Shape.Statement (.bootTimeout) := by
  rintro _ ⟨⟩
theorem Shape.memilWrite (who : Agent) (value : Word) : Shape.Statement (.memilWrite who value) := by
  rintro _ ⟨⟩
theorem Shape.imgOpen (who : Agent) (value : Word) : Shape.Statement (.imgOpen who value) := by
  rintro _ ⟨⟩
theorem Shape.imgDataWrite (who : Agent) (value : Word) : Shape.Statement (.imgDataWrite who value) := by
  rintro _ ⟨⟩
theorem Shape.imgClose (who : Agent) : Shape.Statement (.imgClose who) := by
  rintro _ ⟨⟩
theorem Shape.imgAbandon (who : Agent) : Shape.Statement (.imgAbandon who) := by
  rintro _ ⟨⟩
theorem Shape.status (tag : Byte) (args : List Byte) : Shape.Statement (.status tag args) := by
  rintro _ ⟨⟩
theorem Shape.rrec (tag : Byte) (args : List Byte) : Shape.Statement (.rrec tag args) := by
  rintro _ ⟨⟩
theorem Shape.pdreq (tag : Byte) (args : List Byte) : Shape.Statement (.pdreq tag args) := by
  rintro _ ⟨⟩
theorem Shape.pdstat (tag : Byte) (args : List Byte) : Shape.Statement (.pdstat tag args) := by
  rintro _ ⟨⟩
theorem Shape.lkrec (tag : Byte) (args : List Byte) : Shape.Statement (.lkrec tag args) := by
  rintro _ ⟨⟩
theorem Shape.stage (tag : Byte) (args : List Byte) : Shape.Statement (.stage tag args) := by
  rintro _ ⟨⟩
theorem Shape.csign (tag : Byte) (args : List Byte) : Shape.Statement (.csign tag args) := by
  rintro _ ⟨⟩
theorem Shape.runext (tag : Byte) (args : List Byte) : Shape.Statement (.runext tag args) := by
  rintro _ ⟨⟩
theorem Shape.imgopen (tag : Byte) (args : List Byte) : Shape.Statement (.imgopen tag args) := by
  rintro _ ⟨⟩
theorem Shape.imgdata (tag : Byte) (args : List Byte) : Shape.Statement (.imgdata tag args) := by
  rintro _ ⟨⟩
theorem Shape.imgclose (tag : Byte) (args : List Byte) : Shape.Statement (.imgclose tag args) := by
  rintro _ ⟨⟩
theorem Shape.smbusRclr (tag : Byte) (args : List Byte) : Shape.Statement (.smbusRclr tag args) := by
  rintro _ ⟨⟩
theorem Shape.devrst (tag : Byte) (args : List Byte) : Shape.Statement (.devrst tag args) := by
  rintro _ ⟨⟩
theorem Shape.smbusTimeout : Shape.Statement (.smbusTimeout) := by
  rintro _ ⟨⟩
theorem Shape.puporLdImm (i : Byte) : Shape.Statement (.puporLdImm i) := by
  rintro _ ⟨⟩
theorem Shape.puporLdAbs (a : Half) : Shape.Statement (.puporLdAbs a) := by
  rintro _ ⟨⟩
theorem Shape.puporLdJ (disp : Byte) : Shape.Statement (.puporLdJ disp) := by
  rintro _ ⟨⟩
theorem Shape.puporLdK : Shape.Statement (.puporLdK) := by
  rintro _ ⟨⟩
theorem Shape.puporStAbs (a : Half) : Shape.Statement (.puporStAbs a) := by
  rintro _ ⟨⟩
theorem Shape.puporStJ (disp : Byte) : Shape.Statement (.puporStJ disp) := by
  rintro _ ⟨⟩
theorem Shape.puporStK : Shape.Statement (.puporStK) := by
  rintro _ ⟨⟩
theorem Shape.puporLdjImm (a : Half) : Shape.Statement (.puporLdjImm a) := by
  rintro _ ⟨⟩
theorem Shape.puporLdkImm (a : Half) : Shape.Statement (.puporLdkImm a) := by
  rintro _ ⟨⟩
theorem Shape.puporLdjAbs (a : Half) : Shape.Statement (.puporLdjAbs a) := by
  rintro _ ⟨⟩
theorem Shape.puporStj (a : Half) : Shape.Statement (.puporStj a) := by
  rintro _ ⟨⟩
theorem Shape.puporSwjk : Shape.Statement (.puporSwjk) := by
  rintro _ ⟨⟩
theorem Shape.puporAdj : Shape.Statement (.puporAdj) := by
  rintro _ ⟨⟩
theorem Shape.puporMovCntAcc : Shape.Statement (.puporMovCntAcc) := by
  rintro _ ⟨⟩
theorem Shape.puporMovAccCnt : Shape.Statement (.puporMovAccCnt) := by
  rintro _ ⟨⟩
theorem Shape.puporAddImm (i : Byte) : Shape.Statement (.puporAddImm i) := by
  rintro _ ⟨⟩
theorem Shape.puporAddAbs (a : Half) : Shape.Statement (.puporAddAbs a) := by
  rintro _ ⟨⟩
theorem Shape.puporAddc (a : Half) : Shape.Statement (.puporAddc a) := by
  rintro _ ⟨⟩
theorem Shape.puporSubImm (i : Byte) : Shape.Statement (.puporSubImm i) := by
  rintro _ ⟨⟩
theorem Shape.puporSubAbs (a : Half) : Shape.Statement (.puporSubAbs a) := by
  rintro _ ⟨⟩
theorem Shape.puporSubc (a : Half) : Shape.Statement (.puporSubc a) := by
  rintro _ ⟨⟩
theorem Shape.puporAnd (i : Byte) : Shape.Statement (.puporAnd i) := by
  rintro _ ⟨⟩
theorem Shape.puporIor (i : Byte) : Shape.Statement (.puporIor i) := by
  rintro _ ⟨⟩
theorem Shape.puporXor (i : Byte) : Shape.Statement (.puporXor i) := by
  rintro _ ⟨⟩
theorem Shape.puporCmpImm (i : Byte) : Shape.Statement (.puporCmpImm i) := by
  rintro _ ⟨⟩
theorem Shape.puporCmpAbs (a : Half) : Shape.Statement (.puporCmpAbs a) := by
  rintro _ ⟨⟩
theorem Shape.puporShl : Shape.Statement (.puporShl) := by
  rintro _ ⟨⟩
theorem Shape.puporShr : Shape.Statement (.puporShr) := by
  rintro _ ⟨⟩
theorem Shape.puporInc : Shape.Statement (.puporInc) := by
  rintro _ ⟨⟩
theorem Shape.puporDec : Shape.Statement (.puporDec) := by
  rintro _ ⟨⟩
theorem Shape.puporJmp (a : Half) : Shape.Statement (.puporJmp a) := by
  rintro _ ⟨⟩
theorem Shape.puporCall (a : Half) : Shape.Statement (.puporCall a) := by
  rintro _ ⟨⟩
theorem Shape.puporRet : Shape.Statement (.puporRet) := by
  rintro _ ⟨⟩
theorem Shape.puporJz (r : Byte) : Shape.Statement (.puporJz r) := by
  rintro _ ⟨⟩
theorem Shape.puporJnz (r : Byte) : Shape.Statement (.puporJnz r) := by
  rintro _ ⟨⟩
theorem Shape.puporJc (r : Byte) : Shape.Statement (.puporJc r) := by
  rintro _ ⟨⟩
theorem Shape.puporJnc (r : Byte) : Shape.Statement (.puporJnc r) := by
  rintro _ ⟨⟩
theorem Shape.puporJs (r : Byte) : Shape.Statement (.puporJs r) := by
  rintro _ ⟨⟩
theorem Shape.puporLoop (r : Byte) : Shape.Statement (.puporLoop r) := by
  rintro _ ⟨⟩
theorem Shape.puporPush : Shape.Statement (.puporPush) := by
  rintro _ ⟨⟩
theorem Shape.puporPop : Shape.Statement (.puporPop) := by
  rintro _ ⟨⟩
theorem Shape.puporIn (p : Byte) : Shape.Statement (.puporIn p) := by
  rintro _ ⟨⟩
theorem Shape.puporOut (p : Byte) : Shape.Statement (.puporOut p) := by
  rintro _ ⟨⟩
theorem Shape.puporDeviceRead : Shape.Statement (.puporDeviceRead) := by
  rintro _ ⟨⟩
theorem Shape.puporDeviceWrite : Shape.Statement (.puporDeviceWrite) := by
  rintro _ ⟨⟩
theorem Shape.puporDeviceAccessEnd (err : Bool) : Shape.Statement (.puporDeviceAccessEnd err) := by
  rintro _ ⟨⟩
theorem Shape.puporSysWait (i : Byte) : Shape.Statement (.puporSysWait i) := by
  rintro _ ⟨⟩
theorem Shape.puporSysWaitEnd : Shape.Statement (.puporSysWaitEnd) := by
  rintro _ ⟨⟩
theorem Shape.puporIdle : Shape.Statement (.puporIdle) := by
  rintro _ ⟨⟩
theorem Shape.puporIdleWake : Shape.Statement (.puporIdleWake) := by
  rintro _ ⟨⟩
theorem Shape.puporStop : Shape.Statement (.puporStop) := by
  rintro _ ⟨⟩
theorem Shape.puporNop : Shape.Statement (.puporNop) := by
  rintro _ ⟨⟩
theorem Shape.extensionInstructionLimit : Shape.Statement (.extensionInstructionLimit) := by
  rintro _ ⟨⟩
theorem Shape.thermtrip (sensor : BitVec 4) (value : Word) : Shape.Statement (.thermtrip sensor value) := by
  rintro _ ⟨⟩
theorem Shape.railExcursion (rail : Byte) : Shape.Statement (.railExcursion rail) := by
  rintro _ ⟨⟩
theorem Shape.vsetStep (up : Bool) (acked : Bool) : Shape.Statement (.vsetStep up acked) := by
  rintro _ ⟨⟩
theorem Shape.avsRetry (acked : Bool) : Shape.Statement (.avsRetry acked) := by
  rintro _ ⟨⟩
theorem Shape.refclkLoss : Shape.Statement (.refclkLoss) := by
  rintro _ ⟨⟩
theorem Shape.ddrRefresh (ch : BitVec 4) (rank : BitVec 2) : Shape.Statement (.ddrRefresh ch rank) := by
  rintro _ ⟨⟩
theorem Shape.ddrZqCalibration (ch : BitVec 4) : Shape.Statement (.ddrZqCalibration ch) := by
  rintro _ ⟨⟩
theorem Shape.ddrPhyTracking (ch : BitVec 4) : Shape.Statement (.ddrPhyTracking ch) := by
  rintro _ ⟨⟩
theorem Shape.loamScrub (bank : BitVec 3) (word : BitVec 21) (err : BitVec 2) : Shape.Statement (.loamScrub bank word err) := by
  rintro _ ⟨⟩
theorem Shape.registerWrite (who : Agent) (addr : RegAccess) (value : Word) : Shape.Statement (.registerWrite who addr value) := by
  rintro _ ⟨⟩
theorem Shape.readClearRegister (who : Agent) (addr : RegAccess) : Shape.Statement (.readClearRegister who addr) := by
  rintro _ ⟨⟩
theorem Shape.vddAonRemoved : Shape.Statement (.vddAonRemoved) := by
  rintro _ ⟨⟩
theorem Shape.logRecordDurable : Shape.Statement (.logRecordDurable) := by
  rintro _ ⟨⟩
theorem Shape.imageCloseChecksEnd : Shape.Statement (.imageCloseChecksEnd) := by
  rintro _ ⟨⟩
theorem Shape.coreRelease : Shape.Statement (.coreRelease) := by
  rintro _ ⟨⟩
theorem Shape.reservedTypeFrame (port : BitVec 2) (frame : List Byte) : Shape.Statement (.reservedTypeFrame port frame) := by
  rintro _ ⟨⟩
theorem Shape.puporReservedOpcode (op : Byte) : Shape.Statement (.puporReservedOpcode op) := by
  rintro _ ⟨⟩
theorem Shape.mailboxBadreq (tag : Byte) (opcode : Byte) : Shape.Statement (.mailboxBadreq tag opcode) := by
  rintro _ ⟨⟩
theorem Shape.mailboxResponseRead : Shape.Statement (.mailboxResponseRead) := by
  rintro _ ⟨⟩
theorem Shape.pdReqMalformed (who : Agent) (value : Word) : Shape.Statement (.pdReqMalformed who value) := by
  rintro _ ⟨⟩
theorem Shape.msixUnmask (fn : FnNo) (vec : BitVec 7) : Shape.Statement (.msixUnmask fn vec) := by
  rintro _ ⟨⟩

end Sys2Proof.Laws
end

