-- ==== Sys2Proof/Laws/State.lean ====
section
/-! SUPPORT. Each named update of the machine, field by field: what it writes and what it leaves. All hold by computation. -/

namespace Sys2Proof.Machine

@[simp] theorem Dev.put_cores (d : Dev) (a : Nat) (bs : List Byte) : (d.put a bs).cores = d.cores := rfl
@[simp] theorem Dev.put_mem (d : Dev) (a : Nat) (bs : List Byte) : (d.put a bs).mem = Memory.writeN d.dflt d.mem a bs := rfl
@[simp] theorem Dev.put_ddrGen (d : Dev) (a : Nat) (bs : List Byte) : (d.put a bs).ddrGen = d.ddrGen := rfl
@[simp] theorem Dev.put_poison (d : Dev) (a : Nat) (bs : List Byte) : (d.put a bs).poison = d.poison.filter (fun w => !(a ≤ w && w + 8 ≤ a + bs.length)) := rfl
@[simp] theorem Dev.put_jr (d : Dev) (a : Nat) (bs : List Byte) : (d.put a bs).jr = d.jr := rfl
@[simp] theorem Dev.put_ep (d : Dev) (a : Nat) (bs : List Byte) : (d.put a bs).ep = d.ep := rfl
@[simp] theorem Dev.put_mi (d : Dev) (a : Nat) (bs : List Byte) : (d.put a bs).mi = d.mi := rfl
@[simp] theorem Dev.put_host (d : Dev) (a : Nat) (bs : List Byte) : (d.put a bs).host = d.host := rfl
@[simp] theorem Dev.put_dma (d : Dev) (a : Nat) (bs : List Byte) : (d.put a bs).dma = d.dma := rfl
@[simp] theorem Dev.put_dl (d : Dev) (a : Nat) (bs : List Byte) : (d.put a bs).dl = d.dl := rfl
@[simp] theorem Dev.put_rc (d : Dev) (a : Nat) (bs : List Byte) : (d.put a bs).rc = d.rc := rfl
@[simp] theorem Dev.put_pw (d : Dev) (a : Nat) (bs : List Byte) : (d.put a bs).pw = d.pw := rfl
@[simp] theorem Dev.put_mc (d : Dev) (a : Nat) (bs : List Byte) : (d.put a bs).mc = d.mc := rfl
@[simp] theorem Dev.put_pu (d : Dev) (a : Nat) (bs : List Byte) : (d.put a bs).pu = d.pu := rfl
@[simp] theorem Dev.put_free (d : Dev) (a : Nat) (bs : List Byte) : (d.put a bs).free = d.free := rfl

@[simp] theorem Dev.clearRange_cores (d : Dev) (a n : Nat) : (d.clearRange a n).cores = d.cores := rfl
@[simp] theorem Dev.clearRange_mem (d : Dev) (a n : Nat) : (d.clearRange a n).mem = d.mem.filter (fun c => !(decide (a ≤ c.1) && decide (c.1 < a + n))) := rfl
@[simp] theorem Dev.clearRange_ddrGen (d : Dev) (a n : Nat) : (d.clearRange a n).ddrGen = d.ddrGen := rfl
@[simp] theorem Dev.clearRange_poison (d : Dev) (a n : Nat) : (d.clearRange a n).poison = d.poison.filter (fun w => !(decide (a ≤ w) && decide (w < a + n))) := rfl
@[simp] theorem Dev.clearRange_jr (d : Dev) (a n : Nat) : (d.clearRange a n).jr = d.jr := rfl
@[simp] theorem Dev.clearRange_ep (d : Dev) (a n : Nat) : (d.clearRange a n).ep = d.ep := rfl
@[simp] theorem Dev.clearRange_mi (d : Dev) (a n : Nat) : (d.clearRange a n).mi = d.mi := rfl
@[simp] theorem Dev.clearRange_host (d : Dev) (a n : Nat) : (d.clearRange a n).host = d.host := rfl
@[simp] theorem Dev.clearRange_dma (d : Dev) (a n : Nat) : (d.clearRange a n).dma = d.dma := rfl
@[simp] theorem Dev.clearRange_dl (d : Dev) (a n : Nat) : (d.clearRange a n).dl = d.dl := rfl
@[simp] theorem Dev.clearRange_rc (d : Dev) (a n : Nat) : (d.clearRange a n).rc = d.rc := rfl
@[simp] theorem Dev.clearRange_pw (d : Dev) (a n : Nat) : (d.clearRange a n).pw = d.pw := rfl
@[simp] theorem Dev.clearRange_mc (d : Dev) (a n : Nat) : (d.clearRange a n).mc = d.mc := rfl
@[simp] theorem Dev.clearRange_pu (d : Dev) (a n : Nat) : (d.clearRange a n).pu = d.pu := rfl
@[simp] theorem Dev.clearRange_free (d : Dev) (a n : Nat) : (d.clearRange a n).free = d.free := rfl

@[simp] theorem Dev.setCore_cores (d : Dev) (n : Nat) (c : Core) : (d.setCore n c).cores = Tab.set d.cores n c := rfl
@[simp] theorem Dev.setCore_mem (d : Dev) (n : Nat) (c : Core) : (d.setCore n c).mem = d.mem := rfl
@[simp] theorem Dev.setCore_ddrGen (d : Dev) (n : Nat) (c : Core) : (d.setCore n c).ddrGen = d.ddrGen := rfl
@[simp] theorem Dev.setCore_poison (d : Dev) (n : Nat) (c : Core) : (d.setCore n c).poison = d.poison := rfl
@[simp] theorem Dev.setCore_jr (d : Dev) (n : Nat) (c : Core) : (d.setCore n c).jr = d.jr := rfl
@[simp] theorem Dev.setCore_ep (d : Dev) (n : Nat) (c : Core) : (d.setCore n c).ep = d.ep := rfl
@[simp] theorem Dev.setCore_mi (d : Dev) (n : Nat) (c : Core) : (d.setCore n c).mi = d.mi := rfl
@[simp] theorem Dev.setCore_host (d : Dev) (n : Nat) (c : Core) : (d.setCore n c).host = d.host := rfl
@[simp] theorem Dev.setCore_dma (d : Dev) (n : Nat) (c : Core) : (d.setCore n c).dma = d.dma := rfl
@[simp] theorem Dev.setCore_dl (d : Dev) (n : Nat) (c : Core) : (d.setCore n c).dl = d.dl := rfl
@[simp] theorem Dev.setCore_rc (d : Dev) (n : Nat) (c : Core) : (d.setCore n c).rc = d.rc := rfl
@[simp] theorem Dev.setCore_pw (d : Dev) (n : Nat) (c : Core) : (d.setCore n c).pw = d.pw := rfl
@[simp] theorem Dev.setCore_mc (d : Dev) (n : Nat) (c : Core) : (d.setCore n c).mc = d.mc := rfl
@[simp] theorem Dev.setCore_pu (d : Dev) (n : Nat) (c : Core) : (d.setCore n c).pu = d.pu := rfl
@[simp] theorem Dev.setCore_free (d : Dev) (n : Nat) (c : Core) : (d.setCore n c).free = d.free := rfl

@[simp] theorem Dev.modCore_cores (d : Dev) (n : Nat) (f : Core → Core) : (d.modCore n f).cores = Tab.set d.cores n (f (d.core n)) := rfl
@[simp] theorem Dev.modCore_mem (d : Dev) (n : Nat) (f : Core → Core) : (d.modCore n f).mem = d.mem := rfl
@[simp] theorem Dev.modCore_ddrGen (d : Dev) (n : Nat) (f : Core → Core) : (d.modCore n f).ddrGen = d.ddrGen := rfl
@[simp] theorem Dev.modCore_poison (d : Dev) (n : Nat) (f : Core → Core) : (d.modCore n f).poison = d.poison := rfl
@[simp] theorem Dev.modCore_jr (d : Dev) (n : Nat) (f : Core → Core) : (d.modCore n f).jr = d.jr := rfl
@[simp] theorem Dev.modCore_ep (d : Dev) (n : Nat) (f : Core → Core) : (d.modCore n f).ep = d.ep := rfl
@[simp] theorem Dev.modCore_mi (d : Dev) (n : Nat) (f : Core → Core) : (d.modCore n f).mi = d.mi := rfl
@[simp] theorem Dev.modCore_host (d : Dev) (n : Nat) (f : Core → Core) : (d.modCore n f).host = d.host := rfl
@[simp] theorem Dev.modCore_dma (d : Dev) (n : Nat) (f : Core → Core) : (d.modCore n f).dma = d.dma := rfl
@[simp] theorem Dev.modCore_dl (d : Dev) (n : Nat) (f : Core → Core) : (d.modCore n f).dl = d.dl := rfl
@[simp] theorem Dev.modCore_rc (d : Dev) (n : Nat) (f : Core → Core) : (d.modCore n f).rc = d.rc := rfl
@[simp] theorem Dev.modCore_pw (d : Dev) (n : Nat) (f : Core → Core) : (d.modCore n f).pw = d.pw := rfl
@[simp] theorem Dev.modCore_mc (d : Dev) (n : Nat) (f : Core → Core) : (d.modCore n f).mc = d.mc := rfl
@[simp] theorem Dev.modCore_pu (d : Dev) (n : Nat) (f : Core → Core) : (d.modCore n f).pu = d.pu := rfl
@[simp] theorem Dev.modCore_free (d : Dev) (n : Nat) (f : Core → Core) : (d.modCore n f).free = d.free := rfl

@[simp] theorem Dev.setBay_cores (d : Dev) (n b : Nat) (x : Bay) : (d.setBay n b x).cores = Tab.set d.cores n ((d.core n).setBay b x) := rfl
@[simp] theorem Dev.setBay_mem (d : Dev) (n b : Nat) (x : Bay) : (d.setBay n b x).mem = d.mem := rfl
@[simp] theorem Dev.setBay_ddrGen (d : Dev) (n b : Nat) (x : Bay) : (d.setBay n b x).ddrGen = d.ddrGen := rfl
@[simp] theorem Dev.setBay_poison (d : Dev) (n b : Nat) (x : Bay) : (d.setBay n b x).poison = d.poison := rfl
@[simp] theorem Dev.setBay_jr (d : Dev) (n b : Nat) (x : Bay) : (d.setBay n b x).jr = d.jr := rfl
@[simp] theorem Dev.setBay_ep (d : Dev) (n b : Nat) (x : Bay) : (d.setBay n b x).ep = d.ep := rfl
@[simp] theorem Dev.setBay_mi (d : Dev) (n b : Nat) (x : Bay) : (d.setBay n b x).mi = d.mi := rfl
@[simp] theorem Dev.setBay_host (d : Dev) (n b : Nat) (x : Bay) : (d.setBay n b x).host = d.host := rfl
@[simp] theorem Dev.setBay_dma (d : Dev) (n b : Nat) (x : Bay) : (d.setBay n b x).dma = d.dma := rfl
@[simp] theorem Dev.setBay_dl (d : Dev) (n b : Nat) (x : Bay) : (d.setBay n b x).dl = d.dl := rfl
@[simp] theorem Dev.setBay_rc (d : Dev) (n b : Nat) (x : Bay) : (d.setBay n b x).rc = d.rc := rfl
@[simp] theorem Dev.setBay_pw (d : Dev) (n b : Nat) (x : Bay) : (d.setBay n b x).pw = d.pw := rfl
@[simp] theorem Dev.setBay_mc (d : Dev) (n b : Nat) (x : Bay) : (d.setBay n b x).mc = d.mc := rfl
@[simp] theorem Dev.setBay_pu (d : Dev) (n b : Nat) (x : Bay) : (d.setBay n b x).pu = d.pu := rfl
@[simp] theorem Dev.setBay_free (d : Dev) (n b : Nat) (x : Bay) : (d.setBay n b x).free = d.free := rfl

@[simp] theorem Dev.modBay_cores (d : Dev) (n b : Nat) (f : Bay → Bay) : (d.modBay n b f).cores = Tab.set d.cores n ((d.core n).setBay b (f (d.bay n b))) := rfl
@[simp] theorem Dev.modBay_mem (d : Dev) (n b : Nat) (f : Bay → Bay) : (d.modBay n b f).mem = d.mem := rfl
@[simp] theorem Dev.modBay_ddrGen (d : Dev) (n b : Nat) (f : Bay → Bay) : (d.modBay n b f).ddrGen = d.ddrGen := rfl
@[simp] theorem Dev.modBay_poison (d : Dev) (n b : Nat) (f : Bay → Bay) : (d.modBay n b f).poison = d.poison := rfl
@[simp] theorem Dev.modBay_jr (d : Dev) (n b : Nat) (f : Bay → Bay) : (d.modBay n b f).jr = d.jr := rfl
@[simp] theorem Dev.modBay_ep (d : Dev) (n b : Nat) (f : Bay → Bay) : (d.modBay n b f).ep = d.ep := rfl
@[simp] theorem Dev.modBay_mi (d : Dev) (n b : Nat) (f : Bay → Bay) : (d.modBay n b f).mi = d.mi := rfl
@[simp] theorem Dev.modBay_host (d : Dev) (n b : Nat) (f : Bay → Bay) : (d.modBay n b f).host = d.host := rfl
@[simp] theorem Dev.modBay_dma (d : Dev) (n b : Nat) (f : Bay → Bay) : (d.modBay n b f).dma = d.dma := rfl
@[simp] theorem Dev.modBay_dl (d : Dev) (n b : Nat) (f : Bay → Bay) : (d.modBay n b f).dl = d.dl := rfl
@[simp] theorem Dev.modBay_rc (d : Dev) (n b : Nat) (f : Bay → Bay) : (d.modBay n b f).rc = d.rc := rfl
@[simp] theorem Dev.modBay_pw (d : Dev) (n b : Nat) (f : Bay → Bay) : (d.modBay n b f).pw = d.pw := rfl
@[simp] theorem Dev.modBay_mc (d : Dev) (n b : Nat) (f : Bay → Bay) : (d.modBay n b f).mc = d.mc := rfl
@[simp] theorem Dev.modBay_pu (d : Dev) (n b : Nat) (f : Bay → Bay) : (d.modBay n b f).pu = d.pu := rfl
@[simp] theorem Dev.modBay_free (d : Dev) (n b : Nat) (f : Bay → Bay) : (d.modBay n b f).free = d.free := rfl

@[simp] theorem Dev.tickFree_cores (d : Dev) : (d.tickFree).cores = d.cores := rfl
@[simp] theorem Dev.tickFree_mem (d : Dev) : (d.tickFree).mem = d.mem := rfl
@[simp] theorem Dev.tickFree_ddrGen (d : Dev) : (d.tickFree).ddrGen = d.ddrGen := rfl
@[simp] theorem Dev.tickFree_poison (d : Dev) : (d.tickFree).poison = d.poison := rfl
@[simp] theorem Dev.tickFree_jr (d : Dev) : (d.tickFree).jr = d.jr := rfl
@[simp] theorem Dev.tickFree_ep (d : Dev) : (d.tickFree).ep = d.ep := rfl
@[simp] theorem Dev.tickFree_mi (d : Dev) : (d.tickFree).mi = d.mi := rfl
@[simp] theorem Dev.tickFree_host (d : Dev) : (d.tickFree).host = d.host := rfl
@[simp] theorem Dev.tickFree_dma (d : Dev) : (d.tickFree).dma = d.dma := rfl
@[simp] theorem Dev.tickFree_dl (d : Dev) : (d.tickFree).dl = d.dl := rfl
@[simp] theorem Dev.tickFree_rc (d : Dev) : (d.tickFree).rc = d.rc := rfl
@[simp] theorem Dev.tickFree_pw (d : Dev) : (d.tickFree).pw = d.pw := rfl
@[simp] theorem Dev.tickFree_mc (d : Dev) : (d.tickFree).mc = d.mc := rfl
@[simp] theorem Dev.tickFree_pu (d : Dev) : (d.tickFree).pu = d.pu := rfl
@[simp] theorem Dev.tickFree_free (d : Dev) : (d.tickFree).free = d.free + 1 := rfl

@[simp] theorem Dev.setStream_cores (d : Dev) (k : Nat) (x : Stream) : (d.setStream k x).cores = d.cores := rfl
@[simp] theorem Dev.setStream_mem (d : Dev) (k : Nat) (x : Stream) : (d.setStream k x).mem = d.mem := rfl
@[simp] theorem Dev.setStream_ddrGen (d : Dev) (k : Nat) (x : Stream) : (d.setStream k x).ddrGen = d.ddrGen := rfl
@[simp] theorem Dev.setStream_poison (d : Dev) (k : Nat) (x : Stream) : (d.setStream k x).poison = d.poison := rfl
@[simp] theorem Dev.setStream_jr (d : Dev) (k : Nat) (x : Stream) : (d.setStream k x).jr = { d.jr with streams := Tab.set d.jr.streams k x } := rfl
@[simp] theorem Dev.setStream_ep (d : Dev) (k : Nat) (x : Stream) : (d.setStream k x).ep = d.ep := rfl
@[simp] theorem Dev.setStream_mi (d : Dev) (k : Nat) (x : Stream) : (d.setStream k x).mi = d.mi := rfl
@[simp] theorem Dev.setStream_host (d : Dev) (k : Nat) (x : Stream) : (d.setStream k x).host = d.host := rfl
@[simp] theorem Dev.setStream_dma (d : Dev) (k : Nat) (x : Stream) : (d.setStream k x).dma = d.dma := rfl
@[simp] theorem Dev.setStream_dl (d : Dev) (k : Nat) (x : Stream) : (d.setStream k x).dl = d.dl := rfl
@[simp] theorem Dev.setStream_rc (d : Dev) (k : Nat) (x : Stream) : (d.setStream k x).rc = d.rc := rfl
@[simp] theorem Dev.setStream_pw (d : Dev) (k : Nat) (x : Stream) : (d.setStream k x).pw = d.pw := rfl
@[simp] theorem Dev.setStream_mc (d : Dev) (k : Nat) (x : Stream) : (d.setStream k x).mc = d.mc := rfl
@[simp] theorem Dev.setStream_pu (d : Dev) (k : Nat) (x : Stream) : (d.setStream k x).pu = d.pu := rfl
@[simp] theorem Dev.setStream_free (d : Dev) (k : Nat) (x : Stream) : (d.setStream k x).free = d.free := rfl

@[simp] theorem Dev.setEngine_cores (d : Dev) (e : Nat) (x : Engine) : (d.setEngine e x).cores = d.cores := rfl
@[simp] theorem Dev.setEngine_mem (d : Dev) (e : Nat) (x : Engine) : (d.setEngine e x).mem = d.mem := rfl
@[simp] theorem Dev.setEngine_ddrGen (d : Dev) (e : Nat) (x : Engine) : (d.setEngine e x).ddrGen = d.ddrGen := rfl
@[simp] theorem Dev.setEngine_poison (d : Dev) (e : Nat) (x : Engine) : (d.setEngine e x).poison = d.poison := rfl
@[simp] theorem Dev.setEngine_jr (d : Dev) (e : Nat) (x : Engine) : (d.setEngine e x).jr = d.jr := rfl
@[simp] theorem Dev.setEngine_ep (d : Dev) (e : Nat) (x : Engine) : (d.setEngine e x).ep = d.ep := rfl
@[simp] theorem Dev.setEngine_mi (d : Dev) (e : Nat) (x : Engine) : (d.setEngine e x).mi = d.mi := rfl
@[simp] theorem Dev.setEngine_host (d : Dev) (e : Nat) (x : Engine) : (d.setEngine e x).host = d.host := rfl
@[simp] theorem Dev.setEngine_dma (d : Dev) (e : Nat) (x : Engine) : (d.setEngine e x).dma = Tab.set d.dma e x := rfl
@[simp] theorem Dev.setEngine_dl (d : Dev) (e : Nat) (x : Engine) : (d.setEngine e x).dl = d.dl := rfl
@[simp] theorem Dev.setEngine_rc (d : Dev) (e : Nat) (x : Engine) : (d.setEngine e x).rc = d.rc := rfl
@[simp] theorem Dev.setEngine_pw (d : Dev) (e : Nat) (x : Engine) : (d.setEngine e x).pw = d.pw := rfl
@[simp] theorem Dev.setEngine_mc (d : Dev) (e : Nat) (x : Engine) : (d.setEngine e x).mc = d.mc := rfl
@[simp] theorem Dev.setEngine_pu (d : Dev) (e : Nat) (x : Engine) : (d.setEngine e x).pu = d.pu := rfl
@[simp] theorem Dev.setEngine_free (d : Dev) (e : Nat) (x : Engine) : (d.setEngine e x).free = d.free := rfl

@[simp] theorem Dev.setChan_cores (d : Dev) (e c : Nat) (x : Chan) : (d.setChan e c x).cores = d.cores := rfl
@[simp] theorem Dev.setChan_mem (d : Dev) (e c : Nat) (x : Chan) : (d.setChan e c x).mem = d.mem := rfl
@[simp] theorem Dev.setChan_ddrGen (d : Dev) (e c : Nat) (x : Chan) : (d.setChan e c x).ddrGen = d.ddrGen := rfl
@[simp] theorem Dev.setChan_poison (d : Dev) (e c : Nat) (x : Chan) : (d.setChan e c x).poison = d.poison := rfl
@[simp] theorem Dev.setChan_jr (d : Dev) (e c : Nat) (x : Chan) : (d.setChan e c x).jr = d.jr := rfl
@[simp] theorem Dev.setChan_ep (d : Dev) (e c : Nat) (x : Chan) : (d.setChan e c x).ep = d.ep := rfl
@[simp] theorem Dev.setChan_mi (d : Dev) (e c : Nat) (x : Chan) : (d.setChan e c x).mi = d.mi := rfl
@[simp] theorem Dev.setChan_host (d : Dev) (e c : Nat) (x : Chan) : (d.setChan e c x).host = d.host := rfl
@[simp] theorem Dev.setChan_dma (d : Dev) (e c : Nat) (x : Chan) : (d.setChan e c x).dma = Tab.set d.dma e { d.engine e with chans := Tab.set (d.engine e).chans c x } := rfl
@[simp] theorem Dev.setChan_dl (d : Dev) (e c : Nat) (x : Chan) : (d.setChan e c x).dl = d.dl := rfl
@[simp] theorem Dev.setChan_rc (d : Dev) (e c : Nat) (x : Chan) : (d.setChan e c x).rc = d.rc := rfl
@[simp] theorem Dev.setChan_pw (d : Dev) (e c : Nat) (x : Chan) : (d.setChan e c x).pw = d.pw := rfl
@[simp] theorem Dev.setChan_mc (d : Dev) (e c : Nat) (x : Chan) : (d.setChan e c x).mc = d.mc := rfl
@[simp] theorem Dev.setChan_pu (d : Dev) (e c : Nat) (x : Chan) : (d.setChan e c x).pu = d.pu := rfl
@[simp] theorem Dev.setChan_free (d : Dev) (e c : Nat) (x : Chan) : (d.setChan e c x).free = d.free := rfl

@[simp] theorem Dev.setFn_cores (d : Dev) (f : Nat) (x : Fn) : (d.setFn f x).cores = d.cores := rfl
@[simp] theorem Dev.setFn_mem (d : Dev) (f : Nat) (x : Fn) : (d.setFn f x).mem = d.mem := rfl
@[simp] theorem Dev.setFn_ddrGen (d : Dev) (f : Nat) (x : Fn) : (d.setFn f x).ddrGen = d.ddrGen := rfl
@[simp] theorem Dev.setFn_poison (d : Dev) (f : Nat) (x : Fn) : (d.setFn f x).poison = d.poison := rfl
@[simp] theorem Dev.setFn_jr (d : Dev) (f : Nat) (x : Fn) : (d.setFn f x).jr = d.jr := rfl
@[simp] theorem Dev.setFn_ep (d : Dev) (f : Nat) (x : Fn) : (d.setFn f x).ep = d.ep := rfl
@[simp] theorem Dev.setFn_mi (d : Dev) (f : Nat) (x : Fn) : (d.setFn f x).mi = d.mi := rfl
@[simp] theorem Dev.setFn_host (d : Dev) (f : Nat) (x : Fn) : (d.setFn f x).host = { d.host with fns := Tab.set d.host.fns f x } := rfl
@[simp] theorem Dev.setFn_dma (d : Dev) (f : Nat) (x : Fn) : (d.setFn f x).dma = d.dma := rfl
@[simp] theorem Dev.setFn_dl (d : Dev) (f : Nat) (x : Fn) : (d.setFn f x).dl = d.dl := rfl
@[simp] theorem Dev.setFn_rc (d : Dev) (f : Nat) (x : Fn) : (d.setFn f x).rc = d.rc := rfl
@[simp] theorem Dev.setFn_pw (d : Dev) (f : Nat) (x : Fn) : (d.setFn f x).pw = d.pw := rfl
@[simp] theorem Dev.setFn_mc (d : Dev) (f : Nat) (x : Fn) : (d.setFn f x).mc = d.mc := rfl
@[simp] theorem Dev.setFn_pu (d : Dev) (f : Nat) (x : Fn) : (d.setFn f x).pu = d.pu := rfl
@[simp] theorem Dev.setFn_free (d : Dev) (f : Nat) (x : Fn) : (d.setFn f x).free = d.free := rfl

@[simp] theorem Dev.setSq_cores (d : Dev) (f q : Nat) (x : Sq) : (d.setSq f q x).cores = d.cores := rfl
@[simp] theorem Dev.setSq_mem (d : Dev) (f q : Nat) (x : Sq) : (d.setSq f q x).mem = d.mem := rfl
@[simp] theorem Dev.setSq_ddrGen (d : Dev) (f q : Nat) (x : Sq) : (d.setSq f q x).ddrGen = d.ddrGen := rfl
@[simp] theorem Dev.setSq_poison (d : Dev) (f q : Nat) (x : Sq) : (d.setSq f q x).poison = d.poison := rfl
@[simp] theorem Dev.setSq_jr (d : Dev) (f q : Nat) (x : Sq) : (d.setSq f q x).jr = d.jr := rfl
@[simp] theorem Dev.setSq_ep (d : Dev) (f q : Nat) (x : Sq) : (d.setSq f q x).ep = d.ep := rfl
@[simp] theorem Dev.setSq_mi (d : Dev) (f q : Nat) (x : Sq) : (d.setSq f q x).mi = d.mi := rfl
@[simp] theorem Dev.setSq_host (d : Dev) (f q : Nat) (x : Sq) : (d.setSq f q x).host = { d.host with fns := Tab.set d.host.fns f { d.fn f with sqs := Tab.set (d.fn f).sqs q x } } := rfl
@[simp] theorem Dev.setSq_dma (d : Dev) (f q : Nat) (x : Sq) : (d.setSq f q x).dma = d.dma := rfl
@[simp] theorem Dev.setSq_dl (d : Dev) (f q : Nat) (x : Sq) : (d.setSq f q x).dl = d.dl := rfl
@[simp] theorem Dev.setSq_rc (d : Dev) (f q : Nat) (x : Sq) : (d.setSq f q x).rc = d.rc := rfl
@[simp] theorem Dev.setSq_pw (d : Dev) (f q : Nat) (x : Sq) : (d.setSq f q x).pw = d.pw := rfl
@[simp] theorem Dev.setSq_mc (d : Dev) (f q : Nat) (x : Sq) : (d.setSq f q x).mc = d.mc := rfl
@[simp] theorem Dev.setSq_pu (d : Dev) (f q : Nat) (x : Sq) : (d.setSq f q x).pu = d.pu := rfl
@[simp] theorem Dev.setSq_free (d : Dev) (f q : Nat) (x : Sq) : (d.setSq f q x).free = d.free := rfl

@[simp] theorem Dev.setCq_cores (d : Dev) (f q : Nat) (x : Cq) : (d.setCq f q x).cores = d.cores := rfl
@[simp] theorem Dev.setCq_mem (d : Dev) (f q : Nat) (x : Cq) : (d.setCq f q x).mem = d.mem := rfl
@[simp] theorem Dev.setCq_ddrGen (d : Dev) (f q : Nat) (x : Cq) : (d.setCq f q x).ddrGen = d.ddrGen := rfl
@[simp] theorem Dev.setCq_poison (d : Dev) (f q : Nat) (x : Cq) : (d.setCq f q x).poison = d.poison := rfl
@[simp] theorem Dev.setCq_jr (d : Dev) (f q : Nat) (x : Cq) : (d.setCq f q x).jr = d.jr := rfl
@[simp] theorem Dev.setCq_ep (d : Dev) (f q : Nat) (x : Cq) : (d.setCq f q x).ep = d.ep := rfl
@[simp] theorem Dev.setCq_mi (d : Dev) (f q : Nat) (x : Cq) : (d.setCq f q x).mi = d.mi := rfl
@[simp] theorem Dev.setCq_host (d : Dev) (f q : Nat) (x : Cq) : (d.setCq f q x).host = { d.host with fns := Tab.set d.host.fns f { d.fn f with cqs := Tab.set (d.fn f).cqs q x } } := rfl
@[simp] theorem Dev.setCq_dma (d : Dev) (f q : Nat) (x : Cq) : (d.setCq f q x).dma = d.dma := rfl
@[simp] theorem Dev.setCq_dl (d : Dev) (f q : Nat) (x : Cq) : (d.setCq f q x).dl = d.dl := rfl
@[simp] theorem Dev.setCq_rc (d : Dev) (f q : Nat) (x : Cq) : (d.setCq f q x).rc = d.rc := rfl
@[simp] theorem Dev.setCq_pw (d : Dev) (f q : Nat) (x : Cq) : (d.setCq f q x).pw = d.pw := rfl
@[simp] theorem Dev.setCq_mc (d : Dev) (f q : Nat) (x : Cq) : (d.setCq f q x).mc = d.mc := rfl
@[simp] theorem Dev.setCq_pu (d : Dev) (f q : Nat) (x : Cq) : (d.setCq f q x).pu = d.pu := rfl
@[simp] theorem Dev.setCq_free (d : Dev) (f q : Nat) (x : Cq) : (d.setCq f q x).free = d.free := rfl

@[simp] theorem Dev.setRing_cores (d : Dev) (r : Nat) (x : Ring) : (d.setRing r x).cores = d.cores := rfl
@[simp] theorem Dev.setRing_mem (d : Dev) (r : Nat) (x : Ring) : (d.setRing r x).mem = d.mem := rfl
@[simp] theorem Dev.setRing_ddrGen (d : Dev) (r : Nat) (x : Ring) : (d.setRing r x).ddrGen = d.ddrGen := rfl
@[simp] theorem Dev.setRing_poison (d : Dev) (r : Nat) (x : Ring) : (d.setRing r x).poison = d.poison := rfl
@[simp] theorem Dev.setRing_jr (d : Dev) (r : Nat) (x : Ring) : (d.setRing r x).jr = d.jr := rfl
@[simp] theorem Dev.setRing_ep (d : Dev) (r : Nat) (x : Ring) : (d.setRing r x).ep = d.ep := rfl
@[simp] theorem Dev.setRing_mi (d : Dev) (r : Nat) (x : Ring) : (d.setRing r x).mi = d.mi := rfl
@[simp] theorem Dev.setRing_host (d : Dev) (r : Nat) (x : Ring) : (d.setRing r x).host = { d.host with rings := Tab.set d.host.rings r x } := rfl
@[simp] theorem Dev.setRing_dma (d : Dev) (r : Nat) (x : Ring) : (d.setRing r x).dma = d.dma := rfl
@[simp] theorem Dev.setRing_dl (d : Dev) (r : Nat) (x : Ring) : (d.setRing r x).dl = d.dl := rfl
@[simp] theorem Dev.setRing_rc (d : Dev) (r : Nat) (x : Ring) : (d.setRing r x).rc = d.rc := rfl
@[simp] theorem Dev.setRing_pw (d : Dev) (r : Nat) (x : Ring) : (d.setRing r x).pw = d.pw := rfl
@[simp] theorem Dev.setRing_mc (d : Dev) (r : Nat) (x : Ring) : (d.setRing r x).mc = d.mc := rfl
@[simp] theorem Dev.setRing_pu (d : Dev) (r : Nat) (x : Ring) : (d.setRing r x).pu = d.pu := rfl
@[simp] theorem Dev.setRing_free (d : Dev) (r : Nat) (x : Ring) : (d.setRing r x).free = d.free := rfl

@[simp] theorem Dev.setPort_cores (d : Dev) (p : Nat) (x : Port) : (d.setPort p x).cores = d.cores := rfl
@[simp] theorem Dev.setPort_mem (d : Dev) (p : Nat) (x : Port) : (d.setPort p x).mem = d.mem := rfl
@[simp] theorem Dev.setPort_ddrGen (d : Dev) (p : Nat) (x : Port) : (d.setPort p x).ddrGen = d.ddrGen := rfl
@[simp] theorem Dev.setPort_poison (d : Dev) (p : Nat) (x : Port) : (d.setPort p x).poison = d.poison := rfl
@[simp] theorem Dev.setPort_jr (d : Dev) (p : Nat) (x : Port) : (d.setPort p x).jr = d.jr := rfl
@[simp] theorem Dev.setPort_ep (d : Dev) (p : Nat) (x : Port) : (d.setPort p x).ep = d.ep := rfl
@[simp] theorem Dev.setPort_mi (d : Dev) (p : Nat) (x : Port) : (d.setPort p x).mi = d.mi := rfl
@[simp] theorem Dev.setPort_host (d : Dev) (p : Nat) (x : Port) : (d.setPort p x).host = d.host := rfl
@[simp] theorem Dev.setPort_dma (d : Dev) (p : Nat) (x : Port) : (d.setPort p x).dma = d.dma := rfl
@[simp] theorem Dev.setPort_dl (d : Dev) (p : Nat) (x : Port) : (d.setPort p x).dl = { d.dl with ports := Tab.set d.dl.ports p x } := rfl
@[simp] theorem Dev.setPort_rc (d : Dev) (p : Nat) (x : Port) : (d.setPort p x).rc = d.rc := rfl
@[simp] theorem Dev.setPort_pw (d : Dev) (p : Nat) (x : Port) : (d.setPort p x).pw = d.pw := rfl
@[simp] theorem Dev.setPort_mc (d : Dev) (p : Nat) (x : Port) : (d.setPort p x).mc = d.mc := rfl
@[simp] theorem Dev.setPort_pu (d : Dev) (p : Nat) (x : Port) : (d.setPort p x).pu = d.pu := rfl
@[simp] theorem Dev.setPort_free (d : Dev) (p : Nat) (x : Port) : (d.setPort p x).free = d.free := rfl

@[simp] theorem Dev.setBank_cores (d : Dev) (o : Origin) (x : OrgBank) : (d.setBank o x).cores = d.cores := rfl
@[simp] theorem Dev.setBank_mem (d : Dev) (o : Origin) (x : OrgBank) : (d.setBank o x).mem = d.mem := rfl
@[simp] theorem Dev.setBank_ddrGen (d : Dev) (o : Origin) (x : OrgBank) : (d.setBank o x).ddrGen = d.ddrGen := rfl
@[simp] theorem Dev.setBank_poison (d : Dev) (o : Origin) (x : OrgBank) : (d.setBank o x).poison = d.poison := rfl
@[simp] theorem Dev.setBank_jr (d : Dev) (o : Origin) (x : OrgBank) : (d.setBank o x).jr = d.jr := rfl
@[simp] theorem Dev.setBank_ep (d : Dev) (o : Origin) (x : OrgBank) : (d.setBank o x).ep = d.ep := rfl
@[simp] theorem Dev.setBank_mi (d : Dev) (o : Origin) (x : OrgBank) : (d.setBank o x).mi = { d.mi with banks := Tab.set d.mi.banks (orgCode o) x } := rfl
@[simp] theorem Dev.setBank_host (d : Dev) (o : Origin) (x : OrgBank) : (d.setBank o x).host = d.host := rfl
@[simp] theorem Dev.setBank_dma (d : Dev) (o : Origin) (x : OrgBank) : (d.setBank o x).dma = d.dma := rfl
@[simp] theorem Dev.setBank_dl (d : Dev) (o : Origin) (x : OrgBank) : (d.setBank o x).dl = d.dl := rfl
@[simp] theorem Dev.setBank_rc (d : Dev) (o : Origin) (x : OrgBank) : (d.setBank o x).rc = d.rc := rfl
@[simp] theorem Dev.setBank_pw (d : Dev) (o : Origin) (x : OrgBank) : (d.setBank o x).pw = d.pw := rfl
@[simp] theorem Dev.setBank_mc (d : Dev) (o : Origin) (x : OrgBank) : (d.setBank o x).mc = d.mc := rfl
@[simp] theorem Dev.setBank_pu (d : Dev) (o : Origin) (x : OrgBank) : (d.setBank o x).pu = d.pu := rfl
@[simp] theorem Dev.setBank_free (d : Dev) (o : Origin) (x : OrgBank) : (d.setBank o x).free = d.free := rfl

@[simp] theorem Dev.setStage_cores (d : Dev) (i : Nat) (x : StageSlot) : (d.setStage i x).cores = d.cores := rfl
@[simp] theorem Dev.setStage_mem (d : Dev) (i : Nat) (x : StageSlot) : (d.setStage i x).mem = d.mem := rfl
@[simp] theorem Dev.setStage_ddrGen (d : Dev) (i : Nat) (x : StageSlot) : (d.setStage i x).ddrGen = d.ddrGen := rfl
@[simp] theorem Dev.setStage_poison (d : Dev) (i : Nat) (x : StageSlot) : (d.setStage i x).poison = d.poison := rfl
@[simp] theorem Dev.setStage_jr (d : Dev) (i : Nat) (x : StageSlot) : (d.setStage i x).jr = d.jr := rfl
@[simp] theorem Dev.setStage_ep (d : Dev) (i : Nat) (x : StageSlot) : (d.setStage i x).ep = d.ep := rfl
@[simp] theorem Dev.setStage_mi (d : Dev) (i : Nat) (x : StageSlot) : (d.setStage i x).mi = { d.mi with slots := Tab.set d.mi.slots i x } := rfl
@[simp] theorem Dev.setStage_host (d : Dev) (i : Nat) (x : StageSlot) : (d.setStage i x).host = d.host := rfl
@[simp] theorem Dev.setStage_dma (d : Dev) (i : Nat) (x : StageSlot) : (d.setStage i x).dma = d.dma := rfl
@[simp] theorem Dev.setStage_dl (d : Dev) (i : Nat) (x : StageSlot) : (d.setStage i x).dl = d.dl := rfl
@[simp] theorem Dev.setStage_rc (d : Dev) (i : Nat) (x : StageSlot) : (d.setStage i x).rc = d.rc := rfl
@[simp] theorem Dev.setStage_pw (d : Dev) (i : Nat) (x : StageSlot) : (d.setStage i x).pw = d.pw := rfl
@[simp] theorem Dev.setStage_mc (d : Dev) (i : Nat) (x : StageSlot) : (d.setStage i x).mc = d.mc := rfl
@[simp] theorem Dev.setStage_pu (d : Dev) (i : Nat) (x : StageSlot) : (d.setStage i x).pu = d.pu := rfl
@[simp] theorem Dev.setStage_free (d : Dev) (i : Nat) (x : StageSlot) : (d.setStage i x).free = d.free := rfl

@[simp] theorem Dev.setDom_cores (d : Dev) (n st : Nat) : (d.setDom n st).cores = d.cores := rfl
@[simp] theorem Dev.setDom_mem (d : Dev) (n st : Nat) : (d.setDom n st).mem = d.mem := rfl
@[simp] theorem Dev.setDom_ddrGen (d : Dev) (n st : Nat) : (d.setDom n st).ddrGen = d.ddrGen := rfl
@[simp] theorem Dev.setDom_poison (d : Dev) (n st : Nat) : (d.setDom n st).poison = d.poison := rfl
@[simp] theorem Dev.setDom_jr (d : Dev) (n st : Nat) : (d.setDom n st).jr = d.jr := rfl
@[simp] theorem Dev.setDom_ep (d : Dev) (n st : Nat) : (d.setDom n st).ep = d.ep := rfl
@[simp] theorem Dev.setDom_mi (d : Dev) (n st : Nat) : (d.setDom n st).mi = d.mi := rfl
@[simp] theorem Dev.setDom_host (d : Dev) (n st : Nat) : (d.setDom n st).host = d.host := rfl
@[simp] theorem Dev.setDom_dma (d : Dev) (n st : Nat) : (d.setDom n st).dma = d.dma := rfl
@[simp] theorem Dev.setDom_dl (d : Dev) (n st : Nat) : (d.setDom n st).dl = d.dl := rfl
@[simp] theorem Dev.setDom_rc (d : Dev) (n st : Nat) : (d.setDom n st).rc = d.rc := rfl
@[simp] theorem Dev.setDom_pw (d : Dev) (n st : Nat) : (d.setDom n st).pw = { d.pw with doms := Tab.set d.pw.doms n { d.dom n with state := st } } := rfl
@[simp] theorem Dev.setDom_mc (d : Dev) (n st : Nat) : (d.setDom n st).mc = d.mc := rfl
@[simp] theorem Dev.setDom_pu (d : Dev) (n st : Nat) : (d.setDom n st).pu = d.pu := rfl
@[simp] theorem Dev.setDom_free (d : Dev) (n st : Nat) : (d.setDom n st).free = d.free := rfl

@[simp] theorem Dev.modPu_cores (d : Dev) (f : Pupor → Pupor) : (d.modPu f).cores = d.cores := rfl
@[simp] theorem Dev.modPu_mem (d : Dev) (f : Pupor → Pupor) : (d.modPu f).mem = d.mem := rfl
@[simp] theorem Dev.modPu_ddrGen (d : Dev) (f : Pupor → Pupor) : (d.modPu f).ddrGen = d.ddrGen := rfl
@[simp] theorem Dev.modPu_poison (d : Dev) (f : Pupor → Pupor) : (d.modPu f).poison = d.poison := rfl
@[simp] theorem Dev.modPu_jr (d : Dev) (f : Pupor → Pupor) : (d.modPu f).jr = d.jr := rfl
@[simp] theorem Dev.modPu_ep (d : Dev) (f : Pupor → Pupor) : (d.modPu f).ep = d.ep := rfl
@[simp] theorem Dev.modPu_mi (d : Dev) (f : Pupor → Pupor) : (d.modPu f).mi = d.mi := rfl
@[simp] theorem Dev.modPu_host (d : Dev) (f : Pupor → Pupor) : (d.modPu f).host = d.host := rfl
@[simp] theorem Dev.modPu_dma (d : Dev) (f : Pupor → Pupor) : (d.modPu f).dma = d.dma := rfl
@[simp] theorem Dev.modPu_dl (d : Dev) (f : Pupor → Pupor) : (d.modPu f).dl = d.dl := rfl
@[simp] theorem Dev.modPu_rc (d : Dev) (f : Pupor → Pupor) : (d.modPu f).rc = d.rc := rfl
@[simp] theorem Dev.modPu_pw (d : Dev) (f : Pupor → Pupor) : (d.modPu f).pw = d.pw := rfl
@[simp] theorem Dev.modPu_mc (d : Dev) (f : Pupor → Pupor) : (d.modPu f).mc = d.mc := rfl
@[simp] theorem Dev.modPu_pu (d : Dev) (f : Pupor → Pupor) : (d.modPu f).pu = f d.pu := rfl
@[simp] theorem Dev.modPu_free (d : Dev) (f : Pupor → Pupor) : (d.modPu f).free = d.free := rfl

@[simp] theorem Core.setBay_bays (c : Core) (b : Nat) (x : Bay) : (c.setBay b x).bays = Tab.set c.bays b x := rfl
@[simp] theorem Core.setBay_up (c : Core) (b : Nat) (x : Bay) : (c.setBay b x).up = c.up := rfl
@[simp] theorem Core.setBay_schctl (c : Core) (b : Nat) (x : Bay) : (c.setBay b x).schctl = c.schctl := rfl
@[simp] theorem Core.setBay_ttbp (c : Core) (b : Nat) (x : Bay) : (c.setBay b x).ttbp = c.ttbp := rfl
@[simp] theorem Core.setBay_evdrop (c : Core) (b : Nat) (x : Bay) : (c.setBay b x).evdrop = c.evdrop := rfl
@[simp] theorem Core.setBay_rstwhy (c : Core) (b : Nat) (x : Bay) : (c.setBay b x).rstwhy = c.rstwhy := rfl
@[simp] theorem Core.setBay_patchLevel (c : Core) (b : Nat) (x : Bay) : (c.setBay b x).patchLevel = c.patchLevel := rfl
@[simp] theorem Core.setBay_patchPv (c : Core) (b : Nat) (x : Bay) : (c.setBay b x).patchPv = c.patchPv := rfl
@[simp] theorem Core.setBay_disp (c : Core) (b : Nat) (x : Bay) : (c.setBay b x).disp = c.disp := rfl
@[simp] theorem Core.setBay_patchRam (c : Core) (b : Nat) (x : Bay) : (c.setBay b x).patchRam = c.patchRam := rfl
@[simp] theorem Core.setBay_matches_ (c : Core) (b : Nat) (x : Bay) : (c.setBay b x).matches_ = c.matches_ := rfl
@[simp] theorem Core.setBay_nanoRam (c : Core) (b : Nat) (x : Bay) : (c.setBay b x).nanoRam = c.nanoRam := rfl
@[simp] theorem Core.setBay_astb (c : Core) (b : Nat) (x : Bay) : (c.setBay b x).astb = c.astb := rfl
@[simp] theorem Core.setBay_tlock (c : Core) (b : Nat) (x : Bay) : (c.setBay b x).tlock = c.tlock := rfl
@[simp] theorem Core.setBay_kpa (c : Core) (b : Nat) (x : Bay) : (c.setBay b x).kpa = c.kpa := rfl
@[simp] theorem Core.setBay_itlb (c : Core) (b : Nat) (x : Bay) : (c.setBay b x).itlb = c.itlb := rfl
@[simp] theorem Core.setBay_dtlb (c : Core) (b : Nat) (x : Bay) : (c.setBay b x).dtlb = c.dtlb := rfl
@[simp] theorem Core.setBay_tlb2 (c : Core) (b : Nat) (x : Bay) : (c.setBay b x).tlb2 = c.tlb2 := rfl
@[simp] theorem Core.setBay_lockD (c : Core) (b : Nat) (x : Bay) : (c.setBay b x).lockD = c.lockD := rfl
@[simp] theorem Core.setBay_lockI (c : Core) (b : Nat) (x : Bay) : (c.setBay b x).lockI = c.lockI := rfl
@[simp] theorem Core.setBay_ast (c : Core) (b : Nat) (x : Bay) : (c.setBay b x).ast = c.ast := rfl
@[simp] theorem Core.setBay_icache (c : Core) (b : Nat) (x : Bay) : (c.setBay b x).icache = c.icache := rfl
@[simp] theorem Core.setBay_iflushed (c : Core) (b : Nat) (x : Bay) : (c.setBay b x).iflushed = c.iflushed := rfl
@[simp] theorem Core.setBay_sb (c : Core) (b : Nat) (x : Bay) : (c.setBay b x).sb = c.sb := rfl
@[simp] theorem Core.setBay_devOut (c : Core) (b : Nat) (x : Bay) : (c.setBay b x).devOut = c.devOut := rfl
@[simp] theorem Core.setBay_invs (c : Core) (b : Nat) (x : Bay) : (c.setBay b x).invs = c.invs := rfl
@[simp] theorem Core.setBay_locks (c : Core) (b : Nat) (x : Bay) : (c.setBay b x).locks = c.locks := rfl
@[simp] theorem Core.setBay_tick (c : Core) (b : Nat) (x : Bay) : (c.setBay b x).tick = c.tick := rfl

@[simp] theorem Bay.soil_st (x : Bay) (k : Nat) : (x.soil k).st = x.st := rfl
@[simp] theorem Bay.soil_wait (x : Bay) (k : Nat) : (x.soil k).wait = x.wait := rfl
@[simp] theorem Bay.soil_pc (x : Bay) (k : Nat) : (x.soil k).pc = x.pc := rfl
@[simp] theorem Bay.soil_ir (x : Bay) (k : Nat) : (x.soil k).ir = x.ir := rfl
@[simp] theorem Bay.soil_q (x : Bay) (k : Nat) : (x.soil k).q = x.q := rfl
@[simp] theorem Bay.soil_mq (x : Bay) (k : Nat) : (x.soil k).mq = x.mq := rfl
@[simp] theorem Bay.soil_lc (x : Bay) (k : Nat) : (x.soil k).lc = x.lc := rfl
@[simp] theorem Bay.soil_mlc (x : Bay) (k : Nat) : (x.soil k).mlc = x.mlc := rfl
@[simp] theorem Bay.soil_lk (x : Bay) (k : Nat) : (x.soil k).lk = x.lk := rfl
@[simp] theorem Bay.soil_mlk (x : Bay) (k : Nat) : (x.soil k).mlk = x.mlk := rfl
@[simp] theorem Bay.soil_rs (x : Bay) (k : Nat) : (x.soil k).rs = x.rs := rfl
@[simp] theorem Bay.soil_mrs (x : Bay) (k : Nat) : (x.soil k).mrs = x.mrs := rfl
@[simp] theorem Bay.soil_d (x : Bay) (k : Nat) : (x.soil k).d = x.d := rfl
@[simp] theorem Bay.soil_asr (x : Bay) (k : Nat) : (x.soil k).asr = x.asr := rfl
@[simp] theorem Bay.soil_trap (x : Bay) (k : Nat) : (x.soil k).trap = x.trap := rfl
@[simp] theorem Bay.soil_repc (x : Bay) (k : Nat) : (x.soil k).repc = x.repc := rfl
@[simp] theorem Bay.soil_decctl (x : Bay) (k : Nat) : (x.soil k).decctl = x.decctl := rfl
@[simp] theorem Bay.soil_spSrc (x : Bay) (k : Nat) : (x.soil k).spSrc = x.spSrc := rfl
@[simp] theorem Bay.soil_spDst (x : Bay) (k : Nat) : (x.soil k).spDst = x.spDst := rfl
@[simp] theorem Bay.soil_spCnt (x : Bay) (k : Nat) : (x.soil k).spCnt = x.spCnt := rfl
@[simp] theorem Bay.soil_spState (x : Bay) (k : Nat) : (x.soil k).spState = x.spState := rfl
@[simp] theorem Bay.soil_status (x : Bay) (k : Nat) : (x.soil k).status = x.status := rfl
@[simp] theorem Bay.soil_causeS (x : Bay) (k : Nat) : (x.soil k).causeS = x.causeS := rfl
@[simp] theorem Bay.soil_causeM (x : Bay) (k : Nat) : (x.soil k).causeM = x.causeM := rfl
@[simp] theorem Bay.soil_epcS (x : Bay) (k : Nat) : (x.soil k).epcS = x.epcS := rfl
@[simp] theorem Bay.soil_epcM (x : Bay) (k : Nat) : (x.soil k).epcM = x.epcM := rfl
@[simp] theorem Bay.soil_faddrS (x : Bay) (k : Nat) : (x.soil k).faddrS = x.faddrS := rfl
@[simp] theorem Bay.soil_faddrM (x : Bay) (k : Nat) : (x.soil k).faddrM = x.faddrM := rfl
@[simp] theorem Bay.soil_tsbp (x : Bay) (k : Nat) : (x.soil k).tsbp = x.tsbp := rfl
@[simp] theorem Bay.soil_kmask (x : Bay) (k : Nat) : (x.soil k).kmask = x.kmask := rfl
@[simp] theorem Bay.soil_astag (x : Bay) (k : Nat) : (x.soil k).astag = x.astag := rfl
@[simp] theorem Bay.soil_dirty (x : Bay) (k : Nat) : (x.soil k).dirty = x.dirty ||| BitVec.ofNat 32 (2 ^ k) := rfl
@[simp] theorem Bay.soil_sf (x : Bay) (k : Nat) : (x.soil k).sf = x.sf := rfl
@[simp] theorem Bay.soil_mdepth (x : Bay) (k : Nat) : (x.soil k).mdepth = x.mdepth := rfl
@[simp] theorem Bay.soil_cap (x : Bay) (k : Nat) : (x.soil k).cap = x.cap := rfl
@[simp] theorem Bay.soil_res (x : Bay) (k : Nat) : (x.soil k).res = x.res := rfl
@[simp] theorem Bay.soil_cwp (x : Bay) (k : Nat) : (x.soil k).cwp = x.cwp := rfl
@[simp] theorem Bay.soil_sfWhy (x : Bay) (k : Nat) : (x.soil k).sfWhy = x.sfWhy := rfl
@[simp] theorem Bay.soil_evecS (x : Bay) (k : Nat) : (x.soil k).evecS = x.evecS := rfl
@[simp] theorem Bay.soil_lkS (x : Bay) (k : Nat) : (x.soil k).lkS = x.lkS := rfl
@[simp] theorem Bay.soil_pend (x : Bay) (k : Nat) : (x.soil k).pend = x.pend := rfl
@[simp] theorem Bay.soil_pendDet (x : Bay) (k : Nat) : (x.soil k).pendDet = x.pendDet := rfl
@[simp] theorem Bay.soil_bayctl (x : Bay) (k : Nat) : (x.soil k).bayctl = x.bayctl := rfl
@[simp] theorem Bay.soil_mrouteL (x : Bay) (k : Nat) : (x.soil k).mrouteL = x.mrouteL := rfl
@[simp] theorem Bay.soil_mrouteH (x : Bay) (k : Nat) : (x.soil k).mrouteH = x.mrouteH := rfl
@[simp] theorem Bay.soil_sscratch (x : Bay) (k : Nat) : (x.soil k).sscratch = x.sscratch := rfl
@[simp] theorem Bay.soil_mscratch (x : Bay) (k : Nat) : (x.soil k).mscratch = x.mscratch := rfl
@[simp] theorem Bay.soil_se (x : Bay) (k : Nat) : (x.soil k).se = x.se := rfl
@[simp] theorem Bay.soil_mastag (x : Bay) (k : Nat) : (x.soil k).mastag = x.mastag := rfl
@[simp] theorem Bay.soil_etH (x : Bay) (k : Nat) : (x.soil k).etH = x.etH := rfl
@[simp] theorem Bay.soil_etT (x : Bay) (k : Nat) : (x.soil k).etT = x.etT := rfl
@[simp] theorem Bay.soil_gates (x : Bay) (k : Nat) : (x.soil k).gates = x.gates := rfl
@[simp] theorem Bay.soil_flight (x : Bay) (k : Nat) : (x.soil k).flight = x.flight := rfl
@[simp] theorem Bay.soil_bundle (x : Bay) (k : Nat) : (x.soil k).bundle = x.bundle := rfl
@[simp] theorem Bay.soil_prog (x : Bay) (k : Nat) : (x.soil k).prog = x.prog := rfl
@[simp] theorem Bay.soil_exc (x : Bay) (k : Nat) : (x.soil k).exc = x.exc := rfl
@[simp] theorem Bay.soil_afterRet (x : Bay) (k : Nat) : (x.soil k).afterRet = x.afterRet := rfl
@[simp] theorem Bay.soil_sinceDiv (x : Bay) (k : Nat) : (x.soil k).sinceDiv = x.sinceDiv := rfl
@[simp] theorem Bay.soil_sinceDdiv (x : Bay) (k : Nat) : (x.soil k).sinceDdiv = x.sinceDdiv := rfl
@[simp] theorem Bay.soil_sinceDmulx (x : Bay) (k : Nat) : (x.soil k).sinceDmulx = x.sinceDmulx := rfl
@[simp] theorem Bay.soil_issued (x : Bay) (k : Nat) : (x.soil k).issued = x.issued := rfl
@[simp] theorem Bay.soil_lastRun (x : Bay) (k : Nat) : (x.soil k).lastRun = x.lastRun := rfl
@[simp] theorem Bay.soil_walkFault (x : Bay) (k : Nat) : (x.soil k).walkFault = x.walkFault := rfl
@[simp] theorem Bay.soil_dataDue (x : Bay) (k : Nat) : (x.soil k).dataDue = x.dataDue := rfl
@[simp] theorem Bay.soil_held (x : Bay) (k : Nat) : (x.soil k).held = x.held := rfl

@[simp] theorem State.run_pending (s : State) (f : Dev → Dev) : (s.run f).pending = s.pending := by
  unfold State.run
  split <;> rfl
@[simp] theorem State.reached_pending (s : State) (f : Dev → Dev) : (s.reached f).pending = s.pending := by
  unfold State.reached
  split <;> rfl
@[simp] theorem State.always_pending (s : State) (f : Dev → Dev) : (s.always f).pending = s.pending := rfl
@[simp] theorem State.always_dev (s : State) (f : Dev → Dev) : (s.always f).dev = f s.dev := rfl

end Sys2Proof.Machine
end

