-- ==== Sys2Proof/WellFormed.lean ====
section
/-! DEFINITION. Which commands are well formed: no syllable of a reserved form, and outside data of the sizes the spec gives. The meanings do not rest on it: they answer every command. -/

namespace Sys2Proof

/-- A power domain number (Table 13.1). -/
def domOk (dom : BitVec 7) : Bool := decide (dom.toNat < 96)
/-- A DDR channel MC0 to MC11. -/
def channelOk (ch : BitVec 4) : Bool := decide (ch.toNat < 12)
/-- A Derrik frame: 16 bytes of header and 16 of trailer at least, a whole number of 16-byte units (R342). -/
def frameOk (bs : List Byte) : Bool := decide (32 ≤ bs.length) && bs.length % 16 == 0
/-- Arguments of a mailbox request fit its block (R386). -/
def argsOk (bs : List Byte) : Bool := decide (bs.length ≤ 60)

/-- Whether a command is well formed. -/
def Instr.wellFormed (i : Instr) : Bool :=
  match Machine.sylInfo i with
  | some f => f.bad.isNone
  | none => match i with
    | .submissionFetch (some bs) => bs.length == 32
    | .posting _ bs | .markFrame _ bs | .digest _ bs | .ack _ bs | .nak _ bs | .hello _ bs | .reservedTypeFrame _ bs => frameOk bs
    | .eventRecorded _ _ x => decide (x.bytes.length ≤ 16) && x.others.all (fun y => decide (y.detail.length ≤ 16))
    | .drain _ dom | .cancel _ dom | .test _ dom | .repatch _ dom | .offf _ dom | .onn _ dom | .returnn _ dom => domOk dom
    | .drainComplete dom | .drainTimeout dom | .repatchEnd dom | .powerOnEnd dom | .returnEnd dom => domOk dom
    | .selfTestEnd dom _ => domOk dom
    | .status _ bs | .rrec _ bs | .pdreq _ bs | .pdstat _ bs | .lkrec _ bs | .stage _ bs | .csign _ bs | .runext _ bs => argsOk bs
    | .imgopen _ bs | .imgdata _ bs | .imgclose _ bs | .smbusRclr _ bs | .devrst _ bs => argsOk bs
    | .ddrRefresh ch _ => channelOk ch
    | .ddrZqCalibration ch | .ddrPhyTracking ch => channelOk ch
    | .thermtrip sensor _ => decide (sensor.toNat ≤ 8)
    | _ => true

end Sys2Proof
end

