-- ==== Sys2Proof/Tests/Slice0.lean ====
section
/-! SUPPORT. Tests: ill-formed commands refused by each check of WellFormed, values of the spec's tables, and for each statement a concrete state that meets its hypotheses, clause by clause. -/

namespace Sys2Proof.Tests

open Sys2Proof.Machine
open Sys2Proof.Safety

/-! ## Small states -/

/-- A machine in RUN, every domain ON, start-up finished, with nothing running. -/
def base : Dev :=
  { State.reset.dev with pw := { State.reset.dev.pw with pstate := 2, stage := .finished, doms := (List.range 96).map (fun k => (k, ({ state := 1 } : Dom))) } }

/-- A device with power: in RUN and not at the end of a power failure. -/
theorem test_base_powered : ¬ (base.pw.pstate = 0 ∨ base.pw.pfDone = true) := by decide

/-- Mirror registers in force. -/
def withRegs (l : List (Nat × Word)) (d : Dev) : Dev := { d with mi := { d.mi with regs := l, vals := l } }

/-- A state with nothing waiting. -/
def st (d : Dev) : State := { dev := d }

/-- A syllable of bay 0 of core 0 that always executes. -/
def y0 : Syl := { core := 0, bay := 0, pos := 0, g := 0, n := false }

/-- The bundle of one syllable. -/
def one (i : Instr) : Bundle := { pc := 0x1000, len := 1, todo := [asDecoded i], all := [i] }

/-- A translation of the first 32 MiB onto itself, all rights, and one of the device registers. -/
def pages : List TlbE := [{ va := 0, size := 0x2000000, pa := 0, perm := 0xFF }, { va := 0x10000000, size := 0x10000000, pa := 0x10000000, perm := 0xFF }]

/-- Core 0 up, with bay 0 as `f` makes it of a running bay. -/
def core0 (f : Bay → Bay) : Dev :=
  base.setCore 0 { up := true, itlb := pages, dtlb := pages, bays := [(0, f { Bay.reset 0 0 with st := .running, pc := 0x1000 })] }

/-- The state in which the syllable is the last of the open bundle of bay 0 of core 0. -/
def ready (i : Instr) (f : Bay → Bay := id) (g : Dev → Dev := id) : State := st (g (core0 (fun x => f { x with bundle := some (one i) })))

/-- Every syllable of bay 0 of core 0 that always executes meets `Executes` there. -/
theorem test_executes (i : Instr) : Executes (ready i) y0 i (one i) := ⟨test_base_powered, rfl, rfl, rfl, rfl, rfl, rfl, rfl⟩

/-! ## Ill-formed commands, one for each check of WellFormed -/

theorem test_ill_formed_reserved_code : ((.movs y0 1 4 : Instr)).wellFormed = false ∧ ((.movs y0 1 3 : Instr)).wellFormed = true := by decide

theorem test_ill_formed_fetch_length : (Instr.submissionFetch (some [0])).wellFormed = false ∧ (Instr.submissionFetch (some (List.replicate 32 0))).wellFormed = true := by decide

theorem test_ill_formed_frame_length : (Instr.posting 0 (List.replicate 33 0)).wellFormed = false ∧ (Instr.posting 0 (List.replicate 48 0)).wellFormed = true := by decide

theorem test_ill_formed_event_detail : (Instr.eventRecorded 0 0 { bytes := List.replicate 17 0 }).wellFormed = false ∧ (Instr.eventRecorded 0 0 { bytes := List.replicate 16 0, others := [{}] }).wellFormed = true := by decide

theorem test_ill_formed_domain : (Instr.powerOnEnd 96).wellFormed = false ∧ (Instr.powerOnEnd 95).wellFormed = true := by decide

theorem test_ill_formed_mailbox_arguments : (Instr.imgdata 0 (List.replicate 61 0)).wellFormed = false ∧ (Instr.imgdata 0 (List.replicate 60 0)).wellFormed = true := by decide

theorem test_ill_formed_channel : (Instr.ddrZqCalibration 12).wellFormed = false ∧ (Instr.ddrZqCalibration 11).wellFormed = true := by decide

theorem test_ill_formed_sensor : (Instr.thermtrip 9 0).wellFormed = false ∧ (Instr.thermtrip 8 0).wellFormed = true := by decide

/-! ## Words written out from Tables 2.1 to 2.5, 2.7 and 2.16 (R30, R32 to R34), and words no bundle may hold (R75, R76) -/

theorem test_word_add : decodeBundle 0 0 0 (fun _ => none) [0x80108860] = .ok [.add y0 1 2 3] := by rfl

theorem test_word_sub_guarded : decodeBundle 0 0 0 (fun _ => none) [0x9C1FA201] = .ok [.sub { core := 0, bay := 0, pos := 0, g := 3, n := true } 31 8 16] := by rfl

theorem test_word_addi : decodeBundle 0 0 0 (fun _ => none) [0x80208BFF] = .ok [.addi y0 1 2 0x3FF none] := by rfl

theorem test_word_addi_limm : decodeBundle 0 0 0 (fun _ => none) [0x00208805, 0x8FE12345] = .ok [.addi y0 1 2 5 (some 0x312345)] := by rfl

theorem test_word_sari : decodeBundle 0 0 0 (fun _ => none) [0x80621621] = .ok [.sari y0 4 5 33] := by rfl

theorem test_word_cmp : decodeBundle 0 0 0 (fun _ => none) [0x80760457] = .ok [.cmp y0 6 1 2 5 3] := by rfl

theorem test_word_cmpi : decodeBundle 0 0 0 (fun _ => none) [0x80893A7E] = .ok [.cmpi y0 9 7 2 1 0x3E none] := by rfl

theorem test_word_pxor : decodeBundle 0 0 0 (fun _ => none) [0x80912340] = .ok [.pxor y0 1 2 3] := by rfl

theorem test_word_movf : decodeBundle 0 0 0 (fun _ => none) [0x80A28061] = .ok [.movf y0 5 3] := by rfl

theorem test_word_ldh : decodeBundle 0 0 0 (fun _ => none) [0x812190FE] = .ok [.ldh y0 3 4 0 0xFE none] := by rfl

theorem test_word_stw : decodeBundle 0 0 0 (fun _ => none) [0x81719204] = .ok [.stw y0 3 4 2 4 none] := by rfl

theorem test_word_div : decodeBundle 0 0 0 (fun _ => none) [0x82018448] = .ok [.div y0 3 1 2] := by rfl

theorem test_word_br : decodeBundle 0 0 0 (fun _ => none) [0x830FFFFF] = .ok [.br y0 0xFFFFF] := by rfl

theorem test_word_call_w : decodeBundle 0 0 0 (fun _ => none) [0x83180010] = .ok [.callW y0 0x10] := by rfl

theorem test_word_two : decodeBundle 0 0 0 (fun _ => none) [0x00108860, 0x83000002] = .ok [.add y0 1 2 3, .br { core := 0, bay := 0, pos := 1, g := 0, n := false } 2] := by rfl

theorem test_refused_major_0 : decodeBundle 0 0 0 (fun _ => none) [0x80000000] = .error (2, 0, 1) := by rfl

theorem test_refused_same_target : decodeBundle 0 0 0 (fun _ => none) [0x00108860, 0x801090A0] = .error (1, 1, 7) := by rfl

theorem test_refused_two_branches : decodeBundle 0 0 0 (fun _ => none) [0x03000002, 0x83000002] = .error (1, 1, 2) := by rfl

theorem test_refused_limm_alone : decodeBundle 0 0 0 (fun _ => none) [0x83E00000] = .error (1, 0, 5) := by rfl

/-! ## Rows of Tables 3.11 to 3.13 (R91, R93, R108) -/

set_option maxRecDepth 100000 in
theorem test_decimal_edges :
    let F := DFmt.d64
    let ssub := DVal.fin false 1 (-398)
    let top := F.largest false
    let num := fun (c : Nat) (e : Int) => DVal.fin false c e
    let neg := fun (c : Nat) (e : Int) => DVal.fin true c e
    let ovf : DFlags := { of := true, inx := true }
    let inexact : DFlags := { inx := true }
    let under : DFlags := { uf := true, inx := true }
    let bad : DFlags := { vf := true }
    F.add 0 ssub ssub = (num 2 (-398), {}) ∧ F.add 0 ssub ssub.negate = (num 0 (-398), {}) ∧ F.add 6 ssub ssub.negate = (neg 0 (-398), {})
      ∧ F.add 0 top ssub = (top, inexact) ∧ F.add 5 top ssub = (.inf false, ovf) ∧ F.add 0 top top = (.inf false, ovf) ∧ F.add 3 top top = (top, ovf)
      ∧ F.add 0 (num 0 0) (neg 0 0) = (num 0 0, {}) ∧ F.add 0 (.inf false) (.inf true) = (.nan false false 0, bad)
      ∧ F.mul 0 ssub ssub = (num 0 (-398), under) ∧ F.mul 5 ssub ssub = (ssub, under) ∧ F.mul 0 top top = (.inf false, ovf) ∧ F.mul 0 (neg 0 0) top = (neg 0 369, {})
      ∧ F.mul 0 (.inf false) (neg 0 0) = (.nan false false 0, bad) ∧ F.div 0 (num 1 0) (num 3 0) = (num 3333333333333333 (-16), inexact)
      ∧ F.div 0 top (num 0 0) = (.inf false, { zf := true }) ∧ F.div 0 (num 0 0) (num 0 0) = (.nan false false 0, bad) ∧ F.div 0 (num 0 0) top = (num 0 (-369), {})
      ∧ F.quantize 0 ssub (num 1 0) = (num 0 0, inexact) ∧ F.quantize 0 top (num 1 0) = (.nan false false 0, bad) ∧ F.quantize 0 (num 2115 (-3)) (num 1 (-2)) = (num 212 (-2), inexact)
      ∧ F.toIntegral 0 (neg 5 (-1)) = (neg 0 0, inexact) ∧ F.toIntegral 1 (neg 5 (-1)) = (neg 1 0, inexact)
      ∧ (neg 0 0).order (num 0 3) = 0 ∧ (num 10 (-1)).order (num 100 (-2)) = 0 ∧ (DVal.inf false).order top = 1 := by decide +kernel
/-! ## Witnesses: for each statement, concrete states that meet the hypotheses of its clauses -/

/-- Registers x1 and x2 of bay 0 (M bank). -/
def x12 (a b : Word) (x : Bay) : Bay := { x with ir := [(169, a), (170, b)] }
/-- Bay 0 at another level. -/
def atLevel (l : Word) (x : Bay) : Bay := { x with status := l }

theorem test_wit_special_moves : ((ready (.movs y0 1 2)).dev.home y0).pushTrap = none
    ∧ ((ready (.movf y0 1 2) (fun x => { x with trap := true, mrs := { depth := 1 } })).dev.home y0).popTrap = none := by decide

theorem test_wit_divides :
    (ready (.div y0 3 1 2) (fun x => { x12 5 0 x with decctl := 0x00180000 })).dev.src y0 2 = 0
      ∧ ((ready (.div y0 3 1 2) (fun x => { x12 5 0 x with decctl := 0x00180000 })).dev.home y0).decctl.getLsbD 20 = true
      ∧ ((ready (.div y0 3 1 2) (x12 5 0)).dev.home y0).decctl.getLsbD 20 = false
      ∧ (ready (.div y0 3 1 2) (x12 0x80000000 0xFFFFFFFF)).dev.src y0 1 = 0x80000000 ∧ (ready (.div y0 3 1 2) (x12 0x80000000 0xFFFFFFFF)).dev.src y0 2 = 0xFFFFFFFF := by decide

/-- A state about to run `i` with x1 = `a`. -/
def reg1 (i : Instr) (a : Word) (g : Dev → Dev := id) : State := ready i (x12 a 0) g

theorem test_wit_loads :
    (reg1 (.ldw y0 3 1 0 0 none) 0x100).dev.reach 0 0 3 .load true ((reg1 (.ldw y0 3 1 0 0 none) 0x100).dev.ea y0 1 0 0 none 4).toNat 4 = .ok [(0x100, 4)]
      ∧ (reg1 (.ldb y0 3 1 0 0 none) 0xFFFFFF).dev.reach 0 0 3 .load false ((reg1 (.ldb y0 3 1 0 0 none) 0xFFFFFF).dev.ea y0 1 0 0 none 1).toNat 1 = .ok [(0xFFFFFF, 1)]
      ∧ (reg1 (.ldh y0 3 1 0 0 none) 0x3F).dev.reach 0 0 3 .load false ((reg1 (.ldh y0 3 1 0 0 none) 0x3F).dev.ea y0 1 0 0 none 2).toNat 2 = .ok [(0x3F, 1), (0x40, 1)]
      ∧ base.region 0x3F ≠ .devreg ∧ (reg1 (.ldh y0 3 1 0 0 none) 0x3F).dev.unreadable 0x3F [(0x3F, 1), (0x40, 1)] = none := ⟨rfl, rfl, rfl, by decide, rfl⟩

/-- A store buffer of `k` bytes stored at address 0x800 on. -/
def buffer (k : Nat) (d : Dev) : Dev := d.modCore 0 (fun c => { c with sb := (List.range k).map (fun i => ({ pa := 0x800 + i, data := [1] } : SbE)) })

theorem test_wit_stores :
    (reg1 (.stb y0 3 1 0 0 none) 0x100 (buffer 15)).dev.reach 0 0 3 .store false 0x100 1 = .ok [(0x100, 1)] ∧ ((buffer 15 base).core 0).sb.length + 1 ≤ 16
      ∧ (reg1 (.stw y0 3 1 0 0 none) 0x3E (buffer 14)).dev.reach 0 0 3 .store true 0x3E 4 = .ok [(0x3E, 2), (0x40, 2)] ∧ ((buffer 14 base).core 0).sb.length + 2 ≤ 16
      ∧ (reg1 (.sth y0 3 1 0 0 none) 0x3F (buffer 16)).dev.reach 0 0 3 .store false 0x3F 2 = .ok [(0x3F, 1), (0x40, 1)] ∧ ¬ ((buffer 16 base).core 0).sb.length + 1 ≤ 16 :=
  ⟨rfl, by decide, rfl, by decide, rfl, by decide⟩

theorem test_wit_atomics :
    ((reg1 (.swapw y0 3 1 2) 0x102).dev.src y0 1).toNat % 4 ≠ 0 ∧ ((reg1 (.swapw y0 3 1 2) 0x100 (buffer 16)).dev.src y0 1).toNat % 4 = 0
      ∧ (reg1 (.swapw y0 3 1 2) 0x100 (buffer 16)).dev.reach 0 0 3 .store false 0x100 4 = .ok [(0x100, 4)] ∧ (reg1 (.swapw y0 3 1 2) 0x100 (buffer 16)).dev.unreadable 0x100 [(0x100, 4)] = none
      ∧ (∀ z ∈ ((buffer 16 base).core 0).sb, ¬ (z.pa < 0x100 + 4 ∧ 0x100 < z.pa + z.data.length)) := ⟨by decide, by decide, rfl, rfl, by decide⟩

theorem test_wit_calls :
    ((ready (.callW y0 0) (fun x => { x with res := 9 })).dev.home y0).res ≤ 9 ∧ ((ready (.callW y0 0)).dev.home y0).bundle = some (one (.callW y0 0))
      ∧ 3 ≤ ((ready (.retW y0) (fun x => { x with res := 3 })).dev.home y0).res
      ∧ (let x := (ready (.call y0 0) (fun x => { x with trap := true, mrs := { depth := 16 } })).dev.home y0; x.trap = true ∧ x.stack.depth = 16)
      ∧ (let x := (ready (.ret y0) (fun x => { x with trap := true })).dev.home y0; x.trap = true ∧ x.stack.depth = 0)
      ∧ (let x := (ready (.callW y0 0) (fun x => { x with res := 10 })).dev.home y0; 10 ≤ x.res ∧ x.sf = false)
      ∧ (let x := (ready (.retW y0) (fun x => { x with mdepth := 1 })).dev.home y0; x.res ≤ 2 ∧ x.mdepth ≠ 0 ∧ x.sf = false) := by decide

/-- The bundle of REP and what it repeats, or of the repeated syllable with `k` iterations to come. -/
def repState (todo : List Instr) (rep : Option Nat) : State := st (core0 (fun x => { x with bundle := some { pc := 0x1000, len := 2, todo := todo, rep := rep, all := todo } }))

theorem test_wit_repeat (r : Option Nat) (l : List Instr) : Powered (repState l r) ∧ (repState l r).dev.issuing 0 0 = true
    ∧ ((repState l r).dev.home y0).bundle = some { pc := 0x1000, len := 2, todo := l, rep := r, all := l } ∧ ((repState l r).dev.home y0).guard 0 y0 = true :=
  ⟨test_base_powered, rfl, rfl, rfl⟩

theorem test_wit_control_reads :
    ctlReadLevel 0 ≤ ((ready (.mfc y0 1 0)).dev.home y0).level ∧ ((ready (.mfc y0 1 52) (atLevel 0)).dev.home y0).level < ctlReadLevel 52
      ∧ 1 ≤ ((ready (.mfcKpv y0 1) (atLevel 1)).dev.home y0).level ∧ ((ready (.mfcKpv y0 1) (atLevel 0)).dev.home y0).level = 0
      ∧ (ready (.mfcKpv y0 1) id (fun d => d.modCore 0 (fun c => { c with kpa := 0x800007FF }))).dev.keyPort 0 = some 0x7FF
      ∧ (ready (.mfcKpv y0 1)).dev.poisoned 0x7FF 1 = false ∧ (ready (.mfcKpv y0 1)).dev.servedAt 0x7FF = true := by decide

theorem test_wit_control_writes :
    1 ≤ ((ready (.mtcStatus y0 1) (atLevel 1)).dev.home y0).level ∧ ((ready (.mtcAstb y0 1)).dev.home y0).level = 3 ∧ ((ready (.mtcAstb y0 1) (atLevel 0)).dev.home y0).level = 0
      ∧ (let V := (reg1 (.mtcTsbp y0 1) 0x07FFF000).dev.src y0 1; V.toNat % 0x1000 = 0 ∧ V.toNat < 0x08000000) ∧ (let V := (reg1 (.mtcTsbp y0 1) 0x08000000).dev.src y0 1; ¬ V.toNat < 0x08000000)
      ∧ (let V := (reg1 (.mtcAstb y0 1) 0x8000).dev.src y0 1; V.toNat % 0x8000 = 0) ∧ (let V := (reg1 (.mtcAstb y0 1) 0x9000).dev.src y0 1; V.toNat % 0x8000 ≠ 0)
      ∧ ctlWriteLevel 12 ≤ 0 ∧ ((ready (.mtc y0 1 49) (atLevel 1)).dev.home y0).level < ctlWriteLevel 49 := by decide

/-- An AST entry and a 4 MiB page that maps the first 4 MiB onto itself. -/
def tables (d : Dev) : Dev := { d with mem := [(0, 0x01), (1, 0x20), (0x2000, 0x3F), (0x2001, 0x03)] }
/-- What the walk through them finds. -/
def hit : WalkHit := { pte := 0x33F, addr := 0x2000, size := 0x400000, ast := 0x2001 }

theorem test_wit_key_port :
    1 ≤ ((ready (.mtcKpv y0 1) (atLevel 1)).dev.home y0).level ∧ (ready (.mtcKpv y0 1) id (fun d => d.modCore 0 (fun c => { c with kpa := 0x80000800 }))).dev.keyPort 0 = none
      ∧ (ready (.mtcKpv y0 1) id (fun d => d.modCore 0 (fun c => { c with kpa := 0x80000000 }))).dev.keyPort 0 = some 0
      ∧ ((reg1 (.mtcKpv y0 1) 0x80).dev.src y0 1).getLsbD 7 = true ∧ ((reg1 (.mtcKpv y0 1) 1).dev.src y0 1).getLsbD 7 = false
      ∧ ((withRegs [(midCPOL, 1)] base).inForce midCPOL).getLsbD (1 % 32) = false ∧ ((withRegs [(midCPOL, 1)] base).inForce midCPOL).getLsbD (0 % 32) = true
      ∧ ((reg1 (.mtcTlock y0 { reg := 1 }) 0x1000).dev.src y0 1).getLsbD 0 = false ∧ ((reg1 (.mtcTlock y0 { reg := 1 }) 0x1001).dev.src y0 1).getLsbD 0 = true := by decide

theorem ok_of {ε α : Type} [DecidableEq α] {x : Except ε α} (a : α) (h : (match x with | .ok b => decide (b = a) | .error _ => false) = true) : x = .ok a := by
  cases x <;> simp_all
theorem error_of {ε α : Type} [DecidableEq ε] {x : Except ε α} (e : ε) (h : (match x with | .ok _ => false | .error b => decide (b = e)) = true) : x = .error e := by
  cases x <;> simp_all

theorem test_wit_walks : (tables base).walk 0 0 0x1000 false = .ok hit ∧ base.walk 0 0 0x1000 false = .error (5, 1) := ⟨ok_of _ (by decide), error_of _ (by decide)⟩

theorem test_wit_fences :
    ((ready (.syncT y0) (atLevel 1)).dev.home y0).level = 1 ∧ ((ready (.syncT y0) (atLevel 0)).dev.home y0).level = 0
      ∧ (∀ q ∈ ((buffer 1 base).core 0).sb, q.bay ≠ 1) ∧ (∃ q ∈ ((buffer 1 base).core 0).sb, q.bay = 0)
      ∧ (∃ p ∈ ((base.modCore 0 (fun c => { c with invs := [(0, 1, 0)] })).core 0).invs, p.1 = 0) := by decide

theorem test_wit_device_load :
    (reg1 (.ldw y0 3 1 0 0 none) 0x10000000).dev.reach 0 0 3 .load true ((reg1 (.ldw y0 3 1 0 0 none) 0x10000000).dev.ea y0 1 0 0 none 4).toNat 4 = .ok [(0x10000000, 4)]
      ∧ base.region 0x10000000 = .devreg := ⟨rfl, by decide⟩

/-- A machine with 1 GiB of DDR memory, and its first page in the TLB of core 0. -/
def ddr (d : Dev) : Dev :=
  { d.modCore 0 (fun c => { c with dtlb := [{ va := 0x30000000, size := 0x400000, pa := ddrBase, perm := 0xFF }] }) with mc := { d.mc with cap := 1 } }

/-- A load that meets no miss: whether the data is in a cache at hand is the free value `Config.ddrPlace`, so its hypothesis is met where that value is 0 modulo 3, and nowhere else in DDR memory. -/
theorem test_wit_load_held (h : Config.ddrPlace 0 (ddrBase / 64) % 3 = 0) :
    (reg1 (.ldw y0 3 1 0 0 none) 0x30000000 ddr).dev.missOf 0 0 3 0x30000000 [(ddrBase, 4)] = none := by
  have r : (reg1 (.ldw y0 3 1 0 0 none) 0x30000000 ddr).dev.region ddrBase = .ddr := by decide
  have f : (reg1 (.ldw y0 3 1 0 0 none) 0x30000000 ddr).dev.free = 0 := by decide
  simp only [Dev.missOf, Dev.missAt, r, f, h]
  rfl

theorem test_wit_load_from_ddr :
    (reg1 (.ldw y0 3 1 0 0 none) 0x30000000 ddr).dev.reach 0 0 3 .load true 0x30000000 4 = .ok [(ddrBase, 4)] ∧ (ddr base).region ddrBase = .ddr
      ∧ (reg1 (.ldw y0 3 1 0 0 none) 0x30000000 ddr).dev.unreadable 0x30000000 [(ddrBase, 4)] = none := ⟨ok_of _ (by decide), by decide, by decide⟩

/-- The walk of a TLOCK for this page in this machine: what it finds, and where the page lies. -/
def lockWalk (va : Nat) (g : Dev → Dev) : Option (WalkHit × Region × Bool) :=
  let d := (reg1 (.mtcTlock y0 { reg := 1 }) (BitVec.ofNat 32 (va + 1)) g).dev
  match d.walk 0 ((d.home y0).tag 3) va false with
  | .ok w => some (w, d.region ((w.entry ((d.home y0).tag 3) va).physical va), d.inKeyTable ((w.entry ((d.home y0).tag 3) va).physical va) 1)
  | .error _ => none

theorem test_wit_lock_walks :
    lockWalk 0x1000 tables = some (hit, .loam, false)
      ∧ lockWalk 0x1000 (fun d => { tables d with mem := [(0, 0x01), (1, 0x20), (0x2000, 0x3F), (0x2001, 0x03), (0x2003, 0x0C)] }) = some ({ hit with pte := 0xC00033F }, .hole, false)
      ∧ lockWalk 0x100000 (fun d => withRegs [(midKTCTL, 0x80100000)] (tables d)) = some (hit, .loam, true) := by decide
/-- DECCTL of bay 0 with these bits set beside the defaults. -/
def dctl (w : Word) (x : Bay) : Bay := { x with decctl := w }
/-- d1 and d2 of bay 0. -/
def d12 (a b : QWord) (x : Bay) : Bay := { x with d := [(1, a), (2, b)] }

theorem test_wit_decimal :
    (let f := (decDiv .d64 0 0 0).fl; f.vf && (0x00040000 : Word).toNat.testBit 18) = true
      ∧ (let f := (decDiv .d64 0 0x2238000000000001 0x2238000000000000).fl; !(f.vf && (0x00020000 : Word).toNat.testBit 18) && f.zf && (0x00020000 : Word).toNat.testBit 17) = true
      ∧ (let f := (decMul .d64 0 0x77FCFF3FCFF3FCFF 0x77FCFF3FCFF3FCFF).fl; !(f.vf && (0x00010000 : Word).toNat.testBit 18) && !(f.zf && (0x00010000 : Word).toNat.testBit 17) && f.of && (0x00010000 : Word).toNat.testBit 16) = true
      ∧ (let f := (decMul .d64 0 0x77FCFF3FCFF3FCFF 0x77FCFF3FCFF3FCFF).fl; !(f.vf && (0x00080000 : Word).toNat.testBit 18) && !(f.zf && (0x00080000 : Word).toNat.testBit 17) && !(f.of && (0x00080000 : Word).toNat.testBit 16)) = true := by decide

theorem test_wit_rounding : digits 9999999999999999 ≤ DFmt.d64.p ∧ DFmt.d64.etiny ≤ 369 ∧ (369 : Int) ≤ DFmt.d64.eqmax ∧ ((-1) * (5 * 10 ^ 0) + 1 * (5 * 10 ^ 0) : Int) = 0 := by decide

theorem test_wit_packed :
    (packedCheck true 0x9C).or (packedCheck false 0x1D) = none ∧ (packedCheck true 0x9C).or (packedCheck false 0xAC) = some 2 ∧ packedCheck true 0x99 = some 3
      ∧ ((ready (.padd y0 1 1 2)).dev.home y0).decctl.toNat.testBit 19 = true ∧ ((ready (.padd y0 1 1 2) (dctl 0)).dev.home y0).decctl.toNat.testBit 19 = false := by decide

theorem test_wit_decimal_memory :
    (reg1 (.lddX y0 1 1 0 none) 0x38).dev.reach 0 0 3 .load false 0x38 16 = .ok [(0x38, 8), (0x40, 8)] ∧ (reg1 (.lddX y0 1 1 0 none) 0x38).dev.unreadable 0x38 [(0x38, 8), (0x40, 8)] = none
      ∧ (reg1 (.ldp y0 1 1 16) 0x100).dev.reach 0 0 3 .load false 0x100 16 = .ok [(0x100, 16)]
      ∧ (ldzOut [0x31, 0x32]).2 = false ∧ (0x00080000 : Word).toNat.testBit 19 = true
      ∧ (reg1 (.stdX y0 1 1 0 none) 0x38 (buffer 14)).dev.reach 0 0 3 .store false 0x38 16 = .ok [(0x38, 8), (0x40, 8)]
      ∧ (stpOut 2 0x123C).2 = false ∧ (stpOut 2 0x123C).1.length = 2 ∧ (stzOut 3 0x123C).2 = false ∧ (stzOut 3 0x123C).1.length = 3 ∧ packedCheck true 0x123C = none :=
  ⟨rfl, rfl, rfl, by decide, by decide, rfl, by decide, by decide, by decide, by decide, by decide⟩

/-- A machine in which bay 0 of core 0 runs a program. -/
def runs (p : Prog) (f : Bay → Bay := id) : Dev := core0 (fun x => f { x with bundle := some (one (.mvs y0 1)), prog := some p })

theorem test_wit_streams :
    (ready (.macsB y0 1 1 2 3) (x12 1 2)).dev.src y0 3 = 0 ∧ (ready (.macsB y0 1 1 2 1) (x12 1 2)).dev.src y0 1 ≠ 0
      ∧ (let p : Prog := { kind := .macsB, syl := y0, rd := 1, ra := 1, rb := 2, rc := 3, desc := { src := 0x100, dst := 0x200, len := 2 } }
         (runs p).stepping 0 0 = some p ∧ p.desc.len - 1 ≠ 0 ∧ (runs p).fieldIn 0 0 0x100 4 = .ok ([0, 0, 0, 0], some false) ∧ (runs p).fieldIn 0 0 0x200 4 = .ok ([0, 0, 0, 0], some false)) :=
  ⟨by decide, by decide, by decide, by decide, ok_of _ (by decide), ok_of _ (by decide)⟩

/-- The 32 bytes of a descriptor at 0x40: SRC, DST, LEN, DLEN, and a last word. -/
def descAt (len dlen last : Nat) (d : Dev) : Dev := { d with mem := [(0x48, BitVec.ofNat 8 len), (0x4C, BitVec.ofNat 8 dlen), (0x5C, BitVec.ofNat 8 last)].filter (fun c => c.2 != 0) }

theorem test_wit_string_set_up :
    (reg1 (.mvs y0 1) 0x40 (descAt 0 1 0)).dev.fieldIn 0 0 0x40 32 = .ok ((List.range 32).map (fun i => if i = 12 then 1 else 0), some false)
      ∧ (reg1 (.edit y0 3 1 2) 0x40 (descAt 1 0 0)).dev.fieldIn 0 0 0x40 32 = .ok ((List.range 32).map (fun i => if i = 8 then 1 else 0), some false)
      ∧ (reg1 (.mvs y0 1) 0x40 (descAt 0 0 1)).dev.fieldIn 0 0 0x40 32 = .ok ((List.range 32).map (fun i => if i = 28 then 1 else 0), some false)
      ∧ ((reg1 (.mvs y0 1) 0x40).dev.home y0).afterRet = false ∧ ((reg1 (.mvs y0 1) 0x50).dev.src y0 1).toNat % 32 ≠ 0 :=
  ⟨ok_of _ (by decide), ok_of _ (by decide), ok_of _ (by decide), by decide, by decide⟩

/-- A program of this kind between steps with these lengths. -/
def strAt (k : ProgKind) (len dlen param : Word) : Prog := { kind := k, syl := y0, rd := 3, ra := 1, qt := 2, desc := { src := 0x100, dst := 0x200, len := len, dlen := dlen, aux := 0x300, param := param } }
/-- The progress of a program. -/
def sp (src dst cnt : Word) (state : Word := 0) (x : Bay) : Bay := { x with spSrc := src, spDst := dst, spCnt := cnt, spState := state }

theorem test_wit_string_steps :
    (runs (strAt .scne 1 0 0) (sp 0x100 0 0)).microStep 0 0 = some (strAt .scne 1 0 0) ∧ (runs (strAt .scne 1 0 0) (sp 0x100 0 0)).byteIn 0 0 0x100 = .ok (0, some false) ∧ 0 = (0 : Word).toNat % 256
      ∧ 0 ≠ (7 : Word).toNat % 256 ∧ (runs (strAt .cms 1 1 0) (sp 0x100 0x200 0)).microStep 0 0 = some (strAt .cms 1 1 0)
      ∧ ({ runs (strAt .cms 1 1 0) (sp 0x100 0x200 0) with mem := [(0x200, 5)] } : Dev).byteIn 0 0 0x200 = .ok (5, some false)
      ∧ (runs (strAt .mvs 0 1 0) (sp 0x100 0x200 0)).microStep 0 0 = some (strAt .mvs 0 1 0)
      ∧ (runs (strAt .mvs 0 1 0) (sp 0x100 0x200 0)).reach 0 0 3 .store false 0x200 1 = .ok [(0x200, 1)] :=
  ⟨by decide, ok_of _ (by decide), by decide, by decide, by decide, ok_of _ (by decide), by decide, rfl⟩

theorem test_wit_edit_steps :
    (runs (strAt .edit 2 0 0) (sp 0x100 0x200 0 0x02200000)).microStep 0 0 = some (strAt .edit 2 0 0)
      ∧ (let E := ((runs (strAt .edit 2 0 0) (sp 0x100 0x200 0 0x02200000)).bay 0 0).editSt; E.used + 1 < 2 ∧ E.bad = false ∧ E.fld = true ∧ E.nib = true ∧ E.run = 0xD0 % 16)
      ∧ ({ runs (strAt .edit 2 0 0) (sp 0x100 0x200 0 0x02200000) with mem := [(0x100, 9), (0x300, 0xD0)] } : Dev).byteIn 0 0 0x300 = .ok (0xD0, some false)
      ∧ ({ runs (strAt .edit 2 0 0) (sp 0x100 0x200 0 0x02200000) with mem := [(0x100, 9), (0x300, 0xD0)] } : Dev).byteIn 0 0 0x100 = .ok (9, some false)
      ∧ ({ runs (strAt .edit 2 0 0) (sp 0x100 0x200 0) with mem := [(0x300, 0x20)] } : Dev).byteIn 0 0 0x300 = .ok (0x20, some false)
      ∧ ({ runs (strAt .edit 2 0 0) (sp 0x100 0x200 0) with mem := [(0x300, 0xF0)] } : Dev).byteIn 0 0 0x300 = .ok (0xF0, some false)
      ∧ (runs (strAt .edit 2 0 0) (sp 0x100 0x200 0)).byteIn 0 0 0x300 = .ok (0, some false) :=
  ⟨by decide, by decide, ok_of _ (by decide), ok_of _ (by decide), ok_of _ (by decide), ok_of _ (by decide), ok_of _ (by decide)⟩

theorem test_wit_zoned_traps :
    (ldzOut [0, 0]).2 = true ∧ (packedCheck true 0xABC).isSome = true ∧ (0x00080000 : Word).toNat.testBit 19 = true ∧ (0x00010000 : Word).toNat.testBit 16 = true ∧ (0x00010000 : Word).toNat.testBit 19 = false
      ∧ (stzOut 1 0x1ABC).2 = true ∧ ((stzOut 3 0xABC).2 && (0x00010000 : Word).toNat.testBit 16) = false ∧ (stpOut 1 0x123C).2 = true := by decide

/-- A core whose string and edit instructions are hardwired operations: its dispatch entries have MC = 0. -/
def hardwired (d : Dev) : Dev := d.modCore 0 (fun c => { c with disp := [(0x280, 0), (0x281, 0), (0x282, 0), (0x283, 0), (0x284, 0), (0x2C0, 0)] })
/-- A core whose string instructions start at the first word of the patch RAM, which names a patched nano-word that ends a step. -/
def patched (d : Dev) : Dev := d.modCore 0 (fun c => { c with disp := [(0x280, 0xA000)], patchRam := [(0, 0x800005)], nanoRam := [(0, BitVec.ofNat 160 (2 ^ 143))] })

/-- A set-up reads this descriptor, and the sequencer then stands here. -/
def setsUp (i : Instr) (k : ProgKind) (g : Dev → Dev) (want : List Byte) (next : Option Nat) : Bool :=
  let d := (reg1 i 0x40 g).dev
  match d.fieldIn 0 0 0x40 32, d.microNext 0 0 { kind := k, syl := y0, ra := 1, mwa := (d.core 0).firstWord k } with
  | .ok (bs, some false), some a => decide (bs = want ∧ a = next)
  | _, _ => false

theorem test_wit_string_words :
    setsUp (.mvs y0 1) .mvs (fun d => hardwired (descAt 0 1 0 d)) ((List.range 32).map (fun i => if i = 12 then 1 else 0)) none = true
      ∧ setsUp (.mvs y0 1) .mvs (fun d => patched (descAt 0 1 0 d)) ((List.range 32).map (fun i => if i = 12 then 1 else 0)) (some 0x2005) = true
      ∧ setsUp (.trs y0 1) .trs (fun d => hardwired (descAt 1 0 0 d)) ((List.range 32).map (fun i => if i = 8 then 1 else 0)) none = true
      ∧ setsUp (.cms y0 3 1 2) .cms (fun d => hardwired (descAt 0 0 0 d)) (List.replicate 32 0) none = true
      ∧ setsUp (.edit y0 3 1 2) .edit (fun d => hardwired (descAt 1 0 0 d)) ((List.range 32).map (fun i => if i = 8 then 1 else 0)) none = true := by decide

theorem test_wit_string_sequencer :
    (hardwired (runs (strAt .scn 1 0 0))).microNext 0 0 (strAt .scn 1 0 0) = some none
      ∧ (patched (runs { strAt .mvs 0 1 0 with mwa := some 0x2000 })).microNext 0 0 { strAt .mvs 0 1 0 with mwa := some 0x2000 } = some (some 0x2005) := by decide

/-- A program whose table has been read. -/
def tabled (p : Prog) : Prog := { p with tableRead := true }

theorem test_wit_table_steps :
    (runs (strAt .trs 1 0 0) (sp 0x100 0x200 0)).microStep 0 0 = some (strAt .trs 1 0 0) ∧ (strAt .trs 1 0 0).tableRead = false
      ∧ (runs (tabled (strAt .trs 1 0 0)) (sp 0x100 0x200 0)).microStep 0 0 = some (tabled (strAt .trs 1 0 0))
      ∧ ({ runs (tabled (strAt .trs 1 0 0)) (sp 0x100 0x200 0) with mem := [(0x100, 1), (0x301, 7)] } : Dev).byteIn 0 0 0x100 = .ok (1, some false)
      ∧ ({ runs (tabled (strAt .trs 1 0 0)) (sp 0x100 0x200 0) with mem := [(0x100, 1), (0x301, 7)] } : Dev).byteIn 0 0 0x301 = .ok (7, some false)
      ∧ (match ({ runs (tabled (strAt .trs 1 0 0)) (sp 0x100 0x200 0) with mem := [(0x100, 1), (0x301, 7)] } : Dev).byteOut 0 0 0x200 7 true with | .ok o => decide ((o.bay 0 0).spCnt = 0) | .error _ => false) = true
      ∧ (runs (tabled (strAt .scn 1 0 0)) (sp 0x100 0 0)).microStep 0 0 = some (tabled (strAt .scn 1 0 0))
      ∧ (match (runs (strAt .mvs 0 1 0) (sp 0x100 0x200 0)).byteOut 0 0 0x200 0 true with | .ok o => decide ((o.bay 0 0).spCnt = 0) | .error _ => false) = true :=
  ⟨by decide, by decide, by decide, ok_of _ (by decide), ok_of _ (by decide), by decide, by decide, by decide⟩
/-- Stream 0 open, owned by bay 0 of core 0, durable to 5, released to 2, with room in its segment. -/
def owned (d : Dev) : Dev := { withRegs [(midJOWN 0, 0x80000000)] d with jr := { d.jr with scanning := false, streams := [(0, { recovering := false, en := true, dur := 5, rel := 2, next := 6, segs := [{ idx := 0, used := 5 }] })] } }

theorem test_wit_journal :
    (ready (.jrel y0 1 2) (x12 5 0) owned).dev.journalCheck 0 0 0 = none ∧ seqNear 5 5 ≤ 5 ∧ (5 : Int) < seqNear 5 6 ∧ (2 : Int) ≤ seqNear 5 2 ∧ seqNear 5 1 < 2
      ∧ (ready (.japp y0 3 1 2) (x12 0x100 0) owned).dev.unreadable 0x100 [(0x100, 128)] = none
      ∧ (owned base).recordCheck 0 ((List.range 128).map (fun i => if i = 15 then 1 else 0)) = none ∧ (owned base).recordCheck 0 (List.replicate 128 0) = some 6
      ∧ base.journalCheck 0 0 0 = some 2
      ∧ takeQueued 0 [({ stream := 0 } : QRec)] = some ({ stream := 0 }, []) :=
  ⟨by decide, by decide, by decide, by decide, by decide, rfl, by decide, by decide, by decide, by decide⟩

/-- The same stream with its segment full and a quota of one. -/
def full (d : Dev) : Dev := { owned d with jr := { (owned d).jr with streams := [(0, { recovering := false, en := true, dur := 5, rel := 2, next := 6, quota := 1, segs := [{ idx := 0, used := 511 }] })] } }

theorem test_wit_journal_source : (ready (.japp y0 3 1 2) (x12 0x100 0) owned).dev.jappSource 0 0 0x100 = .ok 0x100 := rfl

theorem test_wit_journal_waits (i j t e : Nat) : (base.bay i j).wait ≠ .jwait t e := by
  intro h
  cases h

theorem test_wit_system_calls :
    (let x := (ready (.scall y0 0) (fun x => { x with status := 1, se := [(0, 0x2001)] })).dev.home y0; x.level ≤ 1 ∧ (Tab.get x.se 0 0).toNat % 2 = 1)
      ∧ (let x := (ready (.scall y0 0) (atLevel 0)).dev.home y0; x.level ≤ 1 ∧ (Tab.get x.se 0 0).toNat % 2 = 0)
      ∧ (let x := (ready (.fret y0) (atLevel 0x41)).dev.home y0; x.level = 1 ∧ bits x.status.toNat 7 6 < 2) ∧ (let x := (ready (.fret y0) (atLevel 0x81)).dev.home y0; x.level = 1 ∧ 2 ≤ bits x.status.toNat 7 6)
      ∧ ((ready (.sret y0) (fun x => { x with status := 1, res := 3 })).dev.home y0).needRetreat = none
      ∧ leAt ((ready (.sret y0) (atLevel 1)).dev.loadBytes 0 4 4) 0 4 % 4 < 2 ∧ 2 ≤ leAt ((ready (.sret y0) (atLevel 1) (fun d => { d with mem := [(4, 3)] })).dev.loadBytes 0 4 4) 0 4 % 4
      ∧ leAt ((ready (.mret y0)).dev.loadBytes 0 0x44 4) 0 4 % 4 ≠ 2 ∧ (ready (.mret y0)).dev.unreadable 0x40 [(0x40, 64)] = none ∧ (ready (.mret y0)).dev.unreadable 0 [(0, 64)] = none :=
  ⟨by decide, by decide, by decide, by decide, by decide, by decide, by decide, by decide, rfl, rfl⟩

theorem test_wit_gates :
    (let s := ready (.gcall y0 0) (fun x => { x with status := 1, res := 9 }) (withRegs [(midGate 0 1, 0x9C000000)])
     s.dev.gateRefusal y0 0 = none ∧ bits (s.dev.inForce (midGate 0 1)).toNat 29 28 = 1 ∧ (s.dev.home y0).needAdvance = none)
      ∧ (let s := ready (.gcall y0 0) (atLevel 0) (withRegs [(midGate 0 1, 0xBC000000)]); s.dev.gateRefusal y0 0 = none ∧ bits (s.dev.inForce (midGate 0 1)).toNat 29 28 = 3)
      ∧ (ready (.gcall y0 0)).dev.gateRefusal y0 0 = some (0, 1, 0, 0)
      ∧ (let s := ready (.gret y0) (fun x => { x with status := 1, res := 3, gates := [{ gate := 0 }] }) (withRegs [(midGate 0 1, 0x9C000000)])
         (s.dev.home y0).gates.getLast? = some { gate := 0 } ∧ (s.dev.home y0).level = 1 ∧ (s.dev.home y0).needRetreat = none)
      ∧ (let s := ready (.gret y0) (fun x => { x with gates := [{ gate := 0 }] }) (withRegs [(midGate 0 1, 0xBC000000)]); (s.dev.home y0).gates.getLast? = some { gate := 0 } ∧ (s.dev.home y0).level = 3)
      ∧ ((ready (.gret y0)).dev.home y0).gates = [] := by decide

theorem test_wit_waits : ((ready (.waitt y0)).dev.home y0).pend.toNat % 1024 = 0 ∧ ((ready (.waitt y0) (fun x => { x with pend := 512 })).dev.home y0).pend.toNat % 1024 ≠ 0
    ∧ ((ready (.signal y0 1 0) (atLevel 1)).dev.home y0).level = 1 ∧ ((ready (.signal y0 1 0) (atLevel 0)).dev.home y0).level = 0 := by decide

/-- Bay 1 of core 0 as `f` makes it. -/
def bay1 (f : Bay → Bay) (d : Dev) : Dev := d.modBay 0 1 f
/-- Bay 1 waiting to be moved. -/
def moving (w : Wait) : Dev := bay1 (fun x => { x with st := .moving, wait := w }) (core0 id)

theorem test_wit_tasks :
    (let z := (ready (.tevict y0 1) id (bay1 (fun x => { x with st := .ready }))).dev.bay 0 1; z.loaded = true ∧ z.level ≠ 3 ∧ z.st ≠ .moving)
      ∧ ((ready (.tevict y0 1)).dev.home y0).level = 3 := by decide

theorem test_wit_task_ends :
    ((moving (.evicting 0)).bay 0 1).st = .moving ∧ ((moving (.evicting 0)).evictTask 0 1 false false).isSome = true ∧ ((ready (.tload y0 1 1)).dev.bay 0 1).st = .empty
      ∧ (core0 id).live 0 = true ∧ (core0 id).autoLoading 0 = false
      ∧ ({ (core0 id).modCore 0 (fun c => { c with schctl := 0x80000000, ttbp := 0x100 }) with mem := [(0x107, 0xC0)] } : Dev).nextTask 0 = some 0 := by decide

/-- A context block at 0x2000 with two window slots resident. -/
def block (d : Dev) : Dev := { d with mem := [(0x208C, 0x20)] }

theorem test_wit_loads_of_tasks : ((block (moving (.loading (some 0) 0x2000 0))).loadTask 0 1 0x2000 true false none).isOk = true
    ∧ ((block (moving (.loading none 0x2000 0))).loadTask 0 1 0x2000 false false (some 0)).isOk = true := by decide

/-- Bay 0 running at S level with nothing in flight, with this exception waiting. -/
def meets (c : Nat) (f : Bay → Bay := id) : Dev := core0 (fun x => f { x with status := 1, exc := some { cause := c } })

theorem test_wit_exceptions :
    (let d := meets 2; (d.core 0).up = true ∧ (d.bay 0 0).st = .running ∧ d.pw.pfail = false ∧ (d.bay 0 0).flight = [] ∧ (d.bay 0 0).level ≠ 3 ∧ (d.bay 0 0).toM 2 = false ∧ (d.bay 0 0).res ≠ 10
      ∧ d.servedAt 0 = true ∧ (d.core 0).sb.any (fun q => q.overlaps 0 64) = false ∧ d.servedAt 0x40 = true ∧ (d.core 0).sb.any (fun q => q.overlaps 0x40 64) = false)
      ∧ ((meets 0x0E).bay 0 0).toM 0x0E = true ∧ (let x := (meets 2 (fun x => { x with res := 10 })).bay 0 0; x.res = 10 ∧ x.sf = false)
      ∧ (let x := (core0 (fun x => { x with status := 1, pend := 16 })).bay 0 0; x.exc = none ∧ x.prog = none ∧ x.bundle = none ∧ x.nextEvent = some 0x24 ∧ x.toM 0x24 = false)
      ∧ (let x := (core0 (fun x => { x with status := 1, pend := 256 })).bay 0 0; x.nextEvent = some 0x15 ∧ x.toM 0x15 = true) := by decide

/-- Bay 0 with RES, MDEPTH and TSBP. -/
def windows (res mdepth : Nat) (tsbp : Word := 0) : Dev := core0 (fun x => { x with res := res, mdepth := mdepth, tsbp := tsbp })

theorem test_wit_window_engine :
    (let d := windows 9 31; (d.core 0).up = true ∧ (d.bay 0 0).loaded = true ∧ (d.bay 0 0).sf = false ∧ 8 < (d.bay 0 0).res ∧ (d.bay 0 0).mdepth ≠ (d.bay 0 0).cap
      ∧ (0 + 0x800 + 0x40 * 31) / 2 ^ 24 = 0 ∧ (0 + 0x800 + 0x40 * 31 + 63) / 2 ^ 24 = 0 ∧ d.servedAt 0xFC0 = true)
      ∧ (let d := windows 2 1; (d.bay 0 0).res < 3 ∧ 0 < (d.bay 0 0).mdepth ∧ d.servedAt 0x800 = true ∧ d.poisoned 0x800 64 = false)
      ∧ ((windows 9 32).bay 0 0).mdepth = ((windows 9 32).bay 0 0).cap ∧ (let b := ((windows 9 0 0xFFF800).bay 0 0).tsbp.toNat; (b + 0x800) / 2 ^ 24 ≠ b / 2 ^ 24)
      ∧ ((windows 8 0).bay 0 0).res ≤ 8 ∧ 3 ≤ ((windows 3 0).bay 0 0).res := by decide

/-- Bay 0 as `f` makes it and bay 1 READY at PRI `q`. -/
def two (f : Bay → Bay) (q : Word) : Dev := (core0 f).modBay 0 1 (fun x => { x with st := .ready, bayctl := q })

theorem test_wit_scheduler :
    (let d := two (fun x => { x with st := .ready }) 1; (d.core 0).up = true ∧ d.pw.pfail = false ∧ (∀ k, k < 4 → (d.bay 0 k).st ≠ .running ∧ (d.bay 0 k).st ≠ .frozen)
      ∧ (d.bay 0 1).st = .ready ∧ (∀ k, k < 4 → k ≠ 1 → (d.bay 0 k).st = .ready → (d.bay 0 k).pri < (d.bay 0 1).pri ∨ ((d.bay 0 k).pri = (d.bay 0 1).pri ∧ (d.bay 0 1).lastRun < (d.bay 0 k).lastRun)))
      ∧ (let d := two id 1; (d.bay 0 0).st = .running ∧ (∀ k, k < 0 → (d.bay 0 k).st ≠ .running) ∧ (d.bay 0 1).st = .ready ∧ (d.bay 0 0).exc = none ∧ (d.bay 0 0).bundle = none ∧ (d.bay 0 0).pri < (d.bay 0 1).pri)
      ∧ (let d := (two (fun x => { x with issued := 256 }) 0).modCore 0 (fun c => { c with schctl := 0x100 })
         (d.core 0).schctl.toNat / 256 % 256 = 1 ∧ 256 ≤ (d.bay 0 0).issued ∧ (d.bay 0 0).pri = (d.bay 0 1).pri) := by decide

/-- Bay 0 about to fetch, with the block of its bundle in the instruction cache. -/
def fetching (w : Nat) : Dev := (core0 id).modCore 0 (fun c => { c with icache := [(0x80, toLe 4 w ++ List.replicate 28 0)] })
/-- Bay 0 frozen on a wait. -/
def stuck (k : BayState) (w : Wait) : Dev := core0 (fun x => { x with st := k, wait := w })

theorem test_wit_fetches :
    (fetching 0).runningBay 0 = some 0 ∧ (fetching 0).mayOpen 0 0 = true ∧ (fetching 0x80100000).accessHalf 0 0 3 .fetch false 0x1000 4 = .ok 0x1000
      ∧ (fetching 0x80100000).cached 0 0x80 = some (toLe 4 0x80100000 ++ List.replicate 28 0) ∧ leAt (toLe 4 0x80100000 ++ List.replicate 28 0) 0 4 = 0x80100000 ∧ (0x80100000 : Nat).testBit 31 = true
      ∧ decodeBundle 0 0 3 (fun _ => none) [0x80100000] = .ok [.add { core := 0, bay := 0, pos := 0, g := 0, n := false } 0 0 0] ∧ decodeBundle 0 0 3 (fun _ => none) [0x80000000] = .error (2, 0, 1)
      ∧ ((core0 (fun x => { x with pc := 0x02000000 })).accessHalf 0 0 3 .fetch false 0x02000000 4) = .walk 0x02000000
      ∧ ((stuck .frozen .data).bay 0 0).st = .frozen ∧ ((stuck .miss .data).bay 0 0).wait = .data
      ∧ (tables (stuck .frozen (.walk 0x1000 .load false 4))).checkAccess 3 0xFFFFFFFF .load false (hit.entry 0 0x1000).perm ((hit.entry 0 0x1000).physical 0x1000) 4 = none
      ∧ setBits hit.pte 6 6 1 ≠ hit.pte ∧ (tables (stuck .frozen .data)).checkAccess 0 0xFFFFFFFF .load false 0x22F 0x1000 4 = some (6, 4) :=
  ⟨by decide, by decide, rfl, by decide, by decide, by decide, ok_of _ (by decide), error_of _ (by decide), rfl, by decide, by decide, by decide, by decide, by decide⟩

theorem test_wit_fetched_words :
    Dev.fetchWords 0 0 0x1000 8 0 [] [] none (fetching 0x80100000) = (fetching 0x80100000, .words [0x80100000], none)
      ∧ Dev.fetchWords 0 0 0x1000 8 0 [] [] none (fetching 0) = (fetching 0, .words [0, 0, 0, 0, 0, 0, 0, 0], none)
      ∧ decodeBundle 0 0 3 ((fetching 0x80100000).bay 0 0).tooNear [0x80100000] = .ok [.add y0 0 0 0]
      ∧ (fetching 0x80100000).cached 0 0x81 = none ∧ (fetching 0x80100000).servedAt 0x1020 = true ∧ (fetching 0x80100000).poisoned 0x1020 4 = false :=
  ⟨rfl, rfl, ok_of _ (by decide), by decide, by decide, by decide⟩

theorem test_wit_data_returns : ((core0 (fun x => { x with dataDue := true })).bay 0 0).wait ≠ .data ∧ ((core0 (fun x => { x with dataDue := true })).bay 0 0).dataDue = true := by decide

theorem test_wit_page_walks :
    (tables (stuck .frozen (.walk 0x1000 .load false 4))).walk 0 (((stuck .frozen (.walk 0x1000 .load false 4)).bay 0 0).tag 3) 0x1000 false = .ok hit
      ∧ (tables (stuck .miss (.walk 0x1000 .load false 4))).walk 0 0 0x1000 true = .error (8, 3)
      ∧ ((stuck .miss (.walk 0x1000 .load false 4)).bay 0 0).st = .miss := ⟨ok_of _ (by decide), error_of _ (by decide), by decide⟩

theorem test_wit_invalidations : (let d := (stuck .waiting .syncT).modCore 0 (fun c => { c with invs := [(0, 0, 0)] }); (d.core 0).invs = [(0, 0, 0)] ∧ d.oldStores 0 0 = false ∧ (d.bay 0 0).st = .waiting ∧ (d.bay 0 0).wait = .syncT) := by decide

theorem test_wit_store_buffer :
    ((buffer 1 base).core 0).sb = [{ pa := 0x800, data := [1] }] ∧ base.servedAt 0x800 = true
      ∧ ({ base with pw := { base.pw with doms := [] } } : Dev).servedAt 0x800 = false
      ∧ ((base.modCore 0 (fun c => { c with sb := [{ pa := 0x1D000000, data := [0, 0, 0, 0], dev := true, lvl := 3 }] })).core 0).sb.head?.map (fun e => e.dev) = some true
      ∧ ((base.modCore 0 (fun c => { c with devOut := [{ pa := 0x1D000000, data := [0, 0, 0, 0], dev := true, lvl := 3 }] })).core 0).sb = []
      ∧ ((buffer 1 base).core 0).devOut = [] ∧ (base.core 0).sb = [] ∧ (base.core 0).devOut = [] := by decide

theorem test_wit_append_without_segment :
    (ready (.japp y0 3 1 2) (x12 0x100 0) full).dev.recordCheck 0 ((List.range 128).map (fun i => if i = 15 then 1 else 0)) = some 10
      ∧ (ready (.japp y0 3 1 2) (x12 0x100 0) full).dev.jappSource 0 0 0x100 = .ok 0x100 ∧ (ready (.japp y0 3 1 2) (x12 0x100 0) full).dev.journalCheck 0 0 0 = none := ⟨by decide, rfl, by decide⟩

theorem test_wit_held_append : (let j := { base.jr with heldq := [({ stream := 0 } : QRec)], queue := [] }; j.heldq = ({ stream := 0 } : QRec) :: [] ∧ j.queue.length < 512) := by decide
/-- Armed, with the staging slots given and HOST's bank. -/
def mirror (l : List (Nat × StageSlot)) (b : OrgBank := {}) : Dev := { base with mi := { base.mi with armed := true, slots := l, banks := [(1, b)] } }
/-- Slot 0 staged by Pupor under ticket 7: a new MCTL. -/
def slot0 : StageSlot := { st := 1, id := 0x0F000000, val := 5, org := 3, ticket := 7 }

theorem test_wit_mirror :
    isMirror 0x0F000000 = true ∧ base.originOf .pupor = some .pupor ∧ (mirror []).mi.armed = true ∧ mirrorValid 0x0F000000 1 = true ∧ mirrorValid 0x0F000000 0 = false
      ∧ (∀ j, j < 16 → ((mirror []).stageSlot j).st = 1 → ((mirror []).stageSlot j).id.toNat ≠ 0x0F000000) ∧ ((mirror []).stageSlot 0).st = 0
      ∧ ((mirror [(0, slot0)]).stageSlot 0).st = 1 ∧ (∀ j, j < 15 → ((mirror ((List.range 15).map (fun k => (k, slot0)))).stageSlot j).st ≠ 0) ∧ ((mirror ((List.range 15).map (fun k => (k, slot0)))).stageSlot 15).st = 0
      ∧ base.originOf .other = none := by decide

theorem test_wit_countersign :
    (mirror []).originOk .pupor = true ∧ ((mirror [(0, slot0)]).stageSlot 0).ticket = (7 : Half).toNat ∧ slot0.org ≠ orgCode .host ∧ slot0.val = ((mirror [(0, slot0)] { val := 5 }).bank .host).val
      ∧ slot0.val ≠ ((mirror [(0, slot0)]).bank .host).val ∧ slot0.org = orgCode .pupor ∧ mirrorRule ((mirror [(0, slot0)]).look [(0x0F000000, 5)]) 0x0F000000 5 = true
      ∧ (mirror []).mcsCheck 0 7 = some 3 := by decide

theorem test_wit_group (b : OrgBank) : (mirror [(0, slot0)] b).bank .host = b ∧ (∀ j, (mirror [(0, slot0)] b).stageSlot j = (mirror [(0, slot0)]).stageSlot j)
    ∧ (List.range 16).filter (fun j => ((mirror [(0, slot0)] { mask := 1 }).bank .host).mask.getLsbD j) = [0] ∧ 3 ≠ orgCode .host := ⟨rfl, fun _ => rfl, by decide, by decide⟩

theorem test_wit_group_crc (b : OrgBank) : (mirror [(0, slot0)] b).groupCrc [0] = (mirror [(0, slot0)]).groupCrc [0] := by
  unfold Dev.groupCrc
  simp only [(test_wit_group b).2.1]

/-- The epoch counters as `f` makes them. -/
def epochs (f : Epoch → Epoch) : Dev := { base with ep := f base.ep }

theorem test_wit_epochs :
    (let x := (epochs (fun x => { x with ctl := 0x80000000, stat := 0, epoch := 0xFFFFFFFFFFFE, tick := 0xFFFFFE })).ep
     x.ctl.toNat.testBit 31 = true ∧ x.stat.toNat / 2 ^ 28 % 8 = 0 ∧ x.prevIn = false ∧ x.epoch < 0xFFFFFFFFFFFF ∧ x.tick < 0xFFFFFF ∧ x.loss ≠ 0)
      ∧ (epochs (fun x => { x with ctl := 0x80000000, stat := 0, prevIn := true })).ep.prevIn = true ∧ base.ep.ctl.toNat.testBit 31 = false ∧ (epochs (fun x => { x with loss := 0 })).ep.loss = 0
      ∧ base.allowed .pupor 0x0C000000 true = true ∧ base.allowed .other 0x0C000000 true = false ∧ (0x80000000 : Word).toNat.testBit 31 = true ∧ bits (0x80000000 : Word).toNat 30 28 = 0
      ∧ bits (0x90000000 : Word).toNat 30 28 ≠ 0 ∧ base.allowed .pupor (0x0C00100C + 16 * 255) true = true := by decide

theorem test_wit_event_slots (w : Word) : (epochs (fun x => { x with due := [3], slots := [(3, { ctl := w })] })).ep.due = 3 :: [] ∧ ((epochs (fun x => { x with due := [3], slots := [(3, { ctl := w })] })).evSlot 3).ctl = w
    ∧ bits (0x80000000 : Word).toNat 29 28 = 0 ∧ bits (0x90000000 : Word).toNat 29 28 = 1 ∧ bits (0xA0000000 : Word).toNat 29 28 = 2 := ⟨rfl, rfl, by decide⟩

/-- A domain in a state, with this request in progress. -/
def domain (n k : Nat) (req : Option (Nat × Nat) := none) : Dev := let d := base.setDom n k; { d with pw := { d.pw with req := req } }

theorem test_wit_domains :
    base.allowed .pupor 0x0D010000 true = true ∧ base.pw.req = none ∧ base.domState 63 = 1 ∧ base.drainRefused 63 = false ∧ base.drainRefused 91 = false ∧ (domain 63 3).domState 63 = 3 ∧ (domain 94 6).domState 94 = 6
      ∧ (domain 95 0).domState 95 = 0 ∧ (domain 64 4).domState 64 = 4 ∧ ((withRegs [(midPATCHEN, 0x40000000)] (domain 63 3)).inForce midPATCHEN).toNat.testBit 30 = true
      ∧ base.corePresent 0 = true ∧ (stuck .locked .none).coreLocked 0 = true ∧ (domain 63 2 (some (1, 63))).pw.req = some (1, 63) ∧ (domain 63 2 (some (1, 63))).domState 63 = 2
      ∧ base.pdCheck 0 = some 0xB ∧ base.pdCheck (2 ^ 28 + 96) = some 0xB ∧ (domain 64 7 (some (3, 64))).domState 64 = 7 ∧ (domain 71 7 (some (4, 71))).pw.req = some (4, 71)
      ∧ (domain 85 2 (some (1, 85))).domState 85 = 2 ∧ (domain 95 4).domState 95 = 4 := by decide

theorem test_wit_repatch : ({ domain 63 5 with pw := { (domain 63 5).pw with banks := [] } } : Dev).bestBank 1 = none ∧ ({ domain 63 5 with pw := { (domain 63 5).pw with banks := [] } } : Dev).domState 63 = 5 := by decide

/-- The power block as `f` makes it. -/
def power (f : Power → Power) : Dev := { base with pw := f base.pw }

theorem test_wit_start_up :
    (let p := (power (fun p => { p with stage := .off })).pw; p.stage = .off ∧ p.pfail = false ∧ p.hotWait = false) ∧ (power (fun p => { p with stage := .training })).pw.stage = .training
      ∧ (power (fun p => { p with stage := .firmware })).pw.stage = .firmware ∧ base.pw.stage = .finished ∧ base.allowed .pupor 0x0D010040 true = true ∧ base.pw.boot.toNat.testBit 31 = false
      ∧ (power (fun p => { p with boot := 0x80000000 })).pw.boot.toNat.testBit 31 = true ∧ (2 : Word).toNat % 4 ≠ 3 ∧ (3 : Word).toNat % 4 = 3
      ∧ (let p := (power (fun p => { p with pfail := true })).pw; p.pfail = true ∧ p.pfDone = false ∧ p.rstWant = false) := by decide

theorem test_wit_images :
    openFormOk 3 5 = true ∧ openFormOk 3 6 = false ∧ openFormOk 1 0 = true ∧ bits (0x00000305 : Word).toNat 10 8 = 3 ∧ bits (0x00000305 : Word).toNat 2 0 = 5 ∧ base.pw.imgBusy = false ∧ base.pw.mimg = none ∧ base.pw.img = none
      ∧ base.allowed .pupor 0x0D010080 true = true ∧ base.allowed .pupor 0x0D010084 true = true ∧ (power (fun p => { p with img := some {} })).pw.img = some {}
      ∧ (let p := (power (fun p => { p with imgBusy := true, imgClose := some {} })).pw; p.imgClose = some {} ∧ p.imgMbox = false) := by decide

/-- Stream 0 as `f` makes it. -/
def stream0 (f : Stream → Stream) : Dev := { owned base with jr := { (owned base).jr with streams := [(0, f ((owned base).stream 0))] } }
/-- A seal that waits for origin 2 of side A, and its partner's digest. -/
def waiting4 : Seal := { epoch := 4, done := true, wantA := 4, count := 9 }

theorem test_wit_streams_and_digests :
    base.allowed .pupor 0x0E001004 true = true ∧ base.allowed .other 0x0E001004 true = false ∧ (owned base).streamState 0 = 1 ∧ ((stream0 (fun x => { x with stopped := true })).stream 0).stopped = true
      ∧ Nat.min 1012 (Nat.max 1 ((0xC00F0002 : Word).toNat / 2 ^ 16 % 1024)) = ((stream0 id).stream 0).quota ∧ (0xC00F0002 : Word).toNat % 1024 = ((stream0 id).stream 0).low ∧ (0xC00F0002 : Word).toNat.testBit 30 = true
      ∧ (let d := stream0 (fun x => { x with seals := [{ epoch := 4 }] }); (d.stream 0).seals.find? (fun w => !w.done) = some { epoch := 4 } ∧ (d.smap 0).testBit 31 = false ∧ (d.smapb 0).testBit 31 = false)
      ∧ (let x := (stream0 (fun x => { x with seals := [waiting4], held := [{ epoch := 4, origin := 2, close := 1, count := 9 }] })).stream 0
         x.held.find? (fun g => g.bridge == false && g.origin == (2 : BitVec 4).toNat && x.seals.any (fun y => y.done && y.epoch == g.epoch && y.wants false (2 : BitVec 4).toNat)) = some { epoch := 4, origin := 2, close := 1, count := 9 }
         ∧ x.seals.find? (fun y => y.done && y.epoch == 4) = some waiting4 ∧ waiting4.digest = [] ∧ waiting4.count = 9 ∧ waiting4.close = 1)
      ∧ (let d := { stream0 id with ep := { base.ep with waits := [(0, 4)] } }; d.ep.waits.find? (fun p => p.1 == 0) = some (0, 4) ∧ (d.stream 0).seals.find? (fun w => w.done && w.epoch == 4) = none)
      ∧ ({ base.jr with scanning := true } : Journal).scanning = true ∧ (owned base).jr.scanning = false := by decide
/-- Function 0 as `f` makes it, its features accepted and closed, with queues 0 to 15. -/
def fn0 (f : Fn → Fn) : Dev := { base with host := { base.host with fns := [(0, f { closed := true, facc := [(0, 0xFFFF)], vfqSq := 0x00100000, vfqCq := 0x00100000 })] } }

theorem test_wit_host_set_up :
    base.hostUp 0 = true ∧ (base.fn 0).closed = false ∧ ((fn0 id).fn 0).closed = true ∧ base.pw.stage = .finished ∧ State.reset.dev.pw.stage ≠ .finished ∧ ((fn0 id).fn 0).has 14 = true
      ∧ isMirror (0x0F000010 : Word).toNat = true ∧ isMirror (0 : Word).toNat = false ∧ (fn0 id).host.vfEn = false ∧ (1 : FnNo).toNat ≠ 0
      ∧ (let d := { fn0 id with host := { (fn0 id).host with vfEn := true } }; d.host.vfEn = true ∧ d.hostUp 63 = true)
      ∧ (fn0 id).owns 0 15 false = true ∧ (fn0 id).owns 0 15 true = true ∧ (((fn0 id).fn 0).sq 15).en = false ∧ (((fn0 (fun x => { x with sqs := [(15, { en := true })] })).fn 0).sq 15).en = true
      ∧ (64 : BitVec 7).toNat < 65 ∧ (Tab.get ((fn0 id).fn 0).msix 64 {}).mask = true ∧ (Tab.get ((fn0 (fun x => { x with msix := [(64, { pend := true })] })).fn 0).msix 64 {}).pend = true := by decide

/-- Function 0 with posting queue 0 enabled, its completion queue enabled, stream 0 open with ring 0 enabled. -/
def queue (y : Sq) (a : Ring := { en := true }) (z : Cq := { en := true }) : Dev :=
  let d := fn0 (fun x => { x with sqs := [(0, y)], cqs := [(0, z)] })
  { withRegs [(midJOWN 0, 0x80000000)] d with host := { d.host with rings := [(0, a), (64, a)] } }

theorem test_wit_queues :
    (let d := queue {}; d.owns 0 0 true = true ∧ ((d.fn 0).cq 0).en = true ∧ (d.fn 0).has 0 = true ∧ d.streamTaken 0 = false ∧ ((d.fn 0).sq 0).en = false)
      ∧ (((queue {} {} {}).fn 0).cq 0).en = false ∧ (((queue { en := true }).fn 0).sq 0).cur = none ∧ (((queue { en := true, cur := some {} }).fn 0).sq 0).cur ≠ none
      ∧ (∀ p ∈ ((queue {}).fn 0).sqs, p.2.en = true → p.2.cq ≠ 0) ∧ (((queue {}).fn 0).cq 0).wait = []
      ∧ (let y : Sq := { en := true, size := 7, head := 7, tail := 7 }; 6 ≤ y.size ∧ (y.tail + (y.size + 1) - y.head) % (y.size + 1) ≤ (6 + (y.size + 1) - y.head) % (y.size + 1))
      ∧ (let z : Cq := { en := true, size := 7, head := 7, tail := 6 }; 6 ≤ z.size ∧ (6 + (z.size + 1) - z.head) % (z.size + 1) ≤ (z.tail + (z.size + 1) - z.head) % (z.size + 1))
      ∧ (queue { en := true, tail := 1 }).hostUp 0 = true ∧ (queue { en := true, tail := 1 }).pick = some (0, 0)
      ∧ (let z : Cq := { en := true, since := 1, modW := 0x00010000 }; z.ien = true ∧ z.since ≠ 0 ∧ z.modW.toNat / 65536 ≠ 0) := by decide

theorem test_wit_entry : ((queue { en := true, tail := 1 }).takeTurn 0 0).entryCheck 0 0 (padTo 256 [1, 1]) = none := by decide

theorem test_wit_rings :
    base.allowed .pupor (ringOff 79 0x10) true = true ∧ (let a : Ring := {}; a.en = false ∧ a.count = 0) ∧ 0 ∉ ({} : Ring).slots ∧ 0 ∈ ({ count := 1 } : Ring).slots
      ∧ (let d : Dev := { queue {} { en := true, count := 1 } with mem := [(256, 1), (262, 4)] }; d.num (d.slotHdr 0 0) 1 = 1 ∧ (d.slotFlags 0 0).testBit 0 = false ∧ (d.slotFlags 0 0).testBit 2 = true)
      ∧ (let a : Ring := { size := 7, head := 7, count := 1 }; 0 ≤ a.size ∧ (0 + (a.size + 1) - a.head) % (a.size + 1) ≤ a.count)
      ∧ (let a : Ring := { size := 7, head := 7, count := 1 }; a.count < (1 + (a.size + 1) - a.head) % (a.size + 1)) := by decide

/-- Queue 0 with this entry in hand. -/
def inHand (kind : Bool) (bs : List Byte) (a : Ring := { en := true }) : Dev := queue { en := true, kind := kind, cur := some { data := bs, kind := kind } } a

theorem test_wit_host_commands :
    (inHand false [1]).inHand 0 0 false 1 = some [1] ∧ ((inHand false [1]).owner 0).isSome = true ∧ ((inHand false [1]).ring 0).en = true ∧ ((inHand false [1]).ring 0).full = false
      ∧ ((inHand false [1] { en := true, size := 7, count := 8 }).ring 0).full = true ∧ ((inHand false [1] {}).ring 0).en = false ∧ (inHand false [2]).inHand 0 0 false 2 = some [2]
      ∧ (let y := ((queue { mark := some (3, 4) }).fn 0).sq 0; y.mark = some (3, 4) ∧ y.kind = false ∧ y.open_ = 0) ∧ (((queue { open_ := 1 }).fn 0).sq 0).open_ ≠ 0
      ∧ (∀ k : Fin 8, 1 ≤ k.val → (inHand true [BitVec.ofNat 8 k.val]).inHand 0 0 true k.val = some [BitVec.ofNat 8 k.val])
      ∧ (∃ p ∈ ((inHand false [1]).fn 0).sqs, p.2.en = true ∧ p.2.kind = false ∧ p.2.target = 0) ∧ ¬ (∃ p ∈ ((inHand true [2]).fn 0).sqs, p.2.en = true ∧ p.2.kind = false ∧ p.2.target = 0)
      ∧ (inHand true [3]).owns 0 15 false = true ∧ (inHand true [3]).owns 0 16 false = false ∧ ((inHand true [4]).ring 64).en = true ∧ ((inHand true [4] { en := true, size := 7, count := 8 }).ring 64).full = true
      ∧ ((inHand true [4] {}).ring 64).en = false := by decide
/-- Channel 0 of engine 0. -/
def chan (x : Chan) (f : Engine → Engine := id) : Dev := base.setEngine 0 (f { chans := [(0, x)] })
/-- A finished descriptor whose record waits. -/
def over1 : Dcur := { run := false, status := 1 }

theorem test_wit_dma_set_up :
    base.engineOn 0 = true ∧ base.engineOn 3 = true ∧ (power (fun p => { p with doms := [] })).engineOn 0 = false ∧ (∀ o ∈ [0x00, 0x10, 0x14, 0x20, 0x24, 0x30, 0x34, 0x40, 0x4C], base.allowed .pupor (0x0A000000 + 0x1000 + o) true = true)
      ∧ (let x := (chan { rsize := 7, head := 7, tail := 7 }).chan 0 0; 6 ≤ x.rsize ∧ (x.tail + (x.rsize + 1) - x.head % (x.rsize + 1)) % (x.rsize + 1) ≤ (6 + (x.rsize + 1) - x.head % (x.rsize + 1)) % (x.rsize + 1) ∧ x.rsize < 8)
      ∧ (let x := (chan { csize := 7, chead := 7, cn := 8 }).chan 0 0; 6 ≤ x.csize ∧ (6 + (x.csize + 1) - x.chead % (x.csize + 1)) % (x.csize + 1) ≤ x.cn ∧ x.csize < 8)
      ∧ ((chan { state := 6 }).chan 0 0).state = 6 ∧ (let x := (chan { state := 1, arm := true }).chan 0 0; x.state = 1 ∧ x.arm = true ∧ ∀ r ∈ x.cur, r.run = false)
      ∧ (let x := (chan { state := 1, cur := [over1] }).chan 0 0; x.state ≠ 7 ∧ (∀ r ∈ x.cur, r.run = false) ∧ x.arm = false) ∧ (∃ r ∈ ((chan { state := 1, cur := [{}] }).chan 0 0).cur, r.run = true)
      ∧ base.atM .pupor = true ∧ (core0 (atLevel 1)).atM (.bay 0 0) = false ∧ (core0 (atLevel 1)).allowed (.bay 0 0) (0x0A000000 + 0x1000 + 0x30) true = true
      ∧ ((chan {} (fun g => { g with stopped := true })).engine 0).stopped = true := by decide

/-- Channel 0 ready to start the descriptor at address 0x1000, which memory lists. -/
def starting (l : List Host.Cell) : Dev := { chan { en := true, state := 1, rbase := 0x1000, tail := 1 } with mem := l }

theorem test_wit_descriptor_start :
    (let d := starting [(0x1000, 2), (0x1001, 1)]; (d.engine 0).stopped = false ∧ ((List.range 16).map (fun i => ((d.engine 0).turn + i) % 16)).find? (d.canStart 0) = some 0 ∧ (d.chan 0 0).arm = false
      ∧ (d.chan 0 0).apace.toNat / 2 ^ 30 ≠ 2 ∧ d.dmaFault (d.chan 0 0).akmask [(false, 0x1000, 64)] = none ∧ d.poisoned 0x1000 64 = false)
      ∧ (leAt ((starting [(0x1001, 1)]).bytes 0x1000 64) 1 1).testBit 0 = ((starting [(0x1001, 1)]).chan 0 0).par ∧ ¬ (leAt ((starting []).bytes 0x1000 64) 1 1).testBit 0 = ((starting []).chan 0 0).par
      ∧ descFormOk ((starting [(0x1000, 7), (0x1001, 1)]).bytes 0x1000 64) = false := by decide

theorem test_wit_descriptor_checks :
    (match (starting [(0x1001, 1)]).checkDesc ((starting []).chan 0 0) ((starting [(0x1001, 1)]).bytes 0x1000 64) with | .run fs => fs.isEmpty | .ends _ _ => false) = true
      ∧ (match (starting [(0x1000, 7), (0x1001, 1)]).checkDesc ((starting []).chan 0 0) ((starting [(0x1000, 7), (0x1001, 1)]).bytes 0x1000 64) with | .run _ => false | .ends a b => a == 1 && b == 1) = true := ⟨by decide, by decide⟩

/-- A running descriptor of a mode. -/
def running (m : Byte) : Dev := chan { en := true, state := 1, cur := [{ data := m :: List.replicate 63 0 }] }

theorem test_wit_descriptor_modes (m : Fin 7) :
    ((running (BitVec.ofNat 8 m.val)).chan 0 0).cur.find? (fun t => t.run) = some { data := BitVec.ofNat 8 m.val :: List.replicate 63 0 } ∧ (dmaDesc (BitVec.ofNat 8 m.val :: List.replicate 63 0)).mode = m.val
      ∧ ∀ t ∈ descSrc (dmaDesc (BitVec.ofNat 8 m.val :: List.replicate 63 0)) [] ++ descDst (dmaDesc (BitVec.ofNat 8 m.val :: List.replicate 63 0)) [], t.host = false := by revert m; decide

theorem test_wit_dma_moves : (∀ i, i < 4 → base.dmaReadFault false (0x1000 + i) 1 = none ∧ base.dmaWriteFault false (0xFFFFFC + i) 1 = none) ∧ (let q := dmaDesc (6 :: List.replicate 3 0 ++ [1, 0, 0, 0, 9] ++ List.replicate 55 0); q.len = 1 ∧ (base.stream q.sel).dur.toNat < q.src)
    ∧ (let x := (chan { cur := [over1], cn := 255 }).chan 0 0; x.cur.find? (fun t => !t.run) = some over1 ∧ x.cn ≤ x.csize ∧ x.chost = false) ∧ ((chan { cn := 256 }).chan 0 0).csize < ((chan { cn := 256 }).chan 0 0).cn
    ∧ base.dmaFault 0 [(true, 0x1000, 16)] = none := by decide

/-- Port 0 in a state, with ring slot 0 naming it: a ring of members 0 and 1, this device 0. -/
def port (x : Port) (d : Dev := withRegs [(midRGCFG 0, 0xF8100005), (midSMAP 3, 0x80000000), (midJOWN 3, 0x80000000)] base) : Dev := d.setPort 0 x
/-- A frame of stream 3 that member 1 of the ring originated. -/
def frameFor (t vl : Nat) (payload : List Byte) : Frame := { type := t, vl := vl, ring := 5, origin := 1, hops := 1, stream := 3, payload := payload }
/-- The payload of a POSTING of stream 3. -/
def posting3 : List Byte := (List.range 256).map (fun i => if i = 0 then 1 else if i = 14 then 3 else 0)
/-- A HELLO frame. -/
def hello0 : Frame := { type := 0x12, payload := List.replicate 16 0 }

theorem test_wit_ports :
    base.allowed .pupor 0x0B000000 true = true ∧ base.domState 86 = 1 ∧ (port {}).slotNaming 0 = some 0 ∧ (base.setPort 0 {}).slotNaming 0 = none ∧ ((port { state := 5 }).port 0).drain = false
      ∧ ((port { state := 1 }).port 0).state = 1 ∧ ((port { state := 4 }).port 0).txq = [] ∧ ((port { state := 3 }).port 0).state = 3 := by decide

theorem test_wit_hello : (port { state := 2 }).frameFault 0 hello0.bytes = none ∧ leAt hello0.bytes 0 1 = 0x12 := by decide +kernel

set_option maxRecDepth 100000 in
theorem test_wit_posting_frame :
    leAt (frameFor 1 0 posting3).bytes 0 1 = 1 ∧ leAt (frameFor 1 0 posting3).bytes ((frameFor 1 0 posting3).bytes.length - 12) 1 ≠ 0x5A ∧ (port { state := 4, resend := true, peer := true }).frameFault 0 (frameFor 1 0 posting3).bytes = none
      ∧ (frameOf (frameFor 1 0 posting3).bytes).lseq = ((port { state := 4 }).port 0).rxNext ∧ (port { state := 3 }).frameFault 0 (frameFor 1 0 posting3).bytes = some 0xB := by decide +kernel

theorem test_wit_frames :
    (port { state := 3, peer := true }).frameFault 0 (frameFor 3 1 (List.replicate 48 0)).bytes = none ∧ (port { state := 3 }).frameFault 0 ({ type := 2, vl := 1, payload := List.replicate 16 0 } : Frame).bytes = none
      ∧ (port { state := 3 }).frameFault 0 ({ type := 0x10, payload := List.replicate 16 0 } : Frame).bytes = none ∧ (port { state := 3 }).frameFault 0 ({ type := 0x11, payload := List.replicate 16 0 } : Frame).bytes = none
      ∧ leAt ({ hello0 with stomp := true } : Frame).bytes (({ hello0 with stomp := true } : Frame).bytes.length - 12) 1 = 0x5A ∧ typeShape 4 = none ∧ frameIntact ({ type := 4 } : Frame).bytes = true := by decide +kernel

theorem test_wit_posting_origin :
    (port {}).owner 3 = some (0, 0) ∧ ((port {}).smap 3).testBit 31 = true ∧ (let k := (port {}).slot 0; k.v = true ∧ k.member = 0 ∧ (port {}).smap 3 / 2 ^ 24 % 16 = 0 ∧ k.dnp = 0)
      ∧ postingOk 3 posting3 = true ∧ leAt posting3 4 4 = 0 ∧ leAt posting3 20 4 = 0 ∧ postingOk 3 (List.replicate 256 0) = false ∧ (0x100 : DWord).toNat % 256 = 0
      ∧ (core0 id).allowed (.bay 0 0) (0x0B003000 + 4 * 3) true = true
      ∧ (let d : Dev := { port { hold := [(frameFor 1 0 posting3, 18)] } with host := { base.host with rings := [(3, { en := true })] } }; (d.port 0).hold = [(frameFor 1 0 posting3, 18)] ∧ d.ringReady 3 = true) := by decide +kernel
/-- The recorder as `f` makes it. -/
def recorder (f : Recorder → Recorder) : Dev := { base with rc := f base.rc }
/-- An entry of the active event table that has counted to 5. -/
def counted5 : EvEntry := { source := 0x6000, kind := 3, sev := 0, count := 5 }

theorem test_wit_events :
    eventListed 0x6000 3 = true ∧ (0x6000 : Nat) / 0x1000 ≠ 4 ∧ eventListed 0x0000 1 = false
      ∧ (let r := (recorder (fun r => { r with a := { events := [counted5] } })).rc; eventIdx r.active.events 0x6000 3 = some 0 ∧ r.candidate { counted5 with count := 6 } = false)
      ∧ eventIdx base.rc.active.events 0x2000 1 = none ∧ base.rc.active.events.length < 512
      ∧ (let r := (recorder (fun r => { r with ctl := 0x0E000E10 })).rc; sevOf 2 1 < r.ctl.toNat / 2 ^ 26 % 4 ∧ r.candidate { source := 0x2000, kind := 1, sev := 1, count := 1 } = false) := by decide

theorem test_wit_recorder :
    base.allowed .pupor 0x0D000000 true = true ∧ base.allowed .pupor 0x0D000038 true = true ∧ base.chSampled 28 = true ∧ base.chSampled 8 = true ∧ base.chSampled 29 = false
      ∧ base.rc.clearing = [] ∧ base.rc.writing = false ∧ base.rc.ctl.toNat % 65536 ≠ 0 ∧ (recorder (fun r => { r with ctl := 0 })).rc.ctl.toNat % 65536 = 0
      ∧ (let r := (recorder (fun r => { r with writing := true, buf := true })).rc; r.writing = true ∧ r.pending = false ∧ r.buf = true) ∧ (recorder (fun r => { r with writing := true, pending := true })).rc.pending = true
      ∧ (0x80000000 : Word).getLsbD 31 = true ∧ (core0 (atLevel 1)).atM (.bay 0 0) = false ∧ (core0 (atLevel 1)).allowed (.bay 0 0) 0x0D000038 true = true
      ∧ (recorder (fun r => { r with clearing := [(1, 2), (4, 3)] })).rc.clearing = (1, 2) :: [(4, 3)] ∧ base.allowed .pupor 0x0D000024 false = true ∧ base.rc.logq = [] := by decide

theorem test_wit_log (x : LogRec) : (recorder (fun r => { r with logq := [x] })).rc.logq = x :: [] := rfl

/-- The mailbox in a state. -/
def mailbox (m : Mbox) (f : Dev → Dev := id) : Dev := f { base with pu := { base.pu with mbox := m } }

theorem test_wit_mailbox :
    base.pu.mbox.state = 0 ∧ (let a : List Byte := [0xC8, 0xFF, 0x07, 0, 56]; a.length = 5 ∧ leAt a 4 1 = 56 ∧ leAt a 0 4 + leAt a 4 1 ≤ 0x80000)
      ∧ base.pdCheck (leAt [63, 0, 0, 0x10] 0 4) = none ∧ base.pdCheck (leAt [0, 0, 0, 0] 0 4) = some 0xB ∧ leAt [95] 0 1 < 96 ∧ leAt [127] 0 1 < 128 ∧ isMirror (leAt [0x10, 0, 0, 0x0F, 0, 0, 0, 0] 0 4) = true
      ∧ ([5] : List Byte).length ≤ 17 ∧ leAt [5] 0 1 < 6 ∧ base.pu.run = none ∧ openFormOk (leAt [3, 5] 0 1) (leAt [3, 5] 1 1) = true ∧ base.pw.imgBusy = false ∧ base.pw.img = none ∧ base.pw.mimg = none
      ∧ (power (fun p => { p with img := some {} })).pw.img ≠ none ∧ (power (fun p => { p with mimg := some {} })).pw.mimg = some {} ∧ (14 : Byte).toNat > 0xD
      ∧ (mailbox { state := 2 }).pu.mbox.state = 2 ∧ (mailbox { state := 2 }).pw.rstWant = false ∧ (mailbox { state := 2 } (fun d => { d with pw := { d.pw with rstWant := true } })).pw.rstWant = true := by decide

/-- Pupor running an extension with these bytes at PC, as `f` makes it. -/
def pupor (bs : List Byte) (f : Pupor → Pupor := id) : Dev :=
  { base with pu := f { run := some 0, pc := 0xE000, stk := 0xF000, ram := bs.zipIdx.map (fun p => (0xE000 + p.2, p.1)) } }

theorem test_wit_pupor_at (i j : Byte) : (pupor [0x75]).puAt [0x75] = true ∧ (pupor [0x40, i]).puAt [0x40, i] = true ∧ (pupor [0x60, i, j]).puAt [0x60, i, j] = true := by
  refine ⟨by decide, ?_, ?_⟩ <;> simp [Dev.puAt, pupor, Pupor.byte, puLimit, Tab.get, Tab.find, List.zipIdx]

theorem test_wit_pupor :
    (0xBFFF < 0xC000 ∨ 0xE000 ≤ 0xBFFF) ∧ ¬ (0xC000 < 0xC000 ∨ 0xE000 ≤ 0xC000) ∧ 0xE000 ≤ (pupor []).pu.stk.toNat ∧ (pupor []).pu.stk.toNat < 0xFFFF ∧ 0xE002 ≤ (pupor []).pu.stk.toNat
      ∧ (pupor []).puPort 0x43 = some 0 ∧ (pupor []).puPort 0x44 = none ∧ (let p := (pupor [] (fun p => { p with acc := 2, da := [(3, 0x1D)] })).pu; p.acc = 2 ∧ p.busy = false ∧ puWriteOk p.devAddr = true) ∧ puWriteOk (pupor []).pu.devAddr = false
      ∧ (pupor [] (fun p => { p with dacc := some (true, 0x1D000000, 5) })).pu.dacc = some (true, 0x1D000000, 5) ∧ base.puFault 0x1D000000 = false ∧ base.puFault 0x1D000001 = true
      ∧ (pupor [] (fun p => { p with waiting := 1 })).pu.waiting = 1 ∧ (pupor []).pu.byMbox = false ∧ puListed 0x4F = false ∧ (pupor [] (fun p => { p with count := 16777216 })).pu.run.isSome = true := by decide

theorem test_wit_lockups :
    (let d := stuck .locked .none; d.coreLocked 0 = true ∧ d.pw.lkctl.toNat.testBit 7 = false ∧ d.pw.lkctl.toNat.testBit 31 = true ∧ (d.lkRec 0).v = false ∧ d.recentLocks 0 < 4)
      ∧ (power (fun p => { p with lkctl := 0 })).pw.lkctl.toNat.testBit 31 = false ∧ (power (fun p => { p with lkctl := 0x80 })).pw.lkctl.toNat.testBit 7 = true ∧ base.pu.run = none := by decide

theorem test_wit_pins :
    (8 : BitVec 4).toNat ≤ 8 ∧ base.chSampled 8 = true ∧ 880 ≤ (880 : Word).toInt ∧ ¬ 880 ≤ (879 : Word).toInt ∧ base.pw.pstate = 2 ∧ State.reset.dev.pw.pstate ≠ 2
      ∧ (let p := (power (fun p => { p with vset := 1045 })).pw; p.pstate = 2 ∧ p.stage = .finished ∧ p.avsFail < 3 ∧ p.vset + 5 ≤ 1050) ∧ 905 ≤ (power (fun p => { p with vset := 905 })).pw.vset
      ∧ (power (fun p => { p with avsFail := 2 })).pw.avsFail + 1 = 3 ∧ 3 ≤ (power (fun p => { p with avsFail := 3 })).pw.avsFail ∧ base.channelUp 11 = true ∧ base.powered 79 = true
      ∧ (∀ o ∈ [0x0D010200, 0x0D000008], base.allowed .pupor o true = true) ∧ (0x0D010200 : BitVec 28).toNat % 4 = 0 ∧ isMirror 0x0D010200 = false ∧ base.allowed .other 0x0D010200 true = false
      ∧ base.allowed .pupor 0x0D000010 false = true ∧ base.allowed .other 0x0D000010 false = false := by decide

theorem test_wit_step : (st base).pending = [] ∧ Powered (st base) ∧ ¬ Powered { dev := { base with pw := { base.pw with pstate := 0 } } } :=
  ⟨rfl, test_base_powered, fun h => h (.inl rfl)⟩

/-- The syllable that never executes: G = 0 and N = 1. -/
def yN : Syl := { core := 0, bay := 0, pos := 0, g := 0, n := true }

theorem test_wit_guard (l : List Instr) : (let s := st (core0 (fun x => { x with bundle := some { pc := 0x1000, len := 1, todo := asDecoded (.add yN 1 2 3) :: l, all := .add yN 1 2 3 :: l } }))
    Powered s ∧ s.dev.issuing 0 0 = true ∧ Settled s.dev 0 0 [] = true ∧ (s.dev.home yN).guard s.dev.free yN = false) ∧ sylInfo (.add yN 1 2 3) = some (opI yN 1) := ⟨⟨test_base_powered, rfl, rfl, rfl⟩, rfl⟩

theorem test_wit_frame : ¬ (((ready (.add y0 1 2 3)).dev.home y0).level = 0 ∧ ((ready (.add y0 1 2 3)).dev.home y0).status.getLsbD 5 = true) ∧ (ready (.add y0 1 2 3)).dev.asker 0 0 = none
    ∧ (∀ e ∈ [Eff.land (.ir 1) 5 1], ∃ r v l, e = .land r v l) ∧ MemCanonical (st base) ∧ ((core0 id).bay 0 0).flight = [] :=
  ⟨by decide, by decide, by simp, rfl, rfl⟩

theorem test_wit_stages_expire :
    ((mirror [(0, { slot0 with limit := 3, age := 2 })]).stageSlot 0).st = 1 ∧ ((mirror [(0, { slot0 with limit := 3, age := 2 })]).stageSlot 0).limit ≤ ((mirror [(0, { slot0 with limit := 3, age := 2 })]).stageSlot 0).age + 1
      ∧ ((.pupor : Agent) ≠ .host 0 ∨ base.windowOpen = true) ∧ ((mirror []).mcsCheck 0 7).isSome = true := by decide

theorem test_wit_boundary : base.boundaryCome 0x0F000000 = true ∧ isRingId 0x0F000000 = false ∧ base.mi.applyQ = [] := by decide

theorem test_wit_values_apply :
    ({ base with mi := { base.mi with applyQ := [0x0F000000] } } : Dev).mi.applyQ.find? (fun j => base.boundaryCome j.toNat) = some 0x0F000000 := by
  simp [test_wit_boundary.1]

theorem test_wit_epoch_sources :
    bits ((epochs (fun x => { x with nxt := 0 })).ep.nxt ||| 0x80000000).toNat 30 28 = 0 ∧ bits ((epochs (fun x => { x with nxt := 0x10000000 })).ep.nxt ||| 0x80000000).toNat 30 28 ≠ 0
      ∧ (epochs (fun x => { x with ctl := 0x80000000 })).ep.ctl.toNat.testBit 31 = true ∧ (0 : Word).toNat.testBit 31 = false
      ∧ (let d := epochs (fun x => { x with due := [3], slots := [(3, { ctl := 0x80000000 })] }); d.ep.due = 3 :: [] ∧ (d.evSlot 3).ctl.toNat.testBit 31 = true) := by decide

theorem test_wit_pair_requests :
    (let d := { domain 63 2 (some (1, 63)) with cores := [] }; let e := d.drainBays 63; ({ e with pw := { e.pw with draining := e.baysLeft 63 } } : Dev).drainDone 63 = true)
      ∧ (let d := ({ domain 0 2 (some (1, 0)) with cores := (buffer 1 (core0 id)).cores } : Dev); let e := d.drainBays 0; ({ e with pw := { e.pw with draining := e.baysLeft 0 } } : Dev).drainDone 0 = false)
      ∧ (domain 91 2 (some (1, 91))).drainDone 91 = true ∧ (domain 63 7 (some (3, 63))).pw.req = some (3, 63) ∧ (domain 63 7 (some (4, 63))).domState 63 = 7
      ∧ ((withRegs [(midPATCHEN, 0x40000000)] (domain 63 5)).inForce midPATCHEN).toNat.testBit 30 = true ∧ ((withRegs [(midPATCHEN, 0)] (domain 63 5)).inForce midPATCHEN).toNat.testBit 30 = false := by decide

theorem test_wit_hot_start : (power (fun p => { p with hotWait := true, temp := [(8, 760)] })).pw.hotWait = true ∧ 760 ≤ Tab.get (power (fun p => { p with hotWait := true, temp := [(8, 760)] })).pw.temp 8 760
    ∧ (power (fun p => { p with stage := .off, hotWait := true, temp := [] })).pw.hotWait = true ∧ 760 ≤ Tab.get (power (fun p => { p with temp := [] })).pw.temp 8 760 := by decide

theorem test_wit_stream_writes :
    (0x00010000 : Word).toNat.testBit 31 ≠ ((stream0 id).stream 0).en ∧ ¬ (0x80010000 : Word).toNat.testBit 31 ≠ ((stream0 id).stream 0).en ∧ (0x80010000 : Word).toNat.testBit 30 = false
      ∧ ((stream0 (fun x => { x with en := false, wrote := true })).stream 0).wrote = true ∧ (stream0 (fun x => { x with stopped := true })).streamState 0 ≠ 1 := by decide

theorem test_wit_queue_stops :
    (((queue { en := true, cur := some { idx := 3 } }).fn 0).sq 0).cur = some { idx := 3 } ∧ ((queue { en := true, cur := some { idx := 3 } }).hostUp 0 = true)
      ∧ (queue { en := true, cur := some { idx := 3 } }).owns 0 0 false = true
      ∧ (let a : Ring := { en := false, count := 0 }; a.en = false ∧ a.count = 0 ∧ (0x80000000 : Word).toNat.testBit 31 ≠ a.en ∧ (7 : Word).toNat.testBit 31 = false) ∧ (inHand true [7]).inHand 0 0 true 7 = some [7]
      ∧ (((inHand true [7]).fn 0).sq 0).mark = none := by decide

/-- An engine whose domain drains. -/
def draining0 : Dev := (running 1).setDom 91 2

theorem test_wit_engine_runs :
    draining0.domState 91 = 2 ∧ (draining0.engine 0).stopped = false ∧ (draining0.chan 0 0).cur.find? (fun t => t.run) = some { data := 1 :: List.replicate 63 0 }
      ∧ 1 ≤ (6 : BitVec 4).toNat ∧ (6 : BitVec 4).toNat ≤ 6 ∧ ¬ (1 ≤ (7 : BitVec 4).toNat ∧ (7 : BitVec 4).toNat ≤ 6)
      ∧ (let x := (chan { state := 1, arm := true }).chan 0 0; x.state ≠ 7 ∧ ∀ r ∈ x.cur, r.run = false) ∧ base.allowed .pupor (0x0A000000 + 0x1000 + 0x40) true = true := by decide

theorem test_wit_host_descriptors :
    (let d := chan { en := true, state := 1, cur := [{ data := 1 :: 0x10 :: List.replicate 62 0 }] }
     (∃ t ∈ descSrc (dmaDesc (1 :: 0x10 :: List.replicate 62 0)) [] ++ descDst (dmaDesc (1 :: 0x10 :: List.replicate 62 0)) [], t.host = true) ∧ d.bound (d.chan 0 0) = false) := by decide

theorem test_wit_descriptor_reads :
    (let d := starting [(0x1001, 1)]; d.poisoned 0x1000 64 = false ∧ ({ d with poison := [0x1000] } : Dev).poisoned 0x1000 64 = true ∧ (d.dmaFault 0 [(false, 0x1000, 64)]) = none)
      ∧ (base.dmaFault 0 [(false, 0x0C000000, 64)]).isSome = true := by decide

theorem test_wit_port_power :
    base.powered 86 = true ∧ (base.setDom 86 0).powered 86 = false ∧ (base.setDom 86 3).powered 86 = true ∧ (port { state := 5 }).powered 86 = true ∧ ((port { state := 5 }).port 0).drain = false
      ∧ (port { state := 3, resend := true, rxNext := 1 }).port 0 = { state := 3, resend := true, rxNext := 1 } := by decide

theorem test_wit_reports :
    ({ source := 0x2000, kind := 2 } : Report).source.toNat * 256 + 2 < 0x6000 * 256 + 1 ∧ eventListed 0x5000 0x22 = true ∧ (recorder (fun r => { r with clearing := [(1, 2)], sealWait := some 3 })).rc.sealWait = some 3
      ∧ (recorder (fun r => { r with clearing := [(1, 2)], sealWait := none })).rc.sealWait = none ∧ (900 : Word).toInt < 880 ∨ 880 ≤ (880 : Word).toInt := by decide

theorem test_wit_sizes :
    (8 : BitVec 4) ≠ 4 ∧ (0x8000000 : BitVec 28).toNat.testBit 27 = true ∧ (0x54 : BitVec 28).toNat.testBit 27 = false ∧ ((fn0 id).fn 0).closed = true ∧ (fn0 id).hostUp 0 = true ∧ isMirror (0x54 : BitVec 28).toNat = false
      ∧ (let p := (power (fun p => { p with boot := 0x80000000 })).pw; p.stage = .finished ∧ p.boot.getLsbD 30 = false) := by decide

theorem test_wit_power_fail_ends :
    (power (fun p => { p with pfail := true, pfDone := true })).pw.pfDone = true ∧ ¬ Powered (st (power (fun p => { p with pfail := true, pfDone := true })))
      ∧ (power (fun p => { p with pfail := true, pfDone := true })).pw.pstate ≠ 0 := by decide

theorem test_wit_frame_domains : (core0 id).domState (0 / 2) ≠ 2 ∧ ((ready (.add y0 1 2 3)).dev.home y0).pri = 0 := by decide

end Sys2Proof.Tests
end

/-! SUPPORT. The canonical form of memory along a step: the reset state has it, every command and the idle step keep it. -/

namespace Sys2Proof.Proofs

open Sys2Proof
open Sys2Proof.Machine
open Sys2Proof.Safety

/-- The safety predicate is the canonical form of the machine's memory, in which the lemmas of the meanings are stated. -/
theorem memCanonical_iff (s : State) : MemCanonical s ↔ s.dev.Canon := Iff.rfl

/-- No byte is listed at reset (log entry 9). -/
theorem reset_mem : State.reset.dev.mem = [] := rfl

/-- A memory that lists nothing is canonical, whatever its unlisted addresses read as. -/
theorem canon_of_mem_nil (d : Dev) (h : d.mem = []) : d.Canon := by
  rw [Dev.Canon, h]
  rfl

theorem memCanonical_reset : MemCanonical State.reset :=
  (memCanonical_iff _).2 (canon_of_mem_nil _ reset_mem)

/-- A millisecond on an empty queue writes no memory. -/
theorem idleStep_canon (s t : State) (h : s.dev.Canon) (ht : idleStep s = .next t) : t.dev.Canon :=
  run_canon s t _ Dev.millisecond_canon h ht

/-- Every command keeps the memory canonical: one case per command, by the lemma of its meaning. -/
theorem exec_canon (c : Instr) (s t : State) (h : s.dev.Canon) (ht : exec c s = .next t) : t.dev.Canon := by
  cases c with
  | bundleFetch core => exact execBundleFetch_canon core s t h ht
  | add y d a b => exact execAdd_canon y d a b s t h ht
  | sub y d a b => exact execSub_canon y d a b s t h ht
  | addv y d a b => exact execAddv_canon y d a b s t h ht
  | subv y d a b => exact execSubv_canon y d a b s t h ht
  | andd y d a b => exact execAndd_canon y d a b s t h ht
  | orr y d a b => exact execOrr_canon y d a b s t h ht
  | xor y d a b => exact execXor_canon y d a b s t h ht
  | andn y d a b => exact execAndn_canon y d a b s t h ht
  | shl y d a b => exact execShl_canon y d a b s t h ht
  | shr y d a b => exact execShr_canon y d a b s t h ht
  | sar y d a b => exact execSar_canon y d a b s t h ht
  | rol y d a b => exact execRol_canon y d a b s t h ht
  | min y d a b => exact execMin_canon y d a b s t h ht
  | max y d a b => exact execMax_canon y d a b s t h ht
  | minu y d a b => exact execMinu_canon y d a b s t h ht
  | maxu y d a b => exact execMaxu_canon y d a b s t h ht
  | neg y d a => exact execNeg_canon y d a s t h ht
  | abs y d a => exact execAbs_canon y d a s t h ht
  | clz y d a => exact execClz_canon y d a s t h ht
  | popc y d a => exact execPopc_canon y d a s t h ht
  | sextb y d a => exact execSextb_canon y d a s t h ht
  | sexth y d a => exact execSexth_canon y d a s t h ht
  | zextb y d a => exact execZextb_canon y d a s t h ht
  | zexth y d a => exact execZexth_canon y d a s t h ht
  | bswap y d a => exact execBswap_canon y d a s t h ht
  | addi y d a imm p => exact execAddi_canon y d a imm p s t h ht
  | andi y d a imm p => exact execAndi_canon y d a imm p s t h ht
  | ori y d a imm p => exact execOri_canon y d a imm p s t h ht
  | xori y d a imm p => exact execXori_canon y d a imm p s t h ht
  | shli y d a count => exact execShli_canon y d a count s t h ht
  | shri y d a count => exact execShri_canon y d a count s t h ht
  | sari y d a count => exact execSari_canon y d a count s t h ht
  | roli y d a count => exact execRoli_canon y d a count s t h ht
  | cmp y qt a b cond mode => exact execCmp_canon y qt a b cond mode s t h ht
  | cmpi y qt a cond mode imm p => exact execCmpi_canon y qt a cond mode imm p s t h ht
  | pand y qd qa qb => exact execPand_canon y qd qa qb s t h ht
  | por y qd qa qb => exact execPor_canon y qd qa qb s t h ht
  | pxor y qd qa qb => exact execPxor_canon y qd qa qb s t h ht
  | pandn y qd qa qb => exact execPandn_canon y qd qa qb s t h ht
  | pnot y qd qa => exact execPnot_canon y qd qa s t h ht
  | movs y r code => exact execMovs_canon y r code s t h ht
  | movf y r code => exact execMovf_canon y r code s t h ht
  | sel y d a b qs => exact execSel_canon y d a b qs s t h ht
  | ldb y d a am low p => exact execLdb_canon y d a am low p s t h ht
  | ldbu y d a am low p => exact execLdbu_canon y d a am low p s t h ht
  | ldh y d a am low p => exact execLdh_canon y d a am low p s t h ht
  | ldhu y d a am low p => exact execLdhu_canon y d a am low p s t h ht
  | ldw y d a am low p => exact execLdw_canon y d a am low p s t h ht
  | stb y d a am low p => exact execStb_canon y d a am low p s t h ht
  | sth y d a am low p => exact execSth_canon y d a am low p s t h ht
  | stw y d a am low p => exact execStw_canon y d a am low p s t h ht
  | swapw y d a b => exact execSwapw_canon y d a b s t h ht
  | casw y d a b => exact execCasw_canon y d a b s t h ht
  | faddw y d a b => exact execFaddw_canon y d a b s t h ht
  | fandw y d a b => exact execFandw_canon y d a b s t h ht
  | forw y d a b => exact execForw_canon y d a b s t h ht
  | mul y d a b => exact execMul_canon y d a b s t h ht
  | mulh y d a b => exact execMulh_canon y d a b s t h ht
  | mulhu y d a b => exact execMulhu_canon y d a b s t h ht
  | mulv y d a b => exact execMulv_canon y d a b s t h ht
  | div y d a b => exact execDiv_canon y d a b s t h ht
  | divu y d a b => exact execDivu_canon y d a b s t h ht
  | rem y d a b => exact execRem_canon y d a b s t h ht
  | remu y d a b => exact execRemu_canon y d a b s t h ht
  | br y disp => exact execBr_canon y disp s t h ht
  | call y disp => exact execCall_canon y disp s t h ht
  | callW y disp => exact execCallW_canon y disp s t h ht
  | bri y a => exact execBri_canon y a s t h ht
  | calli y a => exact execCalli_canon y a s t h ht
  | calliW y a => exact execCalliW_canon y a s t h ht
  | ret y => exact execRet_canon y s t h ht
  | retW y => exact execRetW_canon y s t h ht
  | retl y => exact execRetl_canon y s t h ht
  | db y c disp => exact execDb_canon y c disp s t h ht
  | dblc y disp => exact execDblc_canon y disp s t h ht
  | rep y cr im imm => exact execRep_canon y cr im imm s t h ht
  | mfc y r cnum => exact execMfc_canon y r cnum s t h ht
  | mtc y r cnum => exact execMtc_canon y r cnum s t h ht
  | mtcStatus y r => exact execMtcStatus_canon y r s t h ht
  | mtcTsbp y r => exact execMtcTsbp_canon y r s t h ht
  | mtcAstb y r => exact execMtcAstb_canon y r s t h ht
  | mtcAstag y r m => exact execMtcAstag_canon y r m s t h ht
  | mtcKmask y r => exact execMtcKmask_canon y r s t h ht
  | mtcKpv y r => exact execMtcKpv_canon y r s t h ht
  | mfcKpv y r => exact execMfcKpv_canon y r s t h ht
  | mtcTlock y r => exact execMtcTlock_canon y r s t h ht
  | mtcWinctl y r => exact execMtcWinctl_canon y r s t h ht
  | mtcDecctl y r => exact execMtcDecctl_canon y r s t h ht
  | mfcEtimeL y r => exact execMfcEtimeL_canon y r s t h ht
  | fenceS y => exact execFenceS_canon y s t h ht
  | syncI y => exact execSyncI_canon y s t h ht
  | iflush y a => exact execIflush_canon y a s t h ht
  | syncT y => exact execSyncT_canon y s t h ht
  | tlbiVa y r a g => exact execTlbiVa_canon y r a g s t h ht
  | tlbiTag y a g => exact execTlbiTag_canon y a g s t h ht
  | tlbiAll y g => exact execTlbiAll_canon y g s t h ht
  | tlbiAllk y g => exact execTlbiAllk_canon y g s t h ht
  | tlbInvalidationComplete core bay target => exact execTlbInvalidationComplete_canon core bay target s t h ht
  | brk y => exact execBrk_canon y s t h ht
  | missDataReturn core bay => exact execMissDataReturn_canon core bay s t h ht
  | pageWalk core bay fab => exact execPageWalk_canon core bay fab s t h ht
  | storeBufferDrain core fab => exact execStoreBufferDrain_canon core fab s t h ht
  | dadd y d a b => exact execDadd_canon y d a b s t h ht
  | dsub y d a b => exact execDsub_canon y d a b s t h ht
  | dmul y d a b => exact execDmul_canon y d a b s t h ht
  | ddiv y d a b => exact execDdiv_canon y d a b s t h ht
  | dqua y d a b => exact execDqua_canon y d a b s t h ht
  | drni y d a => exact execDrni_canon y d a s t h ht
  | dneg y d a => exact execDneg_canon y d a s t h ht
  | dabs y d a => exact execDabs_canon y d a s t h ht
  | dcps y d a b => exact execDcps_canon y d a b s t h ht
  | daddX y d a b => exact execDaddX_canon y d a b s t h ht
  | dsubX y d a b => exact execDsubX_canon y d a b s t h ht
  | dmulX y d a b => exact execDmulX_canon y d a b s t h ht
  | ddivX y d a b => exact execDdivX_canon y d a b s t h ht
  | dquaX y d a b => exact execDquaX_canon y d a b s t h ht
  | drniX y d a => exact execDrniX_canon y d a s t h ht
  | dnegX y d a => exact execDnegX_canon y d a s t h ht
  | dabsX y d a => exact execDabsX_canon y d a s t h ht
  | dcpsX y d a b => exact execDcpsX_canon y d a b s t h ht
  | cvtX y d a => exact execCvtX_canon y d a s t h ht
  | cvtD y d a => exact execCvtD_canon y d a s t h ht
  | cvid y d a => exact execCvid_canon y d a s t h ht
  | cvdi y d a => exact execCvdi_canon y d a s t h ht
  | cvpd y d a n => exact execCvpd_canon y d a n s t h ht
  | cvpx y d a n => exact execCvpx_canon y d a n s t h ht
  | cvdp y d a n => exact execCvdp_canon y d a n s t h ht
  | cvxp y d a n => exact execCvxp_canon y d a n s t h ht
  | padd y d a b => exact execPadd_canon y d a b s t h ht
  | psub y d a b => exact execPsub_canon y d a b s t h ht
  | pshl y d a n => exact execPshl_canon y d a n s t h ht
  | pshr y d a n => exact execPshr_canon y d a n s t h ht
  | pchk y d a => exact execPchk_canon y d a s t h ht
  | dcmp y qt sg a b cond w => exact execDcmp_canon y qt sg a b cond w s t h ht
  | pcmp y qt a b cond => exact execPcmp_canon y qt a b cond s t h ht
  | ldd y d a disp p => exact execLdd_canon y d a disp p s t h ht
  | lddX y d a disp p => exact execLddX_canon y d a disp p s t h ht
  | std y d a disp p => exact execStd_canon y d a disp p s t h ht
  | stdX y d a disp p => exact execStdX_canon y d a disp p s t h ht
  | ldp y d a len => exact execLdp_canon y d a len s t h ht
  | stp y d a len => exact execStp_canon y d a len s t h ht
  | ldz y d a len => exact execLdz_canon y d a len s t h ht
  | stz y d a len => exact execStz_canon y d a len s t h ht
  | macsD y k a b c => exact execMacsD_canon y k a b c s t h ht
  | macuD y k a b c => exact execMacuD_canon y k a b c s t h ht
  | macsB y k a b c => exact execMacsB_canon y k a b c s t h ht
  | macuB y k a b c => exact execMacuB_canon y k a b c s t h ht
  | streamElement core bay => exact execStreamElement_canon core bay s t h ht
  | mvs y a => exact execMvs_canon y a s t h ht
  | trs y a => exact execTrs_canon y a s t h ht
  | cms y d a qt => exact execCms_canon y d a qt s t h ht
  | scn y d a qt => exact execScn_canon y d a qt s t h ht
  | scne y d a qt => exact execScne_canon y d a qt s t h ht
  | edit y d a qt => exact execEdit_canon y d a qt s t h ht
  | stringStep core bay chk => exact execStringStep_canon core bay chk s t h ht
  | editStep core bay chk => exact execEditStep_canon core bay chk s t h ht
  | japp y d a b => exact execJapp_canon y d a b s t h ht
  | jwait y a b => exact execJwait_canon y a b s t h ht
  | jdur y d b => exact execJdur_canon y d b s t h ht
  | jrel y a b => exact execJrel_canon y a b s t h ht
  | journalQueueSpace => exact execJournalQueueSpace_canon s t h ht
  | recordDurable stream => exact execRecordDurable_canon stream s t h ht
  | jsCtlWrite who stream value => exact execJsCtlWrite_canon who stream value s t h ht
  | jsCtlReopen who stream => exact execJsCtlReopen_canon who stream s t h ht
  | digestSeal stream => exact execDigestSeal_canon stream s t h ht
  | digestCompare stream bridge origin => exact execDigestCompare_canon stream bridge origin s t h ht
  | digestWaitExpiry stream => exact execDigestWaitExpiry_canon stream s t h ht
  | tickIn epochIn => exact execTickIn_canon epochIn s t h ht
  | epochSourceLoss altLive => exact execEpochSourceLoss_canon altLive s t h ht
  | epctlWrite who value => exact execEpctlWrite_canon who value s t h ht
  | esCtlWrite who slot value => exact execEsCtlWrite_canon who slot value s t h ht
  | eventSlotFire => exact execEventSlotFire_canon s t h ht
  | powerFail => exact execPowerFail_canon s t h ht
  | powerFailSequenceEnd => exact execPowerFailSequenceEnd_canon s t h ht
  | recoveryScanEnd => exact execRecoveryScanEnd_canon s t h ht
  | tevict y bay => exact execTevict_canon y bay s t h ht
  | tevictComplete core bay fab => exact execTevictComplete_canon core bay fab s t h ht
  | tload y bay a => exact execTload_canon y bay a s t h ht
  | tloadComplete core bay fab => exact execTloadComplete_canon core bay fab s t h ht
  | waitt y => exact execWaitt_canon y s t h ht
  | yield y => exact execYield_canon y s t h ht
  | signal y a imm => exact execSignal_canon y a imm s t h ht
  | scall y n => exact execScall_canon y n s t h ht
  | fret y => exact execFret_canon y s t h ht
  | gcall y n => exact execGcall_canon y n s t h ht
  | gret y => exact execGret_canon y s t h ht
  | sret y => exact execSret_canon y s t h ht
  | mret y => exact execMret_canon y s t h ht
  | exceptionEntry core bay fab => exact execExceptionEntry_canon core bay fab s t h ht
  | windowSpill core bay fab => exact execWindowSpill_canon core bay fab s t h ht
  | windowFill core bay fab => exact execWindowFill_canon core bay fab s t h ht
  | schedulerSelect core => exact execSchedulerSelect_canon core s t h ht
  | preemption core => exact execPreemption_canon core s t h ht
  | quantumExpiry core => exact execQuantumExpiry_canon core s t h ht
  | automaticLoad core => exact execAutomaticLoad_canon core s t h ht
  | mirrorStage who id value => exact execMirrorStage_canon who id value s t h ht
  | mcsCountersign org slot ticket => exact execMcsCountersign_canon org slot ticket s t h ht
  | mcsReject org slot ticket => exact execMcsReject_canon org slot ticket s t h ht
  | mcsGroupCountersign org => exact execMcsGroupCountersign_canon org s t h ht
  | stageExpiry slot => exact execStageExpiry_canon slot s t h ht
  | committedValueApplied => exact execCommittedValueApplied_canon s t h ht
  | faccWrite fn n value => exact execFaccWrite_canon fn n value s t h ht
  | featCtlClose fn => exact execFeatCtlClose_canon fn s t h ht
  | eprElRead fn => exact execEprElRead_canon fn s t h ht
  | mwinDataWrite fn value => exact execMwinDataWrite_canon fn value s t h ht
  | vfqWrite who fn cq value => exact execVfqWrite_canon who fn cq value s t h ht
  | vfEnable value => exact execVfEnable_canon value s t h ht
  | queueRegWrite fn off value => exact execQueueRegWrite_canon fn off value s t h ht
  | sqEnable fn q => exact execSqEnable_canon fn q s t h ht
  | sqDisable fn q => exact execSqDisable_canon fn q s t h ht
  | cqEnable fn q => exact execCqEnable_canon fn q s t h ht
  | cqDisable fn q => exact execCqDisable_canon fn q s t h ht
  | sqTailDoorbell fn q value => exact execSqTailDoorbell_canon fn q value s t h ht
  | cqHeadDoorbell fn q value => exact execCqHeadDoorbell_canon fn q value s t h ht
  | submissionFetch entry => exact execSubmissionFetch_canon entry s t h ht
  | post fn q => exact execPost_canon fn q s t h ht
  | mark fn q => exact execMark_canon fn q s t h ht
  | markComplete fn q => exact execMarkComplete_canon fn q s t h ht
  | nop fn q => exact execNop_canon fn q s t h ht
  | jstat fn q => exact execJstat_canon fn q s t h ht
  | qstat fn q => exact execQstat_canon fn q s t h ht
  | msg fn q => exact execMsg_canon fn q s t h ht
  | rread fn q => exact execRread_canon fn q s t h ht
  | rsnap fn q => exact execRsnap_canon fn q s t h ht
  | rclr fn q => exact execRclr_canon fn q s t h ht
  | inRingConfigWrite who ring ctl value => exact execInRingConfigWrite_canon who ring ctl value s t h ht
  | inCplWrite who ring value => exact execInCplWrite_canon who ring value s t h ht
  | inHeadWrite who ring value => exact execInHeadWrite_canon who ring value s t h ht
  | cqModTimerExpiry fn q => exact execCqModTimerExpiry_canon fn q s t h ht
  | functionLevelResetVf fn => exact execFunctionLevelResetVf_canon fn s t h ht
  | functionLevelResetPf => exact execFunctionLevelResetPf_canon s t h ht
  | dmaTailDoorbell who e c value => exact execDmaTailDoorbell_canon who e c value s t h ht
  | dmaCheadWrite who e c value => exact execDmaCheadWrite_canon who e c value s t h ht
  | dmaRingConfigWrite who e c off value => exact execDmaRingConfigWrite_canon who e c off value s t h ht
  | dmaChannelEnable who e c => exact execDmaChannelEnable_canon who e c s t h ht
  | dmaStopRequest who e c => exact execDmaStopRequest_canon who e c s t h ht
  | chAuthWrite who e c value => exact execChAuthWrite_canon who e c value s t h ht
  | chTrigWrite who e c value => exact execChTrigWrite_canon who e c value s t h ht
  | chShctlArm who e c => exact execChShctlArm_canon who e c s t h ht
  | shadowSwap e c late => exact execShadowSwap_canon e c late s t h ht
  | descriptorStart e => exact execDescriptorStart_canon e s t h ht
  | dmaNop e c hostData fault => exact execDmaNop_canon e c hostData fault s t h ht
  | copy e c hostData fault => exact execCopy_canon e c hostData fault s t h ht
  | fill e c hostData fault => exact execFill_canon e c hostData fault s t h ht
  | convert e c hostData fault => exact execConvert_canon e c hostData fault s t h ht
  | prism e c hostData fault => exact execPrism_canon e c hostData fault s t h ht
  | prismr e c hostData fault => exact execPrismr_canon e c hostData fault s t h ht
  | jexport e c hostData fault => exact execJexport_canon e c hostData fault s t h ht
  | dmaCompletionRecord e c => exact execDmaCompletionRecord_canon e c s t h ht
  | dmaBusError e kind addr => exact execDmaBusError_canon e kind addr s t h ht
  | deRestart who e => exact execDeRestart_canon who e s t h ht
  | portEnable who port => exact execPortEnable_canon who port s t h ht
  | linkTrainingComplete port hello => exact execLinkTrainingComplete_canon port hello s t h ht
  | linkRetrain port => exact execLinkRetrain_canon port s t h ht
  | posting port frame => exact execPosting_canon port frame s t h ht
  | markFrame port frame => exact execMarkFrame_canon port frame s t h ht
  | digest port frame => exact execDigest_canon port frame s t h ht
  | ack port frame => exact execAck_canon port frame s t h ht
  | nak port frame => exact execNak_canon port frame s t h ht
  | hello port frame => exact execHello_canon port frame s t h ht
  | ackTimer port => exact execAckTimer_canon port s t h ht
  | xmSend who stream addr => exact execXmSend_canon who stream addr s t h ht
  | heldPostingDelivery port => exact execHeldPostingDelivery_canon port s t h ht
  | malfWindowEnd => exact execMalfWindowEnd_canon s t h ht
  | portDrain who port => exact execPortDrain_canon who port s t h ht
  | portDrained port => exact execPortDrained_canon port s t h ht
  | eventRecorded source kind detail => exact execEventRecorded_canon source kind detail s t h ht
  | rcCtlSnap who => exact execRcCtlSnap_canon who s t h ht
  | snapshotPeriodExpiry => exact execSnapshotPeriodExpiry_canon s t h ht
  | snapshotWriteEnd => exact execSnapshotWriteEnd_canon s t h ht
  | measurementSample ch value => exact execMeasurementSample_canon ch value s t h ht
  | rcCtlWrite who value => exact execRcCtlWrite_canon who value s t h ht
  | recorderClear who value => exact execRecorderClear_canon who value s t h ht
  | recorderClearEnd => exact execRecorderClearEnd_canon s t h ht
  | optSave => exact execOptSave_canon s t h ht
  | rcOptLRead who => exact execRcOptLRead_canon who s t h ht
  | drain who dom => exact execDrain_canon who dom s t h ht
  | drainComplete dom => exact execDrainComplete_canon dom s t h ht
  | drainTimeout dom => exact execDrainTimeout_canon dom s t h ht
  | cancel who dom => exact execCancel_canon who dom s t h ht
  | test who dom => exact execTest_canon who dom s t h ht
  | selfTestEnd dom pass => exact execSelfTestEnd_canon dom pass s t h ht
  | repatch who dom => exact execRepatch_canon who dom s t h ht
  | repatchEnd dom => exact execRepatchEnd_canon dom s t h ht
  | offf who dom => exact execOfff_canon who dom s t h ht
  | onn who dom => exact execOnn_canon who dom s t h ht
  | powerOnEnd dom => exact execPowerOnEnd_canon dom s t h ht
  | returnn who dom => exact execReturnn_canon who dom s t h ht
  | returnEnd dom => exact execReturnEnd_canon dom s t h ht
  | recover who core => exact execRecover_canon who core s t h ht
  | lockupAutoRecover core => exact execLockupAutoRecover_canon core s t h ht
  | powerOnReset => exact execPowerOnReset_canon s t h ht
  | deviceReset => exact execDeviceReset_canon s t h ht
  | startup => exact execStartup_canon s t h ht
  | bootDone => exact execBootDone_canon s t h ht
  | bootTimeout => exact execBootTimeout_canon s t h ht
  | memilWrite who value => exact execMemilWrite_canon who value s t h ht
  | imgOpen who value => exact execImgOpen_canon who value s t h ht
  | imgDataWrite who value => exact execImgDataWrite_canon who value s t h ht
  | imgClose who => exact execImgClose_canon who s t h ht
  | imgAbandon who => exact execImgAbandon_canon who s t h ht
  | status tag args => exact execStatus_canon tag args s t h ht
  | rrec tag args => exact execRrec_canon tag args s t h ht
  | pdreq tag args => exact execPdreq_canon tag args s t h ht
  | pdstat tag args => exact execPdstat_canon tag args s t h ht
  | lkrec tag args => exact execLkrec_canon tag args s t h ht
  | stage tag args => exact execStage_canon tag args s t h ht
  | csign tag args => exact execCsign_canon tag args s t h ht
  | runext tag args => exact execRunext_canon tag args s t h ht
  | imgopen tag args => exact execImgopen_canon tag args s t h ht
  | imgdata tag args => exact execImgdata_canon tag args s t h ht
  | imgclose tag args => exact execImgclose_canon tag args s t h ht
  | smbusRclr tag args => exact execSmbusRclr_canon tag args s t h ht
  | devrst tag args => exact execDevrst_canon tag args s t h ht
  | smbusTimeout => exact execSmbusTimeout_canon s t h ht
  | puporLdImm im => exact execPuporLdImm_canon im s t h ht
  | puporLdAbs a => exact execPuporLdAbs_canon a s t h ht
  | puporLdJ disp => exact execPuporLdJ_canon disp s t h ht
  | puporLdK => exact execPuporLdK_canon s t h ht
  | puporStAbs a => exact execPuporStAbs_canon a s t h ht
  | puporStJ disp => exact execPuporStJ_canon disp s t h ht
  | puporStK => exact execPuporStK_canon s t h ht
  | puporLdjImm a => exact execPuporLdjImm_canon a s t h ht
  | puporLdkImm a => exact execPuporLdkImm_canon a s t h ht
  | puporLdjAbs a => exact execPuporLdjAbs_canon a s t h ht
  | puporStj a => exact execPuporStj_canon a s t h ht
  | puporSwjk => exact execPuporSwjk_canon s t h ht
  | puporAdj => exact execPuporAdj_canon s t h ht
  | puporMovCntAcc => exact execPuporMovCntAcc_canon s t h ht
  | puporMovAccCnt => exact execPuporMovAccCnt_canon s t h ht
  | puporAddImm im => exact execPuporAddImm_canon im s t h ht
  | puporAddAbs a => exact execPuporAddAbs_canon a s t h ht
  | puporAddc a => exact execPuporAddc_canon a s t h ht
  | puporSubImm im => exact execPuporSubImm_canon im s t h ht
  | puporSubAbs a => exact execPuporSubAbs_canon a s t h ht
  | puporSubc a => exact execPuporSubc_canon a s t h ht
  | puporAnd im => exact execPuporAnd_canon im s t h ht
  | puporIor im => exact execPuporIor_canon im s t h ht
  | puporXor im => exact execPuporXor_canon im s t h ht
  | puporCmpImm im => exact execPuporCmpImm_canon im s t h ht
  | puporCmpAbs a => exact execPuporCmpAbs_canon a s t h ht
  | puporShl => exact execPuporShl_canon s t h ht
  | puporShr => exact execPuporShr_canon s t h ht
  | puporInc => exact execPuporInc_canon s t h ht
  | puporDec => exact execPuporDec_canon s t h ht
  | puporJmp a => exact execPuporJmp_canon a s t h ht
  | puporCall a => exact execPuporCall_canon a s t h ht
  | puporRet => exact execPuporRet_canon s t h ht
  | puporJz r => exact execPuporJz_canon r s t h ht
  | puporJnz r => exact execPuporJnz_canon r s t h ht
  | puporJc r => exact execPuporJc_canon r s t h ht
  | puporJnc r => exact execPuporJnc_canon r s t h ht
  | puporJs r => exact execPuporJs_canon r s t h ht
  | puporLoop r => exact execPuporLoop_canon r s t h ht
  | puporPush => exact execPuporPush_canon s t h ht
  | puporPop => exact execPuporPop_canon s t h ht
  | puporIn p => exact execPuporIn_canon p s t h ht
  | puporOut p => exact execPuporOut_canon p s t h ht
  | puporDeviceRead => exact execPuporDeviceRead_canon s t h ht
  | puporDeviceWrite => exact execPuporDeviceWrite_canon s t h ht
  | puporDeviceAccessEnd err => exact execPuporDeviceAccessEnd_canon err s t h ht
  | puporSysWait im => exact execPuporSysWait_canon im s t h ht
  | puporSysWaitEnd => exact execPuporSysWaitEnd_canon s t h ht
  | puporIdle => exact execPuporIdle_canon s t h ht
  | puporIdleWake => exact execPuporIdleWake_canon s t h ht
  | puporStop => exact execPuporStop_canon s t h ht
  | puporNop => exact execPuporNop_canon s t h ht
  | extensionInstructionLimit => exact execExtensionInstructionLimit_canon s t h ht
  | thermtrip sensor value => exact execThermtrip_canon sensor value s t h ht
  | railExcursion rail => exact execRailExcursion_canon rail s t h ht
  | vsetStep up acked => exact execVsetStep_canon up acked s t h ht
  | avsRetry acked => exact execAvsRetry_canon acked s t h ht
  | refclkLoss => exact execRefclkLoss_canon s t h ht
  | ddrRefresh ch rank => exact execDdrRefresh_canon ch rank s t h ht
  | ddrZqCalibration ch => exact execDdrZqCalibration_canon ch s t h ht
  | ddrPhyTracking ch => exact execDdrPhyTracking_canon ch s t h ht
  | loamScrub bank word err => exact execLoamScrub_canon bank word err s t h ht
  | registerWrite who addr value => exact execRegisterWrite_canon who addr value s t h ht
  | readClearRegister who addr => exact execReadClearRegister_canon who addr s t h ht
  | vddAonRemoved => exact execVddAonRemoved_canon s t h ht
  | logRecordDurable => exact execLogRecordDurable_canon s t h ht
  | imageCloseChecksEnd => exact execImageCloseChecksEnd_canon s t h ht
  | coreRelease => exact execCoreRelease_canon s t h ht
  | reservedTypeFrame port frame => exact execReservedTypeFrame_canon port frame s t h ht
  | puporReservedOpcode op => exact execPuporReservedOpcode_canon op s t h ht
  | mailboxBadreq tag opcode => exact execMailboxBadreq_canon tag opcode s t h ht
  | mailboxResponseRead => exact execMailboxResponseRead_canon s t h ht
  | pdReqMalformed who value => exact execPdReqMalformed_canon who value s t h ht
  | msixUnmask fn vec => exact execMsixUnmask_canon fn vec s t h ht

/-- Every step keeps the memory canonical: taking the front command off the queue leaves the machine as it was. -/
theorem step_canon (s t : State) (h : s.dev.Canon) (ht : step s = .next t) : t.dev.Canon := by
  unfold step at ht
  split at ht
  case h_1 => exact idleStep_canon s t h ht
  case h_2 c rest _ => exact exec_canon c { s with pending := rest } t h ht

/-- Settles O56: with no command in front a millisecond passes, and each command's meaning keeps the canonical form. -/
theorem stepKeepsMemoryCanonical : Obligations.StepKeepsMemoryCanonical := by
  unfold Obligations.StepKeepsMemoryCanonical
  intro s t h ht
  exact (memCanonical_iff t).2 (step_canon s t ((memCanonical_iff s).1 h) ht)

/-- Settles O57: reset lists no byte, and a power-on reset is a command like any other. -/
theorem resetMemoryCanonical : Obligations.ResetMemoryCanonical := by
  unfold Obligations.ResetMemoryCanonical
  refine ⟨memCanonical_reset, fun s t h ht => ?_⟩
  exact (memCanonical_iff t).2 (exec_canon .powerOnReset s t ((memCanonical_iff s).1 h) ht)

end Sys2Proof.Proofs

/-! SUPPORT. The host's set-up commands: each operation's branches under the conditions that choose them, and the state the command answers. -/

namespace Sys2Proof.Proofs

open Sys2Proof
open Sys2Proof.Machine
open Sys2Proof.Safety

/-! ## Commands of the host -/

/-- A command that runs a change of the machine makes it on a powered device. -/
theorem becomes_of_run {c : Instr} {s : State} {g : Dev → Dev} {d : Dev} (hc : exec c s = .next (s.run g)) (hd : g s.dev = d) : Becomes c s d := by
  intro hp
  rw [hc, State.run_on s g hp, hd]

theorem byHost_up {d : Dev} {f : Nat} (act : Dev → Dev) (h : d.hostUp f = true) : d.byHost f act = act d := if_pos h

theorem byHost_of_fixed {d : Dev} {f : Nat} {act : Dev → Dev} (h : act d = d) : d.byHost f act = d := by
  rw [Dev.byHost, h, ite_self]

/-- A command of the host acts where the host reaches the function. -/
theorem becomes_of_byHost {c : Instr} {s : State} {f : Nat} {act : Dev → Dev} {d : Dev} (hc : exec c s = .next (s.run (fun e => e.byHost f act)))
    (hup : s.dev.hostUp f = true) (hd : act s.dev = d) : Becomes c s d :=
  becomes_of_run hc ((byHost_up act hup).trans hd)

/-! ## Negotiation (R24, R25, R376) -/

theorem writeFacc_open {d : Dev} {f : Nat} (h : (d.fn f).closed = false) (n : Nat) (v : DWord) :
    d.writeFacc f n v = d.setFn f { d.fn f with facc := Tab.set (d.fn f).facc n (v &&& d.feat f n) } := by
  simp [Dev.writeFacc, h]

theorem writeFacc_closed {d : Dev} {f : Nat} (h : (d.fn f).closed = true) (n : Nat) (v : DWord) : d.writeFacc f n v = d := by
  simp [Dev.writeFacc, h]

theorem closeFeat_finished {d : Dev} (h : d.pw.stage = .finished) (f : Nat) : d.closeFeat f = d.setFn f { d.fn f with closed := true } := if_pos h

theorem closeFeat_starting {d : Dev} (h : d.pw.stage ≠ .finished) (f : Nat) : d.closeFeat f = d := if_neg h

/-! ## Epoch words and the Mirror window (R282, R285) -/

theorem bits_eq_div_mod (x hi lo : Nat) : bits x hi lo = x / 2 ^ lo % 2 ^ (hi + 1 - lo) := by
  rw [bits, Nat.shiftRight_eq_div_pow]

theorem bits_zero (x hi : Nat) : bits x hi 0 = x % 2 ^ (hi + 1) := by
  rw [bits_eq_div_mod, pow_zero, Nat.div_one, Nat.sub_zero]

theorem becomes_eprElRead {s : State} {fn : FnNo} (hup : s.dev.hostUp fn.toNat = true) (hacc : (s.dev.fn fn.toNat).has 14 = true) :
    let latched := s.dev.setFn fn.toNat { s.dev.fn fn.toNat with epH := BitVec.ofNat 32 (bits s.dev.ep.epoch 47 32), epT := BitVec.ofNat 32 s.dev.ep.tick }
    Becomes (.eprElRead fn) s { latched with host := { latched.host with out := s.dev.host.out ++ [.rdata fn.toNat (BitVec.ofNat 32 s.dev.ep.epoch)] } } :=
  becomes_of_byHost rfl hup (if_pos hacc)

theorem writeMwin_mirror {d : Dev} (hacc : (d.fn 0).has 8 = true) (hid : isMirror d.host.mwin.toNat = true) (v : Word) :
    d.writeMwin v = d.mirrorWrite (.host 0) d.host.mwin.toNat v := by
  simp [Dev.writeMwin, hacc, hid]

theorem writeMwin_unknown {d : Dev} (hacc : (d.fn 0).has 8 = true) (hid : isMirror d.host.mwin.toNat = false) (v : Word) : d.writeMwin v = d.cfgErr 0 := by
  simp [Dev.writeMwin, hacc, hid]

/-! ## Queue ranges and VF Enable (R286, R304) -/

theorem writeVfq_vf_disabled {d : Dev} {f : Nat} (hacc : (d.fn 0).has 9 = true) (hf : f ≠ 0) (hvf : d.host.vfEn = false) (cq : Bool) (v : Nat) :
    d.writeVfq 0 f cq v = d.setFn f ((d.fn f).setRange cq (BitVec.ofNat 32 (Nat.min 256 (bits v 24 16) * 65536 + bits v 9 0))) := by
  simp [Dev.writeVfq, hacc, hf, hvf]

theorem writeVfq_vf_enabled {d : Dev} {f : Nat} (hacc : (d.fn 0).has 9 = true) (hf : f ≠ 0) (hvf : d.host.vfEn = true) (cq : Bool) (v : Nat) :
    d.writeVfq 0 f cq v = d.cfgErr 0 := by
  simp [Dev.writeVfq, hacc, hf, hvf]

theorem setVfEn_set {d : Dev} (h : d.host.vfEn = false) :
    d.setVfEn true = (let e := (rangeFrom 1 63).foldl (fun (e : Dev) g => (e.checkRange g false).checkRange g true) d; { e with host := { e.host with vfEn := true } }) := by
  simp only [Dev.setVfEn, h, if_true, Bool.false_eq_true, if_false]

theorem setVfEn_clear {d : Dev} (h : d.host.vfEn = true) :
    d.setVfEn false = (let e := (rangeFrom 1 63).foldl (fun (e : Dev) g => e.resetFn g) d; { e with host := { e.host with vfEn := false } }) := by
  simp only [Dev.setVfEn, h, if_true, Bool.false_eq_true, if_false]

theorem setVfEn_false_vfEn (d : Dev) : (d.setVfEn false).host.vfEn = false := by
  cases h : d.host.vfEn with
  | true => rw [setVfEn_clear h]
  | false => simp [Dev.setVfEn, h]

/-! ## Queue registers (R287, R288) -/

/-- The registers of submission queue `q` start at 0x1000 + 0x20 × q (Table 9.2). -/
theorem writeQueueReg_sq {q r : Nat} (hq : q < 256) (hr : r < 32) (d : Dev) (f v : Nat) : d.writeQueueReg f (0x1000 + 32 * q + r) v = d.writeSq f q r v := by
  have hin : 0x1000 ≤ 0x1000 + 32 * q + r ∧ 0x1000 + 32 * q + r < 0x3000 := by omega
  have hnum : (0x1000 + 32 * q + r - 0x1000) / 0x20 = q := by omega
  have hreg : (0x1000 + 32 * q + r) % 0x20 = r := by omega
  rw [Dev.writeQueueReg, if_pos hin, hnum, hreg]

/-- The registers of completion queue `q` start at 0x3000 + 0x20 × q (Table 9.2). -/
theorem writeQueueReg_cq {q r : Nat} (hq : q < 256) (hr : r < 32) (d : Dev) (f v : Nat) : d.writeQueueReg f (0x3000 + 32 * q + r) v = d.writeCq f q r v := by
  have hsq : ¬ (0x1000 ≤ 0x3000 + 32 * q + r ∧ 0x3000 + 32 * q + r < 0x3000) := by omega
  have hin : 0x3000 ≤ 0x3000 + 32 * q + r ∧ 0x3000 + 32 * q + r < 0x5000 := by omega
  have hnum : (0x3000 + 32 * q + r - 0x3000) / 0x20 = q := by omega
  have hreg : (0x3000 + 32 * q + r) % 0x20 = r := by omega
  rw [Dev.writeQueueReg, if_neg hsq, if_pos hin, hnum, hreg]

/-- SQ_SIZE lies at 0x0C of its queue's registers, and its offset fits 16 bits. -/
theorem writeQueueReg_sqSize {q : Nat} (hq : q < 256) (d : Dev) (f v : Nat) :
    d.writeQueueReg f (BitVec.ofNat 16 (0x100C + 32 * q)).toNat v = d.writeSq f q 0x0C v := by
  have hoff : (BitVec.ofNat 16 (0x100C + 32 * q)).toNat = 0x1000 + 32 * q + 0x0C := by rw [BitVec.toNat_ofNat]; omega
  rw [hoff, writeQueueReg_sq hq (by decide)]

/-- The high word of a completion queue's base lies at 0x04 of its registers, and its offset fits 16 bits. -/
theorem writeQueueReg_cqBaseHigh {q : Nat} (hq : q < 256) (d : Dev) (f v : Nat) :
    d.writeQueueReg f (BitVec.ofNat 16 (0x3004 + 32 * q)).toNat v = d.writeCq f q 0x04 v := by
  have hoff : (BitVec.ofNat 16 (0x3004 + 32 * q)).toNat = 0x3000 + 32 * q + 0x04 := by rw [BitVec.toNat_ofNat]; omega
  rw [hoff, writeQueueReg_cq hq (by decide)]

theorem writeSq_size_disabled {d : Dev} {f q : Nat} (hown : d.owns f q false = true) (hen : ((d.fn f).sq q).en = false) (v : Nat) :
    d.writeSq f q 0x0C v = d.setSq f q { (d.fn f).sq q with size := (d.fn f).qSize v } := by
  simp [Dev.writeSq, hown, hen]

theorem writeSq_size_enabled {d : Dev} {f q : Nat} (hown : d.owns f q false = true) (hen : ((d.fn f).sq q).en = true) (v : Nat) :
    d.writeSq f q 0x0C v = d.cfgErr f := by
  simp [Dev.writeSq, hown, hen]

theorem writeCq_baseHigh_disabled {d : Dev} {f q : Nat} (hown : d.owns f q true = true) (hen : ((d.fn f).cq q).en = false) (v : Nat) :
    d.writeCq f q 0x04 v = d.setCq f q { (d.fn f).cq q with base := baseWord ((d.fn f).cq q).base true v } := by
  simp [Dev.writeCq, hown, hen]

/-! ## Unmasking (R300) -/

@[simp] theorem fn_setFn_self (d : Dev) (f : Nat) (x : Fn) : (d.setFn f x).fn f = x := by
  simp [Dev.fn]

/-- The message of an unmasked vector is sent at once. -/
theorem message_unmasked {d : Dev} {f v : Nat} (h : (Tab.get (d.fn f).msix v {}).mask = false) :
    let m := Tab.get (d.fn f).msix v {}
    d.message f v = { d with host := { d.host with out := d.host.out ++ [.msix f v m.addr m.data] } } :=
  if_neg (Bool.eq_false_iff.1 h)

/-- A masked vector unmasked sends the message its pending bit holds. -/
theorem unmask_masked {d : Dev} {f v : Nat} (hv : v < if f = 0 then 65 else 17) (hmask : (Tab.get (d.fn f).msix v {}).mask = true) :
    let m := Tab.get (d.fn f).msix v {}
    let e := d.setFn f { d.fn f with msix := Tab.set (d.fn f).msix v { m with mask := false, pend := false } }
    d.unmask f v = if m.pend = true then { e with host := { e.host with out := d.host.out ++ [.msix f v m.addr m.data] } } else e := by
  intro m e
  have hentry : Tab.get (e.fn f).msix v {} = { m with mask := false, pend := false } := by simp [e]
  have hsend : e.message f v = { e with host := { e.host with out := d.host.out ++ [.msix f v m.addr m.data] } } := by
    rw [message_unmasked (by rw [hentry]), hentry]
    rfl
  rw [← hsend]
  simp only [Dev.unmask, if_neg (Nat.not_le.2 hv), hmask, and_true, m, e]

/-! ## Function-level resets (R303, R304) -/

theorem flrVf_vf {d : Dev} {f : Nat} (hf : f ≠ 0) (hvf : d.host.vfEn = true) : d.flrVf f = d.resetFn f := if_pos ⟨hf, hvf⟩

/-- The host block under a loop whose turns leave it alone. -/
theorem foldl_host {α : Type} (g : Dev → α → Dev) (hg : ∀ d a, (g d a).host = d.host) (as : List α) (d : Dev) : (as.foldl g d).host = d.host := by
  induction as generalizing d with
  | nil => rfl
  | cons a as ih => rw [List.foldl_cons, ih, hg]

/-- The reset of the PF leaves the window closed and the VFs disabled: rejecting the stages of the host moves nothing of the host's. -/
theorem flrPf_host (d : Dev) : d.flrPf.host.mwin = 0 ∧ d.flrPf.host.vfEn = false := by
  unfold Dev.flrPf
  rw [foldl_host]
  · dsimp only
    exact ⟨rfl, setVfEn_false_vfEn (d.resetFn 0)⟩
  · intro e i
    dsimp only
    split
    · exact Dev.setStage_host e i _
    · rfl

/-! ## The commands -/

/-- Settles O43: each command runs its operation where the host reaches the function, and the operation takes the branch its conditions name. -/
theorem hostSetUp : Obligations.HostSetUp := by
  unfold Obligations.HostSetUp
  intro s fn n w v cq q vec D f x here pf has m open_ latched range sizeTo at_ sqSize cqBase ownS ownC
  have hfirst : bits v.toNat 9 0 = v.toNat % 1024 := bits_zero _ _
  have hcount : bits v.toNat 24 16 = v.toNat / 65536 % 512 := bits_eq_div_mod _ _ _
  have hepoch : bits D.ep.epoch 47 32 = D.ep.epoch / 2 ^ 32 % 65536 := bits_eq_div_mod _ _ _
  have hlow : bits v.toNat 15 0 = v.toNat % 65536 := bits_zero _ _
  have hsize : x.qSize v.toNat = sizeTo := by rw [Fn.qSize, hlow]
  refine ⟨?facc, ?faccClosed, ?close, ?closeEarly, ?epr, ?mwin, ?mwinUnknown, ?mwinVf, ?vfq, ?vfqRefused, ?vfSet, ?vfClear, ?sqSize, ?sqSizeRefused,
    ?cqBase, ?unmask, ?flrVf, ?flrPf, fun _ => flrPf_host D⟩
  case facc => exact fun hup hopen => becomes_of_byHost rfl hup (writeFacc_open hopen n.toNat w)
  case faccClosed => exact fun hup hclosed => becomes_of_byHost rfl hup (writeFacc_closed hclosed n.toNat w)
  case close => exact fun hup hdone => becomes_of_byHost rfl hup (closeFeat_finished hdone f)
  case closeEarly => exact fun hstart => becomes_of_run rfl (byHost_of_fixed (closeFeat_starting hstart f))
  case epr =>
    intro hup hacc
    have h := becomes_eprElRead hup hacc
    rw [hepoch] at h
    exact h
  case mwin => exact fun hup hacc hid => becomes_of_byHost rfl hup (writeMwin_mirror hacc hid v)
  case mwinUnknown => exact fun hup hacc hid => becomes_of_byHost rfl hup (writeMwin_unknown hacc hid v)
  case mwinVf => exact fun hfn => becomes_of_run rfl (if_neg hfn)
  case vfq => exact fun hup hacc hf hvf => becomes_of_byHost rfl hup ((writeVfq_vf_disabled hacc hf hvf cq v.toNat).trans (by rw [hfirst, hcount]))
  case vfqRefused => exact fun hup hacc hf hvf => becomes_of_byHost rfl hup (writeVfq_vf_enabled hacc hf hvf cq v.toNat)
  case vfSet => exact fun hup hvf => becomes_of_byHost rfl hup (setVfEn_set hvf)
  case vfClear =>
    intro hup hvf
    refine becomes_of_byHost rfl hup ?_
    show D.setVfEn false = _
    exact setVfEn_clear hvf
  case sqSize =>
    rintro hup ⟨hq, hown⟩ hen
    exact becomes_of_byHost rfl hup ((writeQueueReg_sqSize hq D f v.toNat).trans ((writeSq_size_disabled hown hen v.toNat).trans (by rw [hsize])))
  case sqSizeRefused =>
    rintro hup ⟨hq, hown⟩ hen
    exact becomes_of_byHost rfl hup ((writeQueueReg_sqSize hq D f v.toNat).trans (writeSq_size_enabled hown hen v.toNat))
  case cqBase =>
    rintro hup ⟨hq, hown⟩ hen
    exact becomes_of_byHost rfl hup ((writeQueueReg_cqBaseHigh hq D f v.toNat).trans (writeCq_baseHigh_disabled hown hen v.toNat))
  case unmask => exact fun hup hvec hmask => becomes_of_byHost rfl hup (unmask_masked hvec hmask)
  case flrVf => exact fun hup hf hvf => becomes_of_byHost rfl hup (flrVf_vf hf hvf)
  case flrPf => exact fun hup => becomes_of_byHost rfl hup rfl

end Sys2Proof.Proofs

/-! SUPPORT. The syllables that write integer registers and predicates: the answer of each shared operation gives the completion of its bundle, and the words the results hold. -/

namespace Sys2Proof.Proofs

open Sys2Proof
open Sys2Proof.Machine
open Sys2Proof.Safety

/-! ## What a shared operation answers completes the bundle -/

section Completion

variable {s : State} {y : Syl} {i : Instr} {f : Dev → SylOut}

/-- An integer result of latency 1 is the bundle's last effect. -/
theorem completes_alu {r : Reg} {v : Word} (hx : exec i s = .next (s.run (fun e => e.runSyl y (asDecoded i) f))) (hf : f s.dev = s.dev.alu y r v) {k : Nat} (hv : v.toNat = k) :
    Completes s y i [.land ((s.dev.home y).intDest r) k 1] :=
  hv ▸ done_of hx hf rfl

/-- An integer result that may overflow sets ASR.OV when its exact value lies outside 32 bits (R54, R55). -/
theorem completes_aluV {r : Reg} {v : Word} {z : Int} (hx : exec i s = .next (s.run (fun e => e.runSyl y (asDecoded i) f)))
    (hf : f s.dev = s.dev.aluV y r v (overflows z)) :
    Completes s y i (.land ((s.dev.home y).intDest r) v.toNat 1 :: if z < -2 ^ 31 ∨ 2 ^ 31 ≤ z then [.land .asr 1 1] else []) :=
  asr_ov z 1 ▸ done_of hx hf (settled_asr _ _ _ _ _)

/-- A predicate result of latency 1 lands as 1 or 0, and nowhere where it names q0 (R38). -/
theorem completes_predOp {q : Pred} {v : Bool} (hx : exec i s = .next (s.run (fun e => e.runSyl y (asDecoded i) f))) (hf : f s.dev = s.dev.predOp y q v) :
    Completes s y i [.land (if q = 0 then .none else .q (s.dev.home y).mbank q.toNat) (if v then 1 else 0) 1] :=
  done_of hx hf rfl

end Completion

/-! ## Shifts (R48) -/

theorem toNat_shl32 (a : Word) {n : Nat} (hn : n < 64) : (shl32 a n).toNat = if n < 32 then a.toNat * 2 ^ n % 2 ^ 32 else 0 := by
  rw [shl32, Nat.mod_eq_of_lt hn, BitVec.toNat_shiftLeft, Nat.shiftLeft_eq]
  split
  case isTrue => rfl
  case isFalse h => exact Nat.mod_eq_zero_of_dvd (Dvd.dvd.mul_left (Nat.pow_dvd_pow 2 (Nat.le_of_not_lt h)) _)

theorem toNat_shr32 (a : Word) {n : Nat} (hn : n < 64) : (shr32 a n).toNat = if n < 32 then a.toNat / 2 ^ n else 0 := by
  rw [shr32, Nat.mod_eq_of_lt hn, BitVec.toNat_ushiftRight, Nat.shiftRight_eq_div_pow]
  split
  case isTrue => rfl
  case isFalse h => exact Nat.div_eq_of_lt (Nat.lt_of_lt_of_le a.isLt (Nat.pow_le_pow_right (by decide) (Nat.le_of_not_lt h)))

/-- A word shifted right by its whole width or more keeps copies of its sign alone. -/
theorem toInt_div_two_pow_of_le (a : Word) {n : Nat} (hn : 32 ≤ n) : a.toInt / 2 ^ n = if a.msb then -1 else 0 := by
  have hp : (2 : Int) ^ 32 ≤ 2 ^ n := pow_le_pow_right₀ (by decide) hn
  have hlo : -2 ^ 31 ≤ a.toInt := a.le_toInt
  have hhi : a.toInt < 2 ^ 31 := a.toInt_lt
  rw [msb_lt]
  simp only [decide_eq_true_eq]
  split
  case isTrue hneg => exact Int.ediv_eq_neg_one_of_neg_of_le (by omega) (by omega)
  case isFalse hpos => exact Int.ediv_eq_zero_of_lt (by omega) (by omega)

theorem sar32_eq (a : Word) {n : Nat} (hn : n < 64) : sar32 a n = BitVec.ofInt 32 (if n < 32 then a.toInt / 2 ^ n else if a.msb then -1 else 0) := by
  have hs : sar32 a n = BitVec.ofInt 32 (a.toInt / 2 ^ n) := by
    rw [sar32, Nat.mod_eq_of_lt hn, BitVec.sshiftRight, Int.shiftRight_eq_div_pow, Nat.cast_pow, Nat.cast_ofNat]
  rw [hs]
  split
  case isTrue => rfl
  case isFalse h => rw [toInt_div_two_pow_of_le a (Nat.le_of_not_lt h)]

theorem rol32_eq (a : Word) (n : Nat) : rol32 a n = a <<< (n % 32) ||| a >>> (32 - n % 32) := by
  rw [rol32, BitVec.rotateLeft_def, Nat.mod_mod]

/-- Settles O3: a shift by 32 or more leaves zeros or copies of the sign, and a rotation looks at its count modulo 32. -/
theorem shifts : Obligations.Shifts := by
  unfold Obligations.Shifts
  intro s y d a b k A n c t left right arith around
  have hn : n < 64 := Nat.mod_lt _ (by decide)
  have hc : c < 64 := k.isLt
  have hrol : rol32 A ((s.dev.src y b).toNat % 32) = A <<< (n % 32) ||| A >>> (32 - n % 32) := by
    rw [rol32_eq, Nat.mod_mod, Nat.mod_mod_of_dvd _ (by decide)]
  refine ⟨?shl, ?shli, ?shr, ?shri, ?sar, ?sari, ?rol, ?roli⟩
  case shl => exact completes_alu rfl rfl (toNat_shl32 A hn)
  case shli => exact completes_alu rfl rfl (toNat_shl32 A hc)
  case shr => exact completes_alu rfl rfl (toNat_shr32 A hn)
  case shri => exact completes_alu rfl rfl (toNat_shr32 A hc)
  case sar => exact completes_alu rfl rfl (congrArg BitVec.toNat (sar32_eq A hn))
  case sari => exact completes_alu rfl rfl (congrArg BitVec.toNat (sar32_eq A hc))
  case rol => exact completes_alu rfl rfl (congrArg BitVec.toNat hrol)
  case roli => exact completes_alu rfl rfl (congrArg BitVec.toNat (rol32_eq A c))

/-! ## Counts, extensions and byte order (R46, R55) -/

theorem toNat_clz32 (a : Word) : (BitVec.ofNat 32 (clz32 a)).toNat = if a.toNat = 0 then 32 else 31 - a.toNat.log2 := by
  rw [toNat_ofNat_lt _ (Nat.lt_of_le_of_lt (clz_lt a) (by decide)), clz32]
  simp only [← BitVec.toNat_inj]
  rfl

theorem toNat_popc32 (a : Word) : (BitVec.ofNat 32 (popc32 a)).toNat = (List.range 32).countP (fun i => a.getLsbD i) := by
  have hle : (List.range 32).countP (fun i => a.getLsbD i) ≤ 32 := List.countP_le_length
  rw [popc_count, toNat_ofNat_lt _ (Nat.lt_of_le_of_lt hle (by decide))]

/-- Settles O4: each result is below 2^32, so the word that lands holds it whole. -/
theorem unaryResults : Obligations.UnaryResults := by
  unfold Obligations.UnaryResults
  intro s y d a A t
  refine ⟨?clz, ?popc, ?sextb, ?sexth, ?zextb, ?zexth, ?bswap⟩
  case clz => exact completes_alu rfl rfl (toNat_clz32 A)
  case popc => exact completes_alu rfl rfl (toNat_popc32 A)
  case sextb => exact completes_alu rfl rfl (congrArg BitVec.toNat (sext8 A))
  case sexth => exact completes_alu rfl rfl (congrArg BitVec.toNat (sext16 A))
  case zextb => exact completes_alu rfl rfl (and_mask A).1
  case zexth => exact completes_alu rfl rfl (and_mask A).2
  case bswap => exact completes_alu rfl rfl (bswap_eq A)

/-! ## Compares (R49) -/

theorem immCmp_none (imm : BitVec 6) : immCmp imm none = imm.signExtend 32 := sextW_eq 6 imm (by decide) (by decide)

/-- A long immediate stands above the short one. -/
theorem toNat_limm_append {w : Nat} (q : Limm) (x : BitVec w) : (q ++ x).toNat = q.toNat * 2 ^ w + x.toNat := by
  rw [BitVec.toNat_append, Nat.shiftLeft_eq, Nat.mul_comm, Nat.two_pow_add_eq_or_of_lt x.isLt]

theorem immCmp_some (imm : BitVec 6) (q : Limm) : immCmp imm (some q) = (q ++ imm : BitVec 28).signExtend 32 := by
  rw [← sextW_eq 28 (q ++ imm : BitVec 28) (by decide) (by decide), toNat_limm_append]
  rfl

/-- Settles O5: the condition of Table 2.8 is the one the statement gives, and each mode of Table 2.9 writes its predicates. -/
theorem comparesWritePredicates : Obligations.ComparesWritePredicates := by
  unfold Obligations.ComparesWritePredicates
  intro s y qt a b cond mode imm A B c old q effs
  have hout : ∀ V, s.dev.compareOut y qt mode (cmpCond cond A V) = .done (effs (c V)) := by
    intro V
    have hmode : mode = 0 ∨ mode = 1 ∨ mode = 2 ∨ mode = 3 := by revert mode; decide
    rw [show cmpCond cond A V = c V from cond_eq cond A V]
    rcases hmode with rfl | rfl | rfl | rfl <;> rfl
  have hset : ∀ v, Settled s.dev y.core.toNat y.bay.toNat (effs v) = true := by
    intro v
    simp only [effs]
    split <;> rfl
  refine ⟨?cmp, ?cmpi, fun p => ?cmpiLong⟩
  case cmp => exact done_of rfl (hout B) (hset _)
  case cmpi => exact done_of rfl (immCmp_none imm ▸ hout (immCmp imm none)) (hset _)
  case cmpiLong => exact done_of rfl (immCmp_some imm p ▸ hout (immCmp imm (some p))) (hset _)

/-! ## Sums, logic and selection (R46, R47, R51, R55) -/

/-- Settles O1: the flag of NEG and ABS, raised for the least word alone, is that of their exact results. -/
theorem integerSums : Obligations.IntegerSums := by
  unfold Obligations.IntegerSums
  intro s y d a b A B t ov
  have habs : (if A.msb then -A else A) = if A.toInt < 0 then -A else A := by rw [msb_lt]; simp only [decide_eq_true_eq]
  refine ⟨?add, ?sub, ?addv, ?subv, ?neg, ?abs⟩
  case add => exact completes_alu rfl rfl rfl
  case sub => exact completes_alu rfl rfl rfl
  case addv => exact completes_aluV rfl rfl
  case subv => exact completes_aluV rfl rfl
  case neg => exact completes_aluV rfl (congrArg (s.dev.aluV y d (-A)) (min_ov A))
  case abs => exact completes_aluV rfl (congrArg₂ (s.dev.aluV y d) habs (min_abs A))

theorem immValue_none (imm : BitVec 10) : immValue imm none = imm.signExtend 32 := sextW_eq 10 imm (by decide) (by decide)

theorem immValue_some (imm : BitVec 10) (q : Limm) : immValue imm (some q) = (q ++ imm : BitVec 32) := append_ofNat q imm rfl

/-- A choice by the signed order does not change where equal words choose too, if those choose alike. -/
theorem ite_slt (a b v w : Word) (h : a = b → v = w) : (if a.slt b then v else w) = if a.toInt ≤ b.toInt then v else w := by
  simp only [BitVec.slt_iff_toInt_lt]
  rcases Int.lt_trichotomy a.toInt b.toInt with hlt | heq | hgt
  · rw [if_pos hlt, if_pos hlt.le]
  · rw [h (BitVec.eq_of_toInt_eq heq), ite_self, ite_self]
  · rw [if_neg hgt.not_gt, if_neg hgt.not_ge]

theorem toNat_ite_ult_min (a b : Word) : (if a.ult b then a else b).toNat = Nat.min a.toNat b.toNat := by
  change _ = min a.toNat b.toNat
  rw [BitVec.ult, apply_ite BitVec.toNat, min_def]
  simp only [decide_eq_true_eq]
  split <;> split <;> omega

theorem toNat_ite_ult_max (a b : Word) : (if a.ult b then b else a).toNat = Nat.max a.toNat b.toNat := by
  change _ = max a.toNat b.toNat
  rw [BitVec.ult, apply_ite BitVec.toNat, max_def]
  simp only [decide_eq_true_eq]
  split <;> split <;> omega

/-- Settles O2: a long immediate is its payload above the ten bits, a short one is sign-extended. -/
theorem logicAndSelection : Obligations.LogicAndSelection := by
  unfold Obligations.LogicAndSelection
  intro s y d a b imm qs A B t
  have hshort : ∀ op : Word → Word, (op (immValue imm none)).toNat = (op (imm.signExtend 32)).toNat := fun op => by rw [immValue_none]
  have hlong : ∀ (op : Word → Word) (q : Limm), (op (immValue imm (some q))).toNat = (op (q ++ imm : BitVec 32)).toNat := fun op q => by rw [immValue_some]
  refine ⟨?andd, ?orr, ?xor, ?andn, ?addi, ?andi, ?ori, ?xori, fun q => ?addiLong, fun q => ?andiLong, fun q => ?oriLong, fun q => ?xoriLong, ?min, ?max, ?minu, ?maxu, ?sel⟩
  case andd => exact completes_alu rfl rfl rfl
  case orr => exact completes_alu rfl rfl rfl
  case xor => exact completes_alu rfl rfl rfl
  case andn => exact completes_alu rfl rfl rfl
  case addi => exact completes_alu rfl rfl (hshort (A + ·))
  case andi => exact completes_alu rfl rfl (hshort (A &&& ·))
  case ori => exact completes_alu rfl rfl (hshort (A ||| ·))
  case xori => exact completes_alu rfl rfl (hshort (A ^^^ ·))
  case addiLong => exact completes_alu rfl rfl (hlong (A + ·) q)
  case andiLong => exact completes_alu rfl rfl (hlong (A &&& ·) q)
  case oriLong => exact completes_alu rfl rfl (hlong (A ||| ·) q)
  case xoriLong => exact completes_alu rfl rfl (hlong (A ^^^ ·) q)
  case min => exact completes_alu rfl rfl (congrArg BitVec.toNat (ite_slt A B A B id))
  case max => exact completes_alu rfl rfl (congrArg BitVec.toNat (ite_slt A B B A Eq.symm))
  case minu => exact completes_alu rfl rfl (toNat_ite_ult_min A B)
  case maxu => exact completes_alu rfl rfl (toNat_ite_ult_max A B)
  case sel => exact completes_alu rfl rfl rfl

/-! ## Predicates and special registers (R38, R50, R52) -/

/-- Settles O6: a destination q0 is none, and nothing flies to it. -/
theorem predicateOperations : Obligations.PredicateOperations := by
  unfold Obligations.PredicateOperations
  intro s y qd qa qb A B q
  refine ⟨?pand, ?por, ?pxor, ?pandn, ?pnot, rfl, fun z free v l => ⟨rfl, rfl, rfl⟩⟩
  case pand => exact completes_predOp rfl rfl
  case por => exact completes_predOp rfl rfl
  case pxor => exact completes_predOp rfl rfl
  case pandn => exact completes_predOp rfl rfl
  case pnot => exact completes_predOp rfl rfl

/-- What MOVS lands in the predicates: bit n of the word in qn, q0 left out. -/
theorem predLands (m : Bool) (v : Word) :
    (rangeFrom 1 15).map (fun k => Eff.land (.q m k) (b2n (v.getLsbD k)) 1) = (List.range 15).map (fun n => .land (.q m (n + 1)) (if v.getLsbD (n + 1) then 1 else 0) 1) := by
  rw [rangeFrom, List.map_map]
  exact List.map_congr_left fun n _ => by rw [Function.comp_apply, Nat.add_comm 1 n, b2n]

/-- A check that meets nothing stands in no answer's way. -/
theorem firstOut_none {p : Option SylOut} (h : p = none) (ps : List (Option SylOut)) (o : SylOut) : firstOut (p :: ps) o = firstOut ps o := by rw [h]; rfl

/-- Settles O7: each code of Table 2.10 moves its register, the stack where its trap does not stand in the way. -/
theorem specialRegisterMoves : Obligations.SpecialRegisterMoves := by
  unfold Obligations.SpecialRegisterMoves
  intro s y r x V t rd
  refine ⟨?toLc, ?toLk, fun hpush => ?push, ?toPreds, ?fromLc, ?fromLk, fun hpop => ?pop, ?fromPreds⟩
  case toLc => exact done_of rfl rfl rfl
  case toLk => exact done_of rfl rfl rfl
  case push => exact done_of rfl (firstOut_none hpush [] _) rfl
  case toPreds => exact done_of rfl (congrArg SylOut.done (predLands x.mbank V)) rfl
  case fromLc => exact done_of rfl rfl rfl
  case fromLk => exact done_of rfl rfl rfl
  case pop => exact done_of rfl (firstOut_none hpop [] _) rfl
  case fromPreds => exact done_of rfl rfl rfl

/-! ## Products and quotients (R54, R56, R57) -/

theorem toNat_high_product (a b : Word) : (BitVec.ofNat 32 (a.toNat * b.toNat / 2 ^ 32)).toNat = a.toNat * b.toNat / 2 ^ 32 := by
  have hlt : a.toNat * b.toNat < 2 ^ 32 * 2 ^ 32 := Nat.mul_lt_mul'' a.isLt b.isLt
  exact toNat_ofNat_lt _ (Nat.div_lt_of_lt_mul hlt)

/-- Settles O8: the product modulo 2^32, its high word, and the flag of the exact signed product. -/
theorem multiplies : Obligations.Multiplies := by
  unfold Obligations.Multiplies
  intro s y d a b A B t P
  have hlow : (A * B).toNat = A.toNat * B.toNat % 2 ^ 32 := BitVec.toNat_mul A B
  refine ⟨?mul, ?mulh, ?mulhu, ?mulv⟩
  case mul => exact hlow ▸ done_of rfl rfl rfl
  case mulh => exact done_of rfl rfl rfl
  case mulhu => exact toNat_high_product A B ▸ done_of rfl rfl rfl
  case mulv => exact hlow ▸ asr_ov P 3 ▸ done_of rfl rfl (settled_asr _ _ _ _ _)

/-- The effects of a divide-class result that does not trap: the word and its flags, 20 bundles later; OV is the quotient's alone. -/
theorem divOut_done {d : Dev} {y : Syl} {r : Reg} {signed quotient : Bool} {a b q rest : Word} {ov dz : Bool}
    (hzt : ¬ (b = 0 ∧ decZT (d.home y).decctlNow = true)) (hdiv : divide signed a b = (q, rest, ov, dz)) :
    d.divOut y r signed quotient a b = .done (d.toInt y r (if quotient then q else rest) 20 :: asrEffs (asrOV * b2n (quotient && ov) + asrDZ * b2n dz) 20) := by
  rw [Dev.divOut, hdiv]
  exact if_neg hzt

theorem divide_zero (signed : Bool) (a : Word) : divide signed a 0 = (0xFFFFFFFF, a, false, true) := rfl

theorem divide_unsigned (a : Word) {b : Word} (hb : b ≠ 0) : divide false a b = (BitVec.ofNat 32 (a.toNat / b.toNat), BitVec.ofNat 32 (a.toNat % b.toNat), false, false) := if_neg hb

theorem divide_edge : divide true 0x80000000 0xFFFFFFFF = (0x80000000, 0, true, false) := rfl

theorem divide_signed {a b : Word} (hb : b ≠ 0) (he : ¬ (a = 0x80000000 ∧ b = 0xFFFFFFFF)) :
    divide true a b = (BitVec.ofInt 32 (a.toInt.tdiv b.toInt), BitVec.ofInt 32 (a.toInt.tmod b.toInt), false, false) := by
  rw [divide, if_neg hb, if_neg (by simpa using he), if_pos rfl]

/-- Settles O9: a zero divisor, the one signed overflow and every other pair are the branches of the division. -/
theorem divides : Obligations.Divides := by
  unfold Obligations.Divides
  intro s y d a b A B t zt out edge
  have hset : ∀ v flags, Settled s.dev y.core.toNat y.bay.toNat (out v flags) = true := fun v flags => settled_asr _ _ _ flags 20
  refine ⟨fun hB hzt => ?trap, fun hB hzt => ?zero, fun hB => ?nonzero⟩
  case trap =>
    have hexc : ∀ signed quotient, s.dev.divOut y d signed quotient A B = .exc 0x0C 1 0 0 := fun _ _ => if_pos ⟨hB, hzt⟩
    exact ⟨traps_of rfl (hexc true true), traps_of rfl (hexc false true), traps_of rfl (hexc true false), traps_of rfl (hexc false false)⟩
  case zero =>
    have hno : ¬ (B = 0 ∧ decZT (s.dev.home y).decctlNow = true) := fun h => Bool.false_ne_true (hzt.symm.trans h.2)
    have hdiv : ∀ signed, divide signed A B = (0xFFFFFFFF, A, false, true) := fun signed => hB ▸ divide_zero signed A
    exact ⟨done_of rfl (divOut_done hno (hdiv true)) (hset _ 2), done_of rfl (divOut_done hno (hdiv false)) (hset _ 2),
      done_of rfl (divOut_done hno (hdiv true)) (hset _ 2), done_of rfl (divOut_done hno (hdiv false)) (hset _ 2)⟩
  case nonzero =>
    have hno : ¬ (B = 0 ∧ decZT (s.dev.home y).decctlNow = true) := fun h => hB h.1
    have hdivu := divide_unsigned A hB
    refine ⟨done_of rfl (divOut_done hno hdivu) (hset _ 0), done_of rfl (divOut_done hno hdivu) (hset _ 0), fun he => ?edge, fun he => ?plain⟩
    case edge =>
      have hdiv : divide true A B = (0x80000000, 0, true, false) := by rw [he.1, he.2]; exact divide_edge
      exact ⟨done_of rfl (divOut_done hno hdiv) (hset _ 1), done_of rfl (divOut_done hno hdiv) (hset _ 0)⟩
    case plain =>
      have hdiv := divide_signed hB he
      exact ⟨done_of rfl (divOut_done hno hdiv) (hset _ 0), done_of rfl (divOut_done hno hdiv) (hset _ 0)⟩

end Sys2Proof.Proofs

/-! SUPPORT. The syllables that reach memory, and the branches, calls and returns: what each shared operation answers under the conditions that choose its branch. -/

namespace Sys2Proof.Proofs

open Sys2Proof
open Sys2Proof.Machine
open Sys2Proof.Safety

/-! ## Effective addresses (R58, R59) -/

theorem sextI_toNat {w : Nat} (x : BitVec w) (hw : 0 < w) : sextI w x.toNat = x.toInt := by
  have htwice : 2 ^ w = 2 * 2 ^ (w - 1) := by rw [← Nat.pow_succ', Nat.succ_eq_add_one, Nat.sub_add_cancel hw]
  rw [sextI, Nat.mod_eq_of_lt x.isLt, BitVec.toInt_eq_toNat_cond]
  split <;> split <;> omega

theorem sextW_limm_append (q : Limm) (low : BitVec 8) : sextW 30 (q.toNat * 256 + low.toNat) = (q ++ low : BitVec 30).signExtend 32 := by
  rw [← sextW_eq 30 (q ++ low : BitVec 30) (by decide) (by decide), toNat_limm_append]
  rfl

theorem indexReg_eq (low : BitVec 8) : indexReg low = low.extractLsb' 3 5 := by
  apply BitVec.eq_of_toNat_eq
  rw [indexReg, BitVec.toNat_ofNat, BitVec.extractLsb'_toNat, bits, Nat.mod_mod_of_dvd _ (by decide)]

/-- The index is shifted by the two bits above the reserved one (Table 2.12). -/
theorem shifted_index (x : Word) (low : BitVec 8) : BitVec.ofNat 32 (x.toNat * 2 ^ bits low.toNat 2 1) = x <<< (low.extractLsb' 1 2).toNat := by
  apply BitVec.eq_of_toNat_eq
  rw [BitVec.toNat_ofNat, BitVec.toNat_shiftLeft, Nat.shiftLeft_eq, BitVec.extractLsb'_toNat, bits]

/-- Settles O10: each mode of Table 2.12 reads its displacement, its index or its step out of the eight low bits. -/
theorem effectiveAddresses : Obligations.EffectiveAddresses := by
  unfold Obligations.EffectiveAddresses
  intro d y a low p q k A
  have hstep : BitVec.ofNat 32 low.toNat = low.setWidth 32 := BitVec.ofNat_toNat 32 low
  refine ⟨?short, ?long, ?indexed, rfl, ?before, rfl, rfl, ?stepUp, ?stepDown⟩
  case short => exact congrArg (fun z : Int => A + BitVec.ofInt 32 (z * k)) (sextI_toNat low (by decide))
  case long => exact congrArg (A + ·) (sextW_limm_append q low)
  case indexed =>
    rw [← indexReg_eq]
    exact congrArg (A + ·) (shifted_index _ low)
  case before => exact congrArg (A - ·) hstep
  case stepUp => exact congrArg (fun z : Word => [Eff.land ((d.home y).intDest a) (A + z).toNat 1]) hstep
  case stepDown => exact congrArg (fun z : Word => [Eff.land ((d.home y).intDest a) (A - z).toNat 1]) hstep

/-! ## Loads (R58, R227, R264) -/

section Loads

variable {d : Dev} {n b va size lat : Nat} {form : Bool} {t : Dest} {mk : List Byte → Nat} {more : List Eff} {hs : List (Nat × Nat)}

theorem loadOut_memory (hreach : d.reach n b (d.bay n b).level .load form va size = .ok hs) (hmem : d.region (hs.headD (0, 0)).1 ≠ .devreg) (hread : d.unreadable va hs = none) :
    d.loadOut n b va size form t lat mk more = .done (more ++ [.land t (mk (d.loadHalves n hs)) lat] ++ d.missEffs n b (d.bay n b).level va hs) := by
  simp only [Dev.loadOut, hreach, if_neg hmem, hread]

theorem loadOut_device (hreach : d.reach n b (d.bay n b).level .load form va size = .ok hs) (hdev : d.region (hs.headD (0, 0)).1 = .devreg) :
    d.loadOut n b va size form t lat mk more = .done (more ++ [.devLoad ((hs.headD (0, 0)).1 - devBase) t, .miss true]) := by
  simp only [Dev.loadOut, hreach, if_pos hdev]

/-- A line that is held brings no miss. -/
theorem missEffs_held {lvl : Nat} (h : d.missOf n b lvl va hs = none) : d.missEffs n b lvl va hs = [] := by
  rw [Dev.missEffs, h]
  rfl

end Loads

/-- The low bits of a number read as two's complement. -/
theorem sextW_ofNat (w x : Nat) (h : w ≤ 32) (h0 : 0 < w) : sextW w x = (BitVec.ofNat w x).signExtend 32 := by
  rw [← sextW_eq w _ h h0, BitVec.toNat_ofNat, sextW, sextW, sextI, sextI, Nat.mod_mod]

/-- A load from memory that answers completes with its base update, its value and its miss, and with no miss where the line is held. -/
theorem completes_intLoad {s : State} {y : Syl} {i : Instr} {f : Dev → SylOut} {r a : Reg} {am : BitVec 2} {low : BitVec 8} {p : Option Limm} {size : Nat} {mk : Nat → Word} {w : Word} {hs : List (Nat × Nat)}
    (hx : exec i s = .next (s.run (fun e => e.runSyl y (asDecoded i) f))) (hf : f s.dev = s.dev.intLoad y r a am low p size mk)
    (hw : mk (fromLe (s.dev.loadHalves y.core.toNat hs)) = w)
    (hok : s.dev.reach y.core.toNat y.bay.toNat (s.dev.home y).level .load (size == 4) (s.dev.ea y a am low p size).toNat size = .ok hs
      ∧ s.dev.region (hs.headD (0, 0)).1 ≠ .devreg ∧ s.dev.unreadable (s.dev.ea y a am low p size).toNat hs = none) :
    let hit := s.dev.baseEffs y a am low ++ [Eff.land ((s.dev.home y).intDest r) w.toNat 3]
    Completes s y i (hit ++ s.dev.missEffs y.core.toNat y.bay.toNat (s.dev.home y).level (s.dev.ea y a am low p size).toNat hs)
      ∧ (s.dev.missOf y.core.toNat y.bay.toNat (s.dev.home y).level (s.dev.ea y a am low p size).toNat hs = none → Completes s y i hit) := by
  intro hit
  obtain ⟨hreach, hmem, hread⟩ := hok
  have hdone : Completes s y i (hit ++ s.dev.missEffs y.core.toNat y.bay.toNat (s.dev.home y).level (s.dev.ea y a am low p size).toNat hs) := by
    subst hw
    exact done_of hx (hf.trans (loadOut_memory hreach hmem hread)) (by simp [hit, Eff.asks, Dev.lateFault])
  refine ⟨hdone, fun hheld => ?_⟩
  rwa [missEffs_held hheld, List.append_nil] at hdone

/-- Settles O11: every load is one shared operation with its size and its extension; a device register is read at the end of the bundle. -/
theorem loads : Obligations.Loads := by
  unfold Obligations.Loads
  intro s y d a am low p hs D x n t va ok v es hit held
  have hb : sextW 8 v = (BitVec.ofNat 8 v).signExtend 32 := sextW_ofNat 8 v (by decide) (by decide)
  have hh : sextW 16 v = (BitVec.ofNat 16 v).signExtend 32 := sextW_ofNat 16 v (by decide) (by decide)
  have ldb := fun (h : ok 1 false) => completes_intLoad (i := .ldb y d a am low p) rfl rfl hb h
  have ldbu := fun (h : ok 1 false) => completes_intLoad (i := .ldbu y d a am low p) rfl rfl rfl h
  have ldh := fun (h : ok 2 false) => completes_intLoad (i := .ldh y d a am low p) rfl rfl hh h
  have ldhu := fun (h : ok 2 false) => completes_intLoad (i := .ldhu y d a am low p) rfl rfl rfl h
  have ldw := fun (h : ok 4 true) => completes_intLoad (i := .ldw y d a am low p) rfl rfl rfl h
  refine ⟨fun h => (ldb h).1, fun h => (ldbu h).1, fun h => (ldh h).1, fun h => (ldhu h).1, fun h => (ldw h).1,
    fun h hheld => ⟨(ldb h).2 hheld, (ldbu h).2 hheld⟩, fun h hheld => ⟨(ldh h).2 hheld, (ldhu h).2 hheld⟩, fun h hheld => (ldw h).2 hheld, fun hreach hdev => ?device⟩
  case device => exact done_of rfl (loadOut_device hreach hdev) (by simp [Eff.asks, Dev.lateFault])

/-! ## Stores (R58, R268, R269) -/

theorem toLe_length (k v : Nat) : (toLe k v).length = k := by rw [toLe_range, List.length_map, List.length_range]

/-- A store whose access translates completes where the store buffer has room for its halves, and waits where it has none. -/
theorem completes_or_waits_intStore {s : State} {y : Syl} {i : Instr} {f : Dev → SylOut} {r a : Reg} {am : BitVec 2} {low : BitVec 8} {p : Option Limm} {size : Nat} {hs : List (Nat × Nat)} {es : List Eff}
    (hx : exec i s = .next (s.run (fun e => e.runSyl y (asDecoded i) f))) (hf : f s.dev = s.dev.intStore y r a am low p size)
    (hes : s.dev.storeEffs hs ((List.range size).map (fun k => BitVec.ofNat 8 ((s.dev.src y r).toNat / 256 ^ k))) = es)
    (hreach : s.dev.reach y.core.toNat y.bay.toNat (s.dev.home y).level .store (decide (size = 4)) (s.dev.ea y a am low p size).toNat size = .ok hs) :
    if (s.dev.core y.core.toNat).sb.length + hs.length ≤ 16 then Completes s y i (s.dev.baseEffs y a am low ++ es)
      else Waits s y i (if s.dev.headOnDdr y.core.toNat then .miss else .frozen) .storeBuffer := by
  have hout : f s.dev = if 16 < (s.dev.core y.core.toNat).sb.length + hs.length then s.dev.sbHold y.core.toNat else .done (s.dev.baseEffs y a am low ++ es) := by
    have hreach' : s.dev.reach y.core.toNat y.bay.toNat (s.dev.bay y.core.toNat y.bay.toNat).level .store (size == 4) (s.dev.ea y a am low p size).toNat (toLe size (s.dev.src y r).toNat).length = .ok hs := by
      rw [toLe_length]
      exact hreach
    rw [hf, Dev.intStore, Dev.storeOut, hreach', ← hes, ← toLe_range]
  split
  case isTrue hroom => exact done_of hx (hout.trans (if_neg (Nat.not_lt.2 hroom))) (by rw [settled_append, settled_base, ← hes, settled_store]; rfl)
  case isFalse hfull => exact waits_of hx (hout.trans (if_pos (Nat.lt_of_not_le hfull)))

/-- Settles O12: a whole access enters one entry of the buffer, a split one two. -/
theorem stores : Obligations.Stores := by
  unfold Obligations.Stores
  intro s y d a am low p pa pb k0 D x n V va goes whole halves room st
  exact ⟨completes_or_waits_intStore rfl rfl rfl, completes_or_waits_intStore rfl rfl rfl, completes_or_waits_intStore rfl rfl rfl,
    completes_or_waits_intStore rfl rfl rfl, completes_or_waits_intStore rfl rfl rfl⟩

/-! ## Atomic operations (R61) -/

section Atomic

variable {d : Dev} {y : Syl} {r a b : Reg}

theorem atomicOut_unaligned (op : Nat) (h : (d.src y a).toNat % 4 ≠ 0) : d.atomicOut y op r a b = .exc 4 1 (d.src y a) 0 := by
  rw [Dev.atomicOut]
  dsimp only
  rw [if_pos h, BitVec.ofNat_toNat, BitVec.setWidth_eq]

theorem atomicOut_aligned {pa : Nat} (op : Nat) (hal : (d.src y a).toNat % 4 = 0)
    (hreach : d.reach y.core.toNat y.bay.toNat (d.home y).level .store false (d.src y a).toNat 4 = .ok [(pa, 4)]) (hread : d.unreadable (d.src y a).toNat [(pa, 4)] = none)
    (hsb : ∀ z ∈ (d.core y.core.toNat).sb, ¬ (z.pa < pa + 4 ∧ pa < z.pa + z.data.length)) :
    d.atomicOut y op r a b = .done [.atomic pa op (d.src y b) (d.src y r) ((d.home y).intDest r), .miss ((d.missAt y.core.toNat y.bay.toNat (d.home y).level (d.src y a).toNat pa).getD false)] := by
  have hany : (d.core y.core.toNat).sb.any (fun e => decide (e.pa < pa + 4) && decide (pa < e.pa + e.data.length)) = false := by
    simpa only [List.any_eq_false, Bool.and_eq_true, decide_eq_true_eq] using hsb
  simp [Dev.atomicOut, hal, hreach, hread, hany]

end Atomic

/-- Settles O13: the five operations differ in their function code alone, whose row of Table 2.13 the effect applies. -/
theorem atomicOperations : Obligations.AtomicOperations := by
  unfold Obligations.AtomicOperations
  intro s y d a b pa e n c l v w t D x va B V ok es old eff
  refine ⟨fun h => ?unaligned, ?aligned, rfl, rfl, rfl, rfl, rfl⟩
  case unaligned =>
    have hexc := fun op => atomicOut_unaligned (r := d) (b := b) op h
    exact ⟨traps_of rfl (hexc 0), traps_of rfl (hexc 1), traps_of rfl (hexc 2), traps_of rfl (hexc 3), traps_of rfl (hexc 4)⟩
  case aligned =>
    rintro ⟨hal, hreach, hread, hsb⟩
    have hout := fun op => atomicOut_aligned (r := d) (b := b) op hal hreach hread hsb
    exact ⟨done_of rfl (hout 0) rfl, done_of rfl (hout 1) rfl, done_of rfl (hout 2) rfl, done_of rfl (hout 3) rfl, done_of rfl (hout 4) rfl⟩

/-! ## Branches (R62, R66) -/

theorem target_eq (d : Dev) (y : Syl) {w : Nat} (disp : BitVec w) (h : w ≤ 32) (h0 : 0 < w) : d.target y w disp.toNat = (d.home y).pc + disp.signExtend 32 * 4 := by
  rw [Dev.target, sextW_eq w disp h h0]
  rfl

/-- A counted branch leaves a zero counter alone, and does not branch where the counter reaches zero. -/
theorem countOut_eq (c : Word) (t : Dest) (goal : Word) :
    countOut c t goal = .done (if c = 0 then [] else if c = 1 then [.land t 0 1] else [.land t (c - 1).toNat 1, .goto goal]) := by
  have hlast : c - 1 = 0 ↔ c = 1 := by constructor <;> intro h <;> bv_omega
  rw [countOut]
  simp only [hlast]
  split
  case isTrue => rfl
  case isFalse =>
    split
    case isTrue h => rw [h]; rfl
    case isFalse => rfl

theorem completes_countOut {s : State} {y : Syl} {i : Instr} {f : Dev → SylOut} {c goal : Word} {t : Dest} (hx : exec i s = .next (s.run (fun e => e.runSyl y (asDecoded i) f))) (hf : f s.dev = countOut c t goal) :
    Completes s y i (if c = 0 then [] else if c = 1 then [.land t 0 1] else [.land t (c - 1).toNat 1, .goto goal]) :=
  done_of hx (hf.trans (countOut_eq c t goal)) (by simp [Eff.asks, Dev.lateFault])

/-- Settles O14: displacements are sign-extended and counted in syllables from the branch's own bundle. -/
theorem branchesTransferControl : Obligations.BranchesTransferControl := by
  unfold Obligations.BranchesTransferControl
  intro s y a d15 d20 x A lc lk count
  have h20 : s.dev.target y 20 d20.toNat = x.pc + d20.signExtend 32 * 4 := target_eq _ y d20 (by decide) (by decide)
  have h15 : s.dev.target y 15 d15.toNat = x.pc + d15.signExtend 32 * 4 := target_eq _ y d15 (by decide) (by decide)
  refine ⟨?br, done_of rfl rfl rfl, done_of rfl rfl rfl, ?db, ?dblc⟩
  case br => exact done_of rfl (congrArg (fun z => SylOut.done [.goto z]) h20) rfl
  case db => exact completes_countOut rfl (congrArg (countOut A (x.intDest a)) h15)
  case dblc => exact completes_countOut rfl (congrArg (countOut lc (.lc x.mbank)) h20)

/-! ## Calls and returns (R62, R64, R188, R190) -/

section Stack

variable {x : Bay}

theorem pushTrap_none (h : ¬ (x.trap = true ∧ x.stack.depth = 16)) : x.pushTrap = none := if_neg h
theorem pushTrap_full (h : x.trap = true ∧ x.stack.depth = 16) : x.pushTrap = some (.exc 0x0D 1 0 0) := if_pos h
theorem popTrap_none (h : ¬ (x.trap = true ∧ x.stack.depth = 0)) : x.popTrap = none := if_neg h
theorem popTrap_bare (h : x.trap = true ∧ x.stack.depth = 0) : x.popTrap = some (.exc 0x0D 2 0 0) := if_pos h
theorem needAdvance_none (h : x.res ≤ 9) : x.needAdvance = none := if_pos h
theorem needAdvance_wait (h : 10 ≤ x.res) (hsf : x.sf = false) : x.needAdvance = some (.hold .frozen .window) := by
  rw [Bay.needAdvance, if_neg (by omega), hsf]
  rfl
theorem needRetreat_none (h : 3 ≤ x.res) : x.needRetreat = none := if_pos h
theorem needRetreat_wait (h : x.res ≤ 2) (hm : x.mdepth ≠ 0) (hsf : x.sf = false) : x.needRetreat = some (.hold .frozen .window) := by
  rw [Bay.needRetreat, if_neg (by omega), if_neg hm, hsf]
  rfl

/-- The first check that meets something answers for the syllable. -/
theorem firstOut_some {p : Option SylOut} {o : SylOut} (h : p = some o) (ps : List (Option SylOut)) (e : SylOut) : firstOut (p :: ps) e = o := by rw [h]; rfl

end Stack

theorem next_open {d : Dev} {y : Syl} {u : Bundle} (h : (d.home y).bundle = some u) : d.next y = u.pc + BitVec.ofNat 32 (4 * u.len) := by
  simp [Dev.next, h]

/-- Settles O15: the checks of a call or return, in their order, meet nothing or answer for it. -/
theorem callsAndReturns : Obligations.CallsAndReturns := by
  unfold Obligations.CallsAndReturns
  intro s y a d19 w x A T nxt es full bare hw
  have htarget : s.dev.target y 19 d19.toNat = T := target_eq _ y d19 (by decide) (by decide)
  have heffs : ∀ t, s.dev.callEffs y t = es t := fun t => by rw [Dev.callEffs, next_open hw]
  have hcall : ¬ full → ∀ t, s.dev.callOut y t = .done (es t) := fun h t => (firstOut_none (pushTrap_none h) [] _).trans (congrArg SylOut.done (heffs t))
  have hcallW : ¬ full → x.res ≤ 9 → ∀ t, s.dev.callWOut y t = .done (es t ++ [.advance]) := fun h hres t => by
    rw [Dev.callWOut, firstOut_none (needAdvance_none hres), firstOut_none (pushTrap_none h), heffs]
    rfl
  refine ⟨fun h => ?calls, fun h => ?returns, fun h => ?pushTraps, fun h => ?popTraps, fun hres hsf => ?callWaits, fun hres hm hsf => ?retWaits⟩
  case calls => exact ⟨done_of rfl (htarget ▸ hcall h _) rfl, done_of rfl (hcall h A) rfl, fun hres => ⟨done_of rfl (htarget ▸ hcallW h hres _) rfl, done_of rfl (hcallW h hres A) rfl⟩⟩
  case returns =>
    exact ⟨done_of rfl (firstOut_none (popTrap_none h) [] _) rfl,
      fun hres => done_of rfl ((firstOut_none (needRetreat_none hres) _ _).trans (firstOut_none (popTrap_none h) [] _)) rfl⟩
  case pushTraps =>
    have hfull := pushTrap_full h
    exact ⟨traps_of rfl (firstOut_some hfull [] _), traps_of rfl (firstOut_some hfull [] _), traps_of rfl (firstOut_some hfull [] _)⟩
  case popTraps =>
    have hbare := popTrap_bare h
    exact ⟨traps_of rfl (firstOut_some hbare [] _), traps_of rfl (firstOut_some hbare [] _)⟩
  case callWaits =>
    have hwait := needAdvance_wait hres hsf
    exact ⟨waits_of rfl (firstOut_some hwait _ _), waits_of rfl (firstOut_some hwait _ _)⟩
  case retWaits => exact waits_of rfl (firstOut_some (needRetreat_wait hres hm hsf) _ _)

end Sys2Proof.Proofs

/-! SUPPORT. The issue of a bundle: guards and REP, results in flight, and what the completion of a bundle leaves unchanged. -/

namespace Sys2Proof.Proofs

open Sys2Proof
open Sys2Proof.Machine
open Sys2Proof.Safety

/-! ## Guards (R35) -/

theorem guard_eq (x : Bay) (free : Nat) (y : Syl) : x.guard free y = if y.n then !x.pred free y.g else x.pred free y.g := by
  rw [Bay.guard]
  cases y.n <;> cases x.pred free y.g <;> rfl

/-- q0 reads 1, so a guard that names it holds exactly where N is clear. -/
theorem guard_q0 (x : Bay) (free : Nat) {y : Syl} (h : y.g = 0) : x.guard free y = !y.n := by
  rw [Bay.guard, h, show x.pred free 0 = true from rfl, Bool.true_bne]

section Guard

variable {d : Dev} {y : Syl} {i : Instr} {f : Dev → SylOut} {u : Bundle}

/-- A syllable whose guard does not hold joins its bundle with no effect (R35). -/
theorem runSyl_guard_false {l : List Instr} (hb : (d.home y).bundle = some u) (hi : d.issuing y.core.toNat y.bay.toNat = true) (hg : (d.home y).guard d.free y = false) (hr : u.rep = none) (ht : u.todo = i :: l) :
    d.runSyl y i f = d.sylDone y.core.toNat y.bay.toNat [] [] := by
  unfold Dev.home at hb hg
  simp [Dev.runSyl, Dev.inBundle, Dev.answered, hb, hi, hr, ht, hg]

/-- A syllable without effect before others of its bundle leaves the bundle one syllable shorter. -/
theorem sylDone_more {n b : Nat} {l : List Instr} (hb : (d.bay n b).bundle = some u) (ht : u.todo = i :: l) (hl : l ≠ []) :
    d.sylDone n b [] [] = d.setBay n b { d.bay n b with bundle := some { u with todo := l } } := by
  simp only [Dev.sylDone, hb, ht, List.tail_cons, List.append_nil, if_neg hl]

end Guard

/-- Settles O58: every syllable's command runs it in its bundle, where a false guard answers with no effect. -/
theorem guardFalseHasNoEffect : Obligations.GuardFalseHasNoEffect := by
  unfold Obligations.GuardFalseHasNoEffect
  intro s c f u rest y x
  refine ⟨guard_eq x _ y, guard_q0 x _, fun hc hp hi hb hr hx hu hg => ?_⟩
  obtain ⟨out, hexec⟩ := exec_syl s c f hc
  have hrun : ∀ l, u.todo = asDecoded c :: l → exec c s = .next { s with dev := s.dev.sylDone y.core.toNat y.bay.toNat [] [] } := by
    intro l ht
    rw [hexec, State.run_on s _ hp, runSyl_guard_false hb hi hg hr ht]
  refine ⟨fun ht => ?last, fun ht hrest => ?more⟩
  case last => rw [hrun [] ht, Dev.sylDone_last _ _ _ [] u _ hb ht hx hu rfl]; rfl
  case more => rw [hrun rest ht, sylDone_more hb ht hrest]; rfl

/-! ## REP (R70) -/

/-- The count REP latches, with the resume count written as R73 has it. -/
theorem repCount_eq (d : Dev) (y : Syl) (cr : Reg) (im : Bool) (imm : BitVec 8) :
    d.repCount y cr im imm = if (d.home y).afterRet && (d.home y).repc.getLsbD 31 then (d.home y).repc.toNat % 256 else if im then imm.toNat else Nat.min (d.src y cr).toNat 255 := by
  rw [Dev.repCount, bits_zero]
  rfl

/-- With no iteration left the bundle completes; its repeated syllable's effects stand already (R70, R72). -/
theorem repLoop_zero {d : Dev} {n b : Nat} {y : Syl} {f : Dev → SylOut} {u : Bundle} (hb : (d.bay n b).bundle = some u) (hx : u.excs = []) :
    Dev.repLoop n b y f 0 d = (((d.setBay n b ((d.bay n b).complete u)).applyAll n b []).stepTrap n b (d.bay n b)).claim n b := by
  simp only [Dev.repLoop, Dev.modBay, Dev.finish, Dev.bay_setBay_self, hb, Option.map_some, hx, pickExc, List.findSome?_nil, List.find?_nil, Dev.setBay_setBay]
  exact congrArg (fun z => ((Dev.stepTrap ((d.setBay n b z).applyAll n b []) n b (d.bay n b)).claim n b)) (Bay.complete_congr (d.bay n b) _ u _ rfl rfl rfl)

/-- A single result takes effect by flying. -/
theorem applyAll_land (d : Dev) (n b : Nat) (t : Dest) (v lat : Nat) : d.applyAll n b [.land t v lat] = d.modBay n b (fun x => x.fly t v lat) := rfl

theorem fly_bundle (x : Bay) (t : Dest) (v lat : Nat) : (x.fly t v lat).bundle = x.bundle := by
  unfold Bay.fly
  split <;> rfl

/-- Settles O16: REP joins its count to the bundle; the count 0 completes it at once, and the count 1 after one iteration's effects. -/
theorem repeatPrefix : Obligations.RepeatPrefix := by
  unfold Obligations.RepeatPrefix
  intro s y cr im imm rest u d a b D n c x N ready
  refine ⟨?latch, ?none, ?once⟩
  case latch =>
    rintro ⟨hp, hi, hb, hg, -, -⟩ hr ht
    have hN : D.repCount y cr im imm = N := repCount_eq D y cr im imm
    have hrun : D.runSyl y (.rep y cr im imm) (fun v => .rep (v.repCount y cr im imm)) = D.answered n c y.pos.toNat u (.rep N) := hN ▸ runSyl_next hb hi hg hr ht
    show Host.Outcome.next (s.run _) = _
    rw [State.run_on s _ hp, hrun, Dev.answered, ht]
    rfl
  case none =>
    rintro ⟨hp, hi, hb, -, he, hx⟩ hr ht hf
    show Host.Outcome.next (s.run _) = _
    rw [State.run_on s _ hp, runSyl_rep hb hi hr hf ht, repLoop_zero hb hx, completes, he]
    rfl
  case once =>
    rintro ⟨hp, hi, hb, hg, he, hx⟩ hr ht hf
    have hb1 : ((D.modBay n c (fun z => z.fly (x.intDest d) (D.src y a + D.src y b).toNat 1)).bay n c).bundle = some u := by
      rw [Dev.modBay, Dev.bay_setBay_self, fly_bundle]
      exact hb
    have hone : D.applyAll n c [D.toInt y d (D.src y a + D.src y b) 1] = D.modBay n c (fun z => z.fly (x.intDest d) (D.src y a + D.src y b).toNat 1) := applyAll_land _ _ _ _ _ _
    show Host.Outcome.next (s.run _) = _
    rw [State.run_on s _ hp, runSyl_rep hb hi hr hf ht, repLoop_one hb hg rfl, hone]
    exact congrArg (fun e => Host.Outcome.next ({ s with dev := e } : State)) ((repLoop_zero hb1 hx).trans (by rw [he]; rfl))

/-! ## Results in flight (R39 to R41) -/

/-- Where a value lands, the results in flight stay as they are. -/
theorem land_flight (x : Bay) (fl : List Flight) (t : Dest) (v : Nat) : ({ x with flight := fl } : Bay).land t v = { x.land t v with flight := fl } := by
  cases t with
  | ir k =>
    simp only [Bay.land]
    split
    · rfl
    · split <;> rfl
  | q m k => cases m <;> rfl
  | lc m => cases m <;> rfl
  | lk m => cases m <;> rfl
  | none => rfl
  | d k => rfl
  | asr => rfl
  | decctl => rfl

theorem age_idle {x : Bay} (h : x.flight = []) : x.age = x := by
  simp only [Bay.age, h, List.map_nil, List.filter_nil, List.foldl_nil]
  rw [← h]

theorem repeat_age_idle {x : Bay} (h : x.flight = []) (k : Nat) : Nat.repeat Bay.age k x = x := by
  induction k with
  | zero => rfl
  | succ k ih => rw [Nat.repeat, ih, age_idle h]

/-- The bay with one result in flight, and nothing else. -/
def flying (x : Bay) (t : Dest) (v : QWord) (lat dist : Nat) : Bay := { x with flight := [{ dest := t, val := v, lat := lat, dist := dist }] }

theorem age_flying_shadow (x : Bay) (t : Dest) (v : QWord) {lat dist : Nat} (h : dist + 1 < lat) : (flying x t v lat dist).age = flying x t v lat (dist + 1) := by
  simp [Bay.age, flying, h, Nat.not_le.2 h]

theorem age_flying_land (x : Bay) (t : Dest) (v : QWord) {lat dist : Nat} (h : lat ≤ dist + 1) : (flying x t v lat dist).age = { x.land t v.toNat with flight := [] } := by
  simp [Bay.age, flying, h, Nat.not_lt.2 h, land_flight]

/-- A result stays in flight as long as fewer bundles have followed than its latency. -/
theorem repeat_age_shadow (x : Bay) (t : Dest) (v : QWord) {lat k : Nat} (h : k < lat ∨ k = 0) : Nat.repeat Bay.age k (flying x t v lat 0) = flying x t v lat k := by
  induction k with
  | zero => rfl
  | succ k ih => rw [Nat.repeat, ih (by omega), age_flying_shadow x t v (by omega)]

/-- From its latency on a result has landed. -/
theorem repeat_age_landed (x : Bay) (t : Dest) (v : QWord) {lat k : Nat} (h : lat ≤ k) (hk : 0 < k) : Nat.repeat Bay.age k (flying x t v lat 0) = { x.land t v.toNat with flight := [] } := by
  induction k with
  | zero => exact absurd hk (by decide)
  | succ k ih =>
    rw [Nat.repeat]
    by_cases hlat : lat ≤ k ∧ 0 < k
    · rw [ih hlat.1 hlat.2, age_idle rfl]
    · rw [repeat_age_shadow x t v (by omega), age_flying_land x t v (by omega)]

theorem fly_intDest {x : Bay} (hx : x.flight = []) {r : Reg} (hr : r ≠ 0) (v : Word) (lat : Nat) :
    x.fly (x.intDest r) v.toNat lat = flying x (.ir (x.phys r.toNat)) (BitVec.ofNat 128 v.toNat) lat 0 := by
  rw [Bay.intDest, if_neg hr, Bay.fly, if_neg (by simp), hx, List.nil_append, flying]

theorem toNat_wide (v : Word) : (BitVec.ofNat 128 v.toNat).toNat = v.toNat := by
  rw [BitVec.toNat_ofNat]
  exact Nat.mod_eq_of_lt (Nat.lt_of_lt_of_le v.isLt (by decide))

theorem ofNat_toNat_self (v : Word) : BitVec.ofNat 32 v.toNat = v := by rw [BitVec.ofNat_toNat, BitVec.setWidth_eq]

theorem int_ne_zero (x : Bay) (free : Nat) {r : Reg} (hr : r ≠ 0) : x.int free r = BitVec.ofNat 32 (x.read free (.ir (x.phys r.toNat))) := by
  rw [Bay.int, if_neg hr]

/-- A register without a result in flight reads as what has landed in it. -/
theorem int_idle {x : Bay} (hx : x.flight = []) (free : Nat) {r : Reg} (hr : r ≠ 0) : x.int free r = Tab.get x.ir (x.phys r.toNat) 0 := by
  rw [int_ne_zero x free hr, Bay.read, hx, List.foldl_nil, Bay.landed, ofNat_toNat_self]

theorem read_flying (x : Bay) (free p k : Nat) (v : QWord) (lat dist : Nat) :
    (flying x (.ir p) v lat dist).read free (.ir k) = if p = k ∧ Config.shadowNew free k = true then v.toNat else x.landed (.ir k) := by
  simp only [Bay.read, flying, List.foldl_cons, List.foldl_nil, Bool.and_eq_true, decide_eq_true_eq, Dest.ir.injEq, Dest.key, Bay.landed]

/-- A read in the shadow of a result gives the old value or the new one; other registers are not in its shadow (R40). -/
theorem int_flying {x : Bay} (hx : x.flight = []) (free p : Nat) (v : Word) (lat dist : Nat) {r : Reg} (hr : r ≠ 0) :
    (flying x (.ir p) (BitVec.ofNat 128 v.toNat) lat dist).int free r = if p = x.phys r.toNat ∧ Config.shadowNew free (x.phys r.toNat) = true then v else x.int free r := by
  have hphys : (flying x (.ir p) (BitVec.ofNat 128 v.toNat) lat dist).phys r.toNat = x.phys r.toNat := rfl
  rw [int_ne_zero _ free hr, hphys, read_flying, int_idle hx free hr, toNat_wide]
  split
  case isTrue => exact ofNat_toNat_self v
  case isFalse => exact ofNat_toNat_self _

/-- What lands in an integer register changes no other one, nor the window that names them. -/
theorem land_ir_phys (x : Bay) (p v code : Nat) : (x.land (.ir p) v).phys code = x.phys code := by
  simp only [Bay.land]
  split
  · rfl
  · split <;> rfl

theorem land_ir_ir (x : Bay) (p v : Nat) : (x.land (.ir p) v).ir = Tab.set x.ir p (BitVec.ofNat 32 v) := by
  simp only [Bay.land]
  split
  · rfl
  · split <;> rfl

theorem int_landed {x : Bay} (hx : x.flight = []) (free p : Nat) (v : Word) {r : Reg} (hr : r ≠ 0) :
    ({ x.land (.ir p) (BitVec.ofNat 128 v.toNat).toNat with flight := [] } : Bay).int free r = if p = x.phys r.toNat then v else x.int free r := by
  have hphys : ({ x.land (.ir p) (BitVec.ofNat 128 v.toNat).toNat with flight := [] } : Bay).phys r.toNat = x.phys r.toNat := land_ir_phys x p _ _
  rw [int_idle rfl free hr, int_idle hx free hr, hphys, land_ir_ir, toNat_wide, BitVec.ofNat_toNat, BitVec.setWidth_eq]
  split
  case isTrue hp => rw [hp, Tab.get_set_self]
  case isFalse hp => exact Tab.get_set_ne _ _ _ (Ne.symm hp)

/-- Settles O59: the result is in flight alone until its latency, and landed from then on. -/
theorem resultsLandAtTheirDistance : Obligations.ResultsLandAtTheirDistance := by
  unfold Obligations.ResultsLandAtTheirDistance
  intro x r r2 v l k free z hx hr hk
  have hz : z = Nat.repeat Bay.age k (flying x (.ir (x.phys r.toNat)) (BitVec.ofNat 128 v.toNat) l 0) := congrArg _ (fly_intDest hx hr v l)
  have hshadow : k < l → z = flying x (.ir (x.phys r.toNat)) (BitVec.ofNat 128 v.toNat) l k := fun h => hz.trans (repeat_age_shadow x _ _ (.inl h))
  have hland : l ≤ k → z = { x.land (.ir (x.phys r.toNat)) (BitVec.ofNat 128 v.toNat).toNat with flight := [] } := fun h => hz.trans (repeat_age_landed x _ _ h hk)
  refine ⟨fun h => ?shadow, fun h => ⟨?new, ?empty⟩, fun hr2 hne => ?other, rfl⟩
  case shadow =>
    rw [hshadow h, int_flying hx free _ v l k hr]
    split
    · exact .inr rfl
    · exact .inl rfl
  case new => rw [hland h, int_landed hx free _ v hr, if_pos rfl]
  case empty => rw [hland h]
  case other =>
    rcases Nat.lt_or_ge k l with h | h
    · rw [hshadow h, int_flying hx free _ v l k hr2, if_neg (fun hp => hne hp.1.symm)]
    · rw [hland h, int_landed hx free _ v hr2, if_neg hne.symm]

/-! ## What a completed bundle of results leaves unchanged (R37, R44) -/

theorem bay_setBay_ne (d : Dev) {n b m k : Nat} (x : Bay) (h : (m, k) ≠ (n, b)) : (d.setBay n b x).bay m k = d.bay m k := by
  by_cases hm : m = n
  · have hk : k ≠ b := fun hk => h (by rw [hm, hk])
    simp [Dev.bay, Dev.setBay, Dev.setCore, Dev.core, Core.bay, hm, hk]
  · simp [Dev.bay, Dev.setBay, Dev.setCore, Dev.core, hm]

theorem core_sb_setBay (d : Dev) (n b m : Nat) (x : Bay) : ((d.setBay n b x).core m).sb = (d.core m).sb := by
  by_cases hm : m = n
  · rw [hm, Dev.setBay, Dev.core_setCore_self, Core.setBay_sb]
  · simp [Dev.setBay, Dev.setCore, Dev.core, hm]

/-- The bay that waits to evict a bay is another one: what the bay itself is does not matter. -/
theorem asker_setBay (d : Dev) (n b : Nat) (x : Bay) : (d.setBay n b x).asker n b = d.asker n b := by
  unfold Dev.asker
  congr 1
  funext a
  by_cases ha : a = b
  · simp [ha]
  · rw [bay_setBay_ne d x (by simp [ha])]

theorem domState_setBay (d : Dev) (n b k : Nat) (x : Bay) : (d.setBay n b x).domState k = d.domState k := rfl

/-- The result an effect puts in flight; one for x0 or q0 is none (R31, R38). -/
def flightOf : Eff → Option Flight
  | .land r v l => if r = .none then none else some { dest := r, val := BitVec.ofNat 128 v, lat := l, dist := 0 }
  | _ => none

/-- Effects that are results alone. -/
def AllResults (es : List Eff) : Prop := ∀ e ∈ es, ∃ r v l, e = .land r v l

/-- The bay with the results of these effects in flight behind those it has. -/
def withResults (x : Bay) (es : List Eff) : Bay := { x with flight := x.flight ++ es.filterMap flightOf }

theorem withResults_nil (x : Bay) : withResults x [] = x := by
  rw [withResults, List.filterMap_nil, List.append_nil]

theorem withResults_cons (x : Bay) (r : Dest) (v l : Nat) (es : List Eff) : withResults x (.land r v l :: es) = withResults (x.fly r v l) es := by
  by_cases hr : r = .none <;> simp [withResults, Bay.fly, flightOf, hr]

theorem foldl_apply_results {es : List Eff} (h : AllResults es) (d : Dev) (n b lvl : Nat) (x : Bay) :
    es.foldl (fun (e : Dev) f => e.apply n b lvl f) (d.setBay n b x) = d.setBay n b (withResults x es) := by
  induction es generalizing x with
  | nil => rw [withResults_nil]; rfl
  | cons e es ih =>
    obtain ⟨r, v, l, rfl⟩ := h e List.mem_cons_self
    have hstep : (d.setBay n b x).apply n b lvl (.land r v l) = d.setBay n b (x.fly r v l) := by
      rw [Dev.apply, Dev.modBay, Dev.bay_setBay_self, Dev.setBay_setBay]
    rw [List.foldl_cons, hstep, ih (fun f hf => h f (List.mem_cons_of_mem _ hf)), withResults_cons]

/-- Results take effect before everything else of a bundle, and no other stage holds any. -/
theorem applyAll_results {es : List Eff} (h : AllResults es) (d : Dev) (n b : Nat) (x : Bay) : (d.setBay n b x).applyAll n b es = d.setBay n b (withResults x es) := by
  have hstage : ∀ e ∈ es, e.stage = 0 := fun e he => by
    obtain ⟨r, v, l, rfl⟩ := h e he
    rfl
  have hfirst : es.filter (fun e => e.stage == 0) = es := List.filter_eq_self.2 fun e he => by rw [hstage e he]; rfl
  have hlater : ∀ k, k ≠ 0 → es.filter (fun e => e.stage == k) = [] := fun k hk => List.filter_eq_nil_iff.2 fun e he => by simp [hstage e he, hk.symm]
  simp only [Dev.applyAll, Dev.applyStage, hfirst, hlater 1 (by decide), hlater 2 (by decide), hlater 3 (by decide), List.foldl_nil, foldl_apply_results h]

/-- A bundle of results, with nothing at its boundary to go on, changes its bay alone. -/
theorem completes_results {s : State} {y : Syl} {u : Bundle} {es : List Eff} (h : AllResults (u.effs ++ es)) (hstep : ¬ ((s.dev.home y).level = 0 ∧ (s.dev.home y).status.getLsbD 5 = true))
    (hask : s.dev.asker y.core.toNat y.bay.toNat = none) (hdom : s.dev.domState (y.core.toNat / 2) ≠ 2) :
    completes s y u es = { s with dev := s.dev.setBay y.core.toNat y.bay.toNat (withResults ((s.dev.home y).complete u) (u.effs ++ es)) } := by
  rw [completes, applyAll_results h, Dev.stepTrap, if_neg hstep, Dev.claim, asker_setBay, hask, domState_setBay]
  exact congrArg (fun e => ({ s with dev := e } : State)) (if_neg hdom)

/-- Settles O60: the bundle's results join those in flight in its bay, and bytes stored read back there alone. -/
theorem completionFrame : Obligations.CompletionFrame := by
  unfold Obligations.CompletionFrame
  intro s y u es m k a x bs D n b t results lands quiet
  refine ⟨?frame, fun hx => Dev.byte_put_out D a x bs hx, fun hc i hi => Dev.byte_put_in D a i bs hc hi⟩
  case frame =>
    rintro hres ⟨hstep, hask, hdom⟩
    have hlands : lands = (u.effs ++ es).filterMap flightOf := rfl
    have ht : t = { s with dev := D.setBay n b (withResults ((D.home y).complete u) (u.effs ++ es)) } := completes_results hres hstep hask hdom
    rw [ht, hlands]
    exact ⟨rfl, Dev.bay_setBay_self _ _ _ _, bay_setBay_ne D _, core_sb_setBay D n b m _, rfl⟩

end Sys2Proof.Proofs

/-! SUPPORT. Fetches, misses, page walks and invalidations: each operation's branches under the conditions that choose them. -/

namespace Sys2Proof.Proofs

open Sys2Proof
open Sys2Proof.Machine
open Sys2Proof.Safety

/-! ## The fetch of a bundle (R28, R29, R235, R259) -/

section Fetch

variable {d : Dev} {n b pa w k : Nat}

/-- A fetch of the running bay opens its bundle, and may find a register that fails its check (R221). -/
theorem becomes_bundleFetch {s : State} {core : CoreNo} {e : Dev} (hrun : s.dev.runningBay core.toNat = some b ∧ s.dev.mayOpen core.toNat b = true) (h : s.dev.fetchBundle core.toNat b = e) :
    Becomes (.bundleFetch { core := core }) s e ∧ Becomes (.bundleFetch { core := core, chk := true }) s (e.registerCheck core.toNat b) := by
  obtain ⟨hbay, hmay⟩ := hrun
  constructor
  · exact becomes_of rfl (by simp [Dev.bundleFetch, hbay, hmay, h])
  · exact becomes_of rfl (by simp [Dev.bundleFetch, hbay, hmay, h])

/-- The first word of a bundle lies at the bay's next address. -/
theorem fetch_first_va (pc : Word) : (pc.toNat + 4 * 0) % 2 ^ 32 = pc.toNat := Nat.mod_eq_of_lt pc.isLt

/-- A first word found in the instruction cache that is the last of its bundle is the whole fetch. -/
theorem fetchWords_cached {pc : Word} {bs : List Byte} (hpa : d.accessHalf n b (d.bay n b).level .fetch false pc.toNat 4 = .ok pa) (hc : d.cached n (pa / 32) = some bs)
    (hw : leAt bs (pa % 32) 4 = w) (hlast : w.testBit 31 = true) : Dev.fetchWords n b pc (k + 1) 0 [] [] none d = (d, .words [w], none) := by
  subst hw
  simp only [Dev.fetchWords, fetch_first_va, hpa, hc, bit, hlast, if_true, List.nil_append]

/-- A block that is not in the cache is filled from memory that answers, and its data is a miss. -/
theorem fetchWords_filled {pc : Word} (hpa : d.accessHalf n b (d.bay n b).level .fetch false pc.toNat 4 = .ok pa) (hc : d.cached n (pa / 32) = none) (hserved : d.servedAt pa = true)
    (hgood : d.poisoned pa 4 = false) (hw : leAt (d.bytes (32 * (pa / 32)) 32) (pa % 32) 4 = w) (hlast : w.testBit 31 = true) :
    Dev.fetchWords n b pc (k + 1) 0 [] [] none d = (d.fillBlock n (pa / 32) [], .words [w], some ((d.missAt n b (d.bay n b).level pc.toNat pa).getD false)) := by
  subst hw
  simp only [Dev.fetchWords, fetch_first_va, hpa, hc, bit, hlast, hserved, hgood, longer, Bool.not_true, Bool.false_eq_true, if_false, if_true, List.nil_append, Option.getD_none, Bool.or_false]

/-- A first word whose page no TLB holds ends the fetch at once. -/
theorem fetchWords_walk {pc : Word} {va : Nat} (hpa : d.accessHalf n b (d.bay n b).level .fetch false pc.toNat 4 = .walk va) :
    Dev.fetchWords n b pc (k + 1) 0 [] [] none d = (d, .walk va, none) := by
  simp only [Dev.fetchWords, fetch_first_va, hpa]

theorem fetchBundle_words {ws : List Nat} (h : Dev.fetchWords n b (d.bay n b).pc 8 0 [] [] none d = (d, .words ws, none)) : d.fetchBundle n b = d.openWords n b ws := by
  simp only [Dev.fetchBundle, h]

theorem fetchBundle_miss {e : Dev} {ws : List Nat} {long : Bool} (h : Dev.fetchWords n b (d.bay n b).pc 8 0 [] [] none d = (e, .words ws, some long)) :
    d.fetchBundle n b = (e.setBay n b ((d.bay n b).waitFor (if long then .miss else .frozen) .data)).tickFree := by
  simp only [Dev.fetchBundle, h]

theorem fetchBundle_walk {va : Nat} (h : Dev.fetchWords n b (d.bay n b).pc 8 0 [] [] none d = (d, .walk va, none)) :
    d.fetchBundle n b = d.setBay n b ((d.bay n b).waitFor (if d.walkLong n ((d.bay n b).tag (d.bay n b).level) va then .miss else .frozen) (.walk va .fetch false 4)) := by
  simp only [Dev.fetchBundle, h]

theorem openWords_decoded {ws : List Nat} {is_ : List Instr} (hlast : ws.any (fun w => w.testBit 31) = true)
    (hdec : decodeBundle (BitVec.ofNat 7 n) (BitVec.ofNat 2 b) (d.bay n b).level (d.bay n b).tooNear ws = .ok is_) : d.openWords n b ws = d.openBundle n b ws.length is_ := by
  simp only [Dev.openWords, bit, hlast, hdec, Bool.not_true, Bool.false_eq_true, if_false]

theorem openWords_refused {ws : List Nat} {c p r : Nat} (hlast : ws.any (fun w => w.testBit 31) = true)
    (hdec : decodeBundle (BitVec.ofNat 7 n) (BitVec.ofNat 2 b) (d.bay n b).level (d.bay n b).tooNear ws = .error (c, p, r)) :
    d.openWords n b ws = d.refuseBundle n b (d.bay n b).pc c p ws.length r := by
  simp only [Dev.openWords, bit, hlast, hdec, Bool.not_true, Bool.false_eq_true, if_false]

/-- Eight words without a last one are no bundle (R28). -/
theorem openWords_endless {ws : List Nat} (h : ws.any (fun w => w.testBit 31) = false) : d.openWords n b ws = d.refuseBundle n b (d.bay n b).pc 1 7 8 1 := by
  simp only [Dev.openWords, bit, h, Bool.not_false, if_true]

end Fetch

/-! ## The data of a miss (R264, R265) -/

section Return

variable {d : Dev} {n b : Nat}

theorem dataReturn_frozen (hst : (d.bay n b).st = .frozen) (hw : (d.bay n b).wait = .data) : d.dataReturn n b = (d.setBay n b { d.bay n b with st := .running, wait := .none }).claim n b := by
  simp only [Dev.dataReturn, hst, hw]

theorem dataReturn_miss (hst : (d.bay n b).st = .miss) (hw : (d.bay n b).wait = .data) : d.dataReturn n b = (d.setBay n b { d.bay n b with st := .ready, wait := .none }).claim n b := by
  simp only [Dev.dataReturn, hst, hw]

/-- A bay that stopped for another reason has its data now. -/
theorem dataReturn_due (hw : (d.bay n b).wait ≠ .data) (hdue : (d.bay n b).dataDue = true) : d.dataReturn n b = (d.setBay n b { d.bay n b with dataDue := false }).claim n b := by
  rw [Dev.dataReturn]
  dsimp only
  split
  next h => exact absurd h hw
  next h => exact absurd h hw
  next => exact if_pos hdue

end Return

/-! ## Page walks (R232, R267) -/

section Walk

variable {d : Dev} {n b va size c r : Nat} {k : AccKind} {form fab : Bool} {h : WalkHit}

/-- A bay that a walk has frozen, or switched out, has it made. -/
theorem walkStep_waiting (hst : (d.bay n b).st = .frozen ∨ (d.bay n b).st = .miss) (hw : (d.bay n b).wait = .walk va k form size) : d.walkStep n b fab = d.pageWalk n b va k form size fab := by
  rcases hst with hst | hst <;> simp only [Dev.walkStep, hst, hw]

/-- A walk that fails keeps its fault for the access that comes again. -/
theorem pageWalk_error (hwalk : d.walk n ((d.bay n b).tag (d.bay n b).level) va fab = .error (c, r)) :
    d.pageWalk n b va k form size fab = d.setBay n b { (d.bay n b).walked with walkFault := some (va, c, r) } := by
  simp only [Dev.pageWalk, hwalk]

/-- The page entry as a walk leaves it: A set, and D on a store (R233). -/
def usedEntry (h : WalkHit) (k : AccKind) : WalkHit := { h with pte := if k = .store then setBits (setBits h.pte 6 6 1) 7 7 1 else setBits h.pte 6 6 1 }

theorem pageWalk_refused (hwalk : d.walk n ((d.bay n b).tag (d.bay n b).level) va fab = .ok h)
    (hcheck : let e := (usedEntry h k).entry ((d.bay n b).tag (d.bay n b).level) va
      d.checkAccess (d.bay n b).level (d.bay n b).kmask k form e.perm (e.physical va) size = some (c, r)) :
    d.pageWalk n b va k form size fab = d.setBay n b { (d.bay n b).walked with walkFault := some (va, c, r) } := by
  simp only [usedEntry] at hcheck
  simp only [Dev.pageWalk, hwalk, hcheck]

theorem pageWalk_found (hwalk : d.walk n ((d.bay n b).tag (d.bay n b).level) va fab = .ok h)
    (hcheck : let e := (usedEntry h k).entry ((d.bay n b).tag (d.bay n b).level) va
      d.checkAccess (d.bay n b).level (d.bay n b).kmask k form e.perm (e.physical va) size = none) :
    d.pageWalk n b va k form size fab =
      ((((if (usedEntry h k).pte = h.pte then d else d.put h.addr (toLe 8 (usedEntry h k).pte)).modCore n
        (fun q => (q.cacheAst ((d.bay n b).tag (d.bay n b).level) h.ast).install d.free (decide (k = .fetch)) ((d.bay n b).tag (d.bay n b).level) va
          ((usedEntry h k).entry ((d.bay n b).tag (d.bay n b).level) va))).modBay n b (fun q => { q.walked with walkFault := none })).tickFree) := by
  simp only [usedEntry] at hcheck
  simp only [Dev.pageWalk, hwalk, hcheck, usedEntry]
  rfl

end Walk

/-! ## Invalidations (R240) -/

section Invalidation

variable {d : Dev} {n b t : Nat} {i : Nat × Nat × Nat} {rest : List (Nat × Nat × Nat)}

/-- The list of open invalidations is no part of a bay. -/
theorem bay_invs (d : Dev) (n b : Nat) (l : List (Nat × Nat × Nat)) : (d.modCore n (fun c => { c with invs := l })).bay n b = d.bay n b := by
  rw [Dev.bay, Dev.modCore, Dev.core_setCore_self]
  rfl

/-- The oldest invalidation, performed at its target, leaves its core's list; a bay that waits for its last one goes on. -/
theorem invalidated_first (hi : (d.core n).invs = i :: rest) (hb : i.1 = b) (ht : i.2.1 = t) (hold : d.oldStores t i.2.2 = false) :
    d.invalidated n b t = if ∃ j ∈ rest, j.1 = b then d.modCore n (fun c => { c with invs := rest })
      else (d.modCore n (fun c => { c with invs := rest })).setBay n b (if (d.bay n b).st = .waiting ∧ (d.bay n b).wait = .syncT then (d.bay n b).resume else d.bay n b) := by
  have hfind : (d.core n).invs.find? (fun i => i.1 == b && i.2.1 == t && (!d.oldStores t i.2.2 || d.coreLocked t || d.domState (t / 2) != 1)) = some i := by
    simp [hi, hb, ht, hold]
  have herase : d.modCore n (fun c => { c with invs := c.invs.erase i }) = d.modCore n (fun c => { c with invs := rest }) := by
    rw [Dev.modCore, Dev.modCore, hi, List.erase_cons_head]
  have hrest : ((d.modCore n (fun c => { c with invs := rest })).core n).invs = rest := by rw [Dev.modCore, Dev.core_setCore_self]
  simp only [Dev.invalidated, hfind, herase, hrest, List.any_eq_true, beq_iff_eq, Dev.modBay, bay_invs]

end Invalidation

/-- Settles O35: the fetch, the return, the walk and the invalidation take the branches their conditions name. -/
theorem fetchesMissesAndWalks : Obligations.FetchesMissesAndWalks := by
  unfold Obligations.FetchesMissesAndWalks
  intro s core target bay b pa w va size c p r bs ws is_ k form fab chk h i rest D n x B z pc runs at_ got y opened decodes refused pte tag e waits goes fails done
  have hwalks : waits → D.walkStep n B fab = D.pageWalk n B va k form size fab := fun hw => walkStep_waiting hw.1 hw.2
  refine ⟨?decoded, ?refused, ?endless, ?cached, ?filled, ?noPage, ?frozen, ?switchedOut, ?due, ?walked, ?walkFails, ?walkRefused, ?more, ?last, ?other⟩
  case decoded =>
    rintro ⟨hrun, hf⟩ hlast hdec
    exact becomes_bundleFetch hrun ((fetchBundle_words hf).trans (openWords_decoded hlast hdec))
  case refused =>
    rintro ⟨hrun, hf⟩ hlast hdec
    exact (becomes_bundleFetch hrun ((fetchBundle_words hf).trans (openWords_refused hlast hdec))).1
  case endless =>
    rintro ⟨hrun, hf⟩ hno
    exact (becomes_bundleFetch hrun ((fetchBundle_words hf).trans (openWords_endless hno))).1
  case cached =>
    rintro ⟨hrun, hpa⟩ hc hw hlast hdec
    have hany : [w].any (fun w => w.testBit 31) = true := by rw [List.any_cons, hlast]; rfl
    exact (becomes_bundleFetch hrun ((fetchBundle_words (fetchWords_cached hpa hc hw hlast)).trans (openWords_decoded hany hdec))).1
  case filled =>
    rintro ⟨hrun, hpa⟩ hc hserved hgood hw hlast
    exact (becomes_bundleFetch hrun (fetchBundle_miss (fetchWords_filled hpa hc hserved hgood hw hlast))).1
  case noPage => exact fun hrun hpa => (becomes_bundleFetch hrun (fetchBundle_walk (fetchWords_walk hpa))).1
  case frozen => exact fun hst hw => becomes_of rfl (dataReturn_frozen hst hw)
  case switchedOut => exact fun hst hw => becomes_of rfl (dataReturn_miss hst hw)
  case due => exact fun hw hdue => becomes_of rfl (dataReturn_due hw hdue)
  case walked => exact fun hw hwalk hcheck => becomes_of rfl ((hwalks hw).trans (pageWalk_found hwalk hcheck))
  case walkFails => exact fun hw hwalk => becomes_of rfl ((hwalks hw).trans (pageWalk_error hwalk))
  case walkRefused => exact fun hw hwalk hcheck => becomes_of rfl ((hwalks hw).trans (pageWalk_refused hwalk hcheck))
  case more =>
    rintro ⟨hi, hb, ht, hold⟩ hmore
    exact becomes_of rfl ((invalidated_first hi hb ht hold).trans (if_pos hmore))
  case last =>
    rintro ⟨hi, hb, ht, hold⟩ hnone hst hw
    refine becomes_of rfl ((invalidated_first hi hb ht hold).trans ((if_neg fun ⟨j, hj, hjb⟩ => hnone j hj hjb).trans ?_))
    rw [if_pos ⟨hst, hw⟩]
  case other =>
    rintro ⟨hi, hb, ht, hold⟩ hnone hw
    refine becomes_of rfl ((invalidated_first hi hb ht hold).trans ((if_neg fun ⟨j, hj, hjb⟩ => hnone j hj hjb).trans ?_))
    rw [if_neg (fun h => hw h.2)]

end Sys2Proof.Proofs

/-! SUPPORT. Decimal values: the exact sum and product before the one rounding, exact results, quieted NaNs, and declets. -/

namespace Sys2Proof.Proofs

open Sys2Proof

/-! ## Exact results, rounded once (R89, R90, R92) -/

theorem alignTo_eq (s : Bool) (c : Nat) (e g : Int) : alignTo s c e g = (if s then -1 else 1) * ((c : Int) * 10 ^ (e - g).toNat) := by
  cases s <;> simp [alignTo]

/-- The sum of finite data is formed at the smaller exponent and rounded once; the sign of an exact zero is that of R92. -/
theorem add_fin (f : DFmt) (rm : Nat) (s t : Bool) (c k : Nat) (e g : Int) :
    let sum := alignTo s c e (min e g) + alignTo t k g (min e g)
    f.add rm (.fin s c e) (.fin t k g) = f.round rm (if sum = 0 then (if s = t then s else rm == 6) else decide (sum < 0)) sum.natAbs (min e g) := rfl

theorem mul_fin (f : DFmt) (rm : Nat) (s t : Bool) (c k : Nat) (e g : Int) : f.mul rm (.fin s c e) (.fin t k g) = f.round rm (s != t) (c * k) (e + g) := rfl

theorem round_zero (f : DFmt) (rm : Nat) (s : Bool) (e : Int) : f.round rm s 0 e = (.fin s 0 (max f.etiny (min e f.eqmax)), {}) := rfl

/-- Where the coefficient has at most p digits and the exponent lies in the format's range, no digit is dropped. -/
theorem round_exact {f : DFmt} {c : Nat} {e : Int} (rm : Nat) (s : Bool) (hc : c ≠ 0) (hp : digits c ≤ f.p) (hlo : f.etiny ≤ e) (hhi : e ≤ f.eqmax) :
    f.round rm s c e = (.fin s c e, {}) := by
  have hk : (max (max ((digits c : Int) - f.p) (f.etiny - e)) 0).toNat = 0 := by omega
  have hdrop : dropDigits rm s c 0 = (c, false) := rfl
  simp only [DFmt.round, if_neg hc, hk, hdrop, Nat.cast_zero, add_zero, gt_iff_lt, if_neg (Nat.not_lt.2 hp), if_neg (Int.not_lt.2 hhi), Bool.and_false]

/-! ## NaNs (R93) -/

theorem add_snan (f : DFmt) (rm : Nat) (s : Bool) (pl : Nat) (v : DVal) : f.add rm (.nan s true pl) v = (.nan s false pl, { vf := true }) := rfl

theorem mul_snan (f : DFmt) (rm : Nat) (s : Bool) (pl : Nat) (v : DVal) : f.mul rm (.nan s true pl) v = (.nan s false pl, { vf := true }) := rfl

/-! ## Declets (R94) -/

theorem decodeDeclet_encodeDeclet_digits : ∀ a b c : Fin 10, decodeDeclet (encodeDeclet (100 * a + 10 * b + c)) = 100 * a + 10 * b + c := by decide

theorem decodeDeclet_encodeDeclet {n : Nat} (h : n < 1000) : decodeDeclet (encodeDeclet n) = n := by
  have hn : 100 * (n / 100) + 10 * (n / 10 % 10) + n % 10 = n := by omega
  have hdigits := decodeDeclet_encodeDeclet_digits ⟨n / 100, by omega⟩ ⟨n / 10 % 10, by omega⟩ ⟨n % 10, by omega⟩
  rwa [hn] at hdigits

/-- Settles O22: each operation hands the exact sum or product to the one rounding, which changes nothing that fits. -/
theorem decimalResultsRoundOnce : Obligations.DecimalResultsRoundOnce := by
  unfold Obligations.DecimalResultsRoundOnce
  intro f rm s t c k e g v val low sum
  have hsum : alignTo s c e low + alignTo t k g low = sum := congrArg₂ (· + ·) (alignTo_eq s c e low) (alignTo_eq t k g low)
  have hadd := add_fin f rm s t c k e g
  dsimp only at hadd
  rw [hsum] at hadd
  refine ⟨fun hne => ?nonzero, fun hz hst => ?sameSign, fun hz hst => ?opposite, mul_fin f rm s t c k e g, round_exact rm s, round_zero f rm s e,
    add_snan f rm s c v, mul_snan f rm s c v, fun n => decodeDeclet_encodeDeclet⟩
  case nonzero => rw [hadd, if_neg hne]
  case sameSign => rw [hadd, if_pos hz, if_pos hst, hz, Int.natAbs_zero]
  case opposite =>
    rw [hadd, if_pos hz, if_neg hst, hz, Int.natAbs_zero]
    rfl

end Sys2Proof.Proofs

/-! SUPPORT. The decimal and packed syllables: what an outcome lands, what it flags, and which check or trap answers for it first. -/

namespace Sys2Proof.Proofs

open Sys2Proof
open Sys2Proof.Machine
open Sys2Proof.Safety

/-! ## DECCTL as the syllables read it (R84, R86) -/

theorem decDX_eq (d : Dev) (y : Syl) : decDX (d.decNow y) = (d.home y).decctl.toNat.testBit 19 := rfl

theorem decDQ_eq (c : Nat) : decDQ c = c / 2 ^ 12 % 16 := bits_eq_div_mod c 15 12

/-- The indication of a data check as a result: it goes to qDQ, and nowhere under DX or where DQ is 0 (R97). -/
def dqResult (x : Bay) (v lat : Nat) : List Eff :=
  if x.decctl.toNat.testBit 19 = true ∨ x.decctl.toNat / 2 ^ 12 % 16 = 0 then [] else [.land (.q x.mbank (x.decctl.toNat / 2 ^ 12 % 16)) v lat]

theorem dqEffs_eq (d : Dev) (y : Syl) (v : Bool) (lat : Nat) : d.dqEffs y v lat = dqResult (d.home y) (b2n v) lat := by
  have hdq : decDQ (d.decNow y) = (d.home y).decctl.toNat / 2 ^ 12 % 16 := decDQ_eq _
  simp only [Dev.dqEffs, dqResult, decDX_eq, hdq]

@[simp] theorem settled_dqResult (d : Dev) (n b : Nat) (x : Bay) (v lat : Nat) : Settled d n b (dqResult x v lat) = true := by
  unfold dqResult
  split <;> rfl

section Outcome

variable {s : State} {y : Syl} {i : Instr} {f : Dev → SylOut}

/-! ## Arithmetic outcomes (R87, R95) -/

/-- An outcome is delivered: it traps with the first condition that is met under its enable, or lands with its flags. -/
def Delivers (s : State) (y : Syl) (i : Instr) (t : Dest) (lat v : Nat) (fl : DFlags) : Prop :=
  let on := fun (k : Nat) => (s.dev.home y).decctl.toNat.testBit k
  (fl.vf && on 18 → TrapsWith s y i 0x0B 1 0 0)
    ∧ (!(fl.vf && on 18) && fl.zf && on 17 → TrapsWith s y i 0x0B 2 0 0)
    ∧ (!(fl.vf && on 18) && !(fl.zf && on 17) && fl.of && on 16 → TrapsWith s y i 0x0B 3 0 0)
    ∧ (!(fl.vf && on 18) && !(fl.zf && on 17) && !(fl.of && on 16) → Completes s y i (.land t v lat :: decEffs fl lat))

theorem delivers_decOut {t : Dest} {v lat : Nat} {fl : DFlags} (hx : exec i s = .next (s.run (fun e => e.runSyl y (asDecoded i) f))) (hf : f s.dev = s.dev.decOut y t v lat fl []) :
    Delivers s y i t lat v fl := by
  obtain ⟨hinvalid, hzero, hover, hquiet⟩ := decOut_cases s.dev y t v lat fl []
  refine ⟨fun h => traps_of hx (hf.trans (hinvalid h)), fun h => traps_of hx (hf.trans (hzero h)), fun h => traps_of hx (hf.trans (hover h)), fun h => ?_⟩
  exact done_of hx (hf.trans ((hquiet h).trans (by rw [List.append_nil, decEffs]))) (settled_dec _ _ _ _ _)

theorem delivers_decR {r : DReg} {lat : Nat} {o : DOut} (hx : exec i s = .next (s.run (fun e => e.runSyl y (asDecoded i) f))) (hf : f s.dev = s.dev.decR y r lat o) :
    Delivers s y i (.d r.toNat) lat o.val.toNat o.fl :=
  delivers_decOut hx hf

/-! ## Checked operands (R97, R98) -/

/-- An outcome is delivered behind a data check: valid data land it with its flags and a clear indication, and invalid data trap under DX, or else land the substitute with DF and the indication set. -/
def DeliversChecked (s : State) (y : Syl) (i : Instr) (t : Dest) (lat : Nat) (err : Option Nat) (subst v : Nat) (fl : DFlags) : Prop :=
  let on := fun (k : Nat) => (s.dev.home y).decctl.toNat.testBit k
  (err = none → (!(fl.vf && on 18) && !(fl.zf && on 17) && !(fl.of && on 16)) = true → Completes s y i ((.land t v lat :: decEffs fl lat) ++ dqResult (s.dev.home y) 0 lat))
    ∧ (∀ r, err = some r → on 19 = true → TrapsWith s y i 0x0A r 0 0)
    ∧ (∀ r, err = some r → on 19 = false → Completes s y i ([.land t subst lat, .land .decctl 32 lat] ++ dqResult (s.dev.home y) 1 lat))

theorem deliversChecked_checked {t : Dest} {lat subst v : Nat} {err : Option Nat} {fl : DFlags} (hx : exec i s = .next (s.run (fun e => e.runSyl y (asDecoded i) f)))
    (hf : f s.dev = s.dev.checked y t lat err subst v fl) : DeliversChecked s y i t lat err subst v fl := by
  have hind : ∀ b, s.dev.dqEffs y b lat = dqResult (s.dev.home y) (b2n b) lat := fun b => dqEffs_eq _ _ _ _
  refine ⟨?valid, ?trap, ?substitute⟩
  case valid =>
    rintro rfl hquiet
    obtain ⟨-, -, -, hdone⟩ := decOut_cases s.dev y t v lat fl (s.dev.dqEffs y false lat)
    refine done_of hx (hf.trans ((hdone hquiet).trans (by rw [hind]; rfl))) ?_
    rw [settled_append, settled_dqResult, Bool.and_true]
    exact settled_dec _ _ _ _ _
  case trap =>
    rintro r rfl hdx
    exact traps_of hx (hf.trans (if_pos hdx))
  case substitute =>
    rintro r rfl hdx
    refine done_of hx (hf.trans ((if_neg (Bool.eq_false_iff.1 hdx)).trans (by rw [hind]; rfl))) ?_
    rw [settled_append, settled_dqResult]
    rfl

theorem deliversChecked_packed1 {r : DReg} {lat : Nat} {a subst : QWord} {o : DOut} (hx : exec i s = .next (s.run (fun e => e.runSyl y (asDecoded i) f)))
    (hf : f s.dev = s.dev.packed1 y r lat a subst o) : DeliversChecked s y i (.d r.toNat) lat (packedCheck true a.toNat) subst.toNat o.val.toNat o.fl := by
  have hone : packedCheck2 a none = packedCheck true a.toNat := Option.or_none
  exact hone ▸ deliversChecked_checked hx hf

theorem deliversChecked_packed2 {r : DReg} {lat : Nat} {a b : QWord} {o : DOut} (hx : exec i s = .next (s.run (fun e => e.runSyl y (asDecoded i) f)))
    (hf : f s.dev = s.dev.packed2 y r lat a b o) :
    DeliversChecked s y i (.d r.toNat) lat ((packedCheck true a.toNat).or (packedCheck false b.toNat)) invalidPacked.toNat o.val.toNat o.fl :=
  deliversChecked_checked hx hf

end Outcome

/-- Settles O21: every operation is its result delivered, under the rounding mode that DECCTL holds. -/
theorem decimalArithmeticAndConversions : Obligations.DecimalArithmeticAndConversions := by
  unfold Obligations.DecimalArithmeticAndConversions
  intro s y d a b ra A B ctl rm on gives r
  have hrm : s.dev.rm y = rm := rm_eq
  clear_value rm
  subst hrm
  refine ⟨?dadd, ?dsub, ?dmul, ?ddiv, ?dqua, ?drni, ?dneg, ?dabs, ?dcps, ?daddX, ?dsubX, ?dmulX, ?ddivX, ?dquaX, ?drniX, ?dnegX, ?dabsX, ?dcpsX, ?cvtX, ?cvtD, ?cvid, ?cvdi,
    fun n => ⟨?cvdp, ?cvxp⟩⟩
  case dadd => exact delivers_decR rfl rfl
  case dsub => exact delivers_decR rfl rfl
  case dmul => exact delivers_decR rfl rfl
  case ddiv => exact delivers_decR rfl rfl
  case dqua => exact delivers_decR rfl rfl
  case drni => exact delivers_decR rfl rfl
  case dneg => exact delivers_decR rfl rfl
  case dabs => exact delivers_decR rfl rfl
  case dcps => exact delivers_decR rfl rfl
  case daddX => exact delivers_decR rfl rfl
  case dsubX => exact delivers_decR rfl rfl
  case dmulX => exact delivers_decR rfl rfl
  case ddivX => exact delivers_decR rfl rfl
  case dquaX => exact delivers_decR rfl rfl
  case drniX => exact delivers_decR rfl rfl
  case dnegX => exact delivers_decR rfl rfl
  case dabsX => exact delivers_decR rfl rfl
  case dcpsX => exact delivers_decR rfl rfl
  case cvtX => exact delivers_decR rfl rfl
  case cvtD => exact delivers_decR rfl rfl
  case cvid => exact delivers_decR rfl rfl
  case cvdi => exact delivers_decOut rfl rfl
  case cvdp => exact delivers_decR rfl rfl
  case cvxp => exact delivers_decR rfl rfl

theorem packedShl_eq (n : Nat) (x : QWord) : packedShl n x = packedOut (packedVal x.toNat * 10 ^ n) := by
  rw [packedShl, Nat.cast_pow]
  rfl

/-- Settles O23: the check of the operands answers first, and valid operands deliver the result. -/
theorem packedOperationsAndCompares : Obligations.PackedOperationsAndCompares := by
  unfold Obligations.PackedOperationsAndCompares
  intro s y d a b n qt sg w cond A B x ctl rm dq on ind quiet flags gives one both nan ones r
  have hrm : s.dev.rm y = rm := rm_eq
  clear_value rm
  subst hrm
  refine ⟨?cvpd, ?cvpx, ?padd, ?psub, ?pshl, ?pshr, ?pchk, ?pcmp, ?dcmp⟩
  case cvpd => exact deliversChecked_packed1 rfl rfl
  case cvpx => exact deliversChecked_packed1 rfl rfl
  case padd => exact deliversChecked_packed2 rfl rfl
  case psub => exact deliversChecked_packed2 rfl rfl
  case pshl => exact deliversChecked_packed1 rfl (congrArg (s.dev.packed1 y d 2 A invalidPacked) (packedShl_eq n.toNat A))
  case pshr => exact deliversChecked_packed1 rfl rfl
  case pchk => exact deliversChecked_packed1 rfl rfl
  case pcmp => exact deliversChecked_checked rfl rfl
  case dcmp =>
    intro hquiet
    obtain ⟨-, -, -, hdone⟩ := delivers_decOut (i := .dcmp y qt sg a b cond w) rfl rfl
    exact hdone hquiet

end Sys2Proof.Proofs

/-! SUPPORT. The decimal loads and stores: addresses, the order of their checks, and what each shared operation answers. -/

namespace Sys2Proof.Proofs

open Sys2Proof
open Sys2Proof.Machine
open Sys2Proof.Safety

/-! ## Addresses (R106) -/

theorem effAddrD_none (A : Word) (disp : BitVec 6) (size : Nat) : effAddrD A disp none size = A + BitVec.ofInt 32 (disp.toInt * size) :=
  congrArg (fun z : Int => A + BitVec.ofInt 32 (z * size)) (sextI_toNat disp (by decide))

theorem effAddrD_some (A : Word) (disp : BitVec 6) (q : Limm) (size : Nat) : effAddrD A disp (some q) size = A + (q ++ disp : BitVec 28).signExtend 32 :=
  congrArg (A + ·) (immCmp_some disp q)

/-! ## Stores with room (R268, R269) -/

/-- A store whose access translates enters the store buffer where it has room. -/
theorem storeOut_room {d : Dev} {n b va : Nat} {form : Bool} {bs : List Byte} {hs : List (Nat × Nat)} (more : List Eff)
    (hreach : d.reach n b (d.bay n b).level .store form va bs.length = .ok hs) (hroom : (d.core n).sb.length + hs.length ≤ 16) :
    d.storeOut n b va form bs more = .done (more ++ d.storeEffs hs bs) := by
  simp only [Dev.storeOut, hreach, if_neg (Nat.not_lt.2 hroom)]

section Syllable

variable {s : State} {y : Syl} {i : Instr} {f : Dev → SylOut} {r : DReg} {va : Word} {hs : List (Nat × Nat)}

/-- A decimal load from memory that answers lands its field, with its miss. -/
theorem completes_decLoad {size : Nat} {mk : List Byte → Nat} (hx : exec i s = .next (s.run (fun e => e.runSyl y (asDecoded i) f))) (hf : f s.dev = s.dev.decLoad y r va size mk)
    (hok : s.dev.reach y.core.toNat y.bay.toNat (s.dev.home y).level .load false va.toNat size = .ok hs ∧ s.dev.region (hs.headD (0, 0)).1 ≠ .devreg ∧ s.dev.unreadable va.toNat hs = none) :
    Completes s y i ([.land (.d r.toNat) (mk (s.dev.loadHalves y.core.toNat hs)) 3] ++ s.dev.missEffs y.core.toNat y.bay.toNat (s.dev.home y).level va.toNat hs) := by
  obtain ⟨hreach, hmem, hread⟩ := hok
  exact done_of hx (hf.trans (loadOut_memory hreach hmem hread)) (by rw [settled_append, settled_miss]; rfl)

/-- A store after flags completes with both, where its access translates and the store buffer has room. -/
theorem completes_store {bs : List Byte} {more : List Eff} (hx : exec i s = .next (s.run (fun e => e.runSyl y (asDecoded i) f)))
    (hf : f s.dev = s.dev.storeOut y.core.toNat y.bay.toNat va.toNat false bs more) (hmore : Settled s.dev y.core.toNat y.bay.toNat more = true)
    (hput : s.dev.reach y.core.toNat y.bay.toNat (s.dev.home y).level .store false va.toNat bs.length = .ok hs ∧ (s.dev.core y.core.toNat).sb.length + hs.length ≤ 16) :
    Completes s y i (more ++ s.dev.storeEffs hs bs) := by
  obtain ⟨hreach, hroom⟩ := hput
  exact done_of hx (hf.trans (storeOut_room more hreach hroom)) (by rw [settled_append, hmore, settled_store]; rfl)

/-- A decimal store enters the low bytes of its register. -/
theorem completes_decStore {size : Nat} (hx : exec i s = .next (s.run (fun e => e.runSyl y (asDecoded i) f))) (hf : f s.dev = s.dev.decStore y r va size)
    (hput : s.dev.reach y.core.toNat y.bay.toNat (s.dev.home y).level .store false va.toNat (toLe size (s.dev.dsrc y r).toNat).length = .ok hs ∧ (s.dev.core y.core.toNat).sb.length + hs.length ≤ 16) :
    Completes s y i (s.dev.storeEffs hs (toLe size (s.dev.dsrc y r).toNat)) :=
  completes_store (more := []) hx hf rfl hput

end Syllable

/-! ## The checks of LDZ, STP and STZ (R95, R107) -/

/-- An outcome that is neither invalid nor a division by zero traps for its overflow alone. -/
theorem decTrap_overflow (c : Nat) (df o : Bool) : decTrap c { df := df, of := o } = if (o && c.testBit 16) = true then some 3 else none := rfl

section Checks

variable {d : Dev} {y : Syl} {r : DReg} {va : Word} {n k : Nat}

theorem stpSyl_overflow (h : ((stpOut n (d.dsrc y r)).2 && (d.home y).decctl.toNat.testBit 16) = true) : d.stpSyl y r va n = .exc 0x0B 3 0 0 := by
  have htrap : decTrap (d.decNow y) { of := (stpOut n (d.dsrc y r)).2 } = some 3 := (decTrap_overflow _ _ _).trans (if_pos h)
  simp only [Dev.stpSyl, htrap]

theorem stpSyl_fits (h : ((stpOut n (d.dsrc y r)).2 && (d.home y).decctl.toNat.testBit 16) = false) :
    d.stpSyl y r va n = d.storeOut y.core.toNat y.bay.toNat va.toNat false (stpOut n (d.dsrc y r)).1 (decEffs { of := (stpOut n (d.dsrc y r)).2 } 1) := by
  have htrap : decTrap (d.decNow y) { of := (stpOut n (d.dsrc y r)).2 } = none := (decTrap_overflow _ _ _).trans (if_neg (Bool.eq_false_iff.1 h))
  simp only [Dev.stpSyl, htrap]

theorem stzSyl_invalid (hbad : packedCheck true (d.dsrc y r).toNat = some k) (hdx : (d.home y).decctl.toNat.testBit 19 = true) : d.stzSyl y r va n = .exc 0x0A k 0 0 := by
  simp only [Dev.stzSyl, hbad, decDX_eq, hdx]

theorem stzSyl_overflow (hcheck : ((packedCheck true (d.dsrc y r).toNat).isSome && (d.home y).decctl.toNat.testBit 19) = false)
    (h : ((stzOut n (d.dsrc y r)).2 && (d.home y).decctl.toNat.testBit 16) = true) : d.stzSyl y r va n = .exc 0x0B 3 0 0 := by
  have htrap : ∀ df, decTrap (d.decNow y) { df := df, of := (stzOut n (d.dsrc y r)).2 } = some 3 := fun df => (decTrap_overflow _ df _).trans (if_pos h)
  cases hbad : packedCheck true (d.dsrc y r).toNat with
  | none => simp only [Dev.stzSyl, hbad, htrap]
  | some k =>
    rw [hbad, Option.isSome_some, Bool.true_and] at hcheck
    simp only [Dev.stzSyl, hbad, htrap, decDX_eq, hcheck]

theorem stzSyl_substitute (hbad : packedCheck true (d.dsrc y r).toNat = some k) (hdx : (d.home y).decctl.toNat.testBit 19 = false)
    (h : ((stzOut n (d.dsrc y r)).2 && (d.home y).decctl.toNat.testBit 16) = false) :
    d.stzSyl y r va n = .done (decEffs { df := true, of := (stzOut n (d.dsrc y r)).2 } 1 ++ d.dqEffs y true 1) := by
  have htrap : decTrap (d.decNow y) { df := true, of := (stzOut n (d.dsrc y r)).2 } = none := (decTrap_overflow _ _ _).trans (if_neg (Bool.eq_false_iff.1 h))
  simp only [Dev.stzSyl, hbad, Option.isSome_some, htrap, decDX_eq, hdx]

theorem stzSyl_fits (hgood : packedCheck true (d.dsrc y r).toNat = none) (h : ((stzOut n (d.dsrc y r)).2 && (d.home y).decctl.toNat.testBit 16) = false) :
    d.stzSyl y r va n = d.storeOut y.core.toNat y.bay.toNat va.toNat false (stzOut n (d.dsrc y r)).1 (decEffs { of := (stzOut n (d.dsrc y r)).2 } 1 ++ d.dqEffs y false 1) := by
  have htrap : decTrap (d.decNow y) { df := false, of := (stzOut n (d.dsrc y r)).2 } = none := (decTrap_overflow _ _ _).trans (if_neg (Bool.eq_false_iff.1 h))
  simp only [Dev.stzSyl, hgood, Option.isSome_none, htrap]

variable {hs : List (Nat × Nat)}

/-- LDZ reads its field, then checks every byte of it. -/
theorem ldzSyl_read (hreach : d.reach y.core.toNat y.bay.toNat (d.home y).level .load false va.toNat n = .ok hs) (hread : d.unreadable va.toNat hs = none) :
    let o := ldzOut (d.loadHalves y.core.toNat hs)
    d.ldzSyl y r va n = if (o.2 && (d.home y).decctl.toNat.testBit 19) = true then .exc 0x0A 5 0 0
      else .done (.land (.d r.toNat) o.1.toNat 5 :: decEffs { df := o.2 } 5 ++ d.dqEffs y o.2 5 ++ d.missEffs y.core.toNat y.bay.toNat (d.home y).level va.toNat hs) := by
  simp only [Dev.ldzSyl, hreach, hread]
  rfl

end Checks

/-- Settles O24: the data check comes before the overflow check, and both before the store. -/
theorem decimalMemoryOperations : Obligations.DecimalMemoryOperations := by
  unfold Obligations.DecimalMemoryOperations
  intro s y d a disp p len hs D x n A V ea t ok bs es put ctl on dq flags ind bad
  have hea : ∀ k, effAddrD A disp p k = ea k := fun k => by
    cases p with
    | none => exact effAddrD_none A disp k
    | some q => exact effAddrD_some A disp q k
  have hind : ∀ v lat, D.dqEffs y v lat = ind v lat := dqEffs_eq D y
  have hflags : ∀ f lat more, Settled D n y.bay.toNat (flags f lat ++ ind more lat) = true := fun f lat v => by
    rw [← hind, settled_append, settled_dq, Bool.and_true]
    exact settled_dec _ _ _ _ _
  refine ⟨?ldd, ?lddX, ?ldp, ?ldzInvalid, ?ldz, ?std, ?stdX, ?stpOverflow, ?stp, ?stzInvalid, ?stzOverflow, ?stzSubstitute, ?stz⟩
  case ldd => exact completes_decLoad rfl (congrArg (fun va => D.decLoad y d va 8 fromLe) (hea 8))
  case lddX => exact completes_decLoad rfl (congrArg (fun va => D.decLoad y d va 16 fromLe) (hea 16))
  case ldp => exact completes_decLoad (mk := fun l => (packedLoad l).toNat) rfl rfl
  case ldzInvalid =>
    rintro ⟨hreach, -, hread⟩ hbad hdx
    exact traps_of rfl ((ldzSyl_read hreach hread).trans (if_pos (by rw [hbad]; exact hdx)))
  case ldz =>
    rintro ⟨hreach, -, hread⟩ hdx
    refine done_of rfl ((ldzSyl_read hreach hread).trans ((if_neg (Bool.eq_false_iff.1 hdx)).trans (by rw [hind]; rfl))) ?_
    rw [settled_append, settled_miss, Bool.and_true]
    exact hflags _ _ _
  case std => exact completes_decStore rfl (congrArg (fun va => D.decStore y d va 8) (hea 8))
  case stdX => exact completes_decStore rfl (congrArg (fun va => D.decStore y d va 16) (hea 16))
  case stpOverflow => exact fun hof hoe => traps_of rfl (stpSyl_overflow (by rw [Bool.and_eq_true]; exact ⟨hof, hoe⟩))
  case stp => exact fun hput h => completes_store rfl (stpSyl_fits h) (settled_dec _ _ _ _ _) hput
  case stzInvalid => exact fun r hbad hdx => traps_of rfl (stzSyl_invalid hbad hdx)
  case stzOverflow => exact fun hcheck hof hoe => traps_of rfl (stzSyl_overflow hcheck (by rw [Bool.and_eq_true]; exact ⟨hof, hoe⟩))
  case stzSubstitute =>
    intro r hbad hdx h
    exact done_of rfl ((stzSyl_substitute hbad hdx h).trans (by rw [hind]; rfl)) (hflags _ _ _)
  case stz => exact fun hgood hput h => completes_store rfl ((stzSyl_fits hgood h).trans (by rw [hind]; rfl)) (hflags _ _ _) hput

end Sys2Proof.Proofs

/-! SUPPORT. The multiply-accumulate streams: how one begins, and the step that one element of MACS.B makes (R110, R112). -/

namespace Sys2Proof.Proofs

open Sys2Proof
open Sys2Proof.Machine
open Sys2Proof.Safety

/-! ## The beginning of a stream -/

theorem streamOut_zero {d : Dev} {y : Syl} {c : Reg} (h : d.src y c = 0) (kind : ProgKind) (k : DReg) (a b : Reg) : d.streamOut y kind k a b c = .done [] := if_pos h

theorem streamOut_begin {d : Dev} {y : Syl} {c : Reg} (h : d.src y c ≠ 0) (kind : ProgKind) (k : DReg) (a b : Reg) :
    d.streamOut y kind k a b c = .begin (d.modBay y.core.toNat y.bay.toNat (fun x => { x with
      prog := some { kind := kind, syl := y, rd := k, ra := a, rb := b, rc := c, desc := { src := d.src y a, dst := d.src y b, len := d.src y c } } })) :=
  if_neg h

/-- A stream syllable has no effect where its count is 0, and else leaves its elements to follow. -/
theorem stream_begins {s : State} {y : Syl} {i : Instr} {f : Dev → SylOut} {kind : ProgKind} {k : DReg} {a b c : Reg} (hx : exec i s = .next (s.run (fun e => e.runSyl y (asDecoded i) f)))
    (hf : f s.dev = s.dev.streamOut y kind k a b c) :
    (s.dev.src y c = 0 → Completes s y i [])
      ∧ (s.dev.src y c ≠ 0 → ∀ u, Executes s y i u → exec i s = .next { s with dev := s.dev.modBay y.core.toNat y.bay.toNat (fun x => { x with
          prog := some { kind := kind, syl := y, rd := k, ra := a, rb := b, rc := c, desc := { src := s.dev.src y a, dst := s.dev.src y b, len := s.dev.src y c } } }) }) := by
  refine ⟨fun h => ?empty, fun h u hu => ?goes⟩
  case empty => exact done_of hx (hf.trans (streamOut_zero h kind k a b)) rfl
  case goes => exact hx.trans (congrArg _ (run_begin hu (hf.trans (streamOut_begin h kind k a b))))

/-! ## One element of MACS.B -/

/-- The sum of MACS.B: dK plus the product of the two words, shifted right by BFS. -/
theorem element_macsB (ctl x z : Nat) (dk : QWord) :
    element .macsB ctl x z dk = ((BitVec.ofInt 128 (dk.toInt + sextI 32 x * sextI 32 z / 2 ^ (ctl / 2 ^ 27 % 32))).toNat, {}, false) := by
  have hbfs : decBFS ctl = ctl / 2 ^ 27 % 32 := bits_eq_div_mod ctl 31 27
  simp only [element, hbfs]

/-- The program of a stream after an element of two 4-byte operands: A and B move on, and C counts down. -/
def nextElement (p : Prog) : Prog := { p with desc := { p.desc with src := p.desc.src + 4, dst := p.desc.dst + 4, len := p.desc.len - 1 } }

/-- An element without flags before the last one writes A, B and C, and the stream stays under way. -/
theorem elementDone_next {x : Bay} {p : Prog} (h : p.desc.len - 1 ≠ 0) :
    let q := nextElement p
    x.elementDone p 4 4 {} false =
      { ((((x.land (.ir (x.phys p.ra.toNat)) q.desc.src.toNat).land (.ir (x.phys p.rb.toNat)) q.desc.dst.toNat).land (.ir (x.phys p.rc.toNat)) q.desc.len.toNat).land .decctl 0).land .asr 0
        with prog := some q } := by
  rw [Bay.elementDone, if_neg h]
  rfl

theorem elementDone_prog {x : Bay} {p : Prog} (h : p.desc.len - 1 ≠ 0) : (x.elementDone p 4 4 {} false).prog = some (nextElement p) := if_neg h

/-- An element of MACS.B that is not the last: dK takes the sum, and the bay goes on with the next one. -/
theorem elementRun_macsB {d : Dev} {n b : Nat} {p : Prog} (hk : p.kind = .macsB) (hlen : p.desc.len - 1 ≠ 0) (x z : Nat) (hs : List (Nat × Nat)) (m : Option Bool) :
    let y := d.bay n b
    let sum := (y.dec d.free p.rd).toInt + sextI 32 x * sextI 32 z / 2 ^ (y.decctl.toNat / 2 ^ 27 % 32)
    d.elementRun n b p x z hs m = (d.setBay n b ((y.land (.d p.rd.toNat) (BitVec.ofInt 128 sum).toNat).elementDone p 4 4 {} false)).progMiss n b m := by
  have htrap : ∀ ctl, decTrap ctl {} = none := fun ctl => rfl
  have hupd : streamUpdates .macsB = false := rfl
  have hsize : streamSizes .macsB = (4, 4) := rfl
  simp only [Dev.elementRun, hk, element_macsB, htrap, hupd, hsize, Dev.modBay, Dev.bay_setBay_self, Dev.setBay_setBay, elementDone_prog hlen, Option.isNone_some, Bool.false_eq_true, if_false]
  rfl

theorem streamElement_macsB {d : Dev} {n b : Nat} {p : Prog} {xs zs : List Byte} {m1 m2 : Option Bool} (hp : d.stepping n b = some p) (hk : p.kind = .macsB)
    (hx : d.fieldIn n b p.desc.src.toNat 4 = .ok (xs, m1)) (hz : d.fieldIn n b p.desc.dst.toNat 4 = .ok (zs, m2)) :
    d.streamElement n b = d.elementRun n b p (fromLe xs) (fromLe zs) [] (missBoth m1 m2) := by
  have hopf : ProgKind.macsB.opf.isSome = false := rfl
  have hupd : streamUpdates .macsB = false := rfl
  have hsize : streamSizes .macsB = (4, 4) := rfl
  simp only [Dev.streamElement, hp, hk, hopf, hsize, hx, hz, hupd, Bool.false_eq_true, if_false]

/-- Settles O25: the four streams begin alike, and an element of MACS.B that is not the last keeps its stream under way. -/
theorem streamsAndTheirElements : Obligations.StreamsAndTheirElements := by
  unfold Obligations.StreamsAndTheirElements
  intro s y k a b c n m p xs zs m1 m2 D A B C begins x q sum w
  refine ⟨stream_begins rfl rfl, stream_begins rfl rfl, stream_begins rfl rfl, stream_begins rfl rfl, fun hp hk hx hz hlen => becomes_of rfl ?_⟩
  rw [streamElement_macsB hp hk hx hz, elementRun_macsB hk hlen, elementDone_next hlen]
  rfl

end Sys2Proof.Proofs

/-! SUPPORT. The state at reset: its tables list nothing, so each part reads as the default of its kind. -/

namespace Sys2Proof.Proofs

open Sys2Proof
open Sys2Proof.Machine

/-! ## What a machine with empty tables reads -/

theorem core_of_nil {d : Dev} (h : d.cores = []) (n : Nat) : d.core n = {} := by
  rw [Dev.core, h]
  rfl

theorem bay_of_nil {d : Dev} (h : d.cores = []) (n b : Nat) : d.bay n b = Bay.reset n b := by
  rw [Dev.bay, core_of_nil h]
  rfl

theorem stream_of_nil {d : Dev} (h : d.jr.streams = []) (k : Nat) : d.stream k = {} := by
  rw [Dev.stream, h]
  rfl

theorem port_of_nil {d : Dev} (h : d.dl.ports = []) (k : Nat) : d.port k = {} := by
  rw [Dev.port, h]
  rfl

theorem chan_of_nil {d : Dev} (h : d.dma = []) (e c : Nat) : d.chan e c = {} := by
  rw [Dev.chan, Dev.engine, h]
  rfl

/-- A stream that recovers is in state 3 (R149). -/
theorem streamState_recovering {d : Dev} {k : Nat} (h : (d.stream k).recovering = true) : d.streamState k = 3 := if_pos h

/-- Settles O54: each part is the default of its kind, whose fields hold the values the statement names. -/
theorem resetState : Obligations.ResetState := by
  unfold Obligations.ResetState
  intro n b k D x
  have hcore : D.core n = {} := core_of_nil rfl n
  have hbay : x = Bay.reset n b := bay_of_nil rfl n b
  have hstream : D.stream k = {} := stream_of_nil rfl k
  have hport : D.port k = {} := port_of_nil rfl k
  have hchan : D.chan n k = {} := chan_of_nil rfl n k
  have hstate : D.streamState k = 3 := streamState_recovering (by rw [hstream])
  rw [hcore, hbay, hstream, hport, hchan, hstate]
  simp only [Bay.reset]
  decide

end Sys2Proof.Proofs

/-! SUPPORT. The string and edit instructions: their results at completion, and the set-up from a descriptor (R120, R123, R126, R130). -/

namespace Sys2Proof.Proofs

open Sys2Proof
open Sys2Proof.Machine
open Sys2Proof.Safety

/-! ## Completion (R123) -/

/-- What a string instruction lands beside its completion, by kind: nothing, or D and qT, and for CMS the partner of qT, all at distance 1. -/
def doneResults (x : Bay) (p : Prog) (v : Nat) (q r : Bool) : List Eff :=
  let two := [Eff.land (x.intDest p.rd) v 1, .land (x.predDest p.qt) (b2n q) 1]
  match p.kind with
  | .mvs => []
  | .trs => []
  | .cms => two ++ [.land (x.predDest (partner p.qt)) (b2n r) 1]
  | _ => two

/-- The results of a string instruction that met no difference and no hit. -/
def endResults (x : Bay) (p : Prog) : List Eff :=
  match p.kind with
  | .cms => doneResults x p (Nat.max p.desc.len.toNat p.desc.dlen.toNat) true false
  | _ => doneResults x p p.desc.len.toNat false false

theorem doneResults_scans {p : Prog} (hk : p.kind = .scn ∨ p.kind = .scne) (x : Bay) (v : Nat) (q r : Bool) :
    doneResults x p v q r = [.land (x.intDest p.rd) v 1, .land (x.predDest p.qt) (b2n q) 1] := by
  rcases hk with hk | hk <;> rw [doneResults, hk]

theorem doneResults_compares {p : Prog} (hk : p.kind = .cms) (x : Bay) (v : Nat) (q r : Bool) :
    doneResults x p v q r = [.land (x.intDest p.rd) v 1, .land (x.predDest p.qt) (b2n q) 1, .land (x.predDest (partner p.qt)) (b2n r) 1] := by
  rw [doneResults, hk]
  rfl

theorem endResults_moves {p : Prog} (hk : p.kind = .mvs ∨ p.kind = .trs) (x : Bay) : endResults x p = [] := by
  rcases hk with hk | hk <;> simp only [endResults, doneResults, hk]

theorem endResults_scans {p : Prog} (hk : p.kind = .scn ∨ p.kind = .scne) (x : Bay) :
    endResults x p = [.land (x.intDest p.rd) p.desc.len.toNat 1, .land (x.predDest p.qt) 0 1] := by
  rw [show (0 : Nat) = b2n false from rfl, ← doneResults_scans hk x p.desc.len.toNat false false]
  rcases hk with hk | hk <;> rw [endResults, hk]

theorem progDone_zero (d : Dev) (n b : Nat) (es : List Eff) : d.progDone n b 0 es = (d.modBay n b (fun x => { x with prog := none, spState := 0 }.soil 16)).sylDone n b es [] := rfl

theorem strDone_eq (d : Dev) (n b : Nat) (p : Prog) (v : Nat) (q r : Bool) (t : Nat) : d.strDone n b p v q r t = d.progDone n b t (doneResults (d.bay n b) p v q r) := rfl

theorem strEnd_eq (d : Dev) (n b : Nat) (p : Prog) : d.strEnd n b p = d.progDone n b 0 (endResults (d.bay n b) p) := by
  cases hk : p.kind <;> simp only [Dev.strEnd, endResults, hk, strDone_eq]

/-! ## The set-up (R120, R126, R130) -/

/-- SP_STATE of a fresh start: PAD from PARAM and LEAD for EDIT, else 0. -/
def freshState (k : ProgKind) (q : Desc) : Word := if k = .edit then BitVec.ofNat 32 (2 ^ 24 + q.param.toNat / 2 ^ 24 % 256) else 0

/-- The program a set-up leaves, at the first word of its kind. -/
def setUpProg (d : Dev) (y : Syl) (k : ProgKind) (rd ra : Reg) (qt : Pred) (q : Desc) : Prog :=
  { kind := k, syl := y, rd := rd, ra := ra, qt := qt, desc := q, mwa := (d.core y.core.toNat).firstWord k }

/-- The progress registers of a fresh start. -/
def freshBay (k : ProgKind) (q : Desc) (x : Bay) : Bay := { x with spSrc := q.src, spDst := q.dst, spCnt := 0, spState := freshState k q }.soil 16

/-- The machine in which an instruction has started fresh from its descriptor. -/
def startedFresh (d : Dev) (y : Syl) (q : Desc) (p : Prog) : Dev := d.modBay y.core.toNat y.bay.toNat (fun x => { freshBay p.kind q x with prog := some p })

theorem freshState_string {k : ProgKind} (hk : k ≠ .edit) (q : Desc) : freshState k q = 0 := if_neg hk

theorem freshSp_eq (x : Bay) (k : ProgKind) (q : Desc) : x.freshSp k q = freshBay k q x := by
  have hpad : bits q.param.toNat 31 24 = q.param.toNat / 2 ^ 24 % 256 := bits_eq_div_mod _ _ _
  rw [Bay.freshSp, hpad]
  rfl

/-- Outside the first bundle after an exception return, no instruction resumes (R130). -/
theorem resumes_of_not_afterRet {x : Bay} (h : x.afterRet = false) (k : ProgKind) : x.resumes k = false := by
  rw [Bay.resumes, h, Bool.false_and, Bool.false_and]

theorem startedFresh_spCnt (d : Dev) (y : Syl) (q : Desc) (p : Prog) : ((startedFresh d y q p).bay y.core.toNat y.bay.toNat).spCnt = 0 := by
  rw [startedFresh, Dev.modBay, Dev.bay_setBay_self]
  rfl

/-- The registers an instruction writes do not depend on its progress. -/
theorem endResults_startedFresh (d : Dev) (y : Syl) (q : Desc) (p : Prog) : endResults ((startedFresh d y q p).bay y.core.toNat y.bay.toNat) p = endResults (d.home y) p := by
  rw [startedFresh, Dev.modBay, Dev.bay_setBay_self]
  rfl

/-- The descriptor of a set-up is aligned and readable, with these bytes and this miss. -/
def ReadsDescriptor (d : Dev) (y : Syl) (ra : Reg) (bs : List Byte) (m : Option Bool) : Prop :=
  (d.src y ra).toNat % 32 = 0 ∧ d.fieldIn y.core.toNat y.bay.toNat (d.src y ra).toNat 32 = .ok (bs, m)

/-- Whether the words of a descriptor are refused: reserved words, or the length of an edit out of range. -/
def RefusesWords (k : ProgKind) (bs : List Byte) : Prop := leAt bs 24 8 ≠ 0 ∨ (k = .edit ∧ ((Desc.ofBytes bs).len.toNat = 0 ∨ 256 < (Desc.ofBytes bs).len.toNat))

section SetUp

variable {d : Dev} {y : Syl} {k : ProgKind} {rd ra : Reg} {qt : Pred} {bs : List Byte} {m : Option Bool} {w : Option Nat}

theorem stringSetup_misaligned (h : (d.src y ra).toNat % 32 ≠ 0) : d.stringSetup y k rd ra qt = .exc 4 2 (BitVec.ofNat 32 (d.src y ra).toNat) 0 := if_pos h

theorem stringSetup_refused (hread : ReadsDescriptor d y ra bs m) (hbad : RefusesWords k bs) :
    d.stringSetup y k rd ra qt = .exc 2 7 0 0 := by
  obtain ⟨halign, hbytes⟩ := hread
  rw [Dev.stringSetup, if_neg (not_not_intro halign), hbytes]
  exact if_pos hbad

/-- A set-up that passes its checks starts fresh; a string instruction with no work to do ends with it. -/
theorem stringSetup_begins (hread : ReadsDescriptor d y ra bs m) (hgood : ¬ RefusesWords k bs)
    (hret : (d.home y).afterRet = false) :
    let q := Desc.ofBytes bs
    let p := setUpProg d y k rd ra qt q
    let e := startedFresh d y q p
    e.microNext y.core.toNat y.bay.toNat p = some w →
      d.stringSetup y k rd ra qt =
        .begin (((if k ≠ .edit ∧ q.finished k 0 then e.strEnd y.core.toNat y.bay.toNat p else e).progMiss y.core.toNat y.bay.toNat m).sequencerTo y.core.toNat y.bay.toNat w) := by
  intro q p e hword
  obtain ⟨halign, hbytes⟩ := hread
  have hfresh : d.modBay y.core.toNat y.bay.toNat (fun x => { (if x.resumes k then x else x.freshSp k q) with prog := some p }) = e := by
    have hstart : (if (d.home y).resumes k then d.home y else (d.home y).freshSp k q) = freshBay k q (d.home y) :=
      (if_neg (Bool.eq_false_iff.mp (resumes_of_not_afterRet hret k))).trans (freshSp_eq _ k q)
    exact congrArg (fun x : Bay => d.setBay y.core.toNat y.bay.toNat { x with prog := some p }) hstart
  have hcnt : (e.bay y.core.toNat y.bay.toNat).spCnt.toNat = 0 := congrArg BitVec.toNat (startedFresh_spCnt d y q p)
  rw [Dev.stringSetup, if_neg (not_not_intro halign), hbytes]
  refine (if_neg hgood).trans (congrArg SylOut.begin ?_)
  show Dev.microRun (d.modBay _ _ (fun x => { (if x.resumes k then x else x.freshSp k q) with prog := some p })) _ _ p _ = _
  rw [hfresh, Dev.microRun, hword]
  simp only [hcnt]
  rfl

end SetUp

section Start

variable {s : State} {y : Syl} {i : Instr} {f : Dev → SylOut} {k : ProgKind} {rd ra : Reg} {qt : Pred} {bs : List Byte} {m : Option Bool} {w : Option Nat} {u : Bundle} {p : Prog} {e : Dev}

/-- The set-up of an instruction with work to do leaves it between steps. -/
theorem string_starts (hx : exec i s = .next (s.run (fun e => e.runSyl y (asDecoded i) f))) (hf : f s.dev = s.dev.stringSetup y k rd ra qt)
    (hread : ReadsDescriptor s.dev y ra bs m) (hgood : ¬ RefusesWords k bs)
    (hret : (s.dev.home y).afterRet = false) (hp : setUpProg s.dev y k rd ra qt (Desc.ofBytes bs) = p) (he : startedFresh s.dev y (Desc.ofBytes bs) p = e)
    (hwork : k = .edit ∨ (Desc.ofBytes bs).finished k 0 = false) (hu : Executes s y i u) (hword : e.microNext y.core.toNat y.bay.toNat p = some w) :
    exec i s = .next { s with dev := (e.progMiss y.core.toNat y.bay.toNat m).sequencerTo y.core.toNat y.bay.toNat w } := by
  subst hp he
  have hgoes : ¬ (k ≠ .edit ∧ (Desc.ofBytes bs).finished k 0 = true) := fun h => hwork.elim h.1 (fun hf => absurd h.2 (Bool.eq_false_iff.mp hf))
  have hset := stringSetup_begins hread hgood hret hword
  rw [if_neg hgoes] at hset
  exact hx.trans (congrArg _ (run_begin hu (hf.trans hset)))

/-- The set-up of a string instruction with no work to do completes it. -/
theorem string_ends (hx : exec i s = .next (s.run (fun e => e.runSyl y (asDecoded i) f))) (hf : f s.dev = s.dev.stringSetup y k rd ra qt)
    (hread : ReadsDescriptor s.dev y ra bs m) (hgood : ¬ RefusesWords k bs)
    (hret : (s.dev.home y).afterRet = false) (hp : setUpProg s.dev y k rd ra qt (Desc.ofBytes bs) = p) (he : startedFresh s.dev y (Desc.ofBytes bs) p = e)
    (hk : k ≠ .edit) (hdone : (Desc.ofBytes bs).finished k 0 = true) (hu : Executes s y i u) (hword : e.microNext y.core.toNat y.bay.toNat p = some w) :
    exec i s = .next { s with dev := ((e.progDone y.core.toNat y.bay.toNat 0 (endResults (s.dev.home y) p)).progMiss y.core.toNat y.bay.toNat m).sequencerTo y.core.toNat y.bay.toNat w } := by
  subst hp he
  have hset := stringSetup_begins hread hgood hret hword
  rw [if_pos ⟨hk, hdone⟩, strEnd_eq, endResults_startedFresh] at hset
  exact hx.trans (congrArg _ (run_begin hu (hf.trans hset)))

end Start

theorem not_refusesWords {k : ProgKind} {bs : List Byte} (hwords : leAt bs 24 8 = 0) (hk : k ≠ .edit) : ¬ RefusesWords k bs := fun h => h.elim (absurd hwords) (fun he => hk he.1)

theorem not_refusesWords_edit {bs : List Byte} (hwords : leAt bs 24 8 = 0) (hpos : 0 < (Desc.ofBytes bs).len.toNat) (hmax : (Desc.ofBytes bs).len.toNat ≤ 256) :
    ¬ RefusesWords .edit bs := by
  rintro (h | ⟨-, h | h⟩)
  · exact h hwords
  · omega
  · omega

/-- Settles O26: the six instructions share one set-up; each clause is its branch, and a zero-length operation ends with the results of its kind. -/
theorem stringAndEditSetUp : Obligations.StringAndEditSetUp := by
  unfold Obligations.StringAndEditSetUp
  intro s y d a qt bs m u w1 D n b va w q read good prog begun starts two ends six
  have hbegun : ∀ {k : ProgKind} {rd : Reg} {t : Pred}, k ≠ .edit → startedFresh D y q (prog k rd t) = begun k rd t 0 := by
    intro k rd t hk
    rw [← freshState_string hk q]
    rfl
  have hends : ∀ {i : Instr} {f : Dev → SylOut} {k : ProgKind} {rd : Reg} {t : Pred} {es : List Eff}, exec i s = .next (s.run (fun e => e.runSyl y (asDecoded i) f)) → f D = D.stringSetup y k rd a t →
      good → k ≠ .edit → q.finished k 0 = true → endResults (D.home y) (prog k rd t) = es → ends i k rd t es := by
    rintro i f k rd t _ hx hf ⟨hread, hwords, hret⟩ hk hdone rfl hu hword
    exact string_ends hx hf hread (not_refusesWords hwords hk) hret rfl (hbegun hk) hk hdone hu hword
  have hstarts : ∀ {i : Instr} {f : Dev → SylOut} {k : ProgKind} {rd : Reg} {t : Pred}, exec i s = .next (s.run (fun e => e.runSyl y (asDecoded i) f)) → f D = D.stringSetup y k rd a t →
      good → k ≠ .edit → q.finished k 0 = false → starts i k rd t 0 := by
    rintro i f k rd t hx hf ⟨hread, hwords, hret⟩ hk hwork hu hword
    exact string_starts hx hf hread (not_refusesWords hwords hk) hret rfl (hbegun hk) (.inr hwork) hu hword
  have hsix : ∀ {c low : Nat} {fa : Word}, (∀ k rd t, D.stringSetup y k rd a t = .exc c low fa 0) → ∀ i, i ∈ six → TrapsWith s y i c low fa 0 := by
    intro c low fa h
    simp only [six, List.forall_mem_cons, List.not_mem_nil, false_imp_iff, implies_true, and_true]
    exact ⟨traps_of rfl (h _ _ _), traps_of rfl (h _ _ _), traps_of rfl (h _ _ _), traps_of rfl (h _ _ _), traps_of rfl (h _ _ _), traps_of rfl (h _ _ _)⟩
  have hsome : ∀ {v : Nat}, 0 < v → decide (v ≤ 0) = false := fun h => decide_eq_false (Nat.not_le.mpr h)
  have hnone : ∀ {v : Nat}, v = 0 → decide (v ≤ 0) = true := fun h => decide_eq_true h.le
  refine ⟨?mvs, ?trs, ?cms, ?scn, ?scne, ?edit, ?mvsEnd, ?trsEnd, ?cmsEnd, ?scnEnd, ?scneEnd, ?misaligned, ?reserved, ?range⟩
  case mvs => exact fun h hlen => hstarts rfl rfl h (by decide) (hsome hlen)
  case trs => exact fun h hlen => hstarts rfl rfl h (by decide) (hsome hlen)
  case cms => exact fun h hlen => hstarts rfl rfl h (by decide) (hsome hlen)
  case scn => exact fun h hlen => hstarts rfl rfl h (by decide) (hsome hlen)
  case scne => exact fun h hlen => hstarts rfl rfl h (by decide) (hsome hlen)
  case edit =>
    rintro ⟨hread, hwords, hret⟩ hpos hmax hu hword
    exact string_starts rfl rfl hread (not_refusesWords_edit hwords hpos hmax) hret rfl rfl (.inl rfl) hu hword
  case mvsEnd => exact fun h hlen => hends rfl rfl h (by decide) (hnone hlen) rfl
  case trsEnd => exact fun h hlen => hends rfl rfl h (by decide) (hnone hlen) rfl
  case cmsEnd => exact fun h hlen => hends rfl rfl h (by decide) (hnone hlen) (congrArg (fun v => doneResults (D.home y) (prog .cms d qt) v true false) hlen)
  case scnEnd => exact fun h hlen => hends rfl rfl h (by decide) (hnone hlen) (congrArg (fun v => doneResults (D.home y) (prog .scn d qt) v false false) hlen)
  case scneEnd => exact fun h hlen => hends rfl rfl h (by decide) (hnone hlen) (congrArg (fun v => doneResults (D.home y) (prog .scne d qt) v false false) hlen)
  case misaligned => exact fun h => hsix (fun _ _ _ => stringSetup_misaligned h)
  case reserved => exact fun hread hwords => hsix (fun _ _ _ => stringSetup_refused hread (.inl hwords))
  case range => exact fun hread hlen => traps_of rfl (stringSetup_refused hread (.inr ⟨rfl, hlen⟩))

end Sys2Proof.Proofs

/-! SUPPORT. STRING_STEP: the load of a table, and the chunk that ends its instruction with its first byte (R122, R123). -/

namespace Sys2Proof.Proofs

open Sys2Proof
open Sys2Proof.Machine
open Sys2Proof.Safety

@[simp] theorem missBoth_none_left (m : Option Bool) : missBoth none m = m := rfl

@[simp] theorem missBoth_none_right (m : Option Bool) : missBoth m none = m := by cases m <;> rfl

/-! ## A chunk whose first byte ends it (R129, R133) -/

/-- A chunk holds a byte at least: no operand's room to its line boundary is 0 (Table 4.9). -/
theorem chunk_pos (x : Bay) (p : Prog) : 0 < x.chunk p := by
  have hroom : ∀ (v : Word) (used : Bool), 0 < (if used then Nat.min 16 (64 - v.toNat % 64) else 16) := by
    intro v used
    split
    · exact Nat.lt_min.mpr ⟨by decide, by omega⟩
    · decide
  rw [Bay.chunk]
  split
  · decide
  · exact Nat.lt_min.mpr ⟨hroom _ _, hroom _ _⟩

section Chunk

variable {d e : Dev} {n b : Nat} {p : Prog} {m : Option Bool}

theorem strLoop_finished (h : p.desc.finished p.kind (d.bay n b).spCnt.toNat = true) (k : Nat) (first : Bool) :
    Dev.strLoop n b p k first m d = (d.progDone n b 0 (endResults (d.bay n b) p)).progMiss n b m := by
  rw [← strEnd_eq]
  cases k <;> rw [Dev.strLoop, if_pos h]

theorem strLoop_hit {v t : Nat} {q r : Bool} (hmore : p.desc.finished p.kind (d.bay n b).spCnt.toNat = false) (hb : d.strByte n b p true = .hit v q r t m) :
    Dev.strLoop n b p ((d.bay n b).chunk p) true none d = (d.progDone n b t (doneResults (d.bay n b) p v q r)).progMiss n b m := by
  obtain ⟨k, hk⟩ := Nat.exists_eq_succ_of_ne_zero (chunk_pos (d.bay n b) p).ne'
  rw [hk, Dev.strLoop, if_neg (Bool.eq_false_iff.mp hmore), hb]
  rfl

theorem strLoop_last (hmore : p.desc.finished p.kind (d.bay n b).spCnt.toNat = false) (hb : d.strByte n b p true = .next e m)
    (hend : p.desc.finished p.kind (e.bay n b).spCnt.toNat = true) :
    Dev.strLoop n b p ((d.bay n b).chunk p) true none d = (e.progDone n b 0 (endResults (e.bay n b) p)).progMiss n b m := by
  obtain ⟨k, hk⟩ := Nat.exists_eq_succ_of_ne_zero (chunk_pos (d.bay n b) p).ne'
  rw [hk, Dev.strLoop, if_neg (Bool.eq_false_iff.mp hmore), hb]
  exact strLoop_finished hend k false

end Chunk

/-! ## One byte of each instruction (R122) -/

section Byte

variable {d o : Dev} {n b : Nat} {p : Prog} {u v g : Nat} {m m2 : Option Bool}

theorem strByte_trs (hk : p.kind = .trs) (hsrc : d.byteIn n b (d.bay n b).spSrc.toNat = .ok (v, m)) (htab : d.byteIn n b (p.desc.aux.toNat + v) = .ok (g, m2))
    (hdst : d.byteOut n b (d.bay n b).spDst.toNat (BitVec.ofNat 8 g) true = .ok o) : d.strByte n b p true = .next (o.spStep n b true true) (missBoth m m2) := by
  simp only [Dev.strByte, hk, Dev.trsByte, hsrc, htab, hdst]

theorem strByte_scn_hit (hk : p.kind = .scn) (hsrc : d.byteIn n b (d.bay n b).spSrc.toNat = .ok (v, m)) (htab : d.byteIn n b (p.desc.aux.toNat + v) = .ok (g, m2)) (hg : g ≠ 0) :
    d.strByte n b p true = .hit (d.bay n b).spCnt.toNat true false g (missBoth m m2) := by
  simp only [Dev.strByte, hk, Dev.scnByte, hsrc, htab, if_true, if_neg hg]

theorem strByte_scne_hit (hk : p.kind = .scne) (hsrc : d.byteIn n b (d.bay n b).spSrc.toNat = .ok (v, m)) (hv : v = p.desc.param.toNat % 256) :
    d.strByte n b p true = .hit (d.bay n b).spCnt.toNat true false 0 m := by
  have heq : (v == bits p.desc.param.toNat 7 0) = true := beq_iff_eq.mpr (hv.trans (bits_zero _ 7).symm)
  simp [Dev.strByte, hk, Dev.scnByte, hsrc, heq, b2n]

theorem strByte_scne_next (hk : p.kind = .scne) (hsrc : d.byteIn n b (d.bay n b).spSrc.toNat = .ok (v, m)) (hv : v ≠ p.desc.param.toNat % 256) :
    d.strByte n b p true = .next (d.spStep n b true false) m := by
  have hne : (v == bits p.desc.param.toNat 7 0) = false := beq_false_of_ne (fun h => hv (h.trans (bits_zero _ 7)))
  simp [Dev.strByte, hk, Dev.scnByte, hsrc, hne, b2n]

theorem strByte_cms_hit (hk : p.kind = .cms) (hlen : (d.bay n b).spCnt.toNat < p.desc.len.toNat) (hdlen : (d.bay n b).spCnt.toNat < p.desc.dlen.toNat)
    (hsrc : d.byteIn n b (d.bay n b).spSrc.toNat = .ok (u, m)) (hdst : d.byteIn n b (d.bay n b).spDst.toNat = .ok (v, m2)) (hne : u ≠ v) :
    d.strByte n b p true = .hit (d.bay n b).spCnt.toNat false (decide (u < v)) 0 (missBoth m m2) := by
  simp only [Dev.strByte, hk, Dev.cmsByte, hlen, hdlen, decide_true, if_true, hsrc, hdst, if_neg hne]

theorem pad_byte (q : Desc) : BitVec.ofNat 8 q.pad.toNat = BitVec.ofNat 8 (q.param.toNat / 2 ^ 24) := by
  apply BitVec.eq_of_toNat_eq
  simp only [Desc.pad, bits_eq_div_mod, BitVec.toNat_ofNat]
  omega

theorem strByte_mvs_pad (hk : p.kind = .mvs) (hlen : p.desc.len.toNat ≤ (d.bay n b).spCnt.toNat)
    (hdst : d.byteOut n b (d.bay n b).spDst.toNat (BitVec.ofNat 8 (p.desc.param.toNat / 2 ^ 24)) true = .ok o) : d.strByte n b p true = .next (o.spStep n b false true) none := by
  have hpast : decide ((d.bay n b).spCnt.toNat < p.desc.len.toNat) = false := decide_eq_false (Nat.not_lt.mpr hlen)
  simp only [Dev.strByte, hk, Dev.mvsByte, hpast, Bool.false_eq_true, if_false, pad_byte, hdst]

theorem spStep_both (d : Dev) (n b : Nat) : d.spStep n b true true = d.modBay n b (fun z => { z with spSrc := z.spSrc + 1, spDst := z.spDst + 1, spCnt := z.spCnt + 1 }.soil 16) := rfl

theorem spStep_src (d : Dev) (n b : Nat) : d.spStep n b true false = d.modBay n b (fun z => { z with spSrc := z.spSrc + 1, spCnt := z.spCnt + 1 }.soil 16) := by
  have hzero : ∀ v : Word, v + BitVec.ofNat 32 (b2n false) = v := BitVec.add_zero
  simp only [Dev.spStep, hzero]
  rfl

theorem spStep_dst (d : Dev) (n b : Nat) : d.spStep n b false true = d.modBay n b (fun z => { z with spDst := z.spDst + 1, spCnt := z.spCnt + 1 }.soil 16) := by
  have hzero : ∀ v : Word, v + BitVec.ofNat 32 (b2n false) = v := BitVec.add_zero
  simp only [Dev.spStep, hzero]
  rfl

theorem spStep_spCnt (d : Dev) (n b : Nat) (src dst : Bool) : ((d.spStep n b src dst).bay n b).spCnt = (d.bay n b).spCnt + 1 := by
  rw [Dev.spStep, Dev.modBay, Dev.bay_setBay_self]
  rfl

/-- The step count does not wrap below a length. -/
theorem toNat_succ_of_eq {x len : Word} (h : x.toNat + 1 = len.toNat) : (x + 1).toNat = len.toNat := by
  have hlt := len.isLt
  rw [BitVec.toNat_add, show (1 : Word).toNat = 1 from rfl]
  omega

/-- The byte that makes the step count equal to a length. -/
theorem spStep_spCnt_last {x len : Word} (hcnt : (d.bay n b).spCnt = x) (hlast : x.toNat + 1 = len.toNat) (src dst : Bool) : ((d.spStep n b src dst).bay n b).spCnt.toNat = len.toNat := by
  rw [spStep_spCnt, hcnt]
  exact toNat_succ_of_eq hlast

theorem endResults_spStep (d : Dev) (n b : Nat) (src dst : Bool) : endResults ((d.spStep n b src dst).bay n b) p = endResults (d.bay n b) p := by
  rw [Dev.spStep, Dev.modBay, Dev.bay_setBay_self]
  rfl

end Byte

/-! ## The command -/

section Step

variable {d e : Dev} {n b : Nat} {p : Prog} {m : Option Bool} {w : Option Nat}

/-- A string instruction between chunks, whose table, where it has one, has been read. -/
def AtChunk (p : Prog) : Prop := p.kind ≠ .edit ∧ ¬ ((p.kind = .trs ∨ p.kind = .scn) ∧ p.tableRead = false) ∧ p.left = 0

theorem atChunk_of_table (hk : p.kind = .trs ∨ p.kind = .scn) (ht : p.tableRead = true) (hl : p.left = 0) : AtChunk p := by
  rcases hk with hk | hk <;> simp [AtChunk, hk, ht, hl]

theorem atChunk_of_no_table (hk : p.kind = .mvs ∨ p.kind = .cms ∨ p.kind = .scne) (hl : p.left = 0) : AtChunk p := by
  rcases hk with hk | hk | hk <;> simp [AtChunk, hk, hl]

theorem stringStep_table (hp : d.microStep n b = some p) (hw : d.microNext n b p = some w) (hk : p.kind = .trs ∨ p.kind = .scn) (ht : p.tableRead = false) :
    d.stringStep n b false =
      (((d.modBay n b (fun x => { x with prog := some { p with tableRead := true } })).progMiss n b (d.tableMiss n b p.desc.aux.toNat)).sequencerTo n b w).claim n b := by
  have hedit : p.kind ≠ .edit := by rcases hk with hk | hk <;> rw [hk] <;> decide
  simp only [Dev.stringStep, hp, if_neg hedit, Bool.false_eq_true, if_false, Dev.microRun, hw, if_pos (And.intro hk ht)]

theorem stringStep_chunk (hp : d.microStep n b = some p) (hw : d.microNext n b p = some w) (hat : AtChunk p) :
    d.stringStep n b false = ((Dev.strLoop n b p ((d.bay n b).chunk p) true none d).sequencerTo n b w).claim n b := by
  obtain ⟨hedit, htab, hl⟩ := hat
  simp only [Dev.stringStep, hp, if_neg hedit, Bool.false_eq_true, if_false, Dev.microRun, hw, if_neg htab, hl, if_true]

/-- A step whose first byte is a difference or a hit completes its instruction. -/
theorem stringStep_hit {v t : Nat} {q r : Bool} (hp : d.microStep n b = some p) (hw : d.microNext n b p = some w) (hat : AtChunk p)
    (hmore : p.desc.finished p.kind (d.bay n b).spCnt.toNat = false) (hb : d.strByte n b p true = .hit v q r t m) :
    d.stringStep n b false = (((d.progDone n b t (doneResults (d.bay n b) p v q r)).progMiss n b m).sequencerTo n b w).claim n b := by
  rw [stringStep_chunk hp hw hat, strLoop_hit hmore hb]

/-- A step whose first byte is the last one completes its instruction with the results of its end. -/
theorem stringStep_last (hp : d.microStep n b = some p) (hw : d.microNext n b p = some w) (hat : AtChunk p)
    (hmore : p.desc.finished p.kind (d.bay n b).spCnt.toNat = false) (hb : d.strByte n b p true = .next e m)
    (hend : p.desc.finished p.kind (e.bay n b).spCnt.toNat = true) :
    d.stringStep n b false = (((e.progDone n b 0 (endResults (e.bay n b) p)).progMiss n b m).sequencerTo n b w).claim n b := by
  rw [stringStep_chunk hp hw hat, strLoop_last hmore hb hend]

end Step

/-! ## Where each kind ends (R122) -/

theorem finished_mvs {p : Prog} (hk : p.kind = .mvs) (k : Nat) : p.desc.finished p.kind k = decide (p.desc.dlen.toNat ≤ k) := by rw [hk]; rfl

theorem finished_cms {p : Prog} (hk : p.kind = .cms) (k : Nat) : p.desc.finished p.kind k = decide (Nat.max p.desc.len.toNat p.desc.dlen.toNat ≤ k) := by rw [hk]; rfl

theorem finished_len {p : Prog} (hk : p.kind = .trs ∨ p.kind = .scn ∨ p.kind = .scne) (k : Nat) : p.desc.finished p.kind k = decide (p.desc.len.toNat ≤ k) := by
  rcases hk with hk | hk | hk <;> rw [hk] <;> rfl

end Sys2Proof.Proofs

/-! SUPPORT. EDIT_STEP: what a step applies, a pattern unit that reads no digit, and a digit of a run (R124 to R126); and the steps of both commands. -/

namespace Sys2Proof.Proofs

open Sys2Proof
open Sys2Proof.Machine
open Sys2Proof.Safety

/-! ## What a step applies -/

/-- The machine with the progress of an edit: its fields, SP_SRC, and the bytes SP_DST moves on by. -/
def editProgress (d : Dev) (n b : Nat) (f : EditSt) (src : Word) (dst : Nat) : Dev :=
  d.modBay n b (fun z => { z with spSrc := src, spDst := z.spDst + BitVec.ofNat 32 dst, spCnt := BitVec.ofNat 32 f.cnt, spState := BitVec.ofNat 32 f.state }.soil 16)

section Apply

variable {d o : Dev} {n b : Nat} {p : Prog} {f : EditSt} {src : Word} {m : Option Bool}

theorem editApply_none (hmore : p.desc.finished .edit f.used = false) : d.editApply n b p { e := f, src := src } m = (editProgress d n b f src 0).progMiss n b m := by
  simp only [Dev.editApply, hmore, Bool.false_eq_true, if_false, land_none]
  rfl

theorem editApply_some {v : Nat} (hout : d.byteOut n b (d.bay n b).spDst.toNat (BitVec.ofNat 8 v) true = .ok o) (hmore : p.desc.finished .edit f.used = false) :
    d.editApply n b p { e := f, src := src, out := some v } m = (editProgress o n b f src 1).progMiss n b m := by
  simp only [Dev.editApply, hout, hmore, Bool.false_eq_true, if_false, land_none]
  rfl

end Apply

theorem finished_edit_of_lt {p : Prog} {k : Nat} (hk : k < p.desc.len.toNat) (hlen : p.desc.len.toNat ≤ 256) : p.desc.finished .edit k = false :=
  decide_eq_false (by omega)

/-! ## Pattern units (Tables 4.3, 4.4) -/

/-- The step of a pattern byte, where its unit has no second byte. -/
def patternStep (d : Dev) (n b : Nat) (p : Prog) (c : Nat) (m : Option Bool) : Dev :=
  let x := d.bay n b
  let e := x.editSt
  if c < 0x20 ∨ 0xF6 < c then d.progStopped n b (.exc 2 6 0 0)
  else if 0xC0 ≤ c ∧ c < 0xF0 then d.editRun n b p (c / 16) (c % 16 + 1) m
  else d.editApply n b p { e := (e.unit c 0 p.desc).1, src := x.spSrc, out := (e.unit c 0 p.desc).2 } m

section Step

variable {d e : Dev} {n b : Nat} {p : Prog} {c : Nat} {m : Option Bool} {w : Option Nat}

/-- Between steps, with a pattern byte that stands alone, the command makes the step of that byte. -/
theorem editStep_pattern (hp : d.microStep n b = some p) (hw : d.microNext n b p = some w) (hk : p.kind = .edit) (hmore : (d.bay n b).editSt.used < p.desc.len.toNat)
    (hlen : p.desc.len.toNat ≤ 256) (hc : d.byteIn n b (p.desc.aux.toNat + (d.bay n b).editSt.used) = .ok (c, m)) (halone : c < 0xF3 ∨ 0xF6 < c)
    (he : patternStep d n b p c m = e) : d.editStep n b false = (e.sequencerTo n b w).claim n b := by
  subst he
  have hnot : ¬ p.kind ≠ .edit := not_not_intro hk
  simp only [Dev.editStep, hp, if_neg hnot, Bool.false_eq_true, if_false, Dev.microRun, hw, finished_edit_of_lt hmore hlen, hc, patternStep]
  by_cases hbad : c < 0x20 ∨ 0xF6 < c
  · have hstop : c < 0x20 ∨ 0xF6 < c ∨ (0xF3 ≤ c ∧ p.desc.len.toNat ≤ (d.bay n b).editSt.used + 1) := hbad.imp_right .inl
    rw [if_pos hstop, if_pos hbad]
  · have htwo : ¬ 0xF3 ≤ c := by omega
    have hgoes : ¬ (c < 0x20 ∨ 0xF6 < c ∨ (0xF3 ≤ c ∧ p.desc.len.toNat ≤ (d.bay n b).editSt.used + 1)) := by omega
    rw [if_neg hgoes, if_neg hbad, if_neg htwo]
    simp only [missBoth_none_right]

theorem patternStep_reserved (h : c < 0x20 ∨ 0xF6 < c) : patternStep d n b p c m = d.progStopped n b (.exc 2 6 0 0) := if_pos h

theorem patternStep_run (hlo : 0xC0 ≤ c) (hhi : c < 0xF0) : patternStep d n b p c m = d.editRun n b p (c / 16) (c % 16 + 1) m := by
  rw [patternStep, if_neg (by omega), if_pos ⟨hlo, hhi⟩]

theorem patternStep_unit (hlo : 0x20 ≤ c) (hhi : c < 0xC0 ∨ 0xF0 ≤ c) (htop : c ≤ 0xF6) :
    patternStep d n b p c m = d.editApply n b p { e := ((d.bay n b).editSt.unit c 0 p.desc).1, src := (d.bay n b).spSrc, out := ((d.bay n b).editSt.unit c 0 p.desc).2 } m := by
  rw [patternStep, if_neg (by omega), if_neg (by omega)]

end Step

theorem unit_literal (e : EditSt) (q : Desc) {c : Nat} (hc : c < 0xC0) (hbad : e.bad = false) : e.unit c 0 q = ({ e with used := e.used + 1 }, some (if e.lead then e.pad else c)) := by
  have hne : ∀ k, 0xF0 ≤ k → c ≠ k := by omega
  have hshow : (e.lead && !e.bad) = e.lead := by rw [hbad, Bool.not_false, Bool.and_true]
  rw [EditSt.unit.eq_8 e c 0 q (hne _ (by decide)) (hne _ (by decide)) (hne _ (by decide)) (hne _ (by decide)) (hne _ (by decide)) (hne _ (by decide)) (hne _ (by decide)), hshow]

/-! ## A digit of a run (R125, R126) -/

theorem editDigit_low {e : EditSt} (h : e.nib = true) (src : Word) (v : Nat) : editDigit e src v = (v % 16, { e with nib := false }, src + 1) := if_pos h

/-- A digit of an FD run prints whatever it is; MARK keeps the first that did. -/
theorem digitOut_fixed (e : EditSt) (k at_ : Nat) : e.digitOut 0xD k at_ = ({ e with lead := false, mv := true, mark := if e.mv then e.mark else at_ % 4096 }, some (0x30 + k)) := rfl

theorem ranOne_last {e : EditSt} {len : Nat} (h : len ≤ e.run + 1) : e.ranOne len = { e with run := 0, used := e.used + 1 } := if_pos h

/-- The fields after the last digit of an FD run, read from the low nibble of a byte. -/
def digitDone (e : EditSt) (at_ : Nat) : EditSt :=
  { e with nib := false, lead := false, mv := true, mark := if e.mv then e.mark else at_ % 4096, run := 0, used := e.used + 1 }

theorem editRun_digit {d : Dev} {n b : Nat} {p : Prog} {len v : Nat} {m m2 : Option Bool} (hbad : (d.bay n b).editSt.bad = false) (hfld : (d.bay n b).editSt.fld = true)
    (hnib : (d.bay n b).editSt.nib = true) (hlen : len ≤ (d.bay n b).editSt.run + 1) (hsrc : d.byteIn n b (d.bay n b).spSrc.toNat = .ok (v, m2)) (hv : v % 16 ≤ 9) :
    d.editRun n b p 0xD len m =
      d.editApply n b p { e := digitDone (d.bay n b).editSt ((d.bay n b).spDst - p.desc.dst).toNat, src := (d.bay n b).spSrc + 1, out := some (0x30 + v % 16) } (missBoth m m2) := by
  have hgood : ¬ (d.bay n b).editSt.bad = true := Bool.eq_false_iff.mp hbad
  have hread : ¬ (!(d.bay n b).editSt.fld) = true := by rw [hfld]; decide
  simp only [Dev.editRun, if_neg hgood, if_neg hread, hsrc, editDigit_low hnib, if_neg (Nat.not_lt.mpr hv), digitOut_fixed, digitDone]
  exact congrArg (fun f => d.editApply n b p { e := f, src := (d.bay n b).spSrc + 1, out := some (0x30 + v % 16) } (missBoth m m2)) (ranOne_last hlen)

/-! ## The two commands -/

theorem b2n_decide (P : Prop) [Decidable P] : b2n (decide P) = if P then 1 else 0 := by by_cases h : P <;> simp [b2n, h]

theorem exec_stringStep {s : State} {core : CoreNo} {bay : BayNo} {e : Dev} (hpow : Powered s) (h : s.dev.stringStep core.toNat bay.toNat false = e) :
    exec (.stringStep core bay false) s = .next { s with dev := e } :=
  becomes_of (f := fun d => d.stringStep core.toNat bay.toNat false) rfl h hpow

theorem exec_editStep {s : State} {core : CoreNo} {bay : BayNo} {e : Dev} (hpow : Powered s) (h : s.dev.editStep core.toNat bay.toNat false = e) :
    exec (.editStep core bay false) s = .next { s with dev := e } :=
  becomes_of (f := fun d => d.editStep core.toNat bay.toNat false) rfl h hpow

/-- Settles O27: each clause names the branch of its step, and the byte or unit that the branch ends with. -/
theorem stringAndEditSteps : Obligations.StringAndEditSteps := by
  unfold Obligations.StringAndEditSteps
  intro s core bay p v w c m m2 o w1 g D n b x q k ready after ends moved two str edt E edit upd
  have hedt : ∀ {e : Dev}, edit → patternStep D n b p c m = e → c < 0xF3 ∨ 0xF6 < c → edt = .next { s with dev := after e } := by
    rintro e ⟨⟨hpow, hstep, hword⟩, hk, hused, hlen, hc⟩ he halone
    exact exec_editStep hpow (editStep_pattern hstep hword hk hused hlen hc halone he)
  have hless : ∀ {l j : Nat}, j < l → decide (l ≤ j) = false := fun h => decide_eq_false (Nat.not_le.mpr h)
  have hgoes : edit → ∀ {j : Nat}, j < q.len.toNat → q.finished .edit j = false := by
    rintro ⟨-, -, -, hlen, -⟩ j hj
    exact finished_edit_of_lt hj hlen
  have hupd : ∀ (e : Dev) (f : EditSt) (dst : Nat), upd e f 0 dst = editProgress e n b f x.spSrc dst := by
    intro e f dst
    show editProgress e n b f (x.spSrc + BitVec.ofNat 32 0) dst = _
    rw [BitVec.add_zero]
  refine ⟨?table, ?trs, ?scnHit, ?scneHit, ?scneEnd, ?cmsHit, ?mvsEnd, ?loff, ?literal, ?digit, ?reserved⟩
  case table =>
    rintro ⟨hpow, hstep, hword⟩ hk ht
    exact exec_stringStep hpow (stringStep_table hstep hword hk ht)
  case trs =>
    rintro ⟨hpow, hstep, hword⟩ hk ht hl hlast hsrc htab hdst hcnt
    have hmore : q.finished p.kind k = false := (finished_len (.inl hk) k).trans (hless hlast.le)
    have hend : q.finished p.kind ((o.spStep n b true true).bay n b).spCnt.toNat = true := (finished_len (.inl hk) _).trans (decide_eq_true (spStep_spCnt_last hcnt hlast true true).ge)
    have hrun := stringStep_last hstep hword (atChunk_of_table (.inl hk) ht hl) hmore (strByte_trs hk hsrc htab hdst) hend
    rw [endResults_moves (.inr hk), spStep_both, progDone_zero] at hrun
    exact exec_stringStep hpow hrun
  case scnHit =>
    rintro ⟨hpow, hstep, hword⟩ hk ht hl hlen hsrc htab hg
    have hmore : q.finished p.kind k = false := (finished_len (.inr (.inl hk)) k).trans (hless hlen)
    have hrun := stringStep_hit hstep hword (atChunk_of_table (.inr hk) ht hl) hmore (strByte_scn_hit hk hsrc htab hg)
    rw [doneResults_scans (.inl hk)] at hrun
    exact exec_stringStep hpow hrun
  case scneHit =>
    rintro ⟨hpow, hstep, hword⟩ hk hl hlen hsrc hv
    have hmore : q.finished p.kind k = false := (finished_len (.inr (.inr hk)) k).trans (hless hlen)
    have hrun := stringStep_hit hstep hword (atChunk_of_no_table (.inr (.inr hk)) hl) hmore (strByte_scne_hit hk hsrc hv)
    rw [doneResults_scans (.inr hk), progDone_zero] at hrun
    exact exec_stringStep hpow hrun
  case scneEnd =>
    rintro ⟨hpow, hstep, hword⟩ hk hl hlast hsrc hv
    have hmore : q.finished p.kind k = false := (finished_len (.inr (.inr hk)) k).trans (hless hlast.le)
    have hend : q.finished p.kind ((D.spStep n b true false).bay n b).spCnt.toNat = true :=
      (finished_len (.inr (.inr hk)) _).trans (decide_eq_true (spStep_spCnt_last rfl hlast true false).ge)
    have hrun := stringStep_last hstep hword (atChunk_of_no_table (.inr (.inr hk)) hl) hmore (strByte_scne_next hk hsrc hv) hend
    rw [endResults_spStep, endResults_scans (.inr hk), spStep_src, progDone_zero] at hrun
    exact exec_stringStep hpow hrun
  case cmsHit =>
    rintro ⟨hpow, hstep, hword⟩ hk hl hlen hdlen hsrc hdst hne
    have hmore : q.finished p.kind k = false := (finished_cms hk k).trans (hless (Nat.lt_of_lt_of_le hlen (Nat.le_max_left _ _)))
    have hrun := stringStep_hit hstep hword (atChunk_of_no_table (.inr (.inl hk)) hl) hmore (strByte_cms_hit hk hlen hdlen hsrc hdst hne)
    rw [doneResults_compares hk, progDone_zero, b2n_decide] at hrun
    exact exec_stringStep hpow hrun
  case mvsEnd =>
    rintro ⟨hpow, hstep, hword⟩ hk hl hlen hlast hdst hcnt
    have hmore : q.finished p.kind k = false := (finished_mvs hk k).trans (hless hlast.le)
    have hend : q.finished p.kind ((o.spStep n b false true).bay n b).spCnt.toNat = true := (finished_mvs hk _).trans (decide_eq_true (spStep_spCnt_last hcnt hlast false true).ge)
    have hrun := stringStep_last hstep hword (atChunk_of_no_table (.inl hk) hl) hmore (strByte_mvs_pad hk hlen hdst) hend
    rw [endResults_moves (.inl hk), spStep_dst, progDone_zero] at hrun
    exact exec_stringStep hpow hrun
  case loff =>
    rintro he rfl hmore
    refine hedt he ?_ (.inl (by decide))
    rw [patternStep_unit (by decide) (.inr (by decide)) (by decide), hupd]
    exact editApply_none (f := { E with used := E.used + 1, lead := false }) (hgoes he hmore)
  case literal =>
    intro he hlo hhi hmore hbad hdst
    refine hedt he ?_ (.inl (Nat.lt_trans hhi (by decide)))
    rw [patternStep_unit hlo (.inl hhi) (Nat.le_trans hhi.le (by decide)), unit_literal _ _ hhi hbad, hupd]
    exact editApply_some (f := { E with used := E.used + 1 }) hdst (hgoes he hmore)
  case digit =>
    intro he hlo hhi hmore hbad hfld hnib hrun hsrc hv hdst
    refine hedt he ?_ (.inl (Nat.lt_trans hhi (by decide)))
    have hkind : c / 16 = 0xD := by omega
    rw [patternStep_run (Nat.le_trans (by decide) hlo) (Nat.lt_trans hhi (by decide)), hkind, editRun_digit hbad hfld hnib (Nat.succ_le_succ hrun.ge) hsrc hv]
    exact editApply_some (f := digitDone E (x.spDst - q.dst).toNat) hdst (hgoes he hmore)
  case reserved =>
    intro he hc
    exact hedt he (patternStep_reserved hc) (hc.imp (fun h => Nat.lt_trans h (by decide)) id)

end Sys2Proof.Proofs

/-! SUPPORT. The journal's syllables and events: what each answers where its checks pass, and at the first that fails (R152 to R159). -/

namespace Sys2Proof.Proofs

open Sys2Proof
open Sys2Proof.Machine
open Sys2Proof.Safety

/-! ## The syllables (R153, R155, R156) -/

section JournalSyllable

variable {d : Dev} {y : Syl} {rd ra rb : Reg}

theorem journalRefusal_none {bv : Word} (h : d.journalCheck y.core.toNat y.bay.toNat bv = none) : d.journalRefusal y bv = none := by
  rw [Dev.journalRefusal, h, Option.map_none]

theorem journalRefusal_some {bv : Word} {r : Nat} (h : d.journalCheck y.core.toNat y.bay.toNat bv = some r) : d.journalRefusal y bv = some (.exc 0x16 r 0 0) := by
  rw [Dev.journalRefusal, h, Option.map_some]

/-- The four instructions share the check of stream, owner and state, and it comes first (R153). -/
theorem journalOuts_refused {o : SylOut} (h : d.journalRefusal y (d.src y rb) = some o) :
    d.jappOut y rd ra rb = o ∧ d.jwaitOut y ra rb = o ∧ d.jdurOut y rd rb = o ∧ d.jrelOut y ra rb = o := by
  simp only [Dev.jappOut, Dev.jwaitOut, Dev.jdurOut, Dev.jrelOut, h, and_self]

theorem jdurOut_open (h : d.journalRefusal y (d.src y rb) = none) :
    d.jdurOut y rd rb = .done [.land ((d.home y).intDest rd) ((d.stream (d.src y rb).toNat).dur.toNat % 2 ^ 32) 3] := by
  simp only [Dev.jdurOut, h, Dev.toInt, BitVec.toNat_ofNat]

theorem jwaitOut_durable (h : d.journalRefusal y (d.src y rb) = none)
    (hk : seqNear (d.stream (d.src y rb).toNat).dur (d.src y ra) ≤ (d.stream (d.src y rb).toNat).dur.toNat) : d.jwaitOut y ra rb = .done [] := by
  simp only [Dev.jwaitOut, h, if_pos hk]

theorem jwaitOut_ahead (h : d.journalRefusal y (d.src y rb) = none)
    (hk : ((d.stream (d.src y rb).toNat).dur.toNat : Int) < seqNear (d.stream (d.src y rb).toNat).dur (d.src y ra)) :
    d.jwaitOut y ra rb = .hold .waiting (.jwait (d.src y rb).toNat (seqNear (d.stream (d.src y rb).toNat).dur (d.src y ra)).toNat) := by
  simp only [Dev.jwaitOut, h, if_neg (Int.not_le.2 hk)]

theorem jrelOut_open (h : d.journalRefusal y (d.src y rb) = none) :
    let x := d.stream (d.src y rb).toNat
    let k := seqNear x.dur (d.src y ra)
    d.jrelOut y ra rb = if k < x.rel.toNat ∨ (x.dur.toNat : Int) < k then .exc 0x16 0xB 0 0 else .done [.jrel (d.src y rb).toNat k.toNat] := by
  simp only [Dev.jrelOut, h]

section Source

variable {pa : Nat} (h : d.journalRefusal y (d.src y rb) = none) (hsrc : d.jappSource y.core.toNat y.bay.toNat (d.src y ra).toNat = .ok pa)
  (hread : d.unreadable (d.src y ra).toNat [(pa, 128)] = none)

include h hsrc hread

theorem jappOut_whole (hc : d.recordCheck (d.src y rb).toNat (d.loadBytes y.core.toNat pa 128) = none) :
    d.jappOut y rd ra rb = .done [.japp (d.src y rb).toNat (d.loadBytes y.core.toNat pa 128) ((d.home y).intDest rd)] := by
  simp only [Dev.jappOut, h, hsrc, hread, hc]

theorem jappOut_wrong {r : Nat} (hc : d.recordCheck (d.src y rb).toNat (d.loadBytes y.core.toNat pa 128) = some r) :
    d.jappOut y rd ra rb = appendRefusal (d.src y rb).toNat r := by
  simp only [Dev.jappOut, h, hsrc, hread, hc]

end Source

/-- An append still passes its checks as its bundle ends, where nothing came between. -/
theorem settled_japp {n b N : Nat} {bs : List Byte} {t : Dest} (hc : d.recordCheck N bs = none) : Settled d n b [.japp N bs t] = true := by
  simp [Dev.lateFault, hc, Eff.asks]

/-- An append without a segment asks for an allocation all the same: the stream is evaluated for low space before the exception stands (R153, R414). -/
theorem run_short {s : State} {i : Instr} {u : Bundle} {f : Dev → SylOut} {N : Nat} (h : Executes s y i u) (hf : f s.dev = .short N) :
    s.run (fun e => e.runSyl y (asDecoded i) f)
      = { s with dev := (s.dev.evalLow N).sylDone y.core.toNat y.bay.toNat [] [(y.pos.toNat, { cause := 0x16, detail := detailOf y.pos.toNat u.len 0xA, faddr := 0, aux := 0, pc := u.pc })] } := by
  rw [run_last s y i u f h, hf]
  rfl

end JournalSyllable

/-! ## Room in the queue, and durability (R155, R158, R159) -/

theorem queueSpace_held {d : Dev} {q : QRec} {qs : List QRec} (hq : d.jr.heldq = q :: qs) (hroom : d.jr.queue.length < 512) (hpf : d.pw.pfail = false) :
    d.queueSpace = ({ d with jr := { d.jr with queue := d.jr.queue ++ [q], heldq := qs } } : Dev).wakeAppend q.site := by
  simp [Dev.queueSpace, hq, hroom, hpf]

@[simp] theorem durable_cores (d : Dev) (q : QRec) : (d.durable q).cores = d.cores := by
  unfold Dev.durable
  split <;> rfl

theorem durable_dur (d : Dev) (q : QRec) : ((d.durable q).stream q.stream).dur = q.jseq := by
  simp [Dev.durable, Dev.stream]

/-- A record that needs no segment header writes its own slot alone. -/
theorem durable_mem {d : Dev} {q : QRec} (h : q.hdr = []) : (d.durable q).mem = (d.put q.addr q.data).mem := by
  simp [Dev.durable, h]

theorem wakeJwait_of_not_jwait {d : Dev} {n b : Nat} (h : ∀ t e, (d.bay n b).wait ≠ .jwait t e) (s : Nat) : d.wakeJwait n b s = d := by
  unfold Dev.wakeJwait
  cases hw : (d.bay n b).wait
  case jwait t k => exact absurd hw (h t k)
  all_goals simp only [hw]

/-- Where no bay waits for a JSEQ, a record made durable wakes none. -/
theorem recordDurable_no_jwait {d : Dev} {s : Nat} {q : QRec} {rest : List QRec} (hq : takeQueued s d.jr.queue = some (q, rest)) (h : ∀ n b t e, (d.bay n b).wait ≠ .jwait t e) :
    d.recordDurable s = ({ d with jr := { d.jr with queue := rest } } : Dev).durable q := by
  have hbay : ∀ n b, (({ d with jr := { d.jr with queue := rest } } : Dev).durable q).bay n b = d.bay n b := fun n b => by
    simp only [Dev.bay, Dev.core, durable_cores]
  simp only [Dev.recordDurable, hq]
  exact foldl_id _ _ _ fun n => foldl_id _ _ _ fun b => wakeJwait_of_not_jwait (by rw [hbay]; exact h n b) s

/-- Settles O28: the shared check answers first, then each instruction takes the branch its sequence or its record decides; the events of the queue change what they name. -/
theorem journalOperations : Obligations.JournalOperations := by
  unfold Obligations.JournalOperations
  intro s y d a b pa r st q qs D n N z k ok bs
  refine ⟨?jdur, ?jwaitDone, ?jwaitParks, ?jrel, ?jrelTraps, ?japp, ?jappWrong, ?jappShort, ?refused, ?space, ?durable, fun e => ⟨durable_dur e q, durable_mem⟩⟩
  case jdur => exact fun hok => done_of rfl (jdurOut_open (journalRefusal_none hok)) rfl
  case jwaitDone => exact fun hok hk => done_of rfl (jwaitOut_durable (journalRefusal_none hok) hk) rfl
  case jwaitParks => exact fun hok hk => waits_of rfl (jwaitOut_ahead (journalRefusal_none hok) hk)
  case jrel => exact fun hok hrel hdur => done_of rfl ((jrelOut_open (journalRefusal_none hok)).trans (if_neg (not_or.2 ⟨Int.not_lt.2 hrel, Int.not_lt.2 hdur⟩))) rfl
  case jrelTraps => exact fun hok hk => traps_of rfl ((jrelOut_open (journalRefusal_none hok)).trans (if_pos hk))
  case japp => exact fun hok hsrc hread hc => done_of rfl (jappOut_whole (journalRefusal_none hok) hsrc hread hc) (settled_japp hc)
  case jappWrong => exact fun hok hsrc hread hc hr => traps_of rfl ((jappOut_wrong (journalRefusal_none hok) hsrc hread hc).trans (if_neg hr))
  case jappShort => exact fun hok hsrc hread hc u hu => congrArg _ (run_short hu (jappOut_wrong (journalRefusal_none hok) hsrc hread hc))
  case refused =>
    intro hcheck
    obtain ⟨hjapp, hjwait, hjdur, hjrel⟩ := journalOuts_refused (rd := d) (ra := a) (journalRefusal_some hcheck)
    exact ⟨traps_of rfl hjapp, traps_of rfl hjwait, traps_of rfl hjdur, traps_of rfl hjrel⟩
  case space => exact fun hq hroom hpf => becomes_of_run rfl (queueSpace_held hq hroom hpf)
  case durable => exact fun hq hw => becomes_of_run rfl (recordDurable_no_jwait hq hw)

end Sys2Proof.Proofs

/-! SUPPORT. The epoch block's commands: edges of TICK_IN, writes to EPCTL and due slots, each under the conditions that choose its branch (R167 to R174). -/

namespace Sys2Proof.Proofs

open Sys2Proof
open Sys2Proof.Machine
open Sys2Proof.Safety

/-- A field of a field that starts at bit 0 is a field of the whole. -/
theorem bits_bits_zero (x : Nat) {top hi : Nat} (lo : Nat) (h : hi ≤ top) : bits (bits x top 0) hi lo = bits x hi lo := by
  apply Nat.eq_of_testBit_eq
  intro i
  simp only [bits, Nat.testBit_mod_two_pow, Nat.testBit_shiftRight, Nat.zero_add, Nat.sub_zero]
  by_cases hi : i < hi + 1 - lo
  · rw [decide_eq_true (show lo + i < top + 1 by omega), Bool.true_and]
  · rw [decide_eq_false hi, Bool.false_and, Bool.false_and]

/-! ## The counters (R167, R168, R169) -/

section EpochBlock

variable {d : Dev}

theorem tickIn_off (h : d.ep.on = false) (inp : Bool) : d.tickIn inp = { d with ep := { d.ep with prevIn := inp } } := by
  simp [Dev.tickIn, h]

/-- While the counters follow the pins, a rise of EPOCH_IN moves to the next epoch. -/
theorem tickIn_rise (hon : d.ep.on = true) (hcur : d.ep.cur = 0) (hprev : d.ep.prevIn = false) (hmax : d.ep.epoch < 0xFFFFFFFFFFFF) :
    d.tickIn true = ({ d with ep := { d.ep with prevIn := true } } : Dev).epochUpdate (d.ep.epoch + 1) 0 := by
  simp [Dev.tickIn, hon, hcur, hprev, hmax.ne]

/-- While the counters follow the pins, an edge without a rise of EPOCH_IN moves to the next tick. -/
theorem tickIn_no_rise {inp : Bool} (hon : d.ep.on = true) (hcur : d.ep.cur = 0) (hrise : ¬ (inp = true ∧ d.ep.prevIn = false)) (hmax : d.ep.tick < 0xFFFFFF) :
    d.tickIn inp = ({ d with ep := { d.ep with prevIn := inp } } : Dev).epochUpdate d.ep.epoch (d.ep.tick + 1) := by
  simp [Dev.tickIn, hon, hcur, hrise, hmax.ne]

theorem sourceLoss_running (hon : d.ep.on = true) (hloss : d.ep.loss ≠ 0) : d.sourceLoss false = ({ d with ep := (d.ep.mark 27).live false } : Dev).epochEvent 1 :=
  (if_neg (not_or.2 ⟨not_not_intro hon, hloss⟩)).trans (if_neg Bool.false_ne_true)

theorem sourceLoss_unwatched (h : d.ep.on = false ∨ d.ep.loss = 0) (altLive : Bool) : d.sourceLoss altLive = d :=
  if_pos (h.imp_left Bool.eq_false_iff.1)

/-! ## EPCTL (R167, R171) -/

theorem writeEpctl_disable {v : Nat} (hv : v.testBit 31 = false) (hon : d.ep.on = true) :
    d.writeEpctl v = { d with ep := (({ d.ep with ctl := d.ep.nxt &&& 0x7FFFFFFF, nxt := d.ep.nxt &&& 0x7FFFFFFF }).follow 7).live false } := by
  simp [Dev.writeEpctl, bit, hv, hon]

theorem writeEpctl_off {v : Nat} (hv : v.testBit 31 = false) (hon : d.ep.on = false) :
    d.writeEpctl v = { d with ep := { d.ep with ctl := BitVec.ofNat 32 (epctlFields v), nxt := BitVec.ofNat 32 (epctlFields v) } } := by
  simp [Dev.writeEpctl, bit, hv, hon]

theorem writeEpctl_enable {v : Nat} (hv : v.testBit 31 = true) (hon : d.ep.on = false) : d.writeEpctl v = d.epochEnable := by
  simp [Dev.writeEpctl, bit, hv, hon]

theorem writeEpctl_running {v : Nat} (hv : v.testBit 31 = true) (hon : d.ep.on = true) :
    let w := epctlFields v
    let y := { d.ep with ctl := BitVec.ofNat 32 (setBits (0x80000000 + w) 27 20 (bits d.ep.ctl.toNat 27 20)), nxt := BitVec.ofNat 32 (0x80000000 + w) }
    d.writeEpctl v = { d with ep := if bits w 30 28 = bits d.ep.ctl.toNat 30 28 then y else y.follow (bits w 30 28) } := by
  simp only [Dev.writeEpctl, bit, hv, hon, bne_self_eq_false, Bool.false_eq_true, not_true, if_false]

/-- EN set with the pins as the source starts the counters at (EPLOAD, 0). -/
theorem epochEnable_pins (h : bits (d.ep.nxt ||| 0x80000000).toNat 30 28 = 0) :
    let w := d.ep.nxt ||| 0x80000000
    d.epochEnable = ({ d with ep := { ({ d.ep with ctl := w, nxt := w } : Epoch).follow 0 with epoch := d.ep.load, tick := 0 } } : Dev).collectDue := by
  simp only [Dev.epochEnable, h, if_true]

theorem epochEnable_port (h : bits (d.ep.nxt ||| 0x80000000).toNat 30 28 ≠ 0) :
    let w := d.ep.nxt ||| 0x80000000
    d.epochEnable = { d with ep := ({ d.ep with ctl := w, nxt := w } : Epoch).follow (bits w.toNat 30 28) } := by
  simp only [Dev.epochEnable, h, if_false]

/-! ## Event slots (R173, R174) -/

/-- The machine once its first due slot `k` has fired: the slot no longer armed, and the rest still due. -/
def slotFired (d : Dev) (k : Nat) (qs : List Nat) : Dev :=
  { d with ep := { d.ep with due := qs, slots := Tab.set d.ep.slots k { d.evSlot k with ctl := BitVec.ofNat 32 (setBits (d.evSlot k).ctl.toNat 31 30 1) } } }

section Slot

variable {k : Nat} {qs : List Nat} (hdue : d.ep.due = k :: qs) (harm : (d.evSlot k).ctl.toNat.testBit 31 = true)

include hdue harm

theorem fireSlot_token (hkind : bits (d.evSlot k).ctl.toNat 29 28 = 1) :
    d.fireSlot = (slotFired d k qs).addToken (bits (d.evSlot k).ctl.toNat 5 4) (bits (d.evSlot k).ctl.toNat 3 0) := by
  simp only [Dev.fireSlot, hdue, bit, harm, not_true, if_false, hkind, bits_bits_zero _ _ (show 5 ≤ 8 by decide), bits_bits_zero _ _ (show 3 ≤ 8 by decide)]
  rfl

theorem fireSlot_snapshot (hkind : bits (d.evSlot k).ctl.toNat 29 28 = 2) : d.fireSlot = (slotFired d k qs).snap 1 := by
  simp only [Dev.fireSlot, hdue, bit, harm, not_true, if_false, hkind]
  rfl

/-- A slot that raises an event names the lowest slot of its bay that has fired or fires by the same update. -/
theorem fireSlot_event (hkind : bits (d.evSlot k).ctl.toNat 29 28 = 0) :
    let c := (d.evSlot k).ctl.toNat
    let low := (List.range 256).find? (fun j => let w := ((slotFired d k qs).evSlot j).ctl.toNat; (bit w 30 || (bit w 31 && qs.contains j)) && bits w 29 28 == 0 && bits w 8 0 == bits c 8 0)
    d.fireSlot = (slotFired d k qs).raise (bits c 8 2) (bits c 1 0) 0x23 (low.getD k) := by
  simp only [Dev.fireSlot, hdue, bit, harm, not_true, if_false, hkind, bits_bits_zero _ _ (le_refl 8), bits_bits_zero _ _ (show 1 ≤ 8 by decide)]
  rfl

end Slot

end EpochBlock

/-! ## The commands -/

/-- A write to a device register acts where the access rules let its writer through. -/
theorem becomes_of_allowed {c : Instr} {s : State} {who : Agent} {off : Nat} {act : Dev → Dev} {d : Dev}
    (hc : exec c s = .next (s.run (fun e => if e.allowed who off true then act e else e))) (h : s.dev.allowed who off true = true) (hd : act s.dev = d) : Becomes c s d :=
  becomes_of_run hc ((if_pos h).trans hd)

theorem becomes_of_not_allowed {c : Instr} {s : State} {who : Agent} {off : Nat} {act : Dev → Dev}
    (hc : exec c s = .next (s.run (fun e => if e.allowed who off true then act e else e))) (h : s.dev.allowed who off true = false) : Becomes c s s.dev :=
  becomes_of_run hc (if_neg (Bool.eq_false_iff.1 h))

/-- Settles O38: an edge, a write and a due slot take the branch that EN, the source and the slot's kind decide. -/
theorem epochsAndEventSlots : Obligations.EpochsAndEventSlots := by
  unfold Obligations.EpochsAndEventSlots
  intro s who v q k l qs altLive D x follows sampled update w src cleared kept from_ set new may on z c due fired low lost
  have hcur : x.cur = x.stat.toNat / 2 ^ 28 % 8 := bits_eq_div_mod _ _ _
  refine ⟨?rise, ?edge, ?high, ?off, ?lost, ?unwatched, ?disable, ?parameters, ?enablePins, ?enablePort, ?running, ?refused, ?arm, ?token, ?snapshot, ?event⟩
  case rise => exact fun ⟨hon, hpins⟩ hprev hmax => becomes_of_run rfl (tickIn_rise hon (hcur.trans hpins) hprev hmax)
  case edge => exact fun ⟨hon, hpins⟩ hmax => becomes_of_run rfl (tickIn_no_rise hon (hcur.trans hpins) (fun h => Bool.false_ne_true h.1) hmax)
  case high => exact fun ⟨hon, hpins⟩ hprev hmax => becomes_of_run rfl (tickIn_no_rise hon (hcur.trans hpins) (fun h => Bool.false_ne_true (h.2.symm.trans hprev)) hmax)
  case off => exact fun hon b => becomes_of_run rfl (tickIn_off hon b)
  case lost => exact fun hon hloss => becomes_of_run rfl (sourceLoss_running hon hloss)
  case unwatched => exact fun h => becomes_of_run rfl (sourceLoss_unwatched h altLive)
  case disable => exact fun hmay hv hon => becomes_of_allowed rfl hmay (writeEpctl_disable hv hon)
  case parameters => exact fun hmay hv hon => becomes_of_allowed rfl hmay (writeEpctl_off hv hon)
  case enablePins => exact fun hmay hv hon hsrc => becomes_of_allowed rfl hmay ((writeEpctl_enable hv hon).trans (epochEnable_pins hsrc))
  case enablePort => exact fun hmay hv hon hsrc => becomes_of_allowed rfl hmay ((writeEpctl_enable hv hon).trans (epochEnable_port hsrc))
  case running => exact fun hmay hv hon => becomes_of_allowed rfl hmay (writeEpctl_running hv hon)
  case refused => exact fun h => becomes_of_not_allowed rfl h
  case arm => exact fun h => becomes_of_allowed rfl h rfl
  case token => exact fun ⟨hdue, harm⟩ hkind => becomes_of_run rfl (fireSlot_token hdue harm hkind)
  case snapshot => exact fun ⟨hdue, harm⟩ hkind => becomes_of_run rfl (fireSlot_snapshot hdue harm hkind)
  case event =>
    intro ⟨hdue, harm⟩ hkind
    have hcore : bits c 8 2 = c / 4 % 128 := bits_eq_div_mod _ _ _
    have hbay : bits c 1 0 = c % 4 := bits_zero _ _
    rw [← hcore, ← hbay]
    exact becomes_of_run rfl (fireSlot_event hdue harm hkind)

end Sys2Proof.Proofs

/-! SUPPORT. MFC: what its read answers at each level, the moment an ETIME_L read latches, and the key port (R172, R208, R246). -/

namespace Sys2Proof.Proofs

open Sys2Proof
open Sys2Proof.Machine
open Sys2Proof.Safety

section Read

variable {d : Dev} {y : Syl} {r : Reg} {l : Nat}

theorem ctlBelow_some (h : (d.home y).level < l) : d.ctlBelow y l = some (.exc 3 2 0 0) := if_pos h

theorem ctlBelow_none (h : l ≤ (d.home y).level) : d.ctlBelow y l = none := if_neg (Nat.not_lt.2 h)

/-- The effects of a read of ETIME_L: the low word of the epoch lands, and the rest is latched with it (R172). -/
theorem etimeOut_eq (d : Dev) (y : Syl) (r : Reg) :
    d.etimeOut y r = .done [.land ((d.home y).intDest r) (d.ep.epoch % 2 ^ 32) 1, .act .etime d.ep.epoch d.ep.tick 0] := by
  rw [Dev.etimeOut, Dev.toInt, BitVec.toNat_ofNat]

theorem mfcOut_below {c : Nat} (hc : c ≠ 21) (h : (d.home y).level < ctlReadLevel c) : d.mfcOut y r c = .exc 3 2 0 0 :=
  (if_neg hc).trans (firstOut_some (ctlBelow_some h) [] _)

theorem mfcOut_register {c : Nat} (hc : c ≠ 21) (hk : c ≠ 52) (h : ctlReadLevel c ≤ (d.home y).level) :
    d.mfcOut y r c = .done [.land ((d.home y).intDest r) (d.ctlValue y.core.toNat y.bay.toNat c).toNat 1] :=
  (if_neg hc).trans ((firstOut_none (ctlBelow_none h) [] _).trans (if_neg hk))

/-- KPV reads as the key byte of the granule KPA names, extended with zeros (R246, log entry 13). -/
theorem kpvRead_key {a : Nat} (hkey : d.keyPort y.core.toNat = some a) (hread : d.unreadable 0 [(a, 1)] = none) :
    d.kpvRead y r = .done [.land ((d.home y).intDest r) (BitVec.ofNat 32 (d.byte a).toNat).toNat 1] := by
  simp only [Dev.kpvRead, hkey]
  exact firstOut_none hread [] _

end Read

/-- A banked register reads as that of the M bank at M level alone. -/
theorem ctlValue_banked (d : Dev) (n b : Nat) :
    let x := d.bay n b
    d.ctlValue n b 1 = (if x.level = 3 then x.causeM else x.causeS) ∧ d.ctlValue n b 2 = (if x.level = 3 then x.epcM else x.epcS)
      ∧ d.ctlValue n b 10 = (if x.level = 3 then x.faddrM else x.faddrS) := by
  simp only [Dev.ctlValue, beq_iff_eq, and_self]

/-- Settles O17: the level is checked before the register is read, ETIME_L and KPV have reads of their own, and the two commands of each are one syllable. -/
theorem controlRegisterReads : Obligations.ControlRegisterReads := by
  unfold Obligations.ControlRegisterReads
  intro s y r c a e n b l D x N t v time key
  have hnum : ∀ k : BitVec 6, c ≠ k → c.toNat ≠ k.toNat := fun k hk h => hk (BitVec.eq_of_toNat_eq h)
  have hkpv : 1 ≤ x.level → key → firstOut [D.ctlBelow y 1] (D.kpvRead y r) = .done [.land t (BitVec.ofNat 32 (D.byte a).toNat).toNat 1] :=
    fun hl hkey => (firstOut_none (ctlBelow_none hl) [] _).trans (kpvRead_key hkey.1 hkey.2)
  refine ⟨?register, ?below, ?etime, ?etimeL, rfl, ?kpv, ?kpvBelow, rfl, rfl, rfl, rfl, rfl, rfl, rfl, rfl, rfl, rfl, fun w => ⟨rfl, rfl, rfl⟩, ctlValue_banked D N y.bay.toNat⟩
  case register => exact fun htime hkey hl => done_of rfl (mfcOut_register (hnum 21 htime) (hnum 52 hkey) hl) rfl
  case below => exact fun htime hl => traps_of rfl (mfcOut_below (hnum 21 htime) hl)
  case etime => exact done_of rfl (etimeOut_eq D y r) rfl
  case etimeL => exact done_of rfl (etimeOut_eq D y r) rfl
  case kpv => exact fun hl hkey => ⟨done_of rfl (hkpv hl hkey) rfl, done_of rfl (hkpv hl hkey) rfl⟩
  case kpvBelow => exact fun hu => traps_of rfl (firstOut_some (ctlBelow_some (Nat.lt_of_le_of_lt hu.le Nat.one_pos)) [] _)

end Sys2Proof.Proofs

/-! SUPPORT. Start-up, resets and power failure: each operation's branches under the conditions that choose them (R164, R370 to R376). -/

namespace Sys2Proof.Proofs

open Sys2Proof
open Sys2Proof.Machine
open Sys2Proof.Safety

section Operations

variable {d : Dev}

/-! ## Start-up (R374, R376) -/

section Begins

variable (hoff : d.pw.stage = .off) (hpf : d.pw.pfail = false) (hhot : d.pw.hotWait = false) {e : Dev} (he : d.startFuses.startLoam.startImages.startLinks = e)

include hoff hpf hhot he

theorem startup_unverified (hfw : e.pw.fwBank = none) : d.startup = ({ e with pw := { e.pw with boot := 0x40000000 } } : Dev).startEnd := by
  simp only [Dev.startup, hoff, hpf, hhot, he, hfw, ne_eq, not_true, Bool.false_eq_true, false_and, or_self, if_false]

theorem startup_verified {i : Nat} (hfw : e.pw.fwBank = some i) :
    let f := e.startCores (imgEntry (e.imgBank i).data)
    d.startup = { f with pw := { f.pw with stage := .training } } := by
  simp only [Dev.startup, hoff, hpf, hhot, he, hfw, ne_eq, not_true, Bool.false_eq_true, false_and, or_self, if_false]

end Begins

theorem startup_waits (h : d.pw.stage ≠ .off ∨ d.pw.pfail = true ∨ (d.pw.hotWait = true ∧ 760 ≤ Tab.get d.pw.temp 8 760)) : d.startup = d := if_pos h

theorem releaseCores_training (h : d.pw.stage = .training) :
    let e := d.setDoms (rangeFrom 91 4) 1
    let f := e.presentPairs.foldl (fun (e : Dev) k => e.setUp k true) e
    d.releaseCores = { f with pw := { f.pw with stage := .firmware } } :=
  if_neg (not_not_intro h)

theorem bootDone_firmware (h : d.pw.stage = .firmware) : d.bootDone = ({ d with pw := { d.pw with boot := d.pw.boot ||| 0x80000000 } } : Dev).startEnd := if_pos h

theorem bootDone_finished (h : d.pw.stage = .finished) : d.bootDone = { d with pw := { d.pw with boot := d.pw.boot ||| 0x80000000 } } :=
  if_neg (by rw [h]; decide)

theorem writeMemil_early {v : Nat} (hdone : d.pw.boot.toNat.testBit 31 = false) (hv : v % 4 ≠ 3) : d.writeMemil v = { d with pw := { d.pw with memil := BitVec.ofNat 32 (v % 4) } } := by
  have hmod : bits v 1 0 = v % 4 := bits_zero v 1
  rw [Dev.writeMemil, hmod]
  exact if_neg (not_or.2 ⟨Bool.eq_false_iff.1 hdone, hv⟩)

theorem writeMemil_refused {v : Nat} (h : d.pw.boot.toNat.testBit 31 = true ∨ v % 4 = 3) : d.writeMemil v = d :=
  if_pos (h.imp_right (bits_zero v 1).trans)

/-! ## Power failure (R164, R362) -/

theorem registerFailure_again (h : d.pw.pfail = true) : d.registerFailure = d := if_pos h

theorem registerFailure_first (h : d.pw.pfail = false) :
    let e := d.recordLogged true 0xA000 4 []
    d.registerFailure = ({ e with pw := { e.pw with pfail := true } } : Dev).dropFrame :=
  if_neg (Bool.eq_false_iff.1 h)

/-- A part of the machine under a loop whose turns leave it alone. -/
theorem foldl_part {α β : Type} (part : Dev → β) (g : Dev → α → Dev) (hg : ∀ e a, part (g e a) = part e) (as : List α) (d : Dev) : part (as.foldl g d) = part d := by
  induction as generalizing d with
  | nil => rfl
  | cons a as ih => rw [List.foldl_cons, ih, hg]

@[simp] theorem durable_pw (d : Dev) (q : QRec) : (d.durable q).pw = d.pw := by
  unfold Dev.durable
  split <;> rfl

@[simp] theorem commitQueue_pw (d : Dev) : d.commitQueue.pw = d.pw := foldl_part Dev.pw Dev.durable durable_pw _ d

@[simp] theorem logDurable_pw (d : Dev) : d.logDurable.pw = d.pw := by
  unfold Dev.logDurable
  cases d.rc.logq with
  | nil => rfl
  | cons x q =>
    dsimp only
    split
    · rfl
    · simp only [Dev.put_pw]

theorem failureEnd_registered (hpf : d.pw.pfail = true) (hdone : d.pw.pfDone = false) :
    let e := d.commitQueue.logDurable
    d.failureEnd = { e with pw := { e.pw with pfDone := true }, rc := { e.rc with optSaved := e.rc.opt } } :=
  if_neg (not_or.2 ⟨not_not_intro hpf, Bool.eq_false_iff.1 hdone⟩)

theorem failureEnd_rstWant (d : Dev) : d.failureEnd.pw.rstWant = d.pw.rstWant := by
  unfold Dev.failureEnd
  split
  · rfl
  · simp only [logDurable_pw, commitQueue_pw]

/-- No reset follows the sequence where none waited for it. -/
theorem powerFailEnd_registered (hpf : d.pw.pfail = true) (hdone : d.pw.pfDone = false) (hrst : d.pw.rstWant = false) :
    let e := d.commitQueue.logDurable
    d.powerFailEnd = { e with pw := { e.pw with pfDone := true }, rc := { e.rc with optSaved := e.rc.opt } } :=
  have hwant : d.failureEnd.pw.rstWant = false := (failureEnd_rstWant d).trans hrst
  (if_neg fun h => Bool.eq_false_iff.1 hwant h.1).trans (failureEnd_registered hpf hdone)

end Operations

/-! ## The commands -/

/-- Settles O40: each command runs its operation in the power state that takes it, and the operation takes the branch its stage and its flags decide. -/
theorem startUpAndResets : Obligations.StartUpAndResets := by
  unfold Obligations.StartUpAndResets
  intro s who v D p begins ready stage ends boot engines standby
  have hready : D.startFuses.startLoam.startImages.startLinks = ready := rfl
  clear_value ready
  refine ⟨?startup, ?startupLater, ?release, ?done, ?doneAgain, ?timeout, ?memil, ?memilRefused, rfl, rfl, rfl, rfl, ?hot, ?reset, ?resetOff, fun _ => ⟨rfl, rfl, rfl, rfl⟩,
    ?failAgain, ?fail, ?failEnd⟩
  case startup =>
    rintro ⟨hoff, hpf, hhot⟩ r hr
    cases r with
    | none => exact becomes_of_run rfl (startup_unverified hoff hpf hhot hready hr)
    | some i => exact becomes_of_run rfl (startup_verified hoff hpf hhot hready hr)
  case startupLater => exact fun h => becomes_of_run rfl (startup_waits (h.imp_right .inl))
  case release => exact fun h => becomes_of_run rfl (releaseCores_training h)
  case done => exact fun h => becomes_of_run rfl ((if_pos (.inl h)).trans (bootDone_firmware h))
  case doneAgain => exact fun h => becomes_of_run rfl ((if_pos (.inr h)).trans (bootDone_finished h))
  case timeout => exact fun h => becomes_of_run rfl (if_pos h)
  case memil => exact fun hmay hdone hv => becomes_of_allowed rfl hmay (writeMemil_early hdone hv)
  case memilRefused => exact fun hmay h => becomes_of_allowed rfl hmay (writeMemil_refused h)
  case hot => exact fun hwait htemp => becomes_of_run rfl (startup_waits (.inr (.inr ⟨hwait, htemp⟩)))
  case reset => exact fun hon => congrArg Host.Outcome.next (if_neg hon)
  case resetOff => exact fun hoff => congrArg Host.Outcome.next (if_pos hoff)
  case failAgain => exact fun hpf => becomes_of_run rfl (registerFailure_again hpf)
  case fail => exact fun hpf => becomes_of_run rfl (registerFailure_first hpf)
  case failEnd => exact fun hpf hdone hrst => becomes_of_run rfl (powerFailEnd_registered hpf hdone hrst)

end Sys2Proof.Proofs

/-! SUPPORT. The journal's commands that touch no bundle: writes to JS_CTL, and the digests sealed, compared and waited for (R149, R166, R176 to R180). -/

namespace Sys2Proof.Proofs

open Sys2Proof
open Sys2Proof.Machine
open Sys2Proof.Safety

section Streams

variable {d : Dev} {s : Nat}

/-! ## JS_CTL (R149, R180, R414) -/

/-- What a write to JS_CTL makes of EN, or of QUOTA and LOW, before REOPEN: a write that changes EN changes nothing else (log entry 76). -/
def jsCtlFields (d : Dev) (s v : Nat) : Dev :=
  let x := d.stream s
  if v.testBit 31 ≠ x.en then
    let e := d.setStream s { x with en := v.testBit 31, wrote := x.wrote && !v.testBit 31 }
    if v.testBit 31 = true ∧ x.wrote = true then e.evalLow s else e
  else
    let e := d.setStream s { x with quota := Nat.min 1012 (Nat.max 1 (v / 2 ^ 16 % 1024)), low := v % 1024, wrote := x.wrote || !x.en }
    if x.en = true ∧ d.streamState s ≠ 1 then e.evalLow s else e

theorem writeJsCtl_eq (d : Dev) (s v : Nat) : d.writeJsCtl s v = if v.testBit 30 = true then (jsCtlFields d s v).reopenStream s else jsCtlFields d s v := by
  have hquota : bits v 25 16 = v / 2 ^ 16 % 1024 := bits_eq_div_mod v 25 16
  have hlow : bits v 9 0 = v % 1024 := bits_zero v 9
  simp only [Dev.writeJsCtl, jsCtlFields, bit, hquota, hlow, bne_iff_ne, Bool.and_eq_true, Bool.not_eq_true', beq_eq_false_iff_ne]

theorem writeJsCtl_keep {v : Nat} (h : v.testBit 30 = false) : d.writeJsCtl s v = jsCtlFields d s v :=
  (writeJsCtl_eq d s v).trans (if_neg (Bool.eq_false_iff.1 h))

theorem writeJsCtl_reopen {v : Nat} (h : v.testBit 30 = true) : d.writeJsCtl s v = (jsCtlFields d s v).reopenStream s :=
  (writeJsCtl_eq d s v).trans (if_pos h)

/-! ## Digests (R176, R178, R179) -/

theorem dmask_invalid {w : Nat} (h : w.testBit 31 = false) : d.dmask w = 0 := if_neg (Bool.eq_false_iff.1 h)

/-- A digest sealed for a stream that no ring carries: nobody's digest is awaited. -/
def sealedAlone (d : Dev) (s : Nat) (z : Seal) : Seal :=
  { z with digest := sha256 (z.msg ++ digestTrailer s z), msg := [], done := true, wantA := 0, wantB := 0, maskA := 0, maskB := 0, left := bits d.ep.ctl.toNat 19 12 }

theorem sealDigest_alone {z : Seal} (hz : (d.stream s).seals.find? (fun w => !w.done) = some z) (ha : (d.smap s).testBit 31 = false) (hb : (d.smapb s).testBit 31 = false) :
    let x := d.stream s
    let y := sealedAlone d s z
    d.sealDigest s = d.setStream s { x with
      seals := x.seals.map (fun w => if w = z then y else w), dig := y.digest, dep := y.epoch, lastSealed := some y.epoch
      held := x.held.filter (fun g => decide (y.epoch < g.epoch) || x.seals.any (fun w => w.done && w.epoch == g.epoch && w.wants g.bridge g.origin)) } := by
  have hmap : ∀ x : Stream, bit ((d.setStream s x).smap s) 31 = false := fun _ => ha
  have hmapb : ∀ x : Stream, bit ((d.setStream s x).smapb s) 31 = false := fun _ => hb
  simp only [Dev.sealDigest, hz, dmask_invalid ha, dmask_invalid hb, hmap, hmapb, Bool.false_eq_true, if_false, ite_self, BitVec.ofNat_eq_ofNat, BitVec.getLsbD_zero, Bool.and_false, Bool.or_false]
  rfl

theorem compareDigest_pair {bridge : Bool} {origin : Nat} {h : PDig} {z : Seal}
    (hh : (d.stream s).held.find? (fun g => g.bridge == bridge && g.origin == origin && (d.stream s).seals.any (fun y => y.done && y.epoch == g.epoch && y.wants bridge origin)) = some h)
    (hz : (d.stream s).seals.find? (fun y => y.done && y.epoch == h.epoch) = some z) :
    let x := d.stream s
    let e := d.setStream s { x with held := x.held.erase h, seals := x.seals.map (fun w => if w = z then z.got bridge origin else w) }
    d.compareDigest s bridge origin = if z.digest = h.digest ∧ z.count = h.count ∧ z.close = h.close then e else e.stopStream s 4 z.epoch := by
  simp only [Dev.compareDigest, hh, hz]

/-- A wait whose seal is gone ends without more. -/
theorem waitOut_unsealed {p : Nat × Nat} (hp : d.ep.waits.find? (fun q => q.1 == s) = some p) (hz : (d.stream s).seals.find? (fun w => w.done && w.epoch == p.2) = none) :
    d.waitOut s = { d with ep := { d.ep with waits := d.ep.waits.erase p } } := by
  simp only [Dev.waitOut, hp, hz]

end Streams

/-- Settles O42: a write to JS_CTL is its fields and then REOPEN; a seal, a comparison and an expiry take the branch the stream's digests decide. -/
theorem journalStreamsAndDigests : Obligations.JournalStreamsAndDigests := by
  unfold Obligations.JournalStreamsAndDigests
  intro s who t v bridge org z h e D n x off q own same heard pair y again toggles flipped stored first opened reopen
  refine ⟨?write, ?writeReopens, ?refused, ?reopen, ?sealed, ?same, ?different, ?expiry, ?scanEnd, ?noScan⟩
  case write => exact fun hmay hv => becomes_of_allowed rfl hmay (writeJsCtl_keep hv)
  case writeReopens => exact fun hmay hv => becomes_of_allowed rfl hmay (writeJsCtl_reopen hv)
  case refused => exact fun hmay => ⟨becomes_of_not_allowed rfl hmay, becomes_of_not_allowed rfl hmay⟩
  case reopen => exact fun hmay => becomes_of_allowed rfl hmay rfl
  case sealed => exact fun hz ha hb => becomes_of_run rfl (sealDigest_alone hz ha hb)
  case same => exact fun ⟨hh, hz⟩ hsame => becomes_of_run rfl ((compareDigest_pair hh hz).trans (if_pos hsame))
  case different => exact fun ⟨hh, hz⟩ hdiff => becomes_of_run rfl ((compareDigest_pair hh hz).trans (if_neg hdiff))
  case expiry => exact fun hp hz => becomes_of_run rfl (waitOut_unsealed hp hz)
  case scanEnd => exact fun h => becomes_of_run rfl (if_pos h)
  case noScan => exact fun h => becomes_of_run rfl (if_neg (Bool.eq_false_iff.1 h))

end Sys2Proof.Proofs

/-! SUPPORT. MTC: its write as an effect of the bundle, the levels and values it refuses, and what each register becomes (R195, R205, R208, R228). -/

namespace Sys2Proof.Proofs

open Sys2Proof
open Sys2Proof.Machine
open Sys2Proof.Safety

section Write

variable {d : Dev} {y : Syl} {r : Reg} {v : Word}

/-- A check in front of an answer gives its own where it fails. -/
theorem firstOut_ite (p : Prop) [Decidable p] (q o : SylOut) (ps : List (Option SylOut)) : firstOut ((if p then some q else none) :: ps) o = if p then q else firstOut ps o := by
  split <;> rfl

theorem misplaced_iff (v : Word) (k : Nat) : (bits v.toNat k 0 ≠ 0 ∨ 0x08000000 ≤ v.toNat) ↔ ¬ (v.toNat % 2 ^ (k + 1) = 0 ∧ v.toNat < 0x08000000) := by
  rw [bits_zero, not_and_or, Nat.not_lt]

/-- A base is refused where it is not aligned to its size or lies outside Loam (R195, R228). -/
theorem firstOut_refusedIf (k reason : Nat) (v : Word) (o : SylOut) :
    firstOut [refusedIf (bits v.toNat k 0 != 0 || decide (0x08000000 ≤ v.toNat)) reason v] o = if v.toNat % 2 ^ (k + 1) = 0 ∧ v.toNat < 0x08000000 then o else .exc 6 reason v 0 := by
  have hcheck : (bits v.toNat k 0 != 0 || decide (0x08000000 ≤ v.toNat)) = true ↔ ¬ (v.toNat % 2 ^ (k + 1) = 0 ∧ v.toNat < 0x08000000) := by
    rw [← misplaced_iff, Bool.or_eq_true, bne_iff_ne, decide_eq_true_iff]
  rw [refusedIf, firstOut_ite, if_congr hcheck rfl rfl, ite_not]
  rfl

theorem tsbpOut_eq (hl : 1 ≤ (d.home y).level) : d.tsbpOut y v = if v.toNat % 0x1000 = 0 ∧ v.toNat < 0x08000000 then .done [.mtc 3 v] else .exc 6 0x10 v 0 :=
  (firstOut_none (ctlBelow_none hl) _ _).trans (firstOut_refusedIf 11 0x10 v _)

theorem astbOut_eq (hl : (d.home y).level = 3) : d.astbOut y v = if v.toNat % 0x8000 = 0 ∧ v.toNat < 0x08000000 then .done [.mtc 48 v] else .exc 6 0x11 v 0 :=
  (firstOut_none (ctlBelow_none hl.ge) _ _).trans (firstOut_refusedIf 14 0x11 v _)

theorem mtcOut_below {c : Nat} (hl : (d.home y).level < ctlWriteLevel c) (hc : c ≠ 9) : d.mtcOut y r c = .exc 3 2 0 0 := (if_pos hl).trans (if_neg hc)

/-- At its level a register without a meaning of its own is written with the bundle. -/
theorem mtcOut_register {c : Nat} (hl : ctlWriteLevel c ≤ (d.home y).level) (hc : ¬ (c = 3 ∨ c = 48 ∨ c = 50 ∨ c = 52)) : d.mtcOut y r c = .done [.mtc c (d.src y r)] := by
  unfold Dev.mtcOut
  rw [if_neg (Nat.not_lt.2 hl)]
  split
  case h_1 => exact absurd (.inl rfl) hc
  case h_2 => exact absurd (.inr (.inl rfl)) hc
  case h_3 => exact absurd (.inr (.inr (.inl rfl))) hc
  case h_4 => exact absurd (.inr (.inr (.inr rfl))) hc
  case h_5 => rfl

end Write

section Level

variable {s : State} {y : Syl} {i : Instr} {l : Nat} {o : SylOut}

/-- A write whose level is reached is an effect of the bundle. -/
theorem completes_mtc {f : Dev → SylOut} {c : Nat} {v : Word} (hl : l ≤ (s.dev.home y).level)
    (hx : exec i s = .next (s.run (fun e => e.runSyl y (asDecoded i) f))) (hf : f s.dev = firstOut [s.dev.ctlBelow y l] (.done [.mtc c v])) :
    Completes s y i [.mtc c v] := done_of hx (hf.trans (firstOut_none (ctlBelow_none hl) [] _)) rfl

/-- Below its level a write traps before anything else is looked at. -/
theorem traps_ctlBelow {f : Dev → SylOut} {ps : List (Option SylOut)} (hl : (s.dev.home y).level < l)
    (hx : exec i s = .next (s.run (fun e => e.runSyl y (asDecoded i) f))) (hf : f s.dev = firstOut (s.dev.ctlBelow y l :: ps) o) :
    TrapsWith s y i 3 2 0 0 := traps_of hx (hf.trans (firstOut_some (ctlBelow_some hl) ps o))

end Level

/-- Settles O18: the level is checked before the value, and each register takes the bits its table lets be written. -/
theorem controlRegisterWrites : Obligations.ControlRegisterWrites := by
  unfold Obligations.ControlRegisterWrites
  intro s y r m c e n b l v x V own z wr good
  refine ⟨fun hl => ⟨?status, ?kmask, ?winctl, ?astag⟩, ?mastag, ?decctl, fun hl => ⟨?tsbp, ?tsbpRefused⟩, fun hl => ⟨?astb, ?astbRefused⟩, ?register, ?below,
    fun hu => ?belowAll, rfl, rfl, rfl, rfl, rfl, rfl, ?kmaskAtM, rfl, ?readOnly⟩
  case status => exact completes_mtc hl rfl rfl
  case kmask => exact completes_mtc hl rfl rfl
  case winctl => exact completes_mtc hl rfl rfl
  case astag => exact completes_mtc hl rfl rfl
  case mastag => exact fun hl => completes_mtc (l := 3) hl.ge rfl rfl
  case decctl => exact done_of rfl rfl rfl
  case tsbp => exact fun hg => done_of rfl ((tsbpOut_eq hl).trans (if_pos hg)) rfl
  case tsbpRefused => exact fun hg => traps_of rfl ((tsbpOut_eq hl).trans (if_neg hg))
  case astb => exact fun hg => done_of rfl ((astbOut_eq hl).trans (if_pos hg)) rfl
  case astbRefused => exact fun hg => traps_of rfl ((astbOut_eq hl).trans (if_neg hg))
  case register => exact fun hl hown => done_of rfl (mtcOut_register hl hown) rfl
  case below => exact fun hl hc => traps_of rfl (mtcOut_below hl fun h => hc (BitVec.eq_of_toNat_eq h))
  case belowAll =>
    have hs : x.level < 1 := hu.trans_lt Nat.one_pos
    have hm : x.level < 3 := hs.trans (by decide)
    have hastag : x.level < if m then 3 else 1 := by split <;> assumption
    exact ⟨traps_ctlBelow hs rfl rfl, traps_ctlBelow hs rfl rfl, traps_ctlBelow hs rfl rfl, traps_ctlBelow hs rfl rfl, traps_ctlBelow hastag rfl rfl, traps_ctlBelow hm rfl rfl⟩
  case kmaskAtM =>
    intro hz
    show e.setBay n b { z with kmask := e.kmaskValue n b v } = _
    rw [Dev.kmaskValue, if_pos hz]
  case readOnly => rintro k (rfl | rfl | rfl | rfl | rfl | rfl | rfl | rfl) <;> rfl

end Sys2Proof.Proofs

/-! SUPPORT. System calls, gates and exception returns: the checks of each in their order, and the bay they leave (R211, R213 to R215). -/

namespace Sys2Proof.Proofs

open Sys2Proof
open Sys2Proof.Machine
open Sys2Proof.Safety

/-- What each turn of a loop leaves alone, the loop leaves alone. -/
theorem foldl_keeps {σ α β : Type} (part : σ → β) (g : σ → α → σ) (hg : ∀ x a, part (g x a) = part x) (as : List α) (x : σ) : part (as.foldl g x) = part x := by
  induction as generalizing x with
  | nil => rfl
  | cons a as ih => rw [List.foldl_cons, ih, hg]

theorem below_some {x : Bay} {l : Nat} (h : x.level < l) : x.below l = some (.exc 3 1 0 0) := if_pos h

theorem below_none {x : Bay} {l : Nat} (h : l ≤ x.level) : x.below l = none := if_neg (Nat.not_lt.2 h)

/-- A syllable that answers an exception with a detail of its own traps with it. -/
theorem traps_raw {s : State} {y : Syl} {i : Instr} {u : Bundle} {f : Dev → SylOut} {c det : Nat} {fa aux : Word} (hx : exec i s = .next (s.run (fun e => e.runSyl y (asDecoded i) f)))
    (hf : f s.dev = .raw c det fa aux) (h : Executes s y i u) :
    exec i s = .next { s with dev := s.dev.modBay y.core.toNat y.bay.toNat (fun x => { x with bundle := none, exc := some (excOf u c (BitVec.ofNat 32 det) fa aux) }) } := by
  rw [hx, run_last s y i u f h, hf]
  obtain ⟨-, -, hb, -, ht, hnone, -, -⟩ := h
  exact congrArg (fun e => Host.Outcome.next ({ s with dev := e } : State)) (Dev.sylDone_exc _ _ _ _ _ u _ hb ht hnone)

section Checks

variable {d : Dev} {y : Syl}

/-! ## System calls (R213) -/

/-- An entry of the table is valid where its bit 0 is set. -/
theorem scallOut_eq (n : Nat) :
    let e := (Tab.get (d.home y).se n 0).toNat
    d.scallOut y n = if e % 2 = 1 then .done [.act .scall (e - e % 4) 0 0] else .exc 0x10 n 0 0 := by
  simp only [Dev.scallOut, bit, Nat.testBit_zero, decide_eq_true_eq]

theorem fretOut_eq (hl : 1 ≤ (d.home y).level) : d.fretOut y = if 2 ≤ bits (d.home y).status.toNat 7 6 then .exc 3 3 0 0 else .done [.act .fret 0 0 0] :=
  (firstOut_none (below_none hl) _ _).trans (firstOut_ite _ _ _ [])

/-! ## Exception returns (R211) -/

theorem sretOut_eq (hl : 1 ≤ (d.home y).level) (hread : d.unreadable (d.home y).tsbp.toNat [((d.home y).tsbp.toNat, 64)] = none) :
    d.sretOut y = if 2 ≤ d.framePl y (d.home y).tsbp.toNat then .exc 3 3 0 0
      else firstOut [(d.home y).needRetreat] (.done [.act .sret (fromLe (d.loadBytes y.core.toNat (d.home y).tsbp.toNat 64)) 0 0]) :=
  (firstOut_none (below_none hl) _ _).trans ((firstOut_none hread _ _).trans (firstOut_ite _ _ _ _))

theorem mretOut_eq (hl : 3 ≤ (d.home y).level) (hread : d.unreadable ((d.home y).tsbp.toNat + 0x40) [((d.home y).tsbp.toNat + 0x40, 64)] = none) :
    d.mretOut y = if d.framePl y ((d.home y).tsbp.toNat + 0x40) = 2 then .exc 3 3 0 0
      else .done [.act .mret (fromLe (d.loadBytes y.core.toNat ((d.home y).tsbp.toNat + 0x40) 64)) 0 0] :=
  (firstOut_none (below_none hl) _ _).trans ((firstOut_none hread _ _).trans (firstOut_ite _ _ _ []))

/-! ## Gates (R214, R215) -/

/-- The level a gate's descriptor in force names. -/
def gateLevel (d : Dev) (g : Nat) : Nat := bits (d.inForce (midGate g 1)).toNat 29 28

theorem gcallOut_refused {g i r fa v : Nat} (h : d.gateRefusal y g = some (i, r, fa, v)) : d.gcallOut y g = .raw 0x0F (i * 2 ^ 13 + r) (BitVec.ofNat 32 fa) (BitVec.ofNat 32 v) := by
  simp only [Dev.gcallOut, h]

theorem gcallOut_passed {g : Nat} (h : d.gateRefusal y g = none) (hwin : gateLevel d g = 1 → (d.home y).needAdvance = none) :
    d.gcallOut y g = .done [.act .gcall g ((List.range 8).foldl (fun a i => a + d.gateArg y i * 2 ^ (32 * i)) 0) 0] := by
  have hnone : (if gateLevel d g = 1 then (d.home y).needAdvance else none) = none := ite_eq_right_iff.2 hwin
  simp only [Dev.gcallOut, h]
  exact firstOut_none hnone [] _

theorem gretOut_bare (h : (d.home y).gates = []) : d.gretOut y = .exc 2 9 0 0 := by
  simp only [Dev.gretOut, h, List.getLast?_nil]

theorem gretOut_wrongLevel {f : GateFrame} (h : (d.home y).gates.getLast? = some f) (hl : (d.home y).level ≠ gateLevel d f.gate) : d.gretOut y = .exc 3 1 0 0 := by
  simp only [Dev.gretOut, h]
  exact firstOut_some (if_pos hl) _ _

theorem gretOut_passed {f : GateFrame} (h : (d.home y).gates.getLast? = some f) (hl : (d.home y).level = gateLevel d f.gate) (hwin : gateLevel d f.gate = 1 → (d.home y).needRetreat = none) :
    d.gretOut y = .done [.act .gret 0 0 0] := by
  have hnone : (if gateLevel d f.gate = 1 then (d.home y).needRetreat else none) = none := ite_eq_right_iff.2 hwin
  simp only [Dev.gretOut, h]
  exact (firstOut_none (if_neg (not_not_intro hl)) _ _).trans (firstOut_none hnone [] _)

end Checks

/-- What a gate call sets beside the registers: the open gates, the key mask, and the next address. -/
def gateState (x : Bay) : List GateFrame × Word × Word := (x.gates, x.kmask, x.pc)

theorem gateState_land_ir (x : Bay) (k v : Nat) : gateState (x.land (.ir k) v) = gateState x := by
  simp only [Bay.land]
  split
  · rfl
  · split <;> rfl

theorem gateState_advance (x : Bay) : gateState x.advance = gateState x := rfl

theorem gateState_toLevel (x : Bay) (l : Nat) : gateState (x.toLevel l) = gateState x := rfl

/-- A gate call pushes a frame of the caller, widens the mask by KADD and goes to the gate (R214). -/
theorem gateState_gateEnter (d : Dev) (n b g args : Nat) :
    let x := d.bay n b
    gateState ((d.gateEnter n b g args).bay n b) =
      (x.gates ++ [{ ret := x.pc, kmask := x.kmask, gate := g, pl := x.level }], x.kmask ||| d.inForce (midGate g 4), d.inForce (midGate g 0) &&& 0xFFFFFFFC) := by
  intro x
  have hargs : ∀ z : Bay, gateState ((List.range 8).foldl (fun (z : Bay) i => z.land (.ir (z.phys (8 + i))) (args >>> (32 * i))) z) = gateState z :=
    foldl_keeps gateState _ (fun z i => gateState_land_ir z _ _) _
  simp only [Dev.gateEnter, Dev.bay_setBay_self, gateState_land_ir]
  split
  · rw [gateState_toLevel, gateState_advance]; rfl
  · rw [hargs, gateState_toLevel]; rfl

theorem gateLeave_some {d : Dev} {n b : Nat} {f : GateFrame} (h : (d.bay n b).gates.getLast? = some f) :
    d.gateLeave n b = d.setBay n b ({ (if (d.bay n b).level = 1 then (d.bay n b).retreat else d.bay n b) with gates := (d.bay n b).gates.dropLast, kmask := f.kmask, pc := f.ret }.toLevel f.pl) := by
  simp only [Dev.gateLeave, h]
  split <;> rfl

/-- Settles O29: each operation's checks in their order, and its act; a gate call and a gate return take the branch of the gate's level. -/
theorem systemCallsAndReturns : Obligations.SystemCallsAndReturns := by
  unfold Obligations.SystemCallsAndReturns
  intro s y n e c b l v a f i r fa w u D x z N se frame pl clear S M args gl at_
  have hgate := gateState_gateEnter e c b v a
  simp only [gateState, Prod.mk.injEq] at hgate
  obtain ⟨hframes, hmask, hpc⟩ := hgate
  refine ⟨fun _ hv => ?scall, fun _ hv => ?scallInvalid, rfl, fun hl hok => ?fret, fun hl hbad => ?fretInvalid, rfl, fun hl hread hok hwin => ?sret, fun hl hread hbad => ?sretInvalid, rfl,
    fun hl hread hok => ?mret, fun hl => ?mretBelow, rfl, rfl, ?repc, rfl, fun hu => ?below, fun hg hl hwin => ?gcallS, fun hg hl => ?gcallM, fun hg hexec => ?gcallRefused,
    hframes, hmask, hpc, fun hg => ?gretBare, fun hg hl hone hwin => ?gretS, fun hg hl hthree => ?gretM, fun hg hl => ?gretLevel, fun hg => ?gateLeft⟩
  case scall => exact done_of rfl ((scallOut_eq n.toNat).trans (if_pos hv)) rfl
  case scallInvalid => exact traps_of rfl ((scallOut_eq n.toNat).trans (if_neg (by rw [hv]; decide)))
  case fret => exact done_of rfl ((fretOut_eq hl.ge).trans (if_neg (Nat.not_le.2 hok))) rfl
  case fretInvalid => exact traps_of rfl ((fretOut_eq hl.ge).trans (if_pos hbad))
  case sret => exact done_of rfl ((sretOut_eq hl.ge hread).trans ((if_neg (Nat.not_le.2 hok)).trans (firstOut_none hwin [] _))) rfl
  case sretInvalid => exact traps_of rfl ((sretOut_eq hl.ge hread).trans (if_pos hbad))
  case mret => exact done_of rfl ((mretOut_eq hl.ge hread).trans (if_neg hok)) rfl
  case mretBelow => exact traps_of rfl (firstOut_some (below_some hl) _ _)
  case repc => exact congrArg (fun k => BitVec.ofNat 32 k &&& 0x800000FF) (Nat.shiftRight_eq_div_pow v 128)
  case below =>
    have hbelow := below_some (hu.trans_lt Nat.one_pos)
    exact ⟨traps_of rfl (firstOut_some hbelow _ _), traps_of rfl (firstOut_some hbelow _ _)⟩
  case gcallS => exact done_of rfl (gcallOut_passed hg fun _ => hwin) rfl
  case gcallM => exact done_of rfl (gcallOut_passed hg fun hone => absurd (hl.symm.trans hone) (by decide)) rfl
  case gcallRefused => exact traps_raw rfl (gcallOut_refused hg) hexec
  case gretBare => exact traps_of rfl (gretOut_bare hg)
  case gretS => exact done_of rfl (gretOut_passed hg hl fun _ => hwin) rfl
  case gretM => exact done_of rfl (gretOut_passed hg hl fun hone => absurd (hthree.symm.trans (hl.trans hone)) (by decide)) rfl
  case gretLevel => exact traps_of rfl (gretOut_wrongLevel hg hl)
  case gateLeft => exact gateLeave_some hg

end Sys2Proof.Proofs

/-! SUPPORT. Tasks that leave and enter bays: TEVICT and TLOAD, what their completions leave, and the automatic load (R196, R198, R202). -/

namespace Sys2Proof.Proofs

open Sys2Proof
open Sys2Proof.Machine
open Sys2Proof.Safety

section Requests

variable {d : Dev} {n b t : Nat}

/-! ## TEVICT and TLOAD -/

theorem tevictBad_iff : d.tevictBad n b t = true ↔ t = b ∨ (d.bay n t).loaded = false ∨ (d.bay n t).level = 3 ∨ (d.bay n t).st = .moving := by
  simp only [Dev.tevictBad, Bool.or_eq_true, decide_eq_true_eq, Bool.not_eq_true', beq_iff_eq, or_assoc]

theorem tevictOut_eq {y : Syl} (hl : 1 ≤ (d.home y).level) (t : Nat) :
    d.tevictOut y t = if d.tevictBad y.core.toNat y.bay.toNat t = true then .exc 2 0xB 0 0 else .done [.act .tevict t 0 0] :=
  (firstOut_none (below_none hl) _ _).trans (firstOut_ite _ _ _ [])

/-- TLOAD looks at its bay before its address (R198, log entry 27). -/
theorem tloadOut_eq {y : Syl} {a : Reg} (hl : 1 ≤ (d.home y).level) (t : Nat) :
    let v := d.src y a
    d.tloadOut y t a = if (d.bay y.core.toNat t).st ≠ .empty then .exc 2 0xC 0 0 else if v.toNat % 0x1000 = 0 ∧ v.toNat < 0x08000000 then .done [.act .tload t v.toNat 0] else .exc 6 0x10 v 0 := by
  intro v
  have haddr : (if bits v.toNat 11 0 ≠ 0 ∨ 0x08000000 ≤ v.toNat then SylOut.exc 6 0x10 v 0 else .done [.act .tload t v.toNat 0]) =
      if v.toNat % 0x1000 = 0 ∧ v.toNat < 0x08000000 then .done [.act .tload t v.toNat 0] else .exc 6 0x10 v 0 := by
    rw [if_congr (misplaced_iff v 11) rfl rfl, ite_not]
    rfl
  rw [← haddr]
  exact (firstOut_none (below_none hl) _ _).trans ((firstOut_ite _ _ _ _).trans (congrArg _ (firstOut_ite _ _ _ [])))

theorem lateFault_tevict (h : d.tevictBad n b t = false) : d.lateFault n b (.act .tevict t 0 0) = none := if_neg (Bool.eq_false_iff.1 h)

theorem lateFault_tload {a : Nat} (h : (d.bay n t).st = .empty) : d.lateFault n b (.act .tload t a 0) = none := if_neg (not_not_intro h)

/-- A syllable whose effect its bundle waits for leaves the bundle open and asks for it. -/
theorem exec_asks {s : State} {y : Syl} {i : Instr} {u : Bundle} {f : Dev → SylOut} {g : Eff} (hx : exec i s = .next (s.run (fun e => e.runSyl y (asDecoded i) f)))
    (hf : f s.dev = .done [g]) (hg : g.asks = true) (hlate : s.dev.lateFault y.core.toNat y.bay.toNat g = none) (h : Executes s y i u) :
    exec i s = .next { s with dev := (s.dev.setBay y.core.toNat y.bay.toNat { s.dev.home y with bundle := some { u with todo := [], effs := u.effs ++ [g] } }).ask y.core.toNat y.bay.toNat g } := by
  rw [hx, run_last s y i u f h, hf]
  obtain ⟨-, -, hb, -, ht, hnone, -, hset⟩ := h
  exact congrArg (fun e => Host.Outcome.next ({ s with dev := e } : State)) (Dev.sylDone_asks _ _ _ g u _ hb ht hnone hset hg hlate)

theorem modBay_setBay (d : Dev) (n b : Nat) (x : Bay) (f : Bay → Bay) : (d.setBay n b x).modBay n b f = d.setBay n b (f x) := by
  rw [Dev.modBay, Dev.bay_setBay_self, Dev.setBay_setBay]

theorem ask_tevict (v : Option Bundle) :
    (d.setBay n b { d.bay n b with bundle := v }).ask n b (.act .tevict t 0 0) = (d.modBay n b (fun x => { x with st := .waiting, wait := .tevict t, bundle := v })).claim n t :=
  congrArg (fun e => e.claim n t) (modBay_setBay d n b _ _)

theorem ask_tload (v : Option Bundle) (a : Nat) :
    (d.setBay n b { d.bay n b with bundle := v }).ask n b (.act .tload t a 0) =
      (d.modBay n b (fun x => { x with st := .waiting, wait := .tload t, bundle := v })).modBay n t (fun x => { x with st := .moving, wait := .loading (some b) a 0 }) :=
  congrArg (fun e => e.modBay n t (fun x => x.waitFor .moving (.loading (some b) a 0))) (modBay_setBay d n b _ _)

/-! ## The completions -/

theorem tevictComplete_evicted {q : Nat} {fab : Bool} {e : Dev} (hst : (d.bay n b).st = .moving) (hw : (d.bay n b).wait = .evicting q) (he : d.evictTask n b fab false = some e) :
    d.tevictComplete n b fab = e.askerDone n q none := by
  simp only [Dev.tevictComplete, hst, hw, he]

theorem tloadComplete_asked {p i q : Nat} {fab : Bool} {e : Dev} (hst : (d.bay n b).st = .moving) (hw : (d.bay n b).wait = .loading (some q) p i)
    (he : d.loadTask n b p ((d.bay n q).level == 1) fab none = .ok e) : d.tloadComplete n b fab = e.askerDone n q none := by
  simp only [Dev.tloadComplete, hst, hw, he]

theorem tloadComplete_table {p i : Nat} {fab : Bool} {e : Dev} (hst : (d.bay n b).st = .moving) (hw : (d.bay n b).wait = .loading none p i)
    (he : d.loadTask n b p false fab (some i) = .ok e) : d.tloadComplete n b fab = e.autoLoaded n b i := by
  simp only [Dev.tloadComplete, hst, hw, he]

@[simp] theorem setTask_cores (d : Dev) (n i : Nat) (f : Nat → Nat) : (d.setTask n i f).cores = d.cores := by
  unfold Dev.setTask
  dsimp only
  split <;> rfl

/-- A bay is what its core's table holds. -/
theorem bay_congr {d e : Dev} (h : d.cores = e.cores) (n b : Nat) : d.bay n b = e.bay n b := by
  simp only [Dev.bay, Dev.core, h]

/-- A bay whose task has been written to its block is EMPTY (R196). -/
theorem evictTask_empty {fab redy : Bool} {e : Dev} (h : d.evictTask n b fab redy = some e) : (e.bay n b).st = .empty := by
  unfold Dev.evictTask at h
  dsimp only at h
  split at h
  · cases h
  · cases h
    split
    · rw [bay_congr (setTask_cores _ _ _ _), Dev.bay_setBay_self]; rfl
    · rw [Dev.bay_setBay_self]; rfl

theorem loadTask_ok {p : Nat} {limit fab : Bool} {table : Option Nat} {e : Dev} (h : d.loadTask n b p limit fab table = .ok e) :
    e = d.setBay n b (d.imageBay n b p (d.bytes p 0x700) limit table) := by
  unfold Dev.loadTask at h
  split at h
  case isTrue => cases h
  split at h
  case isTrue => cases h
  split at h
  case isTrue => cases h
  dsimp only at h
  split at h
  case isTrue => cases h
  case isFalse => exact (Except.ok.inj h).symm

/-- What an image sets whatever its groups: the state, the block's address, and no exception return before. -/
def taskEntry (x : Bay) : BayState × Word × Bool := (x.st, x.tsbp, x.afterRet)

theorem taskEntry_ite_ir (c : Prop) [Decidable c] (x : Bay) (t : Tab Word) : taskEntry (if c then { x with ir := t } else x) = taskEntry x := by
  split <;> rfl

/-- The groups of an image load registers alone. -/
theorem taskEntry_imageBay (d : Dev) (n b a : Nat) (bs : List Byte) (limit : Bool) (table : Option Nat) : taskEntry (d.imageBay n b a bs limit table) = (.ready, BitVec.ofNat 32 a, false) :=
  (foldl_keeps taskEntry _ (fun z _ => taskEntry_ite_ir _ z _) _ _).trans (taskEntry_ite_ir _ _ _)

theorem loadTask_entry {p : Nat} {limit fab : Bool} {table : Option Nat} {e : Dev} (h : d.loadTask n b p limit fab table = .ok e) :
    (e.bay n b).st = .ready ∧ (e.bay n b).tsbp = BitVec.ofNat 32 p ∧ (e.bay n b).afterRet = false := by
  have hentry := taskEntry_imageBay d n b p (d.bytes p 0x700) limit table
  simp only [taskEntry, Prod.mk.injEq] at hentry
  rwa [loadTask_ok h, Dev.bay_setBay_self]

/-! ## The automatic load (R202) -/

/-- The first of the four bays that satisfies a condition. -/
theorem find_bay {p : Nat → Bool} {b : Nat} (hb : b < 4) (hp : p b = true) (hfirst : ∀ k, k < b → p k = false) : (List.range 4).find? p = some b := by
  rw [List.find?_range_eq_some]
  exact ⟨hp, List.mem_range.2 hb, fun k hk => by rw [hfirst k hk]; rfl⟩

theorem automaticLoad_starts {i : Nat} (hlive : d.live n = true) (hon : d.domState (n / 2) = 1) (hone : d.autoLoading n = false) (htask : d.nextTask n = some i)
    (hb : b < 4) (hempty : (d.bay n b).st = .empty) (hfirst : ∀ k, k < b → (d.bay n k).st ≠ .empty) :
    d.automaticLoad n = d.modBay n b (fun x => { x with st := .moving, wait := .loading none (d.num ((d.core n).ttEntry i) 4) i }) := by
  have hfind : (List.range 4).find? (fun b => (d.bay n b).st == .empty) = some b := find_bay hb (beq_iff_eq.2 hempty) fun k hk => beq_eq_false_iff_ne.2 (hfirst k hk)
  simp [Dev.automaticLoad, hlive, hon, hone, htask, hfind]

end Requests

/-- Settles O31: the requests check and then ask, the completions take the branch that the block answers with, and the automatic load takes the first EMPTY bay. -/
theorem tasksLeaveAndEnterBays : Obligations.TasksLeaveAndEnterBays := by
  unfold Obligations.TasksLeaveAndEnterBays
  intro s y core t a u fab e p i q w D x N A T V z n m sup open_ loads good
  have hlevel : sup → 1 ≤ x.level := fun h => h.elim Eq.ge fun h => Nat.le_trans (by decide) h.ge
  refine ⟨fun hs hne hload hm hmove hexec => ?tevict, fun hs hbad => ?tevictRefused, fun hs hst hgood hexec => ?tload, fun hs hst => ?tloadBay, fun hs hst hbad => ?tloadAddress, fun hu => ?below,
    fun hst hw he => ⟨?evicted, ?emptied⟩, fun hst hw he => ⟨?loaded, loadTask_entry he⟩, fun hst hw he => ?fromTable, fun hlive hon hone htask hT hempty hfirst => ?automatic⟩
  case tevict =>
    have hgood : D.tevictBad N A T = false := Bool.eq_false_iff.2 fun h => by
      rcases tevictBad_iff.1 h with h | h | h | h
      · exact hne h
      · exact absurd (hload.symm.trans h) (by decide)
      · exact hm h
      · exact hmove h
    have hout := (tevictOut_eq (hlevel hs) T).trans (if_neg (Bool.eq_false_iff.1 hgood))
    exact (exec_asks rfl hout rfl (lateFault_tevict hgood) hexec).trans (congrArg (fun e => Host.Outcome.next ({ s with dev := e } : State)) (ask_tevict _))
  case tevictRefused => exact traps_of rfl ((tevictOut_eq (hlevel hs) T).trans (if_pos (tevictBad_iff.2 hbad)))
  case tload =>
    have hout := (tloadOut_eq (a := a) (hlevel hs) T).trans ((if_neg (not_not_intro hst)).trans (if_pos hgood))
    exact (exec_asks rfl hout rfl (lateFault_tload hst) hexec).trans (congrArg (fun e => Host.Outcome.next ({ s with dev := e } : State)) (ask_tload _ _))
  case tloadBay => exact traps_of rfl ((tloadOut_eq (hlevel hs) T).trans (if_pos hst))
  case tloadAddress => exact traps_of rfl ((tloadOut_eq (hlevel hs) T).trans ((if_neg (not_not_intro hst)).trans (if_neg hbad)))
  case below =>
    have hbelow := below_some (hu.trans_lt Nat.one_pos)
    exact ⟨traps_of rfl (firstOut_some hbelow _ _), traps_of rfl (firstOut_some hbelow _ _)⟩
  case evicted => exact becomes_of rfl (tevictComplete_evicted hst hw he)
  case emptied => exact evictTask_empty he
  case loaded => exact becomes_of rfl (tloadComplete_asked hst hw he)
  case fromTable => exact becomes_of rfl (tloadComplete_table hst hw he)
  case automatic => exact becomes_of rfl (automaticLoad_starts hlive hon hone htask hT hempty hfirst)

end Sys2Proof.Proofs

/-! SUPPORT. The scheduler: the one bay it may take, and the boundary at which the running bay gives way (R199, R200). -/

namespace Sys2Proof.Proofs

open Sys2Proof
open Sys2Proof.Machine
open Sys2Proof.Safety

section Scheduler

variable {d : Dev} {n b : Nat}

theorem live_iff : d.live n = true ↔ (d.core n).up = true ∧ d.pw.pfail = false := by
  rw [Dev.live, Bool.and_eq_true, Bool.not_eq_true']

theorem coreFree_of (h : ∀ k, k < 4 → (d.bay n k).st ≠ .running ∧ (d.bay n k).st ≠ .frozen) : d.coreFree n = true := by
  simp only [Dev.coreFree, List.all_eq_true, List.mem_range, Bool.and_eq_true, bne_iff_ne]
  exact h

theorem mem_readyBays {k : Nat} : k ∈ d.readyBays n ↔ k < 4 ∧ (d.bay n k).st = .ready := by
  simp only [Dev.readyBays, List.mem_filter, List.mem_range, beq_iff_eq]

/-- A list without repetitions whose one member is `a`. -/
theorem eq_singleton_of_nodup {α : Type} {l : List α} {a : α} (hn : l.Nodup) (h : ∀ k, k ∈ l ↔ k = a) : l = [a] :=
  List.perm_singleton.1 ((List.perm_ext_iff_of_nodup hn (List.nodup_singleton a)).2 fun k => (h k).trans List.mem_singleton.symm)

theorem nodup_candidates (d : Dev) (n : Nat) : (d.candidates n).Nodup := ((List.nodup_range.filter _).filter _).filter _

/-- The READY bays of the highest priority among which the scheduler looks for the least recently run (R199). -/
theorem mem_candidates {k : Nat} :
    let top := fun j => (j < 4 ∧ (d.bay n j).st = .ready) ∧ ∀ i, i < 4 → (d.bay n i).st = .ready → (d.bay n i).pri ≤ (d.bay n j).pri
    k ∈ d.candidates n ↔ top k ∧ ∀ j, top j → (d.bay n k).lastRun ≤ (d.bay n j).lastRun := by
  simp only [Dev.candidates, List.mem_filter, List.all_eq_true, decide_eq_true_eq, mem_readyBays, and_imp]

/-- Where each other READY bay has a lower priority, or the same and ran later, there is one candidate. -/
theorem candidates_singleton (hb : b < 4) (hready : (d.bay n b).st = .ready)
    (hbest : ∀ k, k < 4 → k ≠ b → (d.bay n k).st = .ready → (d.bay n k).pri < (d.bay n b).pri ∨ ((d.bay n k).pri = (d.bay n b).pri ∧ (d.bay n b).lastRun < (d.bay n k).lastRun)) :
    d.candidates n = [b] := by
  have htop : ∀ k, k < 4 → (d.bay n k).st = .ready → (d.bay n k).pri ≤ (d.bay n b).pri := fun k hk hr => by
    by_cases hkb : k = b
    · exact hkb ▸ le_refl _
    · exact (hbest k hk hkb hr).elim Nat.le_of_lt (fun h => h.1.le)
  have hfirst : ∀ k, k < 4 → (d.bay n k).st = .ready → (d.bay n b).pri ≤ (d.bay n k).pri → k ≠ b → (d.bay n b).lastRun < (d.bay n k).lastRun := fun k hk hr hp hkb =>
    (hbest k hk hkb hr).elim (fun h => absurd h (Nat.not_lt.2 hp)) (fun h => h.2)
  refine eq_singleton_of_nodup (nodup_candidates d n) fun k => mem_candidates.trans ⟨fun ⟨⟨⟨hk, hr⟩, hmax⟩, hleast⟩ => ?only, fun hk => ?itself⟩
  case only =>
    by_contra hkb
    exact absurd (hleast b ⟨⟨hb, hready⟩, htop⟩) (Nat.not_le.2 (hfirst k hk hr (hmax b hb hready) hkb))
  case itself =>
    subst hk
    refine ⟨⟨⟨hb, hready⟩, htop⟩, fun j hj => ?_⟩
    by_cases hjk : j = k
    · rw [hjk]
    · exact (hfirst j hj.1.1 hj.1.2 (hj.2 k hb hready) hjk).le

theorem schedule_selects (hlive : d.live n = true) (hfree : d.coreFree n = true) (hone : d.candidates n = [b]) : d.schedule n = d.select n b := by
  simp [Dev.schedule, hlive, hfree, hone, Nat.mod_one]

theorem runningBay_first (hb : b < 4) (hrun : (d.bay n b).st = .running) (hfirst : ∀ k, k < b → (d.bay n k).st ≠ .running) : d.runningBay n = some b :=
  find_bay hb (beq_iff_eq.2 hrun) fun k hk => beq_eq_false_iff_ne.2 (hfirst k hk)

/-- The running bay becomes READY at its boundary where a READY bay's priority takes precedence. -/
theorem giveWay_ready {c : Nat} {ok : Bay → Bool} {rel : Nat → Nat → Bool} (hrun : d.runningBay n = some b) (hlive : d.live n = true) (hexc : (d.bay n b).exc = none)
    (hbundle : (d.bay n b).bundle = none) (hc : c ∈ d.readyBays n) (hok : ok (d.bay n b) = true) (hrel : rel (d.bay n b).pri (d.bay n c).pri = true) :
    d.giveWay n ok rel = d.setBay n b { d.bay n b with st := .ready } := by
  have hboundary : (d.bay n b).atBoundary = true := by simp only [Bay.atBoundary, hbundle]
  have hany : (d.readyBays n).any (fun c => rel (d.bay n b).pri (d.bay n c).pri) = true := List.any_eq_true.2 ⟨c, hc, hrel⟩
  simp only [Dev.giveWay, hrun, hlive, hok, hboundary, hexc, hany, Option.isNone_none, Bool.and_self, if_true]

end Scheduler

/-- Settles O34: the selection has one candidate, and both ways of giving way are one, under their own conditions. -/
theorem schedulerSelection : Obligations.SchedulerSelection := by
  unfold Obligations.SchedulerSelection
  intro s core b c D n x z q t live boundary runs
  refine ⟨fun hlive hfree hb hready hbest => ?select, fun hlive ⟨hb, hrun, hfirst, hc, hready⟩ ⟨hexc, hbundle⟩ hpri => ?preempt,
    fun hlive ⟨hb, hrun, hfirst, hc, hready⟩ ⟨hexc, hbundle⟩ hq hissued hpri => ?expire⟩
  case select => exact becomes_of rfl (schedule_selects (live_iff.2 hlive) (coreFree_of hfree) (candidates_singleton hb hready hbest))
  case preempt =>
    exact becomes_of rfl (giveWay_ready (runningBay_first hb hrun hfirst) (live_iff.2 hlive) hexc hbundle (mem_readyBays.2 ⟨hc, hready⟩) rfl (decide_eq_true hpri))
  case expire =>
    have hquant : bits (D.core n).schctl.toNat 15 8 = q := bits_eq_div_mod _ _ _
    have hok : (decide (bits (D.core n).schctl.toNat 15 8 ≠ 0) && decide (bits (D.core n).schctl.toNat 15 8 * 256 ≤ x.issued)) = true := by
      rw [hquant, decide_eq_true hq, decide_eq_true hissued]; rfl
    exact becomes_of rfl (giveWay_ready (runningBay_first hb hrun hfirst) (live_iff.2 hlive) hexc hbundle (mem_readyBays.2 ⟨hc, hready⟩) hok (beq_iff_eq.2 hpri))

end Sys2Proof.Proofs

/-! SUPPORT. WAIT, YIELD and SIGNAL, and the window engine: each under the conditions that choose its branch (R189, R203, R204). -/

namespace Sys2Proof.Proofs

open Sys2Proof
open Sys2Proof.Machine
open Sys2Proof.Safety

/-! ## WAIT, YIELD and SIGNAL (R203, R204) -/

section Acts

variable {d : Dev} {n b : Nat}

theorem act_wait (v w z : Nat) : d.act n b .wait v w z = if (d.bay n b).pend.toNat % 1024 = 0 then d.setBay n b { d.bay n b with st := .waiting, wait := .event v } else d := by
  rw [Dev.act, bits_zero, ite_not]
  rfl

theorem act_yield (v w z : Nat) :
    d.act n b .yield v w z =
      if (List.range 4).any (fun k => decide ((d.bay n k).st = .ready ∧ (d.bay n b).pri ≤ (d.bay n k).pri)) then d.setBay n b { d.bay n b with st := .ready } else d := by
  simp only [Dev.act, Bool.decide_and, beq_eq_decide]

theorem signalOut_eq {y : Syl} {a : Reg} (hl : 1 ≤ (d.home y).level) (imm : Nat) :
    let v := (d.src y a).toNat
    d.signalOut y a imm = .done [.act .signal (v / 4 % 128) (v % 4) (y.core.toNat * 256 + imm)] := by
  intro v
  have hcore : bits v 8 2 = v / 4 % 128 := bits_eq_div_mod _ _ _
  have hbay : bits v 1 0 = v % 4 := bits_zero _ _
  rw [← hcore, ← hbay]
  exact firstOut_none (below_none hl) [] _

end Acts

/-- Settles O30: each syllable is one act, and what the act does is decided as its bundle takes effect. -/
theorem waitsYieldsAndSignals : Obligations.WaitsYieldsAndSignals := by
  unfold Obligations.WaitsYieldsAndSignals
  intro s y a imm e c b l v w z D x q A
  refine ⟨done_of rfl rfl rfl, act_wait v w z, done_of rfl rfl rfl, act_yield v w z, fun hl => ?signal, rfl, fun hu => ?below⟩
  case signal => exact done_of rfl (signalOut_eq hl imm.toNat) rfl
  case below => exact traps_of rfl (firstOut_some (below_some (hu.trans_lt Nat.one_pos)) _ _)

/-! ## The window engine (R189) -/

section Engine

variable {d : Dev} {n b : Nat} {fab : Bool}

theorem inBank_iff (base a : Nat) : inBank base a 64 = true ↔ a / 2 ^ 24 = base / 2 ^ 24 ∧ (a + 63) / 2 ^ 24 = base / 2 ^ 24 := by
  rw [inBank, Bool.and_eq_true, beq_iff_eq, beq_iff_eq]
  rfl

/-- A bay whose engine has work to spill (R189). -/
def Spills (x : Bay) : Prop := x.loaded = true ∧ x.sf = false ∧ 8 < x.res

/-- A bay whose engine has work to fill (R189). -/
def Fills (x : Bay) : Prop := x.loaded = true ∧ x.sf = false ∧ x.res < 3 ∧ 0 < x.mdepth

theorem spill_idle (h : (d.bay n b).res ≤ 8) : d.spill n b fab = d.setBay n b (d.bay n b).unfreezeWindow := if_pos (.inr (.inr h))

theorem fill_idle (h : 3 ≤ (d.bay n b).res) : d.fill n b fab = d.setBay n b (d.bay n b).unfreezeWindow := if_pos (.inr (.inr (.inl h)))

/-- A spill that has work stops at CAP, at the end of the bank and at an access that fails, in this order, or is made. -/
theorem spill_eq (h : Spills (d.bay n b)) :
    let x := d.bay n b
    let a := x.marl x.mdepth
    d.spill n b fab = if x.mdepth = x.cap then d.setBay n b (x.engineStop 1).unfreezeWindow
      else if ¬ inBank x.tsbp.toNat a 64 then d.setBay n b (x.engineStop 2).unfreezeWindow
      else if fab ∨ ¬ d.servedAt a then d.setBay n b (x.engineStop 4).unfreezeWindow
      else (d.put a (x.slotBytes ((x.cwp + 11 - x.res) % 10))).setBay n b { x with mdepth := x.mdepth + 1, res := x.res - 1 }.unfreezeWindow := by
  obtain ⟨hload, hsf, hres⟩ := h
  exact if_neg (by simp [hload, hsf, hres])

theorem fill_eq (h : Fills (d.bay n b)) :
    let x := d.bay n b
    let a := x.marl (x.mdepth - 1)
    let k := (x.cwp + 10 - x.res) % 10
    d.fill n b fab = if ¬ inBank x.tsbp.toNat a 64 then d.setBay n b (x.engineStop 2).unfreezeWindow
      else if fab ∨ ¬ d.servedAt a then d.setBay n b (x.engineStop 4).unfreezeWindow
      else if d.poisoned a 64 then (d.recordBadData a).setBay n b (x.engineStop 3).unfreezeWindow
      else d.setBay n b (({ x with mdepth := x.mdepth - 1, res := x.res + 1 }.loadSlot k (d.bytes a 64)).soil (1 + k)).unfreezeWindow := by
  obtain ⟨hload, hsf, hres, hdepth⟩ := h
  exact if_neg (by simp [hload, hsf, hres, hdepth.ne'])

/-- An access of the engine fails for an error of the fabric or where the storage does not answer. -/
theorem accessFails_iff {a : Nat} : (fab = true ∨ ¬ d.servedAt a = true) ↔ (fab = true ∨ d.servedAt a = false) := or_congr_right (Bool.not_eq_true _).to_iff

theorem becomes_windowSpill {s : State} {core : CoreNo} {bay : BayNo} {e : Dev} (hup : (s.dev.core core.toNat).up = true) (h : s.dev.spill core.toNat bay.toNat fab = e) :
    Becomes (.windowSpill core bay fab) s e := becomes_of rfl ((if_pos hup).trans h)

theorem becomes_windowFill {s : State} {core : CoreNo} {bay : BayNo} {e : Dev} (hup : (s.dev.core core.toNat).up = true) (h : s.dev.fill core.toNat bay.toNat fab = e) :
    Becomes (.windowFill core bay fab) s e := becomes_of rfl ((if_pos hup).trans h)

end Engine

/-- Settles O33: the engine of a core that is up has nothing to do, stops for the first reason that holds, or moves one slot. -/
theorem windowEngine : Obligations.WindowEngine := by
  unfold Obligations.WindowEngine
  intro s core bay fab D n b x base entry inside thaw works up dn low stops
  have hspill : works → 8 < x.res → Spills x := fun ⟨_, hload, hsf⟩ hres => ⟨hload, hsf, hres⟩
  have hfill : works → x.res < 3 → 0 < x.mdepth → Fills x := fun ⟨_, hload, hsf⟩ hres hdepth => ⟨hload, hsf, hres, hdepth⟩
  have hbank : ∀ a, inside a → ¬ ¬ inBank base a 64 = true := fun a h => not_not_intro ((inBank_iff base a).2 h)
  have hserved : ∀ a, D.servedAt a = true → ¬ (false = true ∨ ¬ D.servedAt a = true) := fun a h => not_or.2 ⟨Bool.false_ne_true, not_not_intro h⟩
  refine ⟨fun hw hres hcap hin ha => becomes_windowSpill hw.1 ?spilled, fun hw hres hdepth hin ha hgood => becomes_windowFill hw.1 ?filled,
    fun hw hres hcap => becomes_windowSpill hw.1 ?full, fun hw hres hcap hout => becomes_windowSpill hw.1 ?bankEnd, fun hw hres hcap hin hfail => becomes_windowSpill hw.1 ?spillFails,
    fun hw hres hdepth hin hfail => becomes_windowFill hw.1 ?fillFails, fun hw hres => becomes_windowSpill hw.1 (spill_idle hres), fun hw hres => becomes_windowFill hw.1 (fill_idle hres)⟩
  case spilled => exact (spill_eq (hspill hw hres)).trans ((if_neg hcap).trans ((if_neg (hbank up hin)).trans (if_neg (hserved up ha))))
  case filled => exact (fill_eq (hfill hw hres hdepth)).trans ((if_neg (hbank dn hin)).trans ((if_neg (hserved dn ha)).trans (if_neg (Bool.eq_false_iff.1 hgood))))
  case full => exact (spill_eq (hspill hw hres)).trans (if_pos hcap)
  case bankEnd => exact (spill_eq (hspill hw hres)).trans ((if_neg hcap).trans (if_pos fun h => hout ((inBank_iff base up).1 h)))
  case spillFails => exact (spill_eq (hspill hw hres)).trans ((if_neg hcap).trans ((if_neg (hbank up hin)).trans (if_pos (accessFails_iff.2 hfail))))
  case fillFails => exact (fill_eq (hfill hw hres hdepth)).trans ((if_neg (hbank dn hin)).trans (if_pos (accessFails_iff.2 hfail)))

end Sys2Proof.Proofs

/-! SUPPORT. STORE_BUFFER_DRAIN: which store goes first, and what becomes of it at its point of visibility (R201, R227, R268). -/

namespace Sys2Proof.Proofs

open Sys2Proof
open Sys2Proof.Machine
open Sys2Proof.Safety

section Drain

variable {d : Dev} {n : Nat} {e : SbE} {rest : List SbE} {fab : Bool}

/-! ## A store at its point of visibility -/

theorem performStore_fails (h : fab = true ∨ (e.dev = false ∧ d.servedAt e.pa = false)) : d.performStore n e fab = d.raise n e.bay 0x14 (Config.busDetail e.pa % 65536) :=
  if_pos (h.imp_right fun ⟨hmem, hno⟩ => ⟨hmem, Bool.eq_false_iff.1 hno⟩)

theorem performStore_mem (hmem : e.dev = false) (hserved : d.servedAt e.pa = true) : d.performStore n e false = d.put e.pa e.data := by
  simp [Dev.performStore, hmem, hserved]

theorem performStore_dev (hdev : e.dev = true) : d.performStore n e false = d.atLevel n e.bay e.lvl (fun z => z.regWrite (bayAgent n e.bay) (e.pa - devBase) (fromLe e.data)) := by
  simp [Dev.performStore, hdev]

/-! ## Which store goes first -/

/-- The buffer's oldest entry leaves where no device store is on its way, or the free choice is for the buffer. -/
theorem drainOne_head (hsb : (d.core n).sb = e :: rest) (hfirst : (d.core n).devOut = [] ∨ Config.devFirst d.free = false) : d.drainOne n fab = (d.drainHead n fab).tickFree := by
  rcases hfirst with h | h <;> simp [Dev.drainOne, hsb, h]

/-- A device store arrives where the buffer is empty, or the free choice is for the fabric. -/
theorem drainOne_arrive (hout : (d.core n).devOut = e :: rest) (hfirst : (d.core n).sb = [] ∨ Config.devFirst d.free = true) : d.drainOne n fab = (d.devArrive n fab).tickFree := by
  rcases hfirst with h | h <;> simp [Dev.drainOne, hout, h]

theorem drainOne_empty (hsb : (d.core n).sb = []) (hout : (d.core n).devOut = []) : d.drainOne n fab = d.tickFree := by
  simp [Dev.drainOne, Dev.drainHead, hsb, hout]

/-- A store to memory leaves the buffer and is performed, or reported. -/
theorem drainOne_performs {g : Dev} (hsb : (d.core n).sb = e :: rest) (hfirst : (d.core n).devOut = [] ∨ Config.devFirst d.free = false) (hmem : e.dev = false)
    (hg : (d.modCore n (fun c => { c with sb := rest })).performStore n e fab = g) : d.drainOne n fab = (g.sbWakeAll n).tickFree := by
  rw [drainOne_head hsb hfirst, ← hg]
  simp [Dev.drainHead, hsb, hmem]

/-- A store to a device register leaves the buffer for the fabric. -/
theorem drainOne_sends (hsb : (d.core n).sb = e :: rest) (hfirst : (d.core n).devOut = [] ∨ Config.devFirst d.free = false) (hdev : e.dev = true) :
    d.drainOne n fab = ((d.modCore n (fun c => { c with sb := rest, devOut := c.devOut ++ [e] })).sbWakeAll n).tickFree := by
  rw [drainOne_head hsb hfirst]
  simp [Dev.drainHead, hsb, hdev]

/-- A device store in the fabric arrives and is performed, or reported. -/
theorem drainOne_arrives {g : Dev} (hout : (d.core n).devOut = e :: rest) (hfirst : (d.core n).sb = [] ∨ Config.devFirst d.free = true)
    (hg : (d.modCore n (fun c => { c with devOut := rest })).performStore n e fab = g) : d.drainOne n fab = (g.sbWakeAll n).tickFree := by
  rw [drainOne_arrive hout hfirst, ← hg]
  simp only [Dev.devArrive, hout]

/-! ## What waking the bays of a core leaves unchanged -/

theorem core_put (d : Dev) (a : Nat) (bs : List Byte) (n : Nat) : (d.put a bs).core n = d.core n := rfl

theorem tickFree_core (d : Dev) (n : Nat) : d.tickFree.core n = d.core n := rfl

theorem tickFree_byte (d : Dev) (a : Nat) : d.tickFree.byte a = d.byte a := rfl

theorem modBay_byte (d : Dev) (n b : Nat) (f : Bay → Bay) (a : Nat) : (d.modBay n b f).byte a = d.byte a := rfl

@[simp] theorem sbWakeAll_sb (d : Dev) (n : Nat) : ((d.sbWakeAll n).core n).sb = (d.core n).sb :=
  foldl_keeps (fun e : Dev => (e.core n).sb) _ (fun e b => core_sb_setBay e n b n _) _ d

@[simp] theorem sbWakeAll_mem (d : Dev) (n : Nat) : (d.sbWakeAll n).mem = d.mem := foldl_keeps Dev.mem _ (fun e b => Dev.modBay_mem e n b _) _ d

@[simp] theorem sbWakeAll_byte (d : Dev) (n a : Nat) : (d.sbWakeAll n).byte a = d.byte a := foldl_keeps (fun e : Dev => e.byte a) _ (fun e b => modBay_byte e n b _ a) _ d

end Drain

/-- Settles O36: the oldest store of the buffer or of the fabric goes, as the free choice has it, and is performed, sent on or reported. -/
theorem storeBufferDrains : Obligations.StoreBufferDrains := by
  unfold Obligations.StoreBufferDrains
  intro s core e rest fab D n E A go head first error hpow
  refine ⟨fun ⟨hsb, hfirst⟩ hmem hserved => ?memory, fun ⟨hsb, hfirst⟩ hdev => becomes_of rfl (drainOne_sends hsb hfirst hdev), fun ⟨hsb, hfirst⟩ hmem hfail => ?fails,
    fun ⟨hout, hfirst⟩ hdev => ?arrives, fun ⟨hout, hfirst⟩ => ?arrivalFails, fun hsb hout => becomes_of rfl (drainOne_empty hsb hout)⟩
  case memory =>
    have hstore : D.drainOne n false = ((E.put e.pa e.data).sbWakeAll n).tickFree := drainOne_performs hsb hfirst hmem (performStore_mem hmem hserved)
    have hrun : Becomes (go false) s ((E.put e.pa e.data).sbWakeAll n).tickFree := becomes_of rfl hstore
    refine ⟨_, hrun hpow, rfl, ?sb, ?mem, fun a ha => ?frame⟩
    case sb =>
      rw [tickFree_core, sbWakeAll_sb, core_put]
      exact congrArg Core.sb (Dev.core_setCore_self D n _)
    case mem =>
      rw [Dev.tickFree_mem, sbWakeAll_mem]
      rfl
    case frame =>
      rw [tickFree_byte, sbWakeAll_byte]
      exact Dev.byte_put_out D e.pa a e.data ha
  case fails => exact becomes_of rfl (drainOne_performs hsb hfirst hmem (performStore_fails (hfail.imp_right fun hno => ⟨hmem, hno⟩)))
  case arrives => exact becomes_of rfl (drainOne_arrives hout hfirst (performStore_dev hdev))
  case arrivalFails => exact becomes_of rfl (drainOne_arrives hout hfirst (performStore_fails (.inl rfl)))

end Sys2Proof.Proofs

/-! SUPPORT. The key port and the TLB lock: the checks of R246 in their order, and a lock's walk (R238, R246). -/

namespace Sys2Proof.Proofs

open Sys2Proof
open Sys2Proof.Machine
open Sys2Proof.Safety

section KeyPort

variable {d : Dev} {y : Syl} {n l a c k : Nat} {v : Word} {r : Reg}

/-! ## KPV (R246) -/

/-- Whether CPOL in force keeps a key value from S level. -/
def keyClosed (d : Dev) (v : Nat) : Bool := !(d.inForce midCPOL).getLsbD (bits v 4 0)

theorem keyClosed_iff {m : Nat} : keyClosed d m = true ↔ ¬ (d.inForce midCPOL).getLsbD (m % 32) = true := by
  rw [keyClosed, bits_zero, Bool.not_eq_true', Bool.not_eq_true]
  rfl

theorem keyPortRefusal_unnamed (hkey : d.keyPort n = none) : d.keyPortRefusal n l v = some (7, 0x12) := by
  simp only [Dev.keyPortRefusal, hkey]

/-- The checks of a write to a named key byte, in their order. -/
theorem keyPortRefusal_named (hkey : d.keyPort n = some a) :
    d.keyPortRefusal n l v = if v.getLsbD 7 = true then some (2, 3) else if l ≠ 3 ∧ keyClosed d v.toNat = true then some (7, 0x10)
      else if l ≠ 3 ∧ keyClosed d (d.byte a).toNat = true then some (7, 0x11) else none := by
  simp only [Dev.keyPortRefusal, hkey]
  rfl

theorem kpvOut_refused (h : d.keyPortRefusal y.core.toNat (d.home y).level v = some (c, k)) : d.kpvOut y v = .exc c k 0 0 := by
  simp only [Dev.kpvOut, h]

theorem kpvOut_passed (h : d.keyPortRefusal y.core.toNat (d.home y).level v = none) (hkey : d.keyPort y.core.toNat = some a) (hread : d.unreadable 0 [(a, 1)] = none) :
    d.kpvOut y v = .done [.act .kpv a (v.toNat % 256) 0] := by
  simp only [Dev.kpvOut, h, hkey]
  exact firstOut_none hread [] _

theorem kpvRead_unnamed (hkey : d.keyPort y.core.toNat = none) : d.kpvRead y r = .exc 7 0x12 0 0 := by
  simp only [Dev.kpvRead, hkey]

/-! ## TLOCK (R238) -/

variable {tag va : Nat} {fab : Bool} {h : WalkHit}

theorem lockWalk_error (hwalk : d.walk n tag va fab = .error (c, k)) : d.lockWalk n tag va fab = .error (c, k) := by
  simp only [Dev.lockWalk, hwalk]

/-- A page that a lock's walk finds is checked for a hole, and then for the key table (Table 7.7). -/
theorem lockWalk_found (hwalk : d.walk n tag va fab = .ok h) :
    d.lockWalk n tag va fab = if d.region ((h.entry tag va).physical va) = .hole then .error (6, 0x15)
      else if d.inKeyTable ((h.entry tag va).physical va) 1 = true then .error (6, 0x14) else .ok h := by
  simp only [Dev.lockWalk, hwalk]

theorem tlockOut_unlocks (hlk : v.getLsbD 0 = false) : d.tlockOut y v fab = .done [.act .tlock v.toNat 0 0] := if_neg (Bool.eq_false_iff.1 hlk)

/-- The page a value of TLOCK names lies in its upper 20 bits. -/
theorem lockPage_eq (v : Word) : bits v.toNat 31 12 * 4096 = v.toNat / 4096 * 4096 := by
  have hpage : v.toNat / 2 ^ 12 < 2 ^ 20 := Nat.div_lt_of_lt_mul v.isLt
  exact congrArg (· * 4096) ((bits_eq_div_mod _ _ _).trans (Nat.mod_eq_of_lt hpage))

theorem tlockOut_error (hlk : v.getLsbD 0 = true) (hwalk : d.lockWalk y.core.toNat ((d.home y).tag (d.home y).level) (v.toNat / 4096 * 4096) fab = .error (c, k)) :
    d.tlockOut y v fab = .exc c k (BitVec.ofNat 32 (v.toNat / 4096 * 4096)) 0 := by
  simp only [Dev.tlockOut, lockPage_eq, if_pos hlk, hwalk]

theorem tlockOut_locks (hlk : v.getLsbD 0 = true) (hwalk : d.lockWalk y.core.toNat ((d.home y).tag (d.home y).level) (v.toNat / 4096 * 4096) fab = .ok h) :
    d.tlockOut y v fab = .done [.act .tlock v.toNat h.pte h.code] := by
  simp only [Dev.tlockOut, lockPage_eq, if_pos hlk, hwalk]

end KeyPort

/-- Settles O19: at the level each takes, KPV is answered by the first check that fails, and TLOCK by its walk. -/
theorem keyPortAndTlbLock : Obligations.KeyPortAndTlbLock := by
  unfold Obligations.KeyPortAndTlbLock
  intro s y r fab a c k l b m e w D x V n va open_ key walk pa hl
  have hlevel : ∀ o, firstOut [D.ctlBelow y 1] o = o := firstOut_none (ctlBelow_none hl) []
  have hclosed : ∀ m, keyClosed D m = true ↔ ¬ open_ m := fun m => keyClosed_iff
  have hchecks : key = some a → V.getLsbD 7 = false → D.keyPortRefusal n x.level V =
      if x.level ≠ 3 ∧ keyClosed D V.toNat = true then some (7, 0x10) else if x.level ≠ 3 ∧ keyClosed D (D.byte a).toNat = true then some (7, 0x11) else none :=
    fun hkey hbit => (keyPortRefusal_named hkey).trans (if_neg (Bool.eq_false_iff.1 hbit))
  refine ⟨fun hkey => ⟨?unnamed, ?unnamedRead⟩, fun hkey hbit => ?reserved, fun hkey hbit hm hno => ?newKey, fun hkey hbit hm hyes hno => ?oldKey, fun hkey hbit hpol hread => ?written, rfl,
    fun hlk => ?unlock, fun hlk hw hhole htable => ?lock, fun hlk hw => ?walkFault, fun hlk hw hhole => ?hole, fun hlk hw hhole htable => ?keyTable⟩
  case unnamed => exact traps_of rfl ((hlevel _).trans (kpvOut_refused (keyPortRefusal_unnamed hkey)))
  case unnamedRead => exact traps_of rfl ((hlevel _).trans (kpvRead_unnamed hkey))
  case reserved => exact traps_of rfl ((hlevel _).trans (kpvOut_refused ((keyPortRefusal_named hkey).trans (if_pos hbit))))
  case newKey => exact traps_of rfl ((hlevel _).trans (kpvOut_refused ((hchecks hkey hbit).trans (if_pos ⟨hm, (hclosed _).2 hno⟩))))
  case oldKey =>
    have hnew : ¬ (x.level ≠ 3 ∧ keyClosed D V.toNat = true) := fun h => (hclosed _).1 h.2 hyes
    exact traps_of rfl ((hlevel _).trans (kpvOut_refused ((hchecks hkey hbit).trans ((if_neg hnew).trans (if_pos ⟨hm, (hclosed _).2 hno⟩)))))
  case written =>
    have hnew : ¬ (x.level ≠ 3 ∧ keyClosed D V.toNat = true) := fun h => hpol.elim h.1 fun ho => (hclosed _).1 h.2 ho.1
    have hold : ¬ (x.level ≠ 3 ∧ keyClosed D (D.byte a).toNat = true) := fun h => hpol.elim h.1 fun ho => (hclosed _).1 h.2 ho.2
    exact done_of rfl ((hlevel _).trans (kpvOut_passed ((hchecks hkey hbit).trans ((if_neg hnew).trans (if_neg hold))) hkey hread)) rfl
  case unlock => exact done_of rfl ((hlevel _).trans (tlockOut_unlocks hlk)) rfl
  case lock => exact done_of rfl ((hlevel _).trans (tlockOut_locks hlk ((lockWalk_found hw).trans ((if_neg hhole).trans (if_neg (Bool.eq_false_iff.1 htable)))))) rfl
  case walkFault => exact traps_of rfl ((hlevel _).trans (tlockOut_error hlk (lockWalk_error hw)))
  case hole => exact traps_of rfl ((hlevel _).trans (tlockOut_error hlk ((lockWalk_found hw).trans (if_pos hhole))))
  case keyTable => exact traps_of rfl ((hlevel _).trans (tlockOut_error hlk ((lockWalk_found hw).trans ((if_neg hhole).trans (if_pos htable)))))

end Sys2Proof.Proofs

/-! SUPPORT. Fences, flushes and TLB invalidations: each syllable is one act, and what the act does as its bundle takes effect (R239, R256, R259). -/

namespace Sys2Proof.Proofs

open Sys2Proof
open Sys2Proof.Machine
open Sys2Proof.Safety

section Ordering

variable {d : Dev} {n b : Nat}

theorem ite_beq_one (g : Bool) : ((if g then 1 else 0) == 1) = g := by cases g <;> rfl

theorem storesOf_iff (c : Core) : c.storesOf b = true ↔ ∃ e ∈ c.sb ++ c.devOut, e.bay = b := by
  simp only [Core.storesOf, List.any_eq_true, beq_iff_eq]

theorem act_fence (d : Dev) (n b v w z : Nat) :
    d.act n b .fence v w z = if (d.core n).storesOf b = true then d.setBay n b ((d.bay n b).waitFor (if d.fenceIsLong n b then .miss else .frozen) .fence) else d := rfl

theorem act_syncT_open (h : ∃ p ∈ (d.core n).invs, p.1 = b) (v w z : Nat) : d.act n b .syncT v w z = d.setBay n b ((d.bay n b).waitFor .waiting .syncT) :=
  if_pos (List.any_eq_true.2 (h.imp fun _ hp => hp.imp_right beq_iff_eq.2))

/-- An invalidation acts on its own core or, with G, on all that are powered (R239). -/
theorem act_invalidates (d : Dev) (n b v w : Nat) (g : Bool) :
    let z := if g then 1 else 0
    d.act n b .tlbiVa v w z = d.invalidate n b g (fun c => c.dropVa w v) ∧ d.act n b .tlbiTag v w z = d.invalidate n b g (fun c => c.dropTag v)
      ∧ d.act n b .tlbiAll v w z = d.invalidate n b g Core.dropAll ∧ d.act n b .tlbiAllk v w z = d.invalidate n b g Core.dropAllk := by
  simp only [Dev.act, ite_beq_one, and_self]

end Ordering

section Level

variable {s : State} {y : Syl} {i : Instr} {l : Nat} {f : Dev → SylOut}

/-- At its level or above, a syllable whose level is checked first is one act of its bundle. -/
theorem completes_act {k : Act} {v w z : Nat} (hl : l ≤ (s.dev.home y).level) (hx : exec i s = .next (s.run (fun e => e.runSyl y (asDecoded i) f)))
    (hf : f s.dev = firstOut [(s.dev.home y).below l] (.done [.act k v w z])) (hk : Settled s.dev y.core.toNat y.bay.toNat [.act k v w z] = true) : Completes s y i [.act k v w z] :=
  done_of hx (hf.trans (firstOut_none (below_none hl) [] _)) hk

/-- Below its level it traps. -/
theorem traps_below {o : SylOut} (hl : (s.dev.home y).level < l) (hx : exec i s = .next (s.run (fun e => e.runSyl y (asDecoded i) f))) (hf : f s.dev = firstOut [(s.dev.home y).below l] o) :
    TrapsWith s y i 3 1 0 0 := traps_of hx (hf.trans (firstOut_some (below_some hl) [] o))

end Level

/-- Settles O20: each syllable's level decides between its act and its trap; the acts read the store buffer and the open invalidations of the core. -/
theorem fencesFlushesAndInvalidations : Obligations.FencesFlushesAndInvalidations := by
  unfold Obligations.FencesFlushesAndInvalidations
  intro s y r a g e n b l k v x A gn act drop
  obtain ⟨hva, htag, hall, hallk⟩ := act_invalidates e n b v k g
  refine ⟨done_of rfl rfl rfl, done_of rfl rfl rfl, done_of rfl rfl rfl, fun hl => ⟨?syncT, ?tlbiVa, ?tlbiTag, ?tlbiAll⟩, fun hl => ?tlbiAllk, fun hu => ?below, traps_of rfl rfl,
    fun hnone => ?fenced, fun hsome => ?fenceWaits, rfl, rfl, rfl, fun hopen => act_syncT_open hopen 0 0 0, hva, htag, hall, hallk⟩
  case syncT => exact completes_act hl rfl rfl rfl
  case tlbiVa => exact completes_act hl rfl rfl rfl
  case tlbiTag => exact completes_act hl rfl rfl rfl
  case tlbiAll => exact completes_act hl rfl rfl rfl
  case tlbiAllk => exact completes_act hl.ge rfl rfl rfl
  case below =>
    have hs : x.level < 1 := hu.trans_lt Nat.one_pos
    have hm : x.level < 3 := hu.trans_lt (by decide)
    exact ⟨traps_below hs rfl rfl, traps_below hs rfl rfl, traps_below hs rfl rfl, traps_below hs rfl rfl, traps_below hm rfl rfl⟩
  case fenced => exact (act_fence e n b 0 0 0).trans (if_neg fun h => by obtain ⟨q, hq, hb⟩ := (storesOf_iff _).1 h; exact hnone q hq hb)
  case fenceWaits => exact (act_fence e n b 0 0 0).trans (if_pos ((storesOf_iff _).2 hsome))

end Sys2Proof.Proofs

/-! SUPPORT. The Mirror registers under dual control: a write is ignored, refused or staged, and a staged value is countersigned, rejected, expires or comes into force (R249 to R253). -/

namespace Sys2Proof.Proofs

open Sys2Proof
open Sys2Proof.Machine
open Sys2Proof.Safety

section Staging

variable {d : Dev} {who : Agent} {o : Origin} {id i k t r : Nat} {v : Word}

/-! ## Staging (R249, R250) -/

theorem becomes_mirrorStage {s : State} {n : Word} {e : Dev} (hreach : who ≠ .host 0 ∨ s.dev.windowOpen = true) (h : s.dev.mirrorWrite who n.toNat v = e) : Becomes (.mirrorStage who n v) s e :=
  becomes_of rfl ((if_neg fun hout => hreach.elim (fun hwho => hwho hout.1) hout.2).trans h)

theorem mirrorWrite_origin (hid : isMirror id = true) (ho : d.originOf who = some o) : d.mirrorWrite who id v = d.stageValue o id (mirrorField id v) := by
  simp only [Dev.mirrorWrite, hid, not_true, if_false, ho]

theorem mirrorWrite_no_origin (hid : isMirror id = true) (ho : d.originOf who = none) :
    d.mirrorWrite who id v = ({ d with mi := { d.mi with refuse := satAdd d.mi.refuse 1 } } : Dev).record 0xB000 0x02 [] := by
  simp only [Dev.mirrorWrite, hid, not_true, if_false, ho]

theorem stageValue_invalid (harmed : d.mi.armed = true) (h : mirrorValid id v.toNat = false) : d.stageValue o id v = d.setLast o 5 0 0 := by
  simp only [Dev.stageValue, harmed, h, not_true, false_and, if_false, Bool.false_eq_true, not_false_eq_true, if_true]

/-- No slot holds a staged value of a register. -/
theorem find_staged_none (h : ∀ j, j < 16 → (d.stageSlot j).st = 1 → (d.stageSlot j).id.toNat ≠ id) :
    (List.range 16).find? (fun j => (d.stageSlot j).st == 1 && (d.stageSlot j).id.toNat == id) = none := by
  rw [List.find?_eq_none]
  intro j hj hmatch
  obtain ⟨hst, hid⟩ := (Bool.and_eq_true _ _).mp hmatch
  exact h j (List.mem_range.1 hj) (beq_iff_eq.1 hst) (beq_iff_eq.1 hid)

/-- The lowest slot that is free. -/
theorem find_free (hk : k < 16) (hfree : (d.stageSlot k).st = 0) (hfirst : ∀ j, j < k → (d.stageSlot j).st ≠ 0) :
    (List.range 16).find? (fun j => (d.stageSlot j).st == 0) = some k := by
  rw [List.find?_range_eq_some]
  exact ⟨beq_iff_eq.2 hfree, List.mem_range.2 hk, fun j hj => by rw [beq_eq_false_iff_ne.2 (hfirst j hj)]; rfl⟩

/-- A first value of a register takes the lowest free slot. -/
theorem stageValue_first (harmed : d.mi.armed = true) (hvalid : mirrorValid id v.toNat = true)
    (hnone : ∀ j, j < 16 → (d.stageSlot j).st = 1 → (d.stageSlot j).id.toNat ≠ id) (hk : k < 16) (hfree : (d.stageSlot k).st = 0) (hfirst : ∀ j, j < k → (d.stageSlot j).st ≠ 0) :
    d.stageValue o id v = d.putStage o k id v 1 := by
  simp only [Dev.stageValue, harmed, hvalid, not_true, false_and, if_false, find_staged_none hnone, find_free hk hfree hfirst, Option.some_or]

/-! ## Countersigning (R252) -/

theorem mcsCheck_passed (harmed : d.mi.armed = true) (hst : (d.stageSlot i).st = 1) (ht : (d.stageSlot i).ticket = t) : d.mcsCheck i t = none := by
  simp [Dev.mcsCheck, harmed, hst, ht]

theorem countersign_refused (h : d.mcsCheck i t = some r) : d.countersign o i t = d.setRes o r := by
  simp only [Dev.countersign, h]

theorem rejectStage_refused (h : d.mcsCheck i t = some r) : d.rejectStage o i t = d.setRes o r := by
  simp only [Dev.rejectStage, h]

theorem rejectStage_passed (h : d.mcsCheck i t = none) : d.rejectStage o i t = (d.setStage i { d.stageSlot i with st := 3 }).setRes o 2 := by
  simp only [Dev.rejectStage, h]

/-- What countersigning looks at once the shared checks pass: the origin, the value, and the register's rule. -/
theorem countersign_passed (h : d.mcsCheck i t = none) :
    let z := d.stageSlot i
    d.countersign o i t = if z.org = orgCode o then d.setRes o 6 else if z.val ≠ (d.bank o).val then d.setRes o 5
      else if ¬ mirrorRule (d.look [(z.id.toNat, z.val)]) z.id.toNat z.val.toNat = true then d.setRes o 10
      else ((d.setStage i { z with st := 2 }).commit [(z.id.toNat, z.val)]).setRes o 1 := by
  simp only [Dev.countersign, h]

/-- A group of one origin's staged slots, whose CRC and rules hold, commits at one instant. -/
theorem countersignGroup_commits {g : List Nat} (harmed : d.mi.armed = true) (hg : (List.range 16).filter (fun j => (d.bank o).mask.getLsbD j) = g) (hne : g ≠ [])
    (hslots : ∀ j, j ∈ g → (d.stageSlot j).st = 1 ∧ (d.stageSlot j).org = k) (horg : k ≠ orgCode o) (hcrc : d.groupCrc g = (d.bank o).val)
    (hrules : let vs := g.map (fun j => ((d.stageSlot j).id.toNat, (d.stageSlot j).val)); ∀ p, p ∈ vs → mirrorRule (d.look vs) p.1 p.2.toNat = true) :
    d.countersignGroup o
      = ((g.foldl (fun (e : Dev) j => e.setStage j { e.stageSlot j with st := 2 }) d).commit (g.map (fun j => ((d.stageSlot j).id.toNat, (d.stageSlot j).val)))).setRes o 1 := by
  have hhead : (d.stageSlot (g.headD 0)).org = k := by
    cases g with
    | nil => exact absurd rfl hne
    | cons j js => exact (hslots j List.mem_cons_self).2
  have hstaged : ¬ (g = [] ∨ g.any (fun j => (d.stageSlot j).st != 1) = true) := by
    rw [not_or, List.any_eq_true]
    exact ⟨hne, fun ⟨j, hj, hst⟩ => bne_iff_ne.1 hst (hslots j hj).1⟩
  have hsame : ¬ g.any (fun j => (d.stageSlot j).org != k) = true := by
    rw [List.any_eq_true]
    exact fun ⟨j, hj, ho⟩ => bne_iff_ne.1 ho (hslots j hj).2
  have hkeep : ¬ (g.map (fun j => ((d.stageSlot j).id.toNat, (d.stageSlot j).val))).any
      (fun p => !mirrorRule (d.look (g.map (fun j => ((d.stageSlot j).id.toNat, (d.stageSlot j).val)))) p.1 p.2.toNat) = true := by
    rw [List.any_eq_true]
    rintro ⟨p, hp, hbad⟩
    rw [hrules p hp] at hbad
    exact Bool.false_ne_true hbad
  simp only [Dev.countersignGroup, hg, harmed, not_true, if_false, hhead, if_neg hstaged, if_neg hsame, if_neg horg, hcrc, ne_eq, if_neg hkeep]

/-! ## Expiry and coming into force (R251, R253) -/

theorem expireStage_due (hst : (d.stageSlot i).st = 1) (hage : (d.stageSlot i).limit ≤ (d.stageSlot i).age + 1) :
    d.expireStage i = ((d.setStage i { d.stageSlot i with st := 4, age := (d.stageSlot i).limit }).summon (fun m => { m with exp := true })).record 0xB000 0x03
      [BitVec.ofNat 8 i, BitVec.ofNat 8 (d.stageSlot i).org] := if_pos ⟨hst, hage⟩

/-- A value outside ring membership comes into force alone. -/
theorem applyCommitted_single {w : Word} (h : d.mi.applyQ.find? (fun j => d.boundaryCome j.toNat) = some w) (hring : isRingId w.toNat = false) :
    d.applyCommitted = d.applyIds (fun id => id == w.toNat) := by
  simp only [Dev.applyCommitted, h, hring, Bool.false_and, Bool.or_false]

theorem applyCommitted_none (h : ∀ j ∈ d.mi.applyQ, d.boundaryCome j.toNat = false) : d.applyCommitted = d := by
  have hfind : d.mi.applyQ.find? (fun j => d.boundaryCome j.toNat) = none := List.find?_eq_none.2 fun j hj => Bool.eq_false_iff.1 (h j hj)
  simp only [Dev.applyCommitted, hfind]

end Staging

/-- Settles O37: a write is answered by its origin, its validity and the free slot; an act on a slot by the shared checks and then by its own. -/
theorem mirrorRegistersUnderDualControl : Obligations.MirrorRegistersUnderDualControl := by
  unfold Obligations.MirrorRegistersUnderDualControl
  intro s who o id v i tk k r g D n t V z reach writes last free staged res ok live vs group
  have hlast : ∀ (e : Dev) (a b : Nat), e.setLast o 1 a b = last e (2 ^ 28 + a * 2 ^ 16 + b) := fun e a b => by simp only [Dev.setLast, Nat.one_mul, last]
  have hcheck : live → D.mcsCheck i.toNat tk.toNat = none := fun ⟨_, harmed, hst, ht⟩ => mcsCheck_passed harmed hst ht
  refine ⟨fun ⟨hid, hreach, ho, harmed⟩ hvalid hnone ⟨hk, hfree, hfirst⟩ => becomes_mirrorStage hreach ?staged, fun ⟨hid, hreach, ho, harmed⟩ hbad => becomes_mirrorStage hreach ?invalid,
    fun hid hreach ho => becomes_mirrorStage hreach (mirrorWrite_no_origin hid ho), fun hlive hother hval hrule => becomes_of rfl ((if_pos hlive.1).trans ?commits),
    fun hlive hsame => becomes_of rfl ((if_pos hlive.1).trans ?sameOrigin), fun hlive hother hval => becomes_of rfl ((if_pos hlive.1).trans ?otherValue),
    fun hlive => becomes_of rfl ((if_pos hlive.1).trans (rejectStage_passed (hcheck hlive))),
    fun hok hbad => ⟨becomes_of rfl ((if_pos hok).trans (countersign_refused hbad)), becomes_of rfl ((if_pos hok).trans (rejectStage_refused hbad))⟩,
    fun hok harmed hg hne hslots horg hcrc hrules => becomes_of rfl ((if_pos hok).trans (countersignGroup_commits harmed hg hne hslots horg hcrc hrules)),
    fun hst hage => becomes_of rfl (expireStage_due hst hage), fun c hc hring => becomes_of rfl (applyCommitted_single hc hring), fun hnone => becomes_of rfl (applyCommitted_none hnone)⟩
  case staged =>
    rw [mirrorWrite_origin hid ho]
    refine (stageValue_first harmed hvalid hnone hk hfree hfirst).trans ?_
    simp only [Dev.putStage, hlast]
    rfl
  case invalid => exact (mirrorWrite_origin hid ho).trans (stageValue_invalid harmed hbad)
  case commits => exact (countersign_passed (hcheck hlive)).trans ((if_neg hother).trans ((if_neg (not_not_intro hval)).trans (if_neg (not_not_intro hrule))))
  case sameOrigin => exact (countersign_passed (hcheck hlive)).trans (if_pos hsame)
  case otherValue => exact (countersign_passed (hcheck hlive)).trans ((if_neg hother).trans (if_pos hval))

end Sys2Proof.Proofs

/-! SUPPORT. A step: the command in front of the queue, or a millisecond of the Pupor oscillator (R251, R359). -/

namespace Sys2Proof.Proofs

open Sys2Proof
open Sys2Proof.Machine
open Sys2Proof.Safety

theorem step_front (s : State) (c : Instr) (rest : List Instr) : step { s with pending := c :: rest } = exec c { s with pending := rest } := rfl

theorem step_idle {s : State} (h : s.pending = []) : step s = idleStep s := by
  rw [step, h]

/-- A millisecond passes on a powered device alone. -/
theorem idleStep_on {s : State} (h : Powered s) : idleStep s = .next { s with dev := s.dev.millisecond } := by
  rw [idleStep, State.run_on s _ h]

theorem idleStep_off {s : State} (h : ¬ Powered s) : idleStep s = .next s := congrArg Host.Outcome.next (if_pos (not_not.1 h))

/-- Settles O53: the queue decides between its front command and the idle step, and the power whether time passes. -/
theorem stepRunsFrontCommand : Obligations.StepRunsFrontCommand := by
  unfold Obligations.StepRunsFrontCommand
  intro s c rest D age
  exact ⟨step_front s c rest, fun hempty hon => (step_idle hempty).trans (idleStep_on hon), fun hempty hoff => (step_idle hempty).trans (idleStep_off hoff)⟩

end Sys2Proof.Proofs

/-! SUPPORT. Sensors, rails, the adaptive voltage and background activities, and the device registers as anyone reads and writes them (R226, R276, R280, R390 to R396, R401). -/

namespace Sys2Proof.Proofs

open Sys2Proof
open Sys2Proof.Machine
open Sys2Proof.Safety

section Pins

variable {d : Dev} {n : Nat} {v : Word}

/-! ## Temperature (R396) -/

theorem trip_hot (h : n ≤ 8 ∧ d.chSampled n = true ∧ 880 ≤ v.toInt) : d.trip n v = (d.heat n v.toInt).overheat n :=
  (if_pos h).trans (if_pos h.2.2)

theorem trip_cool (h : ¬ (n ≤ 8 ∧ d.chSampled n = true ∧ 880 ≤ v.toInt)) : d.trip n v = d := if_neg h

theorem dropFrame_pw (d : Dev) : d.dropFrame.pw = d.pw := by
  unfold Dev.dropFrame
  split <;> rfl

theorem registerFailure_pfail (d : Dev) : d.registerFailure.pw.pfail = true := by
  cases h : d.pw.pfail with
  | true => rw [registerFailure_again h, h]
  | false => rw [registerFailure_first h, dropFrame_pw]

/-! ## Rails and the adaptive voltage (R390, R392, R393) -/

/-- All the rails of Table 14.6 are watched in RUN. -/
theorem railWatched_run (h1 : 1 ≤ n) (h9 : n ≤ 9) (hrun : d.pw.pstate = 2) : d.railWatched n = true := by
  simp [Dev.railWatched, h1, h9, hrun]

theorem railWatched_above (h : 9 < n) : d.railWatched n = false := by
  simp [Dev.railWatched, h]

/-- A transaction without an answer is recorded where it is the third in succession. -/
theorem avsAnswer_missing (d : Dev) :
    let e : Dev := { d with pw := { d.pw with avsFail := d.pw.avsFail + 1 } }
    d.avsAnswer false = if d.pw.avsFail + 1 = 3 then e.record 0xA001 3 [] else e := rfl

theorem vsetFree_of (hrun : d.pw.pstate = 2) (hstage : d.pw.stage = .firmware ∨ (d.pw.stage = .finished ∧ d.pw.boot.getLsbD 30 = false)) : d.vsetFree = true := by
  rcases hstage with hs | ⟨hs, hb⟩
  · rw [Dev.vsetFree, hrun, hs]
    rfl
  · rw [Dev.vsetFree, hrun, hs, hb]
    rfl

/-- The step that VSET's limits allow. -/
theorem vsetNext_of {up : Bool} {k m : Nat} (h : (up = true ∧ k + 5 ≤ 1050 ∧ m = k + 5) ∨ (up = false ∧ 905 ≤ k ∧ m = k - 5)) : vsetNext k up = some m := by
  rcases h with ⟨rfl, hk, rfl⟩ | ⟨rfl, hk, rfl⟩
  · exact if_pos hk
  · exact if_pos hk

theorem vsetStep_moves {up : Bool} {m : Nat} (hnext : vsetNext d.pw.vset up = some m) (hfree : d.vsetFree = true) (hfail : d.pw.avsFail < 3) (acked : Bool) :
    d.vsetStep up acked = if acked = true then { d.avsAnswer acked with pw := { (d.avsAnswer acked).pw with vset := m } } else d.avsAnswer acked := by
  have hgoes : ¬ (¬ d.vsetFree = true ∨ 3 ≤ d.pw.avsFail) := not_or.2 ⟨not_not_intro hfree, Nat.not_le.2 hfail⟩
  simp only [Dev.vsetStep, hnext, if_neg hgoes]

end Pins

section Registers

variable {d : Dev} {who : Agent} {a size v f : Nat}

/-! ## Device registers (R226) -/

theorem wordAt_iff : wordAt a size = true ↔ a % 4 = 0 ∧ size = 4 := by
  rw [wordAt, Bool.and_eq_true, beq_iff_eq, beq_iff_eq]

theorem wordAt_size (h : size ≠ 4) : wordAt a size = false := Bool.eq_false_iff.2 fun hw => h (wordAt_iff.1 hw).2

/-- A write of anyone but the host, outside the Mirror registers, is made where it is of a word and the access rules let it pass. -/
theorem anyWrite_inner (hwho : ∀ g, who ≠ .host g) (hid : isMirror a = false) :
    d.anyWrite who a size v = if (wordAt a size && d.allowed who a true) = true then d.regWrite who a v else d := by
  cases who with
  | host g => exact absurd rfl (hwho g)
  | _ => simp only [Dev.anyWrite, hid, Bool.false_and, Bool.false_eq_true, if_false]

theorem anyRead_inner (hwho : ∀ g, who ≠ .host g) : d.anyRead who a size = if (wordAt a size && d.allowed who a false) = true then d.regTouch a else d := by
  cases who with
  | host g => exact absurd rfl (hwho g)
  | _ => rfl

theorem masked_toNat (w : Word) (m : Nat) : masked w.toNat m = w &&& BitVec.ofNat 32 m := by
  rw [masked, BitVec.ofNat_toNat, BitVec.setWidth_eq]

theorem regWrite_lkctl (d : Dev) (who : Agent) (w : Word) : d.regWrite who 0x0D010200 w.toNat = { d with pw := { d.pw with lkctl := w &&& 0x80000087 } } :=
  congrArg (fun x => ({ d with pw := { d.pw with lkctl := x } } : Dev)) (masked_toNat w 0x80000087)

theorem regWrite_recorderNote (d : Dev) (who : Agent) (w : Word) : d.regWrite who 0x0D000008 w.toNat = { d with rc := { d.rc with note := w &&& BitVec.ofNat 32 noteMask } } :=
  congrArg (fun x => ({ d with rc := { d.rc with note := x } } : Dev)) (masked_toNat w noteMask)

theorem regTouch_recorderLost (d : Dev) : d.regTouch 0x0D000010 = { d with rc := { d.rc with lost := 0 } } := rfl

/-! ## Registers of a function (R280, R283, R294) -/

theorem bar0Write_size (h : size ≠ 4) : d.bar0Write f a size v = d := if_pos (by rw [wordAt_size h]; rfl)

theorem bar2Write_size (h : size ≠ 4) (hc : (d.fn f).closed = true) : d.bar2Write f a size v = d.setFn f { d.fn f with dberr := satAdd (d.fn f).dberr 1 } :=
  (if_pos (by rw [wordAt_size h]; rfl)).trans (if_pos hc)

/-- FSTAT is cleared by writing 1 to its bits. -/
theorem bar0Write_fstat (d : Dev) (f : Nat) (w : Word) : d.bar0Write f 0x54 4 w.toNat = d.setFn f { d.fn f with fstat := (d.fn f).fstat &&& ~~~(w &&& 0x1F) } := by
  have hmask : masked w.toNat 0x1F = w &&& 0x1F := masked_toNat w 0x1F
  simp [Dev.bar0Write, wordAt, hmask]

theorem bar0Read_dberr (d : Dev) (f : Nat) :
    let e := d.setFn f { d.fn f with dberr := 0 }
    d.bar0Read f 0x58 4 = { e with host := { e.host with out := e.host.out ++ [.rdata f (d.fn f).dberr] } } := by
  have hvalue : d.bar0Value f 0x58 = (d.fn f).dberr.toNat := by simp [Dev.bar0Value]
  have htouch : d.bar0Touch f 0x58 = d.setFn f { d.fn f with dberr := 0 } := by simp [Dev.bar0Touch]
  have hword : wordAt 0x58 4 = true := rfl
  simp only [Dev.bar0Read, hword, if_true, hvalue, htouch, BitVec.ofNat_toNat, BitVec.setWidth_eq]

/-- A write of the host reaches BAR2 where bit 27 of its address is set, and else BAR0. -/
theorem becomes_hostWrite {s : State} {fn : FnNo} {x : RegAccess} {w : Word} {e : Dev} (hup : s.dev.hostUp fn.toNat = true)
    (h : (if bit x.addr.toNat 27 = true then s.dev.bar2Write fn.toNat (x.addr.toNat % 0x1000) x.size.toNat w.toNat else s.dev.bar0Write fn.toNat x.addr.toNat x.size.toNat w.toNat) = e) :
    Becomes (.registerWrite (.host fn) x w) s e := becomes_of_byHost rfl hup h

end Registers

/-- Settles O52: each event meets its own conditions; a register access is checked for its size and its writer or reader before it is made. -/
theorem pinsRegistersAndBackground : Obligations.PinsRegistersAndBackground := by
  unfold Obligations.PinsRegistersAndBackground
  intro s who n fn v rail up acked m rk bank word a sz D p f x answered inner fail stalls moves hot here
  have hsize : sz ≠ 4 → sz.toNat ≠ 4 := fun h hk => h (BitVec.eq_of_toNat_eq hk)
  have hstep : moves → ∀ acked, D.vsetStep up acked = if acked = true then { D.avsAnswer acked with pw := { (D.avsAnswer acked).pw with vset := m } } else D.avsAnswer acked :=
    fun ⟨hrun, hstage, hfail, hnext⟩ => vsetStep_moves (vsetNext_of hnext) (vsetFree_of hrun hstage) hfail
  have hwrite : inner → isMirror a.toNat = false → ∀ size, D.anyWrite who a.toNat size v.toNat = if (wordAt a.toNat size && D.allowed who a.toNat true) = true then D.regWrite who a.toNat v.toNat else D :=
    fun hin hid size => anyWrite_inner hin hid
  refine ⟨fun hcool => becomes_of_run rfl (trip_cool hcool), fun hhot => becomes_of_run rfl (trip_hot hhot), registerFailure_pfail _, fun h1 h9 hrun => becomes_of_run rfl (if_pos (railWatched_run h1 h9 hrun)),
    fun h9 => becomes_of_run rfl (if_neg (Bool.eq_false_iff.1 (railWatched_above h9))), fun hmove => becomes_of_run rfl (hstep hmove true), fun hmove hfew => ?missed, fun hmove hthird => ?third,
    fun hfew => becomes_of_run rfl (if_neg (Nat.not_le.2 hfew)), fun hmany => becomes_of_run rfl (if_pos hmany), fun hmany => ?retried, fun hrun => becomes_of_run rfl (if_pos hrun), fun hrun => becomes_of_run rfl (if_neg hrun),
    fun hup => ⟨becomes_of_run rfl (if_pos hup), becomes_of_run rfl (if_pos hup), becomes_of_run rfl (if_pos hup)⟩, fun hup => ⟨becomes_of_run rfl (if_pos hup), becomes_of_run rfl (if_pos hup)⟩,
    fun hin halign hid hmay => ?written, fun hin hmay => ?lkctl, fun hin hmay => ?note, fun hin hid hno => ?refused, fun hup => becomes_hostWrite hup (bar0Write_fstat D f v), fun hin hmay => ?lost,
    fun hin hno => ?unread, fun hin hsz hid => ?odd, fun hin hsz => ?oddRead, fun hup hsz hbar => ?oddBar0, fun hup hsz hbar hclosed => ?oddBar2, fun hup => becomes_of_byHost rfl hup (bar0Read_dberr D f)⟩
  case missed => exact becomes_of_run rfl ((hstep hmove false).trans ((avsAnswer_missing D).trans (if_neg hfew)))
  case third => exact becomes_of_run rfl ((hstep hmove false).trans ((avsAnswer_missing D).trans (if_pos hthird)))
  case retried =>
    have hpast : p.avsFail + 1 ≠ 3 := by omega
    exact becomes_of_run rfl ((if_pos hmany).trans ((avsAnswer_missing D).trans (if_neg hpast)))
  case written => exact becomes_of_run rfl ((hwrite hin hid 4).trans (if_pos (Bool.and_eq_true_iff.2 ⟨wordAt_iff.2 ⟨halign, rfl⟩, hmay⟩)))
  case lkctl => exact becomes_of_run rfl ((anyWrite_inner hin rfl).trans ((if_pos hmay).trans (regWrite_lkctl D who v)))
  case note => exact becomes_of_run rfl ((anyWrite_inner hin rfl).trans ((if_pos hmay).trans (regWrite_recorderNote D who v)))
  case refused => exact becomes_of_run rfl ((hwrite hin hid 4).trans (if_neg (by rw [hno, Bool.and_false]; decide)))
  case lost => exact becomes_of_run rfl ((anyRead_inner hin).trans ((if_pos hmay).trans (regTouch_recorderLost D)))
  case unread => exact becomes_of_run rfl ((anyRead_inner hin).trans (if_neg (by rw [hno, Bool.and_false]; decide)))
  case odd => exact becomes_of_run rfl ((hwrite hin hid sz.toNat).trans (if_neg (by rw [wordAt_size (hsize hsz), Bool.false_and]; decide)))
  case oddRead => exact becomes_of_run rfl ((anyRead_inner hin).trans (if_neg (by rw [wordAt_size (hsize hsz), Bool.false_and]; decide)))
  case oddBar0 => exact becomes_hostWrite hup ((if_neg (Bool.eq_false_iff.1 hbar)).trans (bar0Write_size (hsize hsz)))
  case oddBar2 => exact becomes_hostWrite hup ((if_pos hbar).trans (bar2Write_size (hsize hsz) hclosed))

end Sys2Proof.Proofs

/-! SUPPORT. The host's queues, its doorbells, the fetch of an entry and the intake rings: each operation's branches under the conditions that choose them (R288 to R302, R415). -/

namespace Sys2Proof.Proofs

open Sys2Proof
open Sys2Proof.Machine
open Sys2Proof.Safety

/-- A command on a queue acts where the host reaches the function and the function owns the queue. -/
theorem becomes_of_owned {c : Instr} {s : State} {f q : Nat} {cq : Bool} {act : Dev → Dev} {d : Dev}
    (hc : exec c s = .next (s.run (fun e => e.byHost f (fun e => if e.owns f q cq then act e else e)))) (h : s.dev.hostUp f = true ∧ s.dev.owns f q cq = true)
    (hd : act s.dev = d) : Becomes c s d :=
  becomes_of_byHost hc h.1 ((if_pos h.2).trans hd)

/-- A write to a ring register is made where its writer is admitted. -/
theorem becomes_of_ringStore {c : Instr} {s : State} {who : Agent} {r off v : Nat} {d : Dev} (hc : exec c s = .next (s.run (fun e => e.ringStore who r off v)))
    (h : r < 80 ∧ s.dev.allowed who (ringOff r off) true = true) (hd : s.dev.ringWrite r off v = d) : Becomes c s d :=
  becomes_of_run hc ((if_pos h).trans hd)

section HostQueues

variable {d : Dev} {f q v : Nat}

/-! ## Submission queues (R288, R302) -/

theorem sqEnable_enabled (hen : ((d.fn f).sq q).en = true) : d.sqEnable f q = d := if_pos hen

theorem sqEnable_disabled (hen : ((d.fn f).sq q).en = false) :
    let x := d.fn f
    let y := x.sq q
    d.sqEnable f q = if d.owns f y.cq true = true ∧ (x.cq y.cq).en = true ∧ x.has (if y.kind then 1 else 0) = true ∧ (y.kind = true ∨ d.streamTaken y.target = false)
      then d.setSq f q { y with en := true, head := 0, tail := 0, par := true, halt := false } else d.cfgErr f := by
  intro x y
  have hopen : ¬ y.en = true := Bool.eq_false_iff.1 hen
  rw [← ite_not]
  simp only [not_and_or, not_or, Bool.not_eq_false]
  exact if_neg hopen

theorem sqDisable_disabled (hen : ((d.fn f).sq q).en = false) : d.sqDisable f q = d := if_pos (Bool.eq_false_iff.1 hen)

/-- Disabling a queue that has no entry in hand. -/
theorem sqDisable_idle (hen : ((d.fn f).sq q).en = true) (hcur : ((d.fn f).sq q).cur = none) :
    d.sqDisable f q = (d.setSq f q { (d.fn f).sq q with en := false, halt := false }).abortRest f q := by
  simp only [Dev.sqDisable, hen, not_true, if_false, hcur]

/-- Disabling a queue that has an entry in hand moves HEAD past the entry, once, and keeps it in hand. -/
theorem sqDisable_inHand {c : SubE} (hen : ((d.fn f).sq q).en = true) (hcur : ((d.fn f).sq q).cur = some c) :
    let y := (d.fn f).sq q
    d.sqDisable f q = (d.setSq f q { (if c.past then y else y.consume) with cur := some { c with past := true }, en := false, halt := false }).abortRest f q := by
  simp only [Dev.sqDisable, hen, not_true, if_false, hcur]

/-! ## Completion queues (R288, R289, R300) -/

theorem cqEnable_disabled (hen : ((d.fn f).cq q).en = false) :
    d.cqEnable f q = d.setCq f q { (d.fn f).cq q with en := true, tail := 0, head := 0, phase := true, wait := [], since := 0 } := if_neg (Bool.eq_false_iff.1 hen)

/-- A completion queue that no enabled submission queue names and at which nothing waits is disabled at once. -/
theorem cqDisable_unused (hen : ((d.fn f).cq q).en = true) (hfree : ∀ p ∈ (d.fn f).sqs, p.2.en = true → p.2.cq ≠ q) (hwait : ((d.fn f).cq q).wait = []) :
    d.cqDisable f q = d.setCq f q { (d.fn f).cq q with en := false, wait := [] } := by
  have hnone : (d.fn f).sqs.any (fun p => p.2.en && p.2.cq == q) = false :=
    List.any_eq_false.2 fun p hp huse => by
      obtain ⟨hon, hcq⟩ := Bool.and_eq_true_iff.1 huse
      exact hfree p hp hon (beq_iff_eq.1 hcq)
  simp only [Dev.cqDisable, hen, not_true, if_false, hnone, Bool.false_eq_true, hwait, List.foldl_nil]

theorem modTimer_due (hen : ((d.fn f).cq q).en = true) (hien : ((d.fn f).cq q).ien = true) (hsince : ((d.fn f).cq q).since ≠ 0) (htime : ((d.fn f).cq q).modW.toNat / 65536 ≠ 0) :
    d.modTimer f q = (d.setCq f q { (d.fn f).cq q with since := 0 }).message f ((d.fn f).cq q).vec := by
  have hword : ((d.fn f).cq q).modW.toNat / 65536 < 65536 := Nat.div_lt_of_lt_mul (BitVec.isLt _)
  have hbits : bits ((d.fn f).cq q).modW.toNat 31 16 = ((d.fn f).cq q).modW.toNat / 65536 := (bits_eq_div_mod _ _ _).trans (Nat.mod_eq_of_lt hword)
  exact if_pos ⟨hen, hien, hsince, hbits.trans_ne htime⟩

/-! ## Doorbells (R293, R294) -/

theorem tailBell_open (hclosed : (d.fn f).closed = false) : d.tailBell f q v = d.dbErr f 4 := if_pos (Bool.eq_false_iff.1 hclosed)

theorem headBell_open (hclosed : (d.fn f).closed = false) : d.headBell f q v = d.dbErr f 4 := if_pos (Bool.eq_false_iff.1 hclosed)

/-- A tail within the queue that does not move back is stored. -/
theorem tailBell_valid (hclosed : (d.fn f).closed = true) (hown : d.owns f q false = true) (hen : ((d.fn f).sq q).en = true)
    (hv : let y := (d.fn f).sq q; v ≤ y.size ∧ (y.tail + (y.size + 1) - y.head) % (y.size + 1) ≤ (v + (y.size + 1) - y.head) % (y.size + 1)) :
    d.tailBell f q v = d.setSq f q { (d.fn f).sq q with tail := v } := by
  simp only [Dev.tailBell, hclosed, hown, hen, not_true, or_self, if_false]
  exact if_pos hv

/-- A head no further than the tail is stored, and entries that waited for room are written. -/
theorem headBell_valid (hclosed : (d.fn f).closed = true) (hown : d.owns f q true = true) (hen : ((d.fn f).cq q).en = true)
    (hv : let z := (d.fn f).cq q; v ≤ z.size ∧ (v + (z.size + 1) - z.head) % (z.size + 1) ≤ (z.tail + (z.size + 1) - z.head) % (z.size + 1)) :
    d.headBell f q v = (d.setCq f q { (d.fn f).cq q with head := v }).flushCq f q := by
  simp only [Dev.headBell, hclosed, hown, hen, not_true, or_self, if_false]
  exact if_pos hv

/-! ## The fetch (R290, R295, R301) -/

/-- An entry that passes its checks is in hand. -/
theorem fetchEntry_passed {bs : List Byte} (hpick : d.pick = some (f, q))
    (hcheck : (d.takeTurn f q).entryCheck f q (padTo (((d.takeTurn f q).fn f).sq q).entrySize bs) = none) :
    let e := d.takeTurn f q
    let y := (e.fn f).sq q
    d.fetchEntry (some bs) = e.setSq f q { y with cur := some { data := padTo y.entrySize bs, idx := y.head, kind := y.kind, target := y.target } } := by
  simp only [Dev.fetchEntry, hpick, hcheck]

/-- A read of host memory that fails halts the queue, and is recorded and completed. -/
theorem fetchEntry_failed (hpick : d.pick = some (f, q)) :
    let e := d.takeTurn f q
    let y := (e.fn f).sq q
    d.fetchEntry none = ((e.setSq f q { y with err := true, halt := true }).record (0x6000 + f) 3 []).complete f y.cq { sq := q, cid := 0xFFFF, sc := 0x07 } := by
  simp only [Dev.fetchEntry, hpick]

end HostQueues

/-! ## Intake rings (R297, R298, R415) -/

section IntakeRings

variable {d : Dev} {r v : Nat}

theorem writeRing_base (hen : (d.ring r).en = false) (hcount : (d.ring r).count = 0) :
    d.writeRing r false v = d.setRing r { d.ring r with base := BitVec.ofNat 32 (bits v 26 12 * 0x1000) } := by
  simp [Dev.writeRing, hen, hcount]

/-- A write that changes EN changes nothing else. -/
theorem writeRing_en (hchange : v.testBit 31 ≠ (d.ring r).en) : d.writeRing r true v = d.setRing r { d.ring r with en := v.testBit 31 } := by
  have hbit : (bit v 31 != (d.ring r).en) = true := bne_iff_ne.2 hchange
  simp only [Dev.writeRing, if_true]
  exact congrArg (d.setRing r) (if_pos hbit)

theorem writeRing_size (hen : (d.ring r).en = false) (hcount : (d.ring r).count = 0) (hkeep : v.testBit 31 = false) :
    d.writeRing r true v = d.setRing r { d.ring r with size := ringSize r v } := by
  simp [Dev.writeRing, hen, hcount, bit, hkeep]

/-- A slot the ring does not hold cannot be completed. -/
theorem completeSlot_unheld (hslot : bits v 15 0 ∉ (d.ring r).slots) : d.completeSlot r v = d.setRing r { d.ring r with cplerr := true } :=
  if_pos (mt List.contains_iff_mem.1 hslot)

/-- A slot whose submitting function was reset is marked DONE and CQW, and its completion is dropped. -/
theorem completeSlot_reset (hslot : bits v 15 0 ∈ (d.ring r).slots) (hsource : d.num (d.slotHdr r (bits v 15 0)) 1 = 1)
    (hdone : (d.slotFlags r (bits v 15 0)).testBit 0 = false) (hreset : (d.slotFlags r (bits v 15 0)).testBit 2 = true) :
    d.completeSlot r v = ((d.markSlot r (bits v 15 0) 3).cplDrop (d.num (d.slotHdr r (bits v 15 0) + 1) 1)).retire r := by
  have hheld : ¬ ¬ (d.ring r).slots.contains (bits v 15 0) = true := not_not_intro (List.contains_iff_mem.2 hslot)
  have hopen : ¬ bit (d.slotFlags r (bits v 15 0)) 0 = true := Bool.eq_false_iff.1 hdone
  exact (if_neg hheld).trans ((if_neg (not_not_intro hsource)).trans ((if_neg hopen).trans (if_pos hreset)))

/-- A head within the slots held is accepted, and the move is carried on. -/
theorem writeHead_held (h : let x := d.ring r; let k := (bits v 15 0 + (x.size + 1) - x.head) % (x.size + 1); bits v 15 0 ≤ x.size ∧ k ≤ x.count) :
    let x := d.ring r
    d.writeHead r v = (d.setRing r { x with goalN := Nat.max x.goalN ((bits v 15 0 + (x.size + 1) - x.head) % (x.size + 1)), goal := bits v 15 0 }).retire r := if_pos h

theorem writeHead_beyond (h : let x := d.ring r; let k := (bits v 15 0 + (x.size + 1) - x.head) % (x.size + 1); ¬ (bits v 15 0 ≤ x.size ∧ k ≤ x.count)) :
    d.writeHead r v = d.setRing r { d.ring r with hderr := true } := if_neg h

end IntakeRings

/-- Settles O44: each command runs its operation where the host reaches the function and owns the queue, or the writer is admitted; the operation takes the branch its conditions name. -/
theorem hostQueuesAndRings : Obligations.HostQueuesAndRings := by
  unfold Obligations.HostQueuesAndRings
  intro s fn q v who r g k bs D f n x y z mineS mineC may on a store i T w e ahead picked idle head passed
  have hindex : bits v.toNat 15 0 = i := bits_zero _ _
  have hpassed : ∀ c, ({ passed c with en := false, halt := false } : Sq) = { (if c.past then y else y.consume) with cur := some { c with past := true }, en := false, halt := false } := by
    rintro ⟨data, idx, kind, target, past⟩
    cases past <;> rfl
  refine ⟨?sqEnable, ?sqRefused, ?sqDisableIdle, ?sqDisableInHand, ?sqDisabled, ?sqEnabled, ?cqEnable, ?cqDisable, ?tail, ?head, ?early, ?fetched, ?failed, ?timer,
    ?ringBase, ?ringEn, ?ringSize, ?unheld, ?reset, ?retired, ?beyond⟩
  case sqEnable => exact fun hmine hen hmay => becomes_of_owned rfl hmine ((sqEnable_disabled hen).trans (if_pos hmay))
  case sqRefused => exact fun hmine hen hmay => becomes_of_owned rfl hmine ((sqEnable_disabled hen).trans (if_neg hmay))
  case sqDisableIdle => exact fun hmine hen hcur => becomes_of_owned rfl hmine (sqDisable_idle hen hcur)
  case sqDisableInHand =>
    intro hmine hen c hcur
    rw [hpassed]
    exact becomes_of_owned rfl hmine (sqDisable_inHand hen hcur)
  case sqDisabled => exact fun hmine hen => becomes_of_owned rfl hmine (sqDisable_disabled hen)
  case sqEnabled => exact fun hmine hen => becomes_of_owned rfl hmine (sqEnable_enabled hen)
  case cqEnable => exact fun hmine hen => becomes_of_owned rfl hmine (cqEnable_disabled hen)
  case cqDisable => exact fun hmine hen hfree hwait => becomes_of_owned rfl hmine (cqDisable_unused hen hfree hwait)
  case tail => exact fun ⟨hup, hown⟩ hclosed hen hv hmove => becomes_of_byHost rfl hup (tailBell_valid hclosed hown hen ⟨hv, hmove⟩)
  case head => exact fun ⟨hup, hown⟩ hclosed hen hv hmove => becomes_of_byHost rfl hup (headBell_valid hclosed hown hen ⟨hv, hmove⟩)
  case early => exact fun hup hopen => ⟨becomes_of_byHost rfl hup (tailBell_open hopen), becomes_of_byHost rfl hup (headBell_open hopen)⟩
  case fetched => exact fun ⟨hup, hpick⟩ hcheck => becomes_of_byHost rfl hup (fetchEntry_passed hpick hcheck)
  case failed => exact fun ⟨hup, hpick⟩ => becomes_of_byHost rfl hup (fetchEntry_failed hpick)
  case timer => exact fun hup hen hien hsince htime => becomes_of_byHost rfl hup (modTimer_due hen hien hsince htime)
  case ringBase =>
    intro hmay ⟨hen, hcount⟩
    have hpage : bits v.toNat 26 12 = v.toNat / 4096 % 32768 := bits_eq_div_mod _ _ _
    rw [← hpage]
    exact becomes_of_ringStore rfl hmay (writeRing_base hen hcount)
  case ringEn => exact fun hmay hchange => becomes_of_ringStore rfl hmay (writeRing_en hchange)
  case ringSize =>
    intro hmay ⟨hen, hcount⟩ hkeep
    rw [← hindex]
    exact becomes_of_ringStore rfl hmay (writeRing_size hen hcount hkeep)
  case unheld => exact fun hmay hslot => becomes_of_ringStore rfl hmay (completeSlot_unheld (hindex ▸ hslot))
  case reset =>
    rw [← hindex]
    exact fun hmay hslot hsource hdone hreset => becomes_of_ringStore rfl hmay (completeSlot_reset hslot hsource hdone hreset)
  case retired =>
    intro hmay hsize hheld
    exact becomes_of_ringStore rfl hmay ((writeHead_held (by rw [hindex]; exact ⟨hsize, hheld⟩)).trans (by rw [hindex]))
  case beyond =>
    intro hmay hout
    have hnot : ¬ (i ≤ a.size ∧ ahead ≤ a.count) := by rwa [not_and_or, Nat.not_le, Nat.not_le]
    exact becomes_of_ringStore rfl hmay (writeHead_beyond (by rw [hindex]; exact hnot))

end Sys2Proof.Proofs

/-! SUPPORT. The commands of submission entries: each acts on the entry in hand, and its branches under the conditions that choose them (R291, R296, R299, R364). -/

namespace Sys2Proof.Proofs

open Sys2Proof
open Sys2Proof.Machine
open Sys2Proof.Safety

section Entries

variable {d : Dev} {f q : Nat} {bs : List Byte}

theorem onEntry_inHand {kind : Bool} {opc : Nat} (h : d.inHand f q kind opc = some bs) (act : Dev → List Byte → Dev) : d.onEntry f q kind opc act = act d bs := by
  rw [Dev.onEntry, h]

/-! ## POST and MSG (R291, R296) -/

/-- A POST goes where its target has an owner and its ring is enabled: it waits there while the ring is full. -/
theorem doPost_there (h : d.inHand f q false 1 = some bs) (hown : (d.owner ((d.fn f).sq q).curTarget).isSome = true) (hen : (d.ring ((d.fn f).sq q).curTarget).en = true) :
    d.doPost f q = if (d.ring ((d.fn f).sq q).curTarget).full = true then d else d.deliverCur f q ((d.fn f).sq q).curTarget bs := by
  have hsome : (d.owner ((d.fn f).sq q).curTarget).isNone = false := Option.isNone_eq_false_iff.2 hown
  simp only [Dev.doPost, onEntry_inHand h, hsome, hen, Bool.not_true, Bool.or_self, Bool.false_eq_true, if_false]

theorem doPost_noTarget (h : d.inHand f q false 1 = some bs) (hgone : ¬ ((d.owner ((d.fn f).sq q).curTarget).isSome = true ∧ (d.ring ((d.fn f).sq q).curTarget).en = true)) :
    d.doPost f q = d.answerCur f q (leAt bs 2 2) 5 0 0 true := by
  have hnone : ((d.owner ((d.fn f).sq q).curTarget).isNone || !(d.ring ((d.fn f).sq q).curTarget).en) = true := by
    rwa [← Option.not_isSome, ← Bool.not_and, Bool.not_eq_true', ← Bool.not_eq_true, Bool.and_eq_true_iff]
  rw [Dev.doPost, onEntry_inHand h]
  exact if_pos hnone

/-- A MSG goes where its control ring is enabled: it waits there while the ring is full. -/
theorem doMsg_there (h : d.inHand f q true 4 = some bs) (hen : (d.ring (64 + ((d.fn f).sq q).curTarget % 16)).en = true) :
    d.doMsg f q = if (d.ring (64 + ((d.fn f).sq q).curTarget % 16)).full = true then d else d.deliverCur f q (64 + ((d.fn f).sq q).curTarget % 16) bs := by
  simp only [Dev.doMsg, onEntry_inHand h, hen, Bool.not_true, Bool.false_eq_true, if_false]

theorem doMsg_noTarget (h : d.inHand f q true 4 = some bs) (hen : (d.ring (64 + ((d.fn f).sq q).curTarget % 16)).en = false) :
    d.doMsg f q = d.answerCur f q (leAt bs 2 2) 5 0 0 := by
  simp only [Dev.doMsg, onEntry_inHand h, hen, Bool.not_false, if_true]

/-! ## MARK (R299) -/

theorem doMarkEnd_closed {cid at_ : Nat} (hmark : ((d.fn f).sq q).mark = some (cid, at_)) (hkind : ((d.fn f).sq q).curKind = false) (hopen : ((d.fn f).sq q).open_ = 0) :
    d.doMarkEnd f q = (d.setSq f q { (d.fn f).sq q with mark := none }).answerCur f q cid 0 0 0 := by
  have hend : d.endMark f q = (d.setSq f q { (d.fn f).sq q with mark := none }).answerCur f q cid 0 0 0 := by simp only [Dev.endMark, hmark]
  exact (if_pos ⟨hopen, Bool.eq_false_iff.1 hkind⟩).trans hend

theorem doMarkEnd_open (hopen : ((d.fn f).sq q).open_ ≠ 0) : d.doMarkEnd f q = d := if_neg (fun h => hopen h.1)

/-! ## JSTAT and QSTAT (R291) -/

/-- What JSTAT asks: the function has an enabled posting queue that targets the stream. -/
theorem postsTo_iff {t : Tab Sq} {k : Nat} : t.any (fun p => p.2.en && !p.2.kind && p.2.target == k) = true ↔ ∃ p ∈ t, p.2.en = true ∧ p.2.kind = false ∧ p.2.target = k := by
  simp only [List.any_eq_true, Bool.and_eq_true, Bool.not_eq_true', beq_iff_eq, and_assoc]

theorem doJstat_posted (h : d.inHand f q true 2 = some bs) (hposts : ∃ p ∈ (d.fn f).sqs, p.2.en = true ∧ p.2.kind = false ∧ p.2.target = leAt bs 4 1) :
    let j := (d.stream (leAt bs 4 1)).dur.toNat
    d.doJstat f q = d.answerCur f q (leAt bs 2 2) 0 (BitVec.ofNat 32 j) (BitVec.ofNat 32 (j / 2 ^ 32)) := by
  rw [Dev.doJstat, onEntry_inHand h]
  exact if_pos (postsTo_iff.2 hposts)

theorem doJstat_denied (h : d.inHand f q true 2 = some bs) (hposts : ¬ ∃ p ∈ (d.fn f).sqs, p.2.en = true ∧ p.2.kind = false ∧ p.2.target = leAt bs 4 1) :
    d.doJstat f q = d.answerCur f q (leAt bs 2 2) 9 0 0 := by
  rw [Dev.doJstat, onEntry_inHand h]
  exact if_neg (mt postsTo_iff.1 hposts)

theorem doQstat_owned (h : d.inHand f q true 3 = some bs) (hown : d.owns f (leAt bs 4 1) false = true) :
    d.doQstat f q = d.answerCur f q (leAt bs 2 2) 0 ((d.fn f).sq (leAt bs 4 1)).consumed ((d.fn f).sq (leAt bs 4 1)).errs := by
  rw [Dev.doQstat, onEntry_inHand h]
  exact if_pos hown

theorem doQstat_denied (h : d.inHand f q true 3 = some bs) (hown : d.owns f (leAt bs 4 1) false = false) :
    d.doQstat f q = d.answerCur f q (leAt bs 2 2) 9 0 0 := by
  rw [Dev.doQstat, onEntry_inHand h]
  exact if_neg (Bool.eq_false_iff.1 hown)

/-! ## RCLR (R364, R365) -/

theorem doRclr_begins (h : d.inHand f q true 7 = some bs) (hpf : f = 0) (hmark : ((d.fn f).sq q).mark = none) :
    d.doRclr f q = (d.holdEntry f q bs).clearRecorder (leAt bs 4 4) 1 := by
  have hfree : ¬ ((d.fn f).sq q).mark.isSome = true := by rw [hmark]; exact Bool.false_ne_true
  rw [Dev.doRclr, onEntry_inHand h]
  exact (if_neg (not_not_intro hpf)).trans (if_neg hfree)

theorem doRclr_denied (h : d.inHand f q true 7 = some bs) (hvf : f ≠ 0) : d.doRclr f q = d.answerCur f q (leAt bs 2 2) 9 0 0 := by
  rw [Dev.doRclr, onEntry_inHand h]
  exact if_pos hvf

end Entries

/-- Settles O45: each command finds its entry in hand and takes the branch its target, its queue or its function decides. -/
theorem hostCommands : Obligations.HostCommands := by
  unfold Obligations.HostCommands
  intro s fn q bs cid at_ D f n x y hand id arg j ok no mine held c aim put there
  refine ⟨?post, ?postWaits, ?postNoTarget, ?mark, ?markEnd, ?markWaits, ?nop, ?jstat, ?jstatDenied, ?qstat, ?qstatDenied, ?msg, ?msgWaits, ?msgNoTarget,
    ?rread, ?rsnap, ?rclr, ?rclrDenied⟩
  case post => exact fun hin ⟨hown, hen⟩ hroom => becomes_of_run rfl ((doPost_there hin hown hen).trans (if_neg (Bool.eq_false_iff.1 hroom)))
  case postWaits => exact fun hin ⟨hown, hen⟩ hfull => becomes_of_run rfl ((doPost_there hin hown hen).trans (if_pos hfull))
  case postNoTarget => exact fun hin hgone => becomes_of_run rfl (doPost_noTarget hin hgone)
  case mark => exact fun hin => becomes_of_run rfl (onEntry_inHand hin _)
  case markEnd => exact fun hmark hkind hopen => becomes_of_run rfl (doMarkEnd_closed hmark hkind hopen)
  case markWaits => exact fun hopen => becomes_of_run rfl (doMarkEnd_open hopen)
  case nop => exact fun hin => becomes_of_run rfl (onEntry_inHand hin _)
  case jstat => exact fun hin hposts => becomes_of_run rfl (doJstat_posted hin hposts)
  case jstatDenied => exact fun hin hposts => becomes_of_run rfl (doJstat_denied hin hposts)
  case qstat => exact fun hin hown => becomes_of_run rfl (doQstat_owned hin hown)
  case qstatDenied => exact fun hin hown => becomes_of_run rfl (doQstat_denied hin hown)
  case msg => exact fun hin hen hroom => becomes_of_run rfl ((doMsg_there hin hen).trans (if_neg (Bool.eq_false_iff.1 hroom)))
  case msgWaits => exact fun hin hen hfull => becomes_of_run rfl ((doMsg_there hin hen).trans (if_pos hfull))
  case msgNoTarget => exact fun hin hen => becomes_of_run rfl (doMsg_noTarget hin hen)
  case rread => exact fun hin => becomes_of_run rfl (onEntry_inHand hin _)
  case rsnap => exact fun hin => becomes_of_run rfl (onEntry_inHand hin _)
  case rclr => exact fun hin hpf hmark => becomes_of_run rfl (doRclr_begins hin hpf hmark)
  case rclrDenied => exact fun hin hvf => becomes_of_run rfl (doRclr_denied hin hvf)

end Sys2Proof.Proofs

/-! SUPPORT. DMA descriptors: the start of the next one, the move of a running one by its mode, and the record of an ended one (R305, R309, R310, R312, R321). -/

namespace Sys2Proof.Proofs

open Sys2Proof
open Sys2Proof.Machine
open Sys2Proof.Safety

section Descriptors

variable {d : Dev} {e c : Nat}

/-! ## A channel read back -/

@[simp] theorem chan_setChan_self (d : Dev) (e c : Nat) (x : Chan) : (d.setChan e c x).chan e c = x := by
  simp only [Dev.chan, Dev.engine, Dev.setChan_dma, Tab.get_set_self]

/-- An engine serves where its domain is ON, and works on what it has begun where it is DRAINING as well (R328, R380). -/
theorem engineRuns_iff : d.engineRuns e = true ↔ d.domState (91 + e) = 1 ∨ d.domState (91 + e) = 2 := by
  simp only [Dev.engineRuns, Bool.or_eq_true, beq_iff_eq]

/-! ## The start of a descriptor (R305, R309, R313) -/

/-- The channel whose turn it is starts its descriptor, and the turn passes on. -/
theorem descriptorStart_turn {k : Nat} (hon : d.engineOn e = true) (hstop : (d.engine e).stopped = false) (hpf : d.pw.pfail = false)
    (hturn : ((List.range 16).map (fun i => ((d.engine e).turn + i) % 16)).find? (d.canStart e) = some k) :
    d.descriptorStart e = (d.setEngine e { d.engine e with turn := (k + 1) % 16 }).startDesc e k := by
  simp only [Dev.descriptorStart, hon, hstop, hpf, hturn, not_true, Bool.false_eq_true, or_self, if_false]

/-- The channel with the set that is in force at the start: an armed swap comes first (R326). -/
def activeChan (d : Dev) (e c : Nat) : Chan := if (d.chan e c).arm then (d.chan e c).swap else d.chan e c

/-- The channel as a start leaves it: a trigger used up, the epoch update noted (R325). -/
def startChan (d : Dev) (e c : Nat) : Chan :=
  let y := activeChan d e c
  { y with trig := if bits y.apace.toNat 31 30 = 2 then y.trig - 1 else y.trig, startUpd := some d.ep.updates }

/-- Where the next descriptor of a channel lies (R311). -/
def descAddr (d : Dev) (e c : Nat) : Nat := (activeChan d e c).rbase + 64 * (activeChan d e c).head

/-- The status the fetch of the next descriptor ends with, if its region, key and availability checks under the mask in force find one (R314). -/
def fetchFault (d : Dev) (e c : Nat) : Option Nat := d.dmaFault (activeChan d e c).akmask [(false, descAddr d e c, 64)]

/-- The machine after a descriptor that ended at its start. -/
def endedAtStart (d : Dev) (e c : Nat) (bs : List Byte) (st why : Nat) : Dev :=
  d.setChan e c ((startChan d e c).endDesc { data := bs, idx := (activeChan d e c).head, status := st, reason := why })

/-- The pacing mode is the two top bits of CH_PACE. -/
theorem bits_pacing (w : Word) : bits w.toNat 31 30 = w.toNat / 2 ^ 30 :=
  (bits_eq_div_mod _ _ _).trans (Nat.mod_eq_of_lt (Nat.div_lt_of_lt_mul w.isLt))

theorem startDesc_unreached {st : Nat} (h : fetchFault d e c = some st) : d.startDesc e c = endedAtStart d e c [] st 0 := by
  unfold Dev.startDesc
  extract_lets x0 x1 x a fin
  rw [show d.dmaFault x.akmask [(false, a, 64)] = some st from h]
  rfl

theorem startDesc_poisoned (h : fetchFault d e c = none) (hp : d.poisoned (descAddr d e c) 64 = true) : d.startDesc e c = endedAtStart d e c [] 7 0 := by
  unfold Dev.startDesc
  extract_lets x0 x1 x a fin
  rw [show d.dmaFault x.akmask [(false, a, 64)] = none from h]
  exact if_pos hp

/-- How a descriptor that was read comes out: by its parity, then by its checks (R309, R313). -/
def startVerdict (d : Dev) (e c : Nat) (bs : List Byte) : DmaStart :=
  if (leAt bs 1 1).testBit 0 ≠ (activeChan d e c).par then .ends 2 0 else d.checkDesc (startChan d e c) bs

/-- The machine after a descriptor that was read: ended, or running with its field table. -/
def startedAs (d : Dev) (e c : Nat) (bs : List Byte) : DmaStart → Dev
  | .ends st why => endedAtStart d e c bs st why
  | .run tab => d.setChan e c { startChan d e c with cur := [{ data := bs, idx := (activeChan d e c).head, fields := tab }] }

theorem startVerdict_wrongParity {bs : List Byte} (h : (leAt bs 1 1).testBit 0 ≠ (activeChan d e c).par) : startVerdict d e c bs = .ends 2 0 := if_pos h

theorem startVerdict_checked {bs : List Byte} (h : (leAt bs 1 1).testBit 0 = (activeChan d e c).par) : startVerdict d e c bs = d.checkDesc (startChan d e c) bs :=
  if_neg (not_not_intro h)

theorem startDesc_read (h : fetchFault d e c = none) (hp : d.poisoned (descAddr d e c) 64 = false) :
    d.startDesc e c = startedAs d e c (d.bytes (descAddr d e c) 64) (startVerdict d e c (d.bytes (descAddr d e c) 64)) := by
  unfold Dev.startDesc
  extract_lets x0 x1 x a fin bs
  change _ = startedAs d e c bs (startVerdict d e c bs)
  rw [show d.dmaFault x.akmask [(false, a, 64)] = none from h]
  refine (if_neg (Bool.eq_false_iff.1 hp)).trans ?_
  by_cases hpar : (leAt bs 1 1).testBit 0 = (activeChan d e c).par
  · rw [startVerdict_checked hpar, show startChan d e c = x from rfl]
    refine (if_neg (not_not_intro hpar)).trans ?_
    cases d.checkDesc x bs with
    | run tab => rfl
    | ends st why => rfl
  · rw [startVerdict_wrongParity hpar]
    exact if_pos hpar

/-- The check of the form comes first (R313). -/
theorem checkDesc_malformed {x : Chan} {bs : List Byte} (h : descFormOk bs = false) : d.checkDesc x bs = .ends 1 1 := if_pos (Bool.eq_false_iff.1 h)

/-! ## The move of a running descriptor (R307, R312, R321) -/

/-- A running descriptor as its move leaves it: status, count and flags (R321, R323). -/
def movedDesc (r : Dcur) (m : DmaMove) : Dcur :=
  { r with status := m.status, count := m.count, dflags := m.fl.toWord.toNat, flags := (if m.wrote && (dmaDesc r.data).flags.testBit 3 then 2 else 0) + (if m.sub then 4 else 0) }

/-- A descriptor names host memory, among its sources or its destinations. -/
def NamesHost (r : Dcur) : Prop :=
  ∃ t ∈ descSrc (dmaDesc r.data) (r.fields.map dmaField) ++ descDst (dmaDesc r.data) (r.fields.map dmaField), t.host = true

section Running

variable {r : Dcur} {mode : Nat} {data : List Byte} (hruns : d.engineRuns e = true) (hstop : (d.engine e).stopped = false)
  (hcur : (d.chan e c).cur.find? (fun t => t.run) = some r) (hmode : (dmaDesc r.data).mode = mode)
include hruns hstop hcur hmode

/-- A fault met outside stops the engine (R329). -/
theorem runDesc_bus (k : BitVec 4) (a : DWord) : d.runDesc e c mode data (.bus k a) = d.busStop e k.toNat a.toNat := by
  simp only [Dev.runDesc, hcur, hruns, hstop, hmode, not_true, ne_eq, Bool.false_eq_true, or_self, if_false]

/-- Host memory needs a valid binding when it is reached (R307). -/
theorem runDesc_unbound (hhost : NamesHost r) (hbound : d.bound (d.chan e c) = false) :
    d.runDesc e c mode data .none = d.setChan e c ((d.chan e c).endDesc { r with status := 0xB }) := by
  simp only [Dev.runDesc, hcur, hruns, hstop, hmode, not_true, ne_eq, Bool.false_eq_true, or_self, if_false]
  exact if_pos ⟨List.any_eq_true.2 hhost, Bool.eq_false_iff.1 hbound⟩

theorem runDesc_moved (hbound : NamesHost r → d.bound (d.chan e c) = true) :
    let m := d.moveData ((d.chan e c).auth.toNat % 64) (dmaDesc r.data) (r.fields.map dmaField) data
    d.runDesc e c mode data .none = m.d.setChan e c ((d.chan e c).endDesc (movedDesc r m)) := by
  simp only [Dev.runDesc, hcur, hruns, hstop, hmode, not_true, ne_eq, Bool.false_eq_true, or_self, if_false, bits_zero]
  exact if_neg fun ⟨hhost, hopen⟩ => hopen (hbound (List.any_eq_true.1 hhost))

end Running

section Moves

variable {fn : Nat} {q : DmaDesc} {fs : List DmaField} {data : List Byte}

/-! ## The move of each mode (R312) -/

theorem moveData_nop (h : q.mode = 0) : d.moveData fn q fs data = { d := d } := by simp only [Dev.moveData, h]
theorem moveData_copy (h : q.mode = 1) : d.moveData fn q fs data = d.moveBytes fn q data := by simp only [Dev.moveData, h]
theorem moveData_fill (h : q.mode = 2) : d.moveData fn q fs data = d.moveBytes fn q data := by simp only [Dev.moveData, h]
theorem moveData_convert (h : q.mode = 3) : d.moveData fn q fs data = d.moveConvert fn q data := by simp only [Dev.moveData, h]
theorem moveData_prism (h : q.mode = 4) : d.moveData fn q fs data = d.movePrism fn q fs data := by simp only [Dev.moveData, h]
theorem moveData_prismr (h : q.mode = 5) : d.moveData fn q fs data = d.movePrismr fn q fs := by simp only [Dev.moveData, h]
theorem moveData_jexport (h : q.mode = 6) : d.moveData fn q fs data = d.moveExport fn q := by simp only [Dev.moveData, h]

/-! ## COPY, FILL and JEXPORT (R315, R320) -/

/-- A COPY whose bytes can all be read and written moves them all. -/
theorem moveBytes_copy (hmode : q.mode = 1) (h : ∀ i, i < q.len → d.dmaReadFault q.sh (q.src + i) 1 = none ∧ d.dmaWriteFault q.dh (q.dst + i) 1 = none) :
    d.moveBytes fn q data = { d := d.dmaPut fn q.dh q.dst (if q.sh then padTo q.len data else d.bytes q.src q.len), count := q.len, wrote := q.len != 0 } := by
  have hnone : (List.range q.len).find? (fun i => ((d.dmaReadFault q.sh (q.src + i) 1).or (d.dmaWriteFault q.dh (q.dst + i) 1)).isSome) = none :=
    List.find?_eq_none.2 fun i hi => by
      obtain ⟨hread, hwrite⟩ := h i (List.mem_range.1 hi)
      simp only [hread, hwrite, Option.or_none, Option.isSome_none, Bool.false_eq_true, not_false_eq_true]
  have hfill : ¬ q.mode = 2 := by omega
  simp only [Dev.moveBytes, hfill, if_false, hnone, Option.getD_none, if_true, Dev.dmaGet, List.drop_zero, Nat.add_zero]

/-- A FILL whose bytes can all be written repeats its pattern over its range. -/
theorem moveBytes_fill (hmode : q.mode = 2) (h : ∀ i, i < q.len → d.dmaWriteFault q.dh (q.dst + i) 1 = none) :
    d.moveBytes fn q data = { d := d.dmaPut fn q.dh q.dst ((List.range q.len).map (fun i => BitVec.ofNat 8 (q.src / 256 ^ (i % 8)))), count := q.len, wrote := q.len != 0 } := by
  have hnone : (List.range q.len).find? (fun i => ((none : Option Nat).or (d.dmaWriteFault q.dh (q.dst + i) 1)).isSome) = none :=
    List.find?_eq_none.2 fun i hi => by simp only [h i (List.mem_range.1 hi), Option.or_none, Option.isSome_none, Bool.false_eq_true, not_false_eq_true]
  simp only [Dev.moveBytes, hmode, if_true, hnone, Option.getD_none]

/-- A record that is not yet durable stops JEXPORT (R320). -/
theorem moveExport_early (hlen : q.len = 1) (h : (d.stream q.sel).dur.toNat < q.src) : d.moveExport fn q = { d := d, fn := fn, status := 9 } := by
  simp only [Dev.moveExport, hlen, List.range_one, List.foldl_cons, List.foldl_nil, ne_eq, not_true, if_false, Nat.add_zero]
  exact if_pos h

end Moves

/-! ## Completion records (R310, R321) -/

/-- The machine once a waiting record has left its channel's list. -/
def recordTaken (d : Dev) (e c : Nat) (w : Dcur) : Dev := d.setChan e c { d.chan e c with cur := (d.chan e c).cur.erase w }

theorem nextRecord_slot {w : Dcur} (hcur : (d.chan e c).cur.find? (fun t => !t.run) = some w) (hslot : (d.chan e c).cn ≤ (d.chan e c).csize) :
    let p := (recordTaken d e c w).writeRecord e c w
    d.nextRecord e c = p.1.afterRecord e c w p.2 := by
  have hfree : (d.chan e c).slotFree = true := decide_eq_true hslot
  simp only [Dev.nextRecord, hcur, hfree, not_true, if_false, recordTaken]

theorem nextRecord_full (h : (d.chan e c).csize < (d.chan e c).cn) : d.nextRecord e c = d := by
  have hfull : (d.chan e c).slotFree = false := decide_eq_false (Nat.not_le.2 h)
  cases hcur : (d.chan e c).cur.find? (fun t => !t.run) with
  | none => simp only [Dev.nextRecord, hcur]
  | some w => simp only [Dev.nextRecord, hcur, hfull, Bool.false_eq_true, not_false_eq_true, if_true]

/-- A record that can be stored in the device takes slot CTAIL. -/
theorem writeRecord_device {w : Dcur} (hdev : (d.chan e c).chost = false)
    (h : d.dmaFault (d.chan e c).akmask [(true, (d.chan e c).cbase % 2 ^ 46 + 16 * (d.chan e c).ctail, 16)] = none) :
    let x := d.chan e c
    let t := (x.ctail + 1) % (x.csize + 1)
    d.writeRecord e c w = ((d.put (x.cbase % 2 ^ 46 + 16 * x.ctail) (x.recordBytes w)).setChan e c
      { x with ctail := t, cn := x.cn + 1, phase := if t = 0 then !x.phase else x.phase }, true) := by
  simp only [Dev.writeRecord, hdev, Bool.false_eq_true, if_false, h, Option.isSome_none]

end Descriptors

/-- Settles O47: the channel whose turn it is starts its descriptor as its fetch and its checks come out, a running one is moved by its mode, and a waiting record takes a free slot. -/
theorem dmaDescriptors : Obligations.DmaDescriptors := by
  unfold Obligations.DmaDescriptors
  intro s e c k r w data fs st why kind at_ D g n engine x q tab runs found host works fn ends reads takes E y0 y z a bs next good par done took p
  have hz : z = startChan E g k := by
    show _ = { y with trig := if bits y.apace.toNat 31 30 = 2 then y.trig - 1 else y.trig, startUpd := some D.ep.updates }
    rw [bits_pacing]
  have hdone : ∀ s1 s2 t, endedAtStart E g k t s1 s2 = done s1 s2 t := fun s1 s2 t =>
    congrArg (fun u : Chan => E.setChan g k (u.endDesc { data := t, idx := y.head, status := s1, reason := s2 })) hz.symm
  have hnext : ∀ {d}, next → E.startDesc g k = d → Becomes (.descriptorStart e) s d := fun ⟨hon, hstop, hpf, hturn⟩ hd =>
    becomes_of_run rfl ((descriptorStart_turn hon hstop hpf hturn).trans hd)
  have hread : ∀ {v}, next → good → startVerdict E g k bs = v → Becomes (.descriptorStart e) s (startedAs E g k bs v) := fun hn ⟨hreach, hp⟩ hv =>
    hnext hn ((startDesc_read hreach hp).trans (congrArg _ hv))
  have hends : ∀ {s1 s2}, next → good → startVerdict E g k bs = .ends s1 s2 → Becomes (.descriptorStart e) s (done s1 s2 bs) := fun hn hg hv =>
    hdone _ _ _ ▸ hread hn hg hv
  have hmoved : works → ∀ {mode m}, q.mode = mode → D.moveData fn q tab data = m → D.runDesc g n mode data .none = ends m :=
    fun ⟨⟨hruns, hstop, hcur⟩, hbound⟩ _ _ hmode hm => (runDesc_moved (engineRuns_iff.2 hruns) hstop hcur hmode hbound).trans (congrArg ends hm)
  refine ⟨?parity, ?form, ?refused, ?started, ?unreached, ?poisoned, ?unbound, ?bus, ?nop, ?copy, ?fill, ?convert, ?prism, ?prismr, ?jexport,
    ?copied, ?filled, ?early, ?record, ?full, ?slot⟩
  case parity => exact fun hn hg hpar => hends hn hg (startVerdict_wrongParity hpar)
  case form => exact fun hn hg hpar hform => hends hn hg ((startVerdict_checked hpar).trans (checkDesc_malformed hform))
  case refused => exact fun hn hg hpar hcheck => hends hn hg ((startVerdict_checked hpar).trans (hz ▸ hcheck))
  case started =>
    intro hn hg hpar hcheck
    rw [hz] at hcheck ⊢
    exact hread hn hg ((startVerdict_checked hpar).trans hcheck)
  case unreached => exact fun hn hfault => hnext hn ((startDesc_unreached hfault).trans (hdone st 0 []))
  case poisoned => exact fun hn hreach hp => hnext hn ((startDesc_poisoned hreach hp).trans (hdone 7 0 []))
  case unbound => exact fun ⟨hruns, hstop, hcur⟩ hm hhost hbound => becomes_of_run rfl (runDesc_unbound (engineRuns_iff.2 hruns) hstop hcur hm hhost hbound)
  case bus => exact fun ⟨hruns, hstop, hcur⟩ hm hkind => becomes_of_run rfl ((runDesc_bus (engineRuns_iff.2 hruns) hstop hcur hm kind at_).trans (if_pos hkind))
  case nop => exact fun hw hm => becomes_of_run rfl (hmoved hw hm (moveData_nop hm))
  case copy => exact fun hw hm => becomes_of_run rfl (hmoved hw hm (moveData_copy hm))
  case fill => exact fun hw hm => becomes_of_run rfl (hmoved hw hm (moveData_fill hm))
  case convert => exact fun hw hm => becomes_of_run rfl (hmoved hw hm (moveData_convert hm))
  case prism => exact fun hw hm => becomes_of_run rfl (hmoved hw hm (moveData_prism hm))
  case prismr => exact fun hw hm => becomes_of_run rfl (hmoved hw hm (moveData_prismr hm))
  case jexport => exact fun hw hm => becomes_of_run rfl (hmoved hw hm (moveData_jexport hm))
  case copied => exact moveBytes_copy
  case filled => exact moveBytes_fill
  case early => exact moveExport_early
  case record => exact fun hruns hcur hslot => becomes_of_run rfl ((if_pos (engineRuns_iff.2 hruns)).trans (nextRecord_slot hcur hslot))
  case full =>
    intro hfull
    have hstay : D.nextRecord g n = D := nextRecord_full hfull
    exact becomes_of_run rfl (show (if D.engineRuns g = true then D.nextRecord g n else D) = D by rw [hstay, ite_self])
  case slot =>
    intro _ hdev hreach
    have hx : took.chan g n = { x with cur := x.cur.erase w } := chan_setChan_self _ _ _ _
    have hwritten := writeRecord_device (d := took) (e := g) (c := n) (w := w) (by rw [hx]; exact hdev) (by rw [hx]; exact hreach)
    simp only [p, hwritten, chan_setChan_self, hx, and_self]

end Sys2Proof.Proofs

/-! SUPPORT. DMA channel registers: a write that reaches its channel, by its offset, and the swap of a shadow set (R306, R308, R310, R311, R326 to R330). -/

namespace Sys2Proof.Proofs

open Sys2Proof
open Sys2Proof.Machine
open Sys2Proof.Safety

section Channels

variable {d : Dev} {e c v : Nat}

@[simp] theorem setChan_setChan (d : Dev) (e c : Nat) (x y : Chan) : (d.setChan e c x).setChan e c y = d.setChan e c y := by
  simp only [Dev.setChan, Dev.setEngine, Dev.engine, Tab.get_set_self, Tab.set_set]

/-- Which writers reach a register does not rest on the DMA channels. -/
theorem allowed_setChan (d : Dev) (e c : Nat) (x : Chan) (who : Agent) (off : Nat) (store : Bool) : (d.setChan e c x).allowed who off store = d.allowed who off store := by
  cases who <;> rfl

theorem engineOn_setChan (d : Dev) (e c : Nat) (x : Chan) (g : Nat) : (d.setChan e c x).engineOn g = d.engineOn g := rfl

/-- A write reaches a channel register: the engine is ON and the access rules admit the writer. -/
def Reaches (d : Dev) (who : Agent) (e c off : Nat) : Prop := d.engineOn e = true ∧ d.allowed who (chanOff e c off) true = true

theorem chanWrite_reached {who : Agent} {off : Nat} (h : Reaches d who e c off) : d.chanWrite who e c off v = d.writeChan who e c off v :=
  if_pos (Bool.and_eq_true_iff.2 h.symm)

/-- A command that writes a channel register does so where the write reaches it. -/
theorem becomes_of_chanWrite {i : Instr} {s : State} {who : Agent} {e c off v : Nat} {d : Dev} (hi : exec i s = .next (s.run (fun d => d.chanWrite who e c off v)))
    (h : Reaches s.dev who e c off) (hd : s.dev.writeChan who e c off v = d) : Becomes i s d :=
  becomes_of_run hi ((chanWrite_reached h).trans hd)

/-! ## Doorbells (R308, R310) -/

theorem writeChead_beyond (h : (d.chan e c).csize < v) : d.writeChead e c v = d.setEngine e { d.engine e with dberr := satAdd (d.engine e).dberr 1 } :=
  if_neg fun hin => Nat.not_le.2 h hin.1

theorem writeTail_beyond (h : (d.chan e c).rsize < v) : d.writeTail e c v = (d.setEngine e { d.engine e with dberr := satAdd (d.engine e).dberr 1 }).setChan e c
    { d.chan e c with lastSt := 3, cur := (d.chan e c).cur ++ [{ idx := 0xFFFF, run := false, status := 3, count := v, ccnt := (d.chan e c).ccnt, answer := true }] } :=
  if_neg fun hin => Nat.not_le.2 h hin.1

/-! ## Ring registers, enable and stop (R311, R326, R328) -/

section Stop

variable {x : Chan}

theorem config_enabled (off : Nat) (h : x.state ≠ 0) : x.config off v = x := if_pos h

theorem config_rsize (h : x.state = 0) : x.config 0x10 v = { x with rsize := Nat.max 7 (v % 65536), head := 0, tail := 0, par := true } := by
  simp only [Chan.config, h, bits_zero]
  rfl

theorem config_csize (h : x.state = 0) : x.config 0x20 v = { x with csize := Nat.max 7 (v % 65536), chead := 0, ctail := 0, cn := 0, phase := true } := by
  simp only [Chan.config, h, bits_zero]
  rfl

theorem enable_closed (h : x.state = 0 ∨ x.state = 6) :
    x.enable = { x with en := true, state := 1, apace := x.pace, akmask := x.kmask, anote := x.note, startUpd := none } := if_pos h

/-- No descriptor of the channel runs. -/
theorem not_any_run (h : ∀ r ∈ x.cur, r.run = false) : ¬ x.cur.any (fun r => r.run) = true := fun hrun => by
  obtain ⟨r, hr, hon⟩ := List.any_eq_true.1 hrun
  exact Bool.false_ne_true ((h r hr).symm.trans hon)

theorem stopRequest_closed (h : x.state = 0 ∨ x.state = 7) : x.stopRequest = { x with en := false } := if_pos h

theorem stopRequest_idle (h0 : x.state ≠ 0) (h7 : x.state ≠ 7) (h : ∀ r ∈ x.cur, r.run = false) :
    x.stopRequest = if x.arm then { x with en := false, state := 0, apace := x.pace, akmask := x.kmask, anote := x.note, arm := false } else { x with en := false, state := 0 } := by
  have hstop : x.stopRequest = ({ x with en := false } : Chan).stopped := (if_neg (not_or.2 ⟨h0, h7⟩)).trans (if_neg (not_any_run h))
  rw [hstop, Chan.stopped]
  split <;> rfl

theorem stopRequest_running (h0 : x.state ≠ 0) (h7 : x.state ≠ 7) (h : ∃ r ∈ x.cur, r.run = true) : x.stopRequest = { x with en := false, state := 5 } :=
  (if_neg (not_or.2 ⟨h0, h7⟩)).trans (if_pos (List.any_eq_true.2 h))

end Stop

/-! ## CH_AUTH and CH_SHCTL (R306, R326) -/

theorem writeAuth_atM {who : Agent} (h : d.atM who = true) (v : Word) : d.writeAuth who e c v.toNat = d.setChan e c { d.chan e c with auth := v &&& 0xC000003F } := by
  rw [Dev.writeAuth, if_pos h, BitVec.ofNat_toNat, BitVec.setWidth_eq]

theorem writeAuth_below {who : Agent} (h : d.atM who = false) : d.writeAuth who e c v = d.setEngine e { d.engine e with refuse := satAdd (d.engine e).refuse 1 } :=
  if_neg (Bool.eq_false_iff.1 h)

theorem writeChan_arm (who : Agent) : d.writeChan who e c 0x4C 0xC0000000 = d.setChan e c { d.chan e c with arm := true } := by
  have hlate : ((d.chan e c).late && bit 0xC0000000 30) = (d.chan e c).late := Bool.and_true _
  simp only [Dev.writeChan, hlate]
  rfl

/-! ## The swap (R326, R327) -/

theorem shadowSwap_unarmed (h : (d.chan e c).arm = false) : d.shadowSwap e c = d := if_neg fun hswap => Bool.false_ne_true (h.symm.trans hswap.2.1)

theorem swapWith_unarmed (h : (d.chan e c).arm = false) (late : Option (Agent × BitVec 8 × Word)) : d.swapWith e c late = d := by
  cases late with
  | none => exact shadowSwap_unarmed h
  | some w => exact if_neg fun hswap => Bool.false_ne_true (h.symm.trans hswap.2.1)

section Swap

variable (hst : (d.chan e c).state = 1) (harm : (d.chan e c).arm = true) (hidle : ∀ r ∈ (d.chan e c).cur, r.run = false)
include hst harm hidle

theorem shadowSwap_due : d.shadowSwap e c = d.setChan e c (d.chan e c).swap := if_pos ⟨hst, harm, not_any_run hidle⟩

/-- A write of CH_PACE in the cycle of a swap stays in the shadow set and arms the next swap. -/
theorem swapWith_latePace {who : Agent} (hreach : Reaches d who e c 0x40) (v : Word) :
    d.swapWith e c (some (who, 0x40, v)) = d.setChan e c { (d.chan e c).swap with pace := v, arm := true, late := true } := by
  have hswap : d.swapWith e c (some (who, 0x40, v)) = (d.shadowSwap e c).lateWrite who e c 0x40 v.toNat := if_pos ⟨hst, harm, not_any_run hidle⟩
  obtain ⟨hon, hallow⟩ := hreach
  rw [hswap, shadowSwap_due hst harm hidle, Dev.lateWrite, allowed_setChan, engineOn_setChan, hon, hallow]
  simp only [Dev.writeChan, chan_setChan_self, setChan_setChan, BitVec.ofNat_toNat, BitVec.setWidth_eq]
  rfl

end Swap

end Channels

/-- Settles O46: each register write that reaches its channel takes the branch the channel's state decides; swaps, bus errors and the restart likewise. -/
theorem dmaChannelSetUp : Obligations.DmaChannelSetUp := by
  unfold Obligations.DmaChannelSetUp
  intro s who e c k v a D g n x w engine on reach sets bad away eaten runs quiet
  refine ⟨?tail, ?tailBeyond, ?chead, ?cheadBeyond, ?rsize, ?csize, ?configEnabled, ?enable, ?stopIdle, ?stopClosed, ?stopRunning, ?auth, ?authRefused, ?trig, ?arm,
    ?swap, ?swapLate, ?unarmed, ?restart, ?bus, ?noBus⟩
  case tail => exact fun hr hv hmove => becomes_of_chanWrite rfl hr (if_pos ⟨hv, hmove⟩)
  case tailBeyond => exact fun hr hv => becomes_of_chanWrite rfl hr (writeTail_beyond hv)
  case chead => exact fun hr hv hheld => becomes_of_chanWrite rfl hr (if_pos ⟨hv, hheld⟩)
  case cheadBeyond => exact fun hr hv => becomes_of_chanWrite rfl hr (writeChead_beyond hv)
  case rsize => exact fun hr hst => becomes_of_chanWrite rfl hr (congrArg sets (config_rsize hst))
  case csize => exact fun hr hst => becomes_of_chanWrite rfl hr (congrArg sets (config_csize hst))
  case configEnabled => exact fun hr hst => becomes_of_chanWrite rfl hr (congrArg sets (config_enabled 0x10 hst))
  case enable => exact fun hr hst => becomes_of_chanWrite rfl hr (congrArg sets (enable_closed hst))
  case stopIdle => exact fun hr ⟨h7, hidle⟩ h0 => becomes_of_chanWrite rfl hr (congrArg sets (stopRequest_idle h0 h7 hidle))
  case stopClosed => exact fun hr hst => becomes_of_chanWrite rfl hr (congrArg sets (stopRequest_closed hst))
  case stopRunning => exact fun hr h0 h7 hrun => becomes_of_chanWrite rfl hr (congrArg sets (stopRequest_running h0 h7 hrun))
  case auth => exact fun hr hm => becomes_of_chanWrite rfl hr (writeAuth_atM hm v)
  case authRefused => exact fun hr hm => becomes_of_chanWrite rfl hr (writeAuth_below hm)
  case trig => exact fun hr hst => becomes_of_chanWrite rfl hr (if_pos hst)
  case arm => exact fun hr => becomes_of_chanWrite rfl hr (writeChan_arm who)
  case swap => exact fun hst harm ⟨_, hidle⟩ => becomes_of_run rfl (shadowSwap_due hst harm hidle)
  case swapLate => exact fun hst harm ⟨_, hidle⟩ hr => becomes_of_run rfl (swapWith_latePace hst harm hidle hr v)
  case unarmed => exact fun harm late => becomes_of_run rfl (swapWith_unarmed harm late)
  case restart =>
    intro hon hallow hstop
    exact becomes_of_run rfl ((if_pos (Bool.and_eq_true_iff.2 ⟨hallow, hon⟩)).trans (if_neg (not_not_intro hstop)))
  case bus =>
    intro hruns hkind
    exact becomes_of_run rfl ((if_pos (engineRuns_iff.2 hruns)).trans (if_pos hkind))
  case noBus =>
    intro hno
    refine becomes_of_run rfl ?_
    by_cases hruns : runs
    · exact (if_pos (engineRuns_iff.2 hruns)).trans (if_neg fun hkind => hno ⟨hruns, hkind⟩)
    · exact if_neg (mt engineRuns_iff.1 hruns)

end Sys2Proof.Proofs

/-! SUPPORT. The Derrik ports: training and draining, the arrival of a frame, held postings, and the store to XM_SEND, each under the conditions that choose its branch (R334 to R352). -/

namespace Sys2Proof.Proofs

open Sys2Proof
open Sys2Proof.Machine
open Sys2Proof.Safety

section Links

variable {d : Dev} {p : Nat} {bs : List Byte}

/-! ## Training and draining (R334, R335, R352) -/

theorem enablePort_trains (hon : d.powered (86 + p) = true) (hst : (d.port p).state = 0 ∨ (d.port p).state = 5) (hdrain : (d.port p).drain = false) :
    d.enablePort p = ((d.setPort p { (d.port p).fresh with en := true, state := 1, peer := false }).unfeed p).unstomp p :=
  (if_neg (not_not_intro hon)).trans (if_pos ⟨hst, Bool.eq_false_iff.1 hdrain⟩)

theorem enablePort_busy (hon : d.powered (86 + p) = true) (hbusy : ¬ (((d.port p).state = 0 ∨ (d.port p).state = 5) ∧ (d.port p).drain = false)) :
    d.enablePort p = d.setPort p { d.port p with en := true } :=
  (if_neg (not_not_intro hon)).trans (if_neg fun h => hbusy ⟨h.1, Bool.eq_false_iff.2 h.2⟩)

theorem enablePort_unpowered (hoff : ¬ d.powered (86 + p) = true) : d.enablePort p = d := if_pos hoff

/-- In training, a frame that fails a check, or is no HELLO, is answered by a HELLO and ends nothing. -/
theorem trained_unmet (hst : (d.port p).state = 1 ∨ (d.port p).state = 2) (hbad : d.frameFault p bs ≠ none ∨ leAt bs 0 1 ≠ 0x12) :
    d.trained p bs = (d.setPort p { d.port p with state := 2 }).sendHello p :=
  (if_neg (not_not_intro hst)).trans (if_pos (hbad.imp_left Option.isSome_iff_ne_none.2))

theorem retrain_up (hst : (d.port p).state = 3) :
    d.retrain p = (d.setPort p { d.port p with state := 1, peer := false, retrained := true, retrains := satAdd (d.port p).retrains 1 }).record (0x5000 + p) 0x20 [] :=
  if_neg (not_not_intro hst)

theorem drainPort_unnamed (hon : d.powered (86 + p) = true) (hfree : d.slotNaming p = none) :
    d.drainPort p = d.setPort p { d.port p with drain := true, state := if (d.port p).state = 5 then 5 else 4, peer := false } :=
  (if_neg (not_not_intro hon)).trans (if_neg fun hsome => Option.isSome_iff_ne_none.1 hsome hfree)

theorem drainPort_named (hon : d.powered (86 + p) = true) (hnamed : d.slotNaming p ≠ none) : d.drainPort p = d.setPort p { d.port p with refused := true } :=
  (if_neg (not_not_intro hon)).trans (if_pos (Option.isSome_iff_ne_none.2 hnamed))

theorem drainPort_unpowered (hoff : ¬ d.powered (86 + p) = true) : d.drainPort p = d := if_pos hoff

theorem drainedPort_draining (hst : (d.port p).state = 4) :
    d.drainedPort p = (d.port p).txq.foldl (fun (e : Dev) f => e.freeFrame f) ((d.setPort p { d.port p with state := 5, retry := [], txq := [] }).unstomp p) :=
  if_neg (not_not_intro hst)

/-! ## A frame that arrives (R337, R338, R343) -/

/-- A port that is UP or DRAINING takes the frame in: it awaits no resend, or this is the frame resent. -/
def Heeds (d : Dev) (p : Nat) (bs : List Byte) : Prop :=
  ((d.port p).state = 3 ∨ (d.port p).state = 4) ∧ ((d.port p).resend = false ∨ (frameOf bs).lseq = (d.port p).rxNext)

/-- Whether a frame is taken as one of a sequenced TYPE; a reserved TYPE counts as one (log entry 57). -/
def sequenced (bs : List Byte) : Bool := seqType (leAt bs 0 1) || (typeShape (leAt bs 0 1)).isNone

theorem listens_iff {x : Port} : x.listens = true ↔ x.state = 3 ∨ x.state = 4 := by
  simp only [Port.listens, Bool.or_eq_true, beq_iff_eq]

/-- A frame whose header is whole fails check 0x02 where its TYPE is reserved, before any other. -/
theorem frameFault_reserved (hwhole : frameIntact bs = true) (htype : typeShape (leAt bs 0 1) = none) : d.frameFault p bs = some 2 := by
  have hheader : d.headerFault p bs = some 2 := by rw [Dev.headerFault, htype]
  rw [Dev.frameFault, if_neg (not_not_intro hwhole), hheader]

theorem sequenced_of_type {t : Nat} (htype : leAt bs 0 1 = t) : sequenced bs = (seqType t || (typeShape t).isNone) := by
  rw [sequenced, htype]

theorem sequenced_of_reserved (htype : typeShape (leAt bs 0 1) = none) : sequenced bs = true := by
  rw [sequenced, htype, Option.isNone_none, Bool.or_true]

/-- A frame that is heeded is not among those discarded while a resend is awaited. -/
theorem Heeds.not_discarded (h : Heeds d p bs) : ¬ (sequenced bs = true ∧ (d.port p).resend = true ∧ (frameOf bs).lseq ≠ (d.port p).rxNext) :=
  fun ⟨_, hresend, hother⟩ => h.2.elim (Bool.eq_false_iff.1 · hresend) hother

/-- The machine in which a frame has used up its LSEQ and holds its units of the receive buffer (R337, R339). -/
def accepted (d : Dev) (p : Nat) (bs : List Byte) : Dev :=
  let f := frameOf bs
  let y := (d.port p).consume f.lseq
  d.setPort p (if f.vl = 0 then { y with used0 := y.used0 + f.units } else { y with used1 := y.used1 + f.units })

section Receive

variable {take : Dev → Frame → Dev} {r : Nat} (hin : Heeds d p bs)
include hin

theorem receive_stomped (hstomp : leAt bs (bs.length - 12) 1 = 0x5A) :
    d.receive p bs take = (d.setPort p { d.port p with stomps := satAdd (d.port p).stomps 1 }).record (0x5000 + p) 0x21 [] :=
  (if_neg (not_not_intro (listens_iff.2 hin.1))).trans (if_pos hstomp)

variable (hwhole : leAt bs (bs.length - 12) 1 ≠ 0x5A)
include hwhole

/-- A frame that is heeded and not stomped comes to the checks of Table 11.5: it is refused with the first that fails, or taken up. -/
theorem receive_checked : d.receive p bs take = (d.frameFault p bs).elim
    (if sequenced bs = true then ((take (accepted d p bs) { frameOf bs with feeder := some p }).unstomp p).sendAck p else take d (frameOf bs))
    (fun r => (if sequenced bs = true then d.stompOnward p bs r else d).refuseFrame p (frameOf bs) r (sequenced bs)) := by
  refine (if_neg (not_not_intro (listens_iff.2 hin.1))).trans ((if_neg hwhole).trans ((if_neg hin.not_discarded).trans ?_))
  cases d.frameFault p bs with
  | none => exact ite_not _ _ _
  | some r => rfl

theorem receive_refused (hseq : sequenced bs = true) (hfault : d.frameFault p bs = some r) :
    d.receive p bs take = (d.stompOnward p bs r).refuseFrame p (frameOf bs) r true := by
  rw [receive_checked hin hwhole, hfault, Option.elim_some, if_pos hseq, hseq]

theorem receive_unsequenced (hseq : sequenced bs = false) (hpass : d.frameFault p bs = none) : d.receive p bs take = take d (frameOf bs) := by
  rw [receive_checked hin hwhole, hpass, Option.elim_none, if_neg (Bool.eq_false_iff.1 hseq)]

theorem receive_sequenced (hseq : sequenced bs = true) (hpass : d.frameFault p bs = none) :
    d.receive p bs take = ((take (accepted d p bs) { frameOf bs with feeder := some p }).unstomp p).sendAck p := by
  rw [receive_checked hin hwhole, hpass, Option.elim_none, if_pos hseq]

end Receive

/-- A command of a TYPE takes in a frame of that TYPE. -/
theorem becomes_of_frame {c : Instr} {s : State} {t : Nat} {take : Dev → Frame → Dev} {e : Dev} (hc : exec c s = .next (s.run (fun d => d.frameIn p bs t take)))
    (htype : leAt bs 0 1 = t) (he : s.dev.receive p bs take = e) : Becomes c s e :=
  becomes_of_run hc ((if_pos htype).trans he)

section Taken

variable {c : Instr} {s : State} {t : Nat} {take : Dev → Frame → Dev} (hc : exec c s = .next (s.run (fun d => d.frameIn p bs t take)))
include hc

theorem becomes_of_sequenced (ht : (seqType t || (typeShape t).isNone) = true) (htype : leAt bs 0 1 = t)
    (hgood : Heeds s.dev p bs ∧ leAt bs (bs.length - 12) 1 ≠ 0x5A ∧ s.dev.frameFault p bs = none) :
    Becomes c s (((take (accepted s.dev p bs) { frameOf bs with feeder := some p }).unstomp p).sendAck p) :=
  let ⟨hin, hwhole, hpass⟩ := hgood
  becomes_of_frame hc htype (receive_sequenced hin hwhole ((sequenced_of_type htype).trans ht) hpass)

theorem becomes_of_unsequenced (ht : (seqType t || (typeShape t).isNone) = false) (htype : leAt bs 0 1 = t)
    (hgood : Heeds s.dev p bs ∧ leAt bs (bs.length - 12) 1 ≠ 0x5A ∧ s.dev.frameFault p bs = none) : Becomes c s (take s.dev (frameOf bs)) :=
  let ⟨hin, hwhole, hpass⟩ := hgood
  becomes_of_frame hc htype (receive_unsequenced hin hwhole ((sequenced_of_type htype).trans ht) hpass)

end Taken

/-! ## Held postings (R339) -/

theorem deliverHeld_ready {f : Frame} {k : Nat} {rest : List (Frame × Nat)} (hhold : (d.port p).hold = (f, k) :: rest) (hready : d.ringReady f.stream = true) :
    d.deliverHeld p = resumeHold p rest (((d.setPort p { d.port p with hold := [] }).fillSlot f.stream f.payload (2 + p) 0 0 0).freeHeld p k f) := by
  simp only [Dev.deliverHeld, hhold, hready, not_true, if_false]

/-! ## XM_SEND (R348) -/

section Originations

variable {co : CoreNo} {ba : BayNo} {s v : Nat} {t : Slot}

/-- A bay's store names a stream it owns, whose postings the member of ring slot `t` originates down the ring, and a buffer of DDR. -/
def MayOriginate (d : Dev) (t : Slot) (co : CoreNo) (ba : BayNo) (s v : Nat) : Prop :=
  d.owner s = some (co.toNat, ba.toNat) ∧ (d.smap s).testBit 31 = true ∧ t.v = true ∧ d.smap s / 2 ^ 24 % 16 = t.member ∧ t.dnp < 4 ∧ v % 256 = 0 ∧ v < 0x08000000

/-- The member's own postings that its port down the ring has queued. -/
def ownQueued (d : Dev) (t : Slot) : Nat :=
  ((d.port t.dnp).txq.filter (fun g => g.type == 1 && g.origin == t.member && g.ring == t.ringId)).length

/-- Whether the buffer holds a posting of the stream, and the port has room for one more. -/
def soundPosting (d : Dev) (t : Slot) (s v : Nat) : Bool :=
  postingOk s (d.bytes v 256) && leAt (d.bytes v 256) 4 4 == 0 && leAt (d.bytes v 256) 20 4 == 0 && decide (ownQueued d t < 256)

theorem soundPosting_iff : soundPosting d t s v = true ↔
    postingOk s (d.bytes v 256) = true ∧ leAt (d.bytes v 256) 4 4 = 0 ∧ leAt (d.bytes v 256) 20 4 = 0 ∧ ownQueued d t < 256 := by
  simp only [soundPosting, Bool.and_eq_true, beq_iff_eq, decide_eq_true_eq, and_assoc]

theorem unsound_iff :
    ¬ (postingOk s (d.bytes v 256) && leAt (d.bytes v 256) 4 4 == 0 && leAt (d.bytes v 256) 20 4 == 0) = true ∨ ownQueued d t ≥ 256 ↔ ¬ soundPosting d t s v = true := by
  rw [soundPosting, Bool.and_eq_true _ (decide _), decide_eq_true_eq, not_and_or, not_lt]

/-- An origination counted as refused. -/
def refuseOrigination (d : Dev) : Dev := { d with dl := { d.dl with xmRefuse := satAdd d.dl.xmRefuse 1 } }

/-- A stream's originations counted one more. -/
def countOrigination (d : Dev) (s : Nat) : Dev := { d with dl := { d.dl with xmCnt := Tab.set d.dl.xmCnt s (Tab.get d.dl.xmCnt s 0 + 1) } }

/-- The frame of a posting that the member of a ring slot originates from a buffer. -/
def originated (d : Dev) (t : Slot) (s v : Nat) : Frame :=
  { type := 1, vl := 0, ring := t.ringId, origin := t.member, hops := t.nmem, stream := s, payload := d.bytes v 256 }

/-- A store that its member may originate is counted and queued down the ring where its buffer holds a sound posting, and refused otherwise. -/
theorem xmSend_origin (ht : d.slot (bits (d.smap s) 29 28) = t) (h : MayOriginate d t co ba s v) :
    d.xmSend (.bay co ba) s v = if soundPosting d t s v = true then (countOrigination d s).queueFrame t.dnp (originated d t s v) else refuseOrigination d := by
  subst ht
  obtain ⟨howner, hmapped, hvalid, hmember, hport, haligned, hddr⟩ := h
  have hbit : bit (d.smap s) 31 = true := hmapped
  have hown : bits (d.smap s) 27 24 = (d.slot (bits (d.smap s) 29 28)).member := (bits_eq_div_mod _ _ _).trans hmember
  refine (if_neg (not_not_intro ?_)).trans ((if_congr unsound_iff rfl rfl).trans (ite_not _ _ _))
  simp only [howner, hbit, hvalid, hown, hport, haligned, hddr, beq_self_eq_true, decide_true, Bool.and_self]

end Originations

end Links

/-- Settles O48: the port's state, the frame's TYPE and the first check it fails choose each command's branch. -/
theorem derrikPortsAndFrames : Obligations.DerrikPortsAndFrames := by
  unfold Obligations.DerrikPortsAndFrames
  intro s who p bs r k t v co ba D n x f may wire whole live good y g E powered trains m slot buf mine origin sound counted xm
  have hnamed : D.slot (bits m 29 28) = slot := congrArg D.slot (bits_eq_div_mod m 29 28)
  refine ⟨?trains, ?busy, ?unpowered, ?up, ?training, ?retrain, ?posting, ?mark, ?digest, ?ack, ?nak, ?hello, ?stomped, ?refused, ?reserved, ?ackTimer, ?window,
    ?originates, ?unsound, ?held, ?drain, ?named, ?drainUnpowered, ?drained⟩
  case trains => exact fun hmay ⟨hon, hst, hdrain⟩ => becomes_of_allowed rfl hmay (enablePort_trains hon hst hdrain)
  case busy => exact fun hmay hon hbusy => becomes_of_allowed rfl hmay (enablePort_busy hon fun h => hbusy ⟨hon, h⟩)
  case unpowered => exact fun hmay hoff => becomes_of_allowed rfl hmay (enablePort_unpowered hoff)
  case up => exact fun _ _ _ => becomes_of_run rfl rfl
  case training => exact fun hst hbad => becomes_of_run rfl (trained_unmet hst hbad)
  case retrain => exact fun hst => becomes_of_run rfl (retrain_up hst)
  case posting => exact becomes_of_sequenced (take := fun e h => e.onPosting n h) rfl rfl
  case mark => exact becomes_of_sequenced (take := fun e h => e.onMark n h) rfl rfl
  case digest => exact becomes_of_sequenced (take := fun e h => e.onDigest n h) rfl rfl
  case ack => exact becomes_of_unsequenced (take := fun e h => e.onAck n h) rfl rfl
  case nak => exact becomes_of_unsequenced (take := fun e h => e.onNak n h) rfl rfl
  case hello => exact becomes_of_unsequenced (take := fun e h => e.onHello n h) rfl rfl
  case stomped => exact fun htype hin hstomp => becomes_of_frame rfl htype (receive_stomped hin (not_not.1 hstomp))
  case refused => exact fun htype hin hwhole hfault => becomes_of_frame rfl htype (receive_refused hin hwhole (sequenced_of_type htype) hfault)
  case reserved =>
    exact fun htype hin hwhole hintact => becomes_of_run rfl
      ((if_pos (Option.isNone_iff_eq_none.2 htype)).trans (receive_refused hin hwhole (sequenced_of_reserved htype) (frameFault_reserved hintact htype)))
  case ackTimer => exact becomes_of_run rfl rfl
  case window => exact becomes_of_run rfl rfl
  case originates =>
    intro hmay ⟨⟨hwho, howner⟩, hslot⟩ hsound
    subst hwho
    exact becomes_of_allowed rfl hmay ((xmSend_origin hnamed ⟨howner, hslot⟩).trans (if_pos (soundPosting_iff.2 hsound)))
  case unsound =>
    intro hmay ⟨⟨hwho, howner⟩, hslot⟩ hunsound
    subst hwho
    exact becomes_of_allowed rfl hmay ((xmSend_origin hnamed ⟨howner, hslot⟩).trans (if_neg (mt soundPosting_iff.1 hunsound)))
  case held => exact fun rest hhold hready => becomes_of_run rfl (deliverHeld_ready hhold hready)
  case drain => exact fun hmay hon hfree => becomes_of_allowed rfl hmay (drainPort_unnamed hon hfree)
  case named => exact fun hmay hon hname => becomes_of_allowed rfl hmay (drainPort_named hon hname)
  case drainUnpowered => exact fun hmay hoff => becomes_of_allowed rfl hmay (drainPort_unpowered hoff)
  case drained => exact fun hst => becomes_of_run rfl (drainedPort_draining hst)

end Sys2Proof.Proofs

/-! SUPPORT. What every command answers, by the power it finds: the three that reach a machine without power, and all others (R164, R370, R373). -/

namespace Sys2Proof.Proofs

open Sys2Proof
open Sys2Proof.Machine
open Sys2Proof.Safety

/-- A command other than the two resets of VDD_AON and the device reset changes the machine only while its power lets it run. -/
theorem exec_run (c : Instr) (s : State) (hon : c ≠ .powerOnReset) (hoff : c ≠ .vddAonRemoved) (hreset : c ≠ .deviceReset) : ∃ f : Dev → Dev, exec c s = .next (s.run f) := by
  cases c
  case powerOnReset => exact absurd rfl hon
  case vddAonRemoved => exact absurd rfl hoff
  case deviceReset => exact absurd rfl hreset
  all_goals exact ⟨_, rfl⟩

/-- Settles O55: a command runs by `State.run`, which holds a machine without power still; the resets alone run otherwise. -/
theorem commandsKeepTheQueue : Obligations.CommandsKeepTheQueue := by
  unfold Obligations.CommandsKeepTheQueue
  intro c s
  by_cases hon : c = .powerOnReset
  · exact ⟨⟨_, congrArg (exec · s) hon, State.always_pending s _⟩, fun h => absurd hon h⟩
  by_cases hoff : c = .vddAonRemoved
  · exact ⟨⟨_, congrArg (exec · s) hoff, State.always_pending s _⟩, fun _ h => absurd hoff h⟩
  by_cases hreset : c = .deviceReset
  · subst hreset
    refine ⟨⟨_, rfl, State.reached_pending s _⟩, fun _ _ hdown => ?_⟩
    exact congrArg Host.Outcome.next (if_pos (hdown.resolve_right fun h => h.2 rfl))
  · obtain ⟨f, hf⟩ := exec_run c s hon hoff hreset
    refine ⟨⟨_, hf, State.run_pending s f⟩, fun _ _ hdown => ?_⟩
    exact hf.trans (congrArg Host.Outcome.next (if_pos (hdown.imp_right And.left)))

end Sys2Proof.Proofs

/-! SUPPORT. The image store through IMG_CTL and IMG_DATA: each operation's branches under the conditions that choose them (R377, R378, R410). -/

namespace Sys2Proof.Proofs

open Sys2Proof
open Sys2Proof.Machine
open Sys2Proof.Safety

section Images

variable {d : Dev} {v : Nat} {u : Upload}

/-- Whether an open finds no upload open, by IMG_CTL or by the mailbox, and no close checks under way. -/
def StoreFree (d : Dev) : Prop := d.pw.imgBusy = false ∧ d.pw.mimg = none ∧ d.pw.img = none

/-- A word to IMG_CTL with a KIND and slot of the layout, and its reserved bits clear. -/
def OpenWord (v : Nat) : Prop := openFormOk (bits v 10 8) (bits v 2 0) = true ∧ bits v 29 11 = 0 ∧ bits v 7 3 = 0

theorem not_openable_iff :
    (d.pw.imgBusy = true ∨ d.pw.mimg.isSome = true ∨ d.pw.img.isSome = true ∨ ¬ openFormOk (bits v 10 8) (bits v 2 0) = true ∨ bits v 29 11 ≠ 0 ∨ bits v 7 3 ≠ 0)
      ↔ ¬ (StoreFree d ∧ OpenWord v) := by
  simp only [StoreFree, OpenWord, not_and_or, Bool.not_eq_false, Option.isSome_iff_ne_none, ne_eq, or_assoc]

theorem imgOpenCtl_free (h : StoreFree d ∧ OpenWord v) :
    d.imgOpenCtl v = { d with pw := { d.pw with img := some { kind := bits v 10 8, slot := d.openTarget (bits v 10 8) (bits v 2 0) }, imgRes := 0 } } :=
  if_neg fun hbad => not_openable_iff.1 hbad h

theorem imgOpenCtl_refused (h : ¬ (StoreFree d ∧ OpenWord v)) : d.imgOpenCtl v = { d with pw := { d.pw with imgRes := 7 } } := if_pos (not_openable_iff.2 h)

theorem imgDataCtl_open (hopen : d.pw.img = some u) : d.imgDataCtl v = { d with pw := { d.pw with img := some (u.append (toLe 4 v)) } } := by
  simp only [Dev.imgDataCtl, hopen]

theorem imgCloseCtl_open (hopen : d.pw.img = some u) (hbusy : d.pw.imgBusy = false) :
    d.imgCloseCtl = { d with pw := { d.pw with img := none, imgBusy := true, imgClose := some u, imgMbox := false } } := by
  simp only [Dev.imgCloseCtl, hopen, hbusy, Bool.false_eq_true, if_false]

theorem imgAbandonCtl_open (hopen : d.pw.img = some u) :
    d.imgAbandonCtl = { d.spoilBank u.slot with pw := { (d.spoilBank u.slot).pw with img := none, imgRes := 8 } } := by
  simp only [Dev.imgAbandonCtl, hopen]

section Checks

variable (hclose : d.pw.imgClose = some u) (hctl : d.pw.imgMbox = false)
include hclose hctl

/-- The checks of a close through IMG_CTL end with no answer to the mailbox. -/
theorem closeChecks_ctl : d.closeChecks = d.imgChecksEnd.1 := by
  simp only [Dev.closeChecks, hclose, hctl, Bool.false_eq_true, false_and, if_false]

theorem closeChecks_passed (hpass : d.imgCheck u.kind u.data u.ovr = none) :
    d.closeChecks = { d with pw := { d.pw with imgBusy := false, imgClose := none, imgRes := 1, banks := Tab.set d.pw.banks u.slot { data := u.data, valid := true } } } := by
  rw [closeChecks_ctl hclose hctl]
  simp only [Dev.imgChecksEnd, hclose, hctl, hpass, Bool.false_eq_true, if_false]

theorem closeChecks_failed {c : Nat} (hfail : d.imgCheck u.kind u.data u.ovr = some c) :
    d.closeChecks = (({ d with pw := { d.pw with imgBusy := false, imgClose := none, imgRes := c + 1 } } : Dev).spoilBank u.slot).record 0xB000 1 [] := by
  rw [closeChecks_ctl hclose hctl]
  simp only [Dev.imgChecksEnd, hclose, hctl, hfail, Bool.false_eq_true, if_false]

end Checks

theorem closeChecks_idle (h : d.pw.imgClose = none) : d.closeChecks = d := by
  simp only [Dev.closeChecks, h]

end Images

/-- Settles O41: an open looks at the store and at its word, data and closes at the upload, and the end of the checks at the first that fails. -/
theorem imageUploads : Obligations.ImageUploads := by
  unfold Obligations.ImageUploads
  intro s who v u D p kind slot form free ctl spoiled closing
  refine ⟨fun hmay hfree hform => becomes_of_allowed rfl hmay (imgOpenCtl_free ⟨hfree, hform⟩), fun hmay hbad => becomes_of_allowed rfl hmay (imgOpenCtl_refused hbad),
    fun hmay hopen => becomes_of_allowed rfl hmay (imgDataCtl_open hopen), fun hmay hopen hbusy => becomes_of_allowed rfl hmay (imgCloseCtl_open hopen hbusy),
    fun hmay hopen => becomes_of_allowed rfl hmay (imgAbandonCtl_open hopen), ?checks, fun hnone => becomes_of_run rfl (closeChecks_idle hnone)⟩
  rintro ⟨hclose, hctl⟩ r hr
  cases r with
  | none => exact becomes_of_run rfl (closeChecks_passed hclose hctl hr)
  | some c => exact becomes_of_run rfl (closeChecks_failed hclose hctl hr)

end Sys2Proof.Proofs

/-! SUPPORT. Power domain requests: the fields of a request word, the checks it passes or the first it fails, and the ends of what it starts (R379 to R383). -/

namespace Sys2Proof.Proofs

open Sys2Proof
open Sys2Proof.Machine
open Sys2Proof.Safety

/-! ## Request words (R379) -/

/-- The fields of a PD_REQ word: the act, the core and the domain, and nothing between them. -/
structure Request (v a c n : Nat) : Prop where
  act : bits v 31 28 = a
  clear : bits v 27 15 = 0
  core : bits v 14 8 = c
  gap : bit v 7 = false
  dom : bits v 6 0 = n

theorem request_of {v a c n : Nat} (ha : a < 16) (hc : c < 128) (hn : n < 128) (hv : v = 0x10000000 * a + 0x100 * c + n) : Request v a c n where
  act := by rw [bits_eq_div_mod]; omega
  clear := by rw [bits_eq_div_mod]; omega
  core := by rw [bits_eq_div_mod]; omega
  gap := by
    rw [bit, Nat.testBit_eq_decide_div_mod_eq]
    exact decide_eq_false (by omega)
  dom := by rw [bits_eq_div_mod]; omega

section Requests

variable {d : Dev} {v a c n : Nat}

/-! ## The checks of a request (R379) -/

theorem pdBusy_false (hidle : d.pw.req = none) : d.pdBusy = false := by rw [Dev.pdBusy, hidle, Option.isSome_none]

theorem pdBusy_true (hbusy : d.pw.req ≠ none) : d.pdBusy = true := Option.isSome_iff_ne_none.2 hbusy

theorem present_of_actOk (h : d.actOk a n = true) : d.domState n ≠ 0xF := by
  intro hst
  simp only [Dev.actOk, hst] at h
  split at h <;> simp at h

theorem actOk_drain : d.actOk 1 n = true ↔ d.domState n = 1 := beq_iff_eq

theorem actOk_off : d.actOk 2 n = true ↔ d.domState n = 3 ∨ d.domState n = 6 := by simp only [Dev.actOk, Bool.or_eq_true, beq_iff_eq]

theorem actOk_on : d.actOk 3 n = true ↔ d.domState n = 0 := beq_iff_eq

theorem actOk_return : d.actOk 4 n = true ↔ d.domState n = 3 := beq_iff_eq

theorem actOk_test : d.actOk 5 n = true ↔ d.domState n = 3 ∨ d.domState n = 6 := actOk_off

theorem actOk_repatch : d.actOk 6 n = true ↔ d.domState n = 3 ∧ n < 64 := by simp only [Dev.actOk, Bool.and_eq_true, beq_iff_eq, decide_eq_true_eq]

theorem actOk_cancel : d.actOk 8 n = true ↔ d.domState n = 2 := beq_iff_eq

/-- The acts of Table 13.10 that name a domain. -/
abbrev DomainAct (a : Nat) : Prop := 1 ≤ a ∧ a ≤ 8 ∧ a ≠ 7

/-- A word that names an act and its domain is not malformed. -/
theorem Request.wellFormed (hr : Request v a 0 n) (ha : DomainAct a) (hn : n < 96) :
    ¬ (bits v 31 28 = 0 ∨ 8 < bits v 31 28 ∨ bits v 27 15 ≠ 0 ∨ bit v 7 = true ∨ (bits v 31 28 = 7 ∧ bits v 6 0 ≠ 0) ∨ (bits v 31 28 ≠ 7 ∧ bits v 14 8 ≠ 0) ∨ 96 ≤ bits v 6 0) := by
  obtain ⟨h1, h8, h7⟩ := ha
  simp only [hr.act, hr.clear, hr.core, hr.gap, hr.dom, Bool.false_eq_true, false_or, ne_eq, not_true, and_false]
  omega

theorem pdCheck_busy (hr : Request v a 0 n) (ha : DomainAct a) (hn : n < 96) (hbusy : d.pw.req ≠ none) (hother : ¬ (a = 8 ∧ d.pw.req = some (1, n))) : d.pdCheck v = some 9 := by
  refine (if_neg (hr.wellFormed ha hn)).trans (if_pos ⟨pdBusy_true hbusy, ?_⟩)
  rwa [hr.act, hr.dom]

/-- A request that no other is in the way of, or that cancels it, comes to the checks of its domain. -/
theorem pdCheck_domain (hr : Request v a 0 n) (ha : DomainAct a) (hn : n < 96) (hfree : d.pw.req = none ∨ (a = 8 ∧ d.pw.req = some (1, n))) :
    d.pdCheck v = if d.domState n = 0xF then some 4 else if (n = 90 ∨ n = 95) ∧ (a = 1 ∨ a = 2 ∨ a = 5 ∨ a = 6) then some 0xA else if ¬ d.actOk a n = true then some 3
      else if a = 1 ∧ d.drainRefused n = true then some 5 else if a = 6 ∧ ¬ bit (d.inForce midPATCHEN).toNat 30 = true then some 6 else none := by
  have hpass : ¬ (d.pdBusy = true ∧ ¬ (bits v 31 28 = 8 ∧ d.pw.req = some (1, bits v 6 0))) := by
    rw [hr.act, hr.dom]
    rintro ⟨hbusy, hother⟩
    exact hfree.elim (fun h => Bool.eq_false_iff.1 (pdBusy_false h) hbusy) hother
  refine (if_neg (hr.wellFormed ha hn)).trans ((if_neg hpass).trans ((if_neg (hr.act ▸ ha.2.2)).trans ?_))
  rw [hr.act, hr.dom]

theorem pdCheck_passed (hr : Request v a 0 n) (ha : DomainAct a) (hn : n < 96) (hfree : d.pw.req = none ∨ (a = 8 ∧ d.pw.req = some (1, n)))
    (hok : d.actOk a n = true) (hkeep : a = 1 ∨ a = 2 ∨ a = 5 ∨ a = 6 → n ≠ 90 ∧ n ≠ 95) (hdrain : a = 1 → d.drainRefused n = false)
    (hpatch : a = 6 → (d.inForce midPATCHEN).toNat.testBit 30 = true) : d.pdCheck v = none := by
  rw [pdCheck_domain hr ha hn hfree, if_neg (present_of_actOk hok), if_neg fun h => h.1.elim (hkeep h.2).1 (hkeep h.2).2, if_neg (not_not_intro hok),
    if_neg fun h => Bool.eq_false_iff.1 (hdrain h.1) h.2, if_neg fun h => h.2 (hpatch h.1)]

theorem pdCheck_state (hr : Request v a 0 n) (ha : DomainAct a) (hn : n < 96) (hfree : d.pw.req = none) (hpresent : d.domState n ≠ 0xF)
    (hkeep : n ≠ 90 ∧ n ≠ 95) (hbad : d.actOk a n = false) : d.pdCheck v = some 3 := by
  rw [pdCheck_domain hr ha hn (.inl hfree), if_neg hpresent, if_neg fun h => h.1.elim hkeep.1 hkeep.2, if_pos (Bool.eq_false_iff.1 hbad)]

theorem pdCheck_recover (hr : Request v 7 c 0) (hfree : d.pw.req = none) (hpresent : d.corePresent c = true) (hlocked : d.coreLocked c = true) : d.pdCheck v = none := by
  simp only [Dev.pdCheck, hr.act, hr.clear, hr.core, hr.gap, hr.dom, pdBusy_false hfree, hpresent, hlocked]
  rfl

/-! ## Requests begun and refused -/

theorem pdRequest_starts (h : d.pdCheck v = none) : d.pdRequest v = d.pdStart v := by rw [Dev.pdRequest, h]

theorem pdRequest_refused {r : Nat} (h : d.pdCheck v = some r) : d.pdRequest v = d.pdRefuse (bits v 31 28) (bits v 6 0) r := by rw [Dev.pdRequest, h]


theorem pdRequest_passed (hr : Request v a 0 n) (ha : DomainAct a) (hn : n < 96) (hfree : d.pw.req = none ∨ (a = 8 ∧ d.pw.req = some (1, n)))
    (hok : d.actOk a n = true) (hkeep : a = 1 ∨ a = 2 ∨ a = 5 ∨ a = 6 → n ≠ 90 ∧ n ≠ 95) (hdrain : a = 1 → d.drainRefused n = false)
    (hpatch : a = 6 → (d.inForce midPATCHEN).toNat.testBit 30 = true) : d.pdRequest v = d.pdStart v :=
  pdRequest_starts (pdCheck_passed hr ha hn hfree hok hkeep hdrain hpatch)

theorem pdStart_drain (hr : Request v 1 c n) : d.pdStart v = (d.pdAccept 1 n).beginDrain n := by simp only [Dev.pdStart, hr.act, hr.dom]

theorem pdStart_off (hr : Request v 2 c n) : d.pdStart v = ((d.loseUnit n).setDom n 0).pdEnd 2 n 2 := by simp only [Dev.pdStart, hr.act, hr.dom]

theorem pdStart_on (hr : Request v 3 c n) : d.pdStart v = (d.pdAccept 3 n).setDom n 7 := by simp only [Dev.pdStart, hr.act, hr.dom]

theorem pdStart_return (hr : Request v 4 c n) : d.pdStart v = (d.pdAccept 4 n).setDom n 7 := by simp only [Dev.pdStart, hr.act, hr.dom]

/-- The test of a unit that is no core pair. -/
theorem pdStart_test (hr : Request v 5 c n) (hunit : 64 ≤ n) : d.pdStart v = (d.pdAccept 5 n).setDom n 4 := by
  simp only [Dev.pdStart, hr.act, hr.dom, if_neg (Nat.not_lt.2 hunit)]

theorem pdStart_repatch (hr : Request v 6 c n) : d.pdStart v = (d.pdAccept 6 n).setDom n 5 := by simp only [Dev.pdStart, hr.act, hr.dom]

theorem pdStart_recover (hr : Request v 7 c n) : d.pdStart v = (d.recoverCore c).pdEnd 7 0 2 := by simp only [Dev.pdStart, hr.act, hr.core]

theorem pdStart_cancel (hr : Request v 8 c n) : d.pdStart v = (d.backOn n).pdEnd 8 n 2 := by simp only [Dev.pdStart, hr.act, hr.dom]

/-! ## The ends (R380 to R382) -/

/-- The machine with the bays of a draining pair that can be evicted evicted, and those that hold a task noted. -/
def bayDrain (d : Dev) (n : Nat) : Dev := { d.drainBays n with pw := { (d.drainBays n).pw with draining := (d.drainBays n).baysLeft n } }

theorem drainComplete_unit (hst : d.domState n = 2) (hunit : 64 ≤ n) (hdone : d.drainDone n = true) : d.drainComplete n = (d.setDoms (d.drainSet n) 3).pdEnd 1 n 2 := by
  simp only [Dev.drainComplete, hst, not_true, ne_eq, if_false, if_neg (Nat.not_lt.2 hunit), hdone, if_true]

theorem drainSet_pair (hpair : n < 64) : d.drainSet n = [n] := if_neg (by omega)

theorem drainComplete_pair (hst : d.domState n = 2) (hpair : n < 64) (hdone : (bayDrain d n).drainDone n = true) :
    d.drainComplete n = (((bayDrain d n).setUp n false).setDoms [n] 3).pdEnd 1 n 2 := by
  refine (if_neg (not_not_intro hst)).trans ?_
  simp only [if_pos hpair, drainSet_pair hpair]
  exact if_pos hdone

theorem drainComplete_waits (hst : d.domState n = 2) (hpair : n < 64) (hleft : (bayDrain d n).drainDone n = false) : d.drainComplete n = bayDrain d n := by
  refine (if_neg (not_not_intro hst)).trans ?_
  simp only [if_pos hpair]
  exact if_neg (Bool.eq_false_iff.1 hleft)

/-- Nothing holds up the drain of a fabric, a Loam bank or a memory pair. -/
theorem drainDone_store (h64 : 64 ≤ n) (h86 : n < 86) : d.drainDone n = true := by
  rw [Dev.drainDone, if_neg (Nat.not_lt.2 h64), if_neg (by omega), if_neg (by omega)]

section On

variable (hst : d.domState n = 7)
include hst

theorem powerOnEnd_unit (hreq : d.pw.req = some (3, n)) (hunit : 64 ≤ n) : d.powerOnEnd n = ((d.loseUnit n).setDom n 3).pdEnd 3 n 2 := by
  refine (if_neg (not_or.2 ⟨not_not_intro hst, not_not_intro hreq⟩)).trans ?_
  simp only [if_neg (Nat.not_lt.2 hunit)]

theorem powerOnEnd_pair (hreq : d.pw.req = some (3, n)) (hpair : n < 64) :
    d.powerOnEnd n = ((((((d.loseUnit n).pairVectors n).resetCore (2 * n) 0).resetCore (2 * n + 1) 0).patchAsStart n).setDom n 3).pdEnd 3 n 2 := by
  refine (if_neg (not_or.2 ⟨not_not_intro hst, not_not_intro hreq⟩)).trans ?_
  simp only [if_pos hpair]

theorem returnEnd_fabric (hreq : d.pw.req = some (4, n)) (h64 : 64 ≤ n) (h72 : n < 72) : d.returnEnd n = (d.setDom n 1).pdEnd 4 n 2 := by
  refine (if_neg (not_or.2 ⟨not_not_intro hst, not_not_intro hreq⟩)).trans ?_
  simp only [if_neg (Nat.not_lt.2 h64), if_pos h72]

theorem returnEnd_pair (hreq : d.pw.req = some (4, n)) (hpair : n < 64) :
    d.returnEnd n = ((((((d.setDom n 1).pairVectors n).resetCore (2 * n) 2).resetCore (2 * n + 1) 2).setUp n true).driveLock).pdEnd 4 n 2 := by
  refine (if_neg (not_or.2 ⟨not_not_intro hst, not_not_intro hreq⟩)).trans ?_
  simp only [if_pos hpair]

end On

theorem repatchEnd_permitted (hst : d.domState n = 5) (hpatch : (d.inForce midPATCHEN).toNat.testBit 30 = true) :
    let e := (d.recordBadBanks 1).patchPair n (d.bestBank 1)
    d.repatchEnd n = (({ e with pw := { e.pw with ptBank := d.bestBank 1 } } : Dev).setDom n 3).pdEnd 6 n 2 :=
  (if_neg (not_not_intro hst)).trans (if_neg (not_not_intro hpatch))

theorem repatchEnd_withdrawn (hst : d.domState n = 5) (hpatch : (d.inForce midPATCHEN).toNat.testBit 30 = false) : d.repatchEnd n = (d.setDom n 3).pdEnd 6 n 6 :=
  (if_neg (not_not_intro hst)).trans (if_pos (Bool.eq_false_iff.1 hpatch))

/-- The self-test of a unit whose test leaves nothing behind but its result: TRES, the state the domain takes and the result of its request. -/
theorem selfTestEnd_unit (hst : d.domState n = 4) (hunit : 86 ≤ n) (pass : Bool) :
    let elem := if pass then 0 else (Config.testElem d.free).toNat
    let e : Dev := { d with pw := { d.pw with tres := BitVec.ofNat 32 (2 ^ 31 + b2n pass * 2 ^ 30 + elem), testLevel := none } }
    d.selfTestEnd n pass = ((e.setDom n (if pass then 3 else 6)).pdEnd 5 n (if pass then 2 else 8)).tickFree := by
  have hpair : ¬ n < 64 := by omega
  have hbank : ¬ (72 ≤ n ∧ n < 80) := by omega
  have hmem : ¬ (80 ≤ n ∧ n < 86) := by omega
  refine (if_neg (not_not_intro hst)).trans ?_
  simp only [if_neg hpair, if_neg hbank, if_neg hmem]

end Requests

/-! ## The commands -/

/-- A word to PD_REQ is a request where the access rules let its writer through. -/
theorem becomes_of_pdWrite {c : Instr} {s : State} {who : Agent} {v : Nat} {d : Dev} (hc : exec c s = .next (s.run (fun e => e.pdWrite who v)))
    (hmay : s.dev.allowed who 0x0D010000 true = true) (hd : s.dev.pdRequest v = d) : Becomes c s d :=
  becomes_of_run hc ((if_pos hmay).trans hd)

/-- Settles O39: a request's word passes its checks and begins its act, or is refused with the first it fails; an end looks at its domain's state and at the request. -/
theorem powerDomainRequests : Obligations.PowerDomainRequests := by
  unfold Obligations.PowerDomainRequests
  intro s who dom v pass D n st may idle movable started lost left patches tested
  have hleft : left = bayDrain D n := rfl
  clear_value left
  subst hleft
  have hword : ∀ {a w : Nat}, a < 16 → w = 0x10000000 * a + 0x100 * 0 + n → Request w a 0 n := fun ha hw => request_of ha (by decide) dom.isLt hw
  refine ⟨?drain, ?off, ?on, ?back, ?test, ?repatch, ?recover, ?cancel, ?wrongState, ?busy, ?malformed, ?drained, ?pairDrained, ?pairDrains, drainDone_store,
    ?timeout, ?poweredOn, ?pairPoweredOn, ?returned, ?pairReturned, ?repatched, ?withdrawn, ?tested⟩
  case drain =>
    intro ⟨hmay, hidle⟩ ⟨hn, hkeep⟩ hst hfree
    have hr : Request (0x10000000 + n) 1 0 n := hword (by decide) rfl
    exact becomes_of_pdWrite rfl hmay ((pdRequest_passed hr (by decide) hn (.inl hidle) (actOk_drain.2 hst) (fun _ => hkeep) (fun _ => hfree) nofun).trans (pdStart_drain hr))
  case off =>
    intro ⟨hmay, hidle⟩ ⟨hn, hkeep⟩ hst
    have hr : Request (0x20000000 + n) 2 0 n := hword (by decide) rfl
    exact becomes_of_pdWrite rfl hmay ((pdRequest_passed hr (by decide) hn (.inl hidle) (actOk_off.2 hst) (fun _ => hkeep) nofun nofun).trans (pdStart_off hr))
  case on =>
    intro ⟨hmay, hidle⟩ hn hst
    have hr : Request (0x30000000 + n) 3 0 n := hword (by decide) rfl
    exact becomes_of_pdWrite rfl hmay ((pdRequest_passed hr (by decide) hn (.inl hidle) (actOk_on.2 hst) (fun h => absurd h (by decide)) nofun nofun).trans (pdStart_on hr))
  case back =>
    intro ⟨hmay, hidle⟩ hn hst
    have hr : Request (0x40000000 + n) 4 0 n := hword (by decide) rfl
    exact becomes_of_pdWrite rfl hmay ((pdRequest_passed hr (by decide) hn (.inl hidle) (actOk_return.2 hst) (fun h => absurd h (by decide)) nofun nofun).trans (pdStart_return hr))
  case test =>
    intro ⟨hmay, hidle⟩ ⟨hn, hkeep⟩ hunit hst
    have hr : Request (0x50000000 + n) 5 0 n := hword (by decide) rfl
    exact becomes_of_pdWrite rfl hmay ((pdRequest_passed hr (by decide) hn (.inl hidle) (actOk_test.2 hst) (fun _ => hkeep) nofun nofun).trans (pdStart_test hr hunit))
  case repatch =>
    intro ⟨hmay, hidle⟩ hpair hst hpatch
    have hr : Request (0x60000000 + n) 6 0 n := hword (by decide) rfl
    exact becomes_of_pdWrite rfl hmay
      ((pdRequest_passed hr (by decide) (by omega) (.inl hidle) (actOk_repatch.2 ⟨hst, hpair⟩) (fun _ => by omega) nofun (fun _ => hpatch)).trans (pdStart_repatch hr))
  case recover =>
    intro ⟨hmay, hidle⟩ hpresent hlocked
    have hr : Request (0x70000000 + 0x100 * n) 7 n 0 := request_of (by decide) dom.isLt (by decide) rfl
    exact becomes_of_pdWrite rfl hmay ((pdRequest_starts (pdCheck_recover hr hidle hpresent hlocked)).trans (pdStart_recover hr))
  case cancel =>
    intro hmay hn hst hreq
    have hr : Request (0x80000000 + n) 8 0 n := hword (by decide) rfl
    exact becomes_of_pdWrite rfl hmay
      ((pdRequest_passed hr (by decide) hn (.inr ⟨rfl, hreq⟩) (actOk_cancel.2 hst) (fun h => absurd h (by decide)) nofun nofun).trans (pdStart_cancel hr))
  case wrongState =>
    intro ⟨hmay, hidle⟩ ⟨hn, hkeep⟩ hst hpresent
    have hr : Request (0x10000000 + n) 1 0 n := hword (by decide) rfl
    refine becomes_of_pdWrite rfl hmay ((pdRequest_refused (pdCheck_state hr (by decide) hn hidle hpresent hkeep (Bool.eq_false_iff.2 (mt actOk_drain.1 hst)))).trans ?_)
    rw [hr.act, hr.dom]
  case busy =>
    intro hmay hbusy hn
    have hr : Request (0x30000000 + n) 3 0 n := hword (by decide) rfl
    refine becomes_of_pdWrite rfl hmay ((pdRequest_refused (pdCheck_busy hr (by decide) hn hbusy nofun)).trans ?_)
    rw [hr.act, hr.dom]
  case malformed => exact fun hmay hbad => becomes_of_run rfl ((if_pos hbad).trans ((if_pos hmay).trans (pdRequest_refused hbad)))
  case drained => exact fun hreq hst hunit hdone => becomes_of_run rfl ((if_pos hreq).trans (drainComplete_unit hst hunit hdone))
  case pairDrained => exact fun hreq hst hpair hdone => becomes_of_run rfl ((if_pos hreq).trans (drainComplete_pair hst hpair hdone))
  case pairDrains => exact fun hreq hst hpair hleft => becomes_of_run rfl ((if_pos hreq).trans (drainComplete_waits hst hpair hleft))
  case timeout => exact fun hreq hst => becomes_of_run rfl (if_pos ⟨hreq, hst⟩)
  case poweredOn => exact fun hreq hst hunit => becomes_of_run rfl (powerOnEnd_unit hst hreq hunit)
  case pairPoweredOn => exact fun hreq hst hpair => becomes_of_run rfl (powerOnEnd_pair hst hreq hpair)
  case returned => exact fun hreq hst h64 h72 => becomes_of_run rfl (returnEnd_fabric hst hreq h64 h72)
  case pairReturned => exact fun hreq hst hpair => becomes_of_run rfl (returnEnd_pair hst hreq hpair)
  case repatched => exact fun hst hpatch => becomes_of_run rfl (repatchEnd_permitted hst hpatch)
  case withdrawn => exact fun hst hpatch => becomes_of_run rfl (repatchEnd_withdrawn hst hpatch)
  case tested => exact fun hst hunit => ⟨becomes_of_run rfl (selfTestEnd_unit hst hunit true), becomes_of_run rfl (selfTestEnd_unit hst hunit false)⟩

end Sys2Proof.Proofs

/-! SUPPORT. The event recorder: reports counted and recorded, samples, snapshots and frames, clears and the event log (R353 to R366). -/

namespace Sys2Proof.Proofs

open Sys2Proof
open Sys2Proof.Machine
open Sys2Proof.Safety

section Recorder

variable {d : Dev} {source kind : Nat} {bs : List Byte}

/-! ## Events (R353 to R355) -/

/-- An event whose count calls for no notification leaves the machine as counting leaves it. -/
theorem record_unnotified {e : Dev} {x : EvEntry} (hcount : d.countEvent source kind bs = (e, some x)) (hquiet : e.rc.candidate x = false) : d.record source kind bs = e := by
  simp only [Dev.record, Dev.recordUpTo, hcount, Dev.notifyEvent, hquiet, Bool.false_eq_true, if_false]

/-- An event of a source and kind in the active table counts one there and takes OPT as LAST. -/
theorem countEvent_listed {i : Nat} (hidx : eventIdx d.rc.active.events source kind = some i) :
    let a := d.rc.active
    let old := (a.events[i]?).getD {}
    let e : EvEntry := { old with count := min (old.count + 1) 0xFFFFFFFF, last := BitVec.ofNat 32 d.rc.opt }
    d.countEvent source kind bs = ({ d with rc := d.rc.setActive { a with events := setAt a.events i e } }, some e) := by
  simp only [Dev.countEvent, Dev.tally, hidx, Option.isNone_some, Bool.false_and, Bool.false_eq_true, if_false]

/-- A new event below LOGSEV takes the next entry of the active table, with count 1. -/
theorem countEvent_new (hidx : eventIdx d.rc.active.events source kind = none) (hroom : d.rc.active.events.length < 512)
    (hsev : sevOf (source / 0x1000) kind < bits d.rc.ctl.toNat 27 26) :
    let a := d.rc.active
    let opt := BitVec.ofNat 32 d.rc.opt
    let e : EvEntry := { source := source, kind := kind, sev := sevOf (source / 0x1000) kind, count := 1, first := opt, last := opt }
    d.countEvent source kind bs = ({ d with rc := d.rc.setActive { a with events := a.events ++ [e] } }, some e) := by
  have hfits : ¬ d.rc.active.events.length ≥ 512 := Nat.not_le.2 hroom
  have hunlogged : decide (sevOf (source / 0x1000) kind ≥ bits d.rc.ctl.toNat 27 26) = false := decide_eq_false (Nat.not_le.2 hsev)
  simp only [Dev.countEvent, Dev.tally, hidx, hfits, hunlogged, Bool.and_false, Bool.false_eq_true, if_false]

/-- A report of no memory channel and no uncorrectable codeword of a port is recorded alone. -/
theorem report_plain (hmem : source / 0x1000 ≠ 4) (hfec : ¬ (source / 0x1000 = 5 ∧ kind = 0x22)) : d.report source kind bs = d.record source kind bs := by
  simp only [Dev.report, if_neg hmem, if_neg hfec]

/-- The only report of its cycle is taken where the table of sources lists it. -/
theorem reportAll_one (x : Report) :
    d.reportAll [x] = if eventListed x.source.toNat x.kind.toNat = true then d.report x.source.toNat x.kind.toNat x.detail else d := rfl

/-- Two reports of one cycle are counted in the order of their keys, whichever came first. -/
theorem reportAll_swap {b c : Report} (h : reportKey c < reportKey b) : d.reportAll [b, c] = d.reportAll [c, b] := by
  have hbc : insertReport c [b] = [c, b] := if_pos h
  have hcb : insertReport b [c] = [c, b] := if_neg (Nat.lt_asymm h)
  simp only [Dev.reportAll, List.foldl_cons, List.foldl_nil, insertReport] at hbc hcb ⊢
  rw [hbc, hcb]

/-- A lone report that the table lists, of no memory channel and no uncorrectable codeword, whose count calls for no notification. -/
theorem becomes_counted {s : State} {src : Half} {k : Byte} {det : List Byte} {e : Dev} {x : EvEntry}
    (hlisted : eventListed src.toNat k.toNat = true ∧ src.toNat / 0x1000 ≠ 4 ∧ ¬ (src.toNat / 0x1000 = 5 ∧ k.toNat = 0x22))
    (hcount : s.dev.countEvent src.toNat k.toNat det = (e, some x)) (hquiet : e.rc.candidate x = false) : Becomes (.eventRecorded src k { bytes := det }) s e :=
  becomes_of_run rfl ((reportAll_one _).trans ((if_pos hlisted.1).trans ((report_plain hlisted.2.1 hlisted.2.2).trans (record_unnotified hcount hquiet))))

/-! ## Samples (R356, R394 to R396) -/

section Samples

variable {ch : Nat} {v : Word}

theorem measure_unpowered (hoff : d.chSampled ch = false) : d.measure ch v = d := if_pos (Bool.eq_false_iff.1 hoff)

variable (hon : d.chSampled ch = true)
include hon

theorem measure_powered : d.measure ch v = if ch < 9 then (d.sampleIn ch v).reading ch v.toInt else if 25 ≤ ch then (d.sampleIn ch v).countFec (ch - 25) v.toInt.toNat 0 else d.sampleIn ch v :=
  if_neg (not_not_intro hon)

theorem measure_plain (h9 : 9 ≤ ch) (h25 : ch < 25) : d.measure ch v = d.sampleIn ch v := by
  rw [measure_powered hon, if_neg (Nat.not_lt.2 h9), if_neg (Nat.not_le.2 h25)]

theorem measure_fec (h25 : 25 ≤ ch) : d.measure ch v = (d.sampleIn ch v).countFec (ch - 25) v.toInt.toNat 0 := by
  rw [measure_powered hon, if_neg (by omega), if_pos h25]

theorem measure_cool (h9 : ch < 9) (hv : v.toInt < 880) : d.measure ch v = (d.sampleIn ch v).heat ch v.toInt := by
  rw [measure_powered hon, if_pos h9]
  exact if_neg (Int.not_le.2 hv)

theorem measure_hot (h9 : ch < 9) (hv : 880 ≤ v.toInt) : d.measure ch v = ((d.sampleIn ch v).heat ch v.toInt).overheat ch := by
  rw [measure_powered hon, if_pos h9]
  exact if_pos hv

end Samples

/-! ## Snapshots (R357, R358) -/

theorem snap_idle (hclear : d.rc.clearing = []) (hidle : d.rc.writing = false) (t : Nat) : d.snap t = d.seal t := by
  simp only [Dev.snap, hclear, hidle, ne_eq, not_true, false_and, Bool.false_eq_true, if_false]

theorem snap_waits (hwriting : d.rc.writing = true) (hpending : d.rc.pending = false) (t : Nat) : d.snap t = { d with rc := { d.rc with pending := true, trigger := t } } := by
  simp only [Dev.snap, hwriting, hpending, not_true, and_false, Bool.false_eq_true, if_false, if_true]

theorem snap_skipped (hwriting : d.rc.writing = true) (hpending : d.rc.pending = true) (t : Nat) : d.snap t = { d with rc := { d.rc with skip := satAdd d.rc.skip 1 } } := by
  simp only [Dev.snap, hwriting, hpending, not_true, and_false, if_false, if_true]

section FrameDone

variable (hwriting : d.rc.writing = true) (hpending : d.rc.pending = false)
include hwriting hpending

/-- The machine with a written frame in the slot of least serial. -/
abbrev framePut (d : Dev) : Dev := d.put (frameBase + 0x4000 * leastIdx ((List.range 16).map d.frameSerial)) d.rc.frame

theorem frameDone_b (hbuf : d.rc.buf = true) : d.frameDone = { framePut d with rc := { d.rc with writing := false, pending := false, frame := [], a := {} } } := by
  simp only [Dev.frameDone, hwriting, hpending, Dev.put_rc, hbuf, not_true, Bool.false_eq_true, if_false, if_true]

theorem frameDone_a (hbuf : d.rc.buf = false) : d.frameDone = { framePut d with rc := { d.rc with writing := false, pending := false, frame := [], b := {} } } := by
  simp only [Dev.frameDone, hwriting, hpending, Dev.put_rc, hbuf, not_true, Bool.false_eq_true, if_false]

end FrameDone

/-! ## RC_CTL and clears (R357, R365, R366) -/

theorem writeRcCtl_fields {who : Agent} {v : Nat} (h : bit v 31 = false) : d.writeRcCtl who v = { d with rc := { d.rc with ctl := masked v 0x0F00FFFF } } := if_neg (Bool.eq_false_iff.1 h)

theorem writeRcCtl_snap {who : Agent} {v : Nat} (h : bit v 31 = true) :
    d.writeRcCtl who v = ({ d with rc := { d.rc with ctl := masked v 0x0F00FFFF } } : Dev).snap (snapTrigger who) := if_pos h

/-- The code, in a clear's record, of who asked for it by a write to RC_CLR (R365). -/
def clearerOf (who : Agent) : Nat := if who = .pupor then 3 else 2

theorem writeRecorder_clear (d : Dev) (who : Agent) (v : Nat) : d.writeRecorder who 0x38 v = if d.atM who = true then d.clearRecorder v (clearerOf who) else d := by
  cases who <;> rfl

/-- The recorder with what a clear's selection names emptied: the buffers and the rate windows, and the frame being written. -/
def emptiedRc (r : Recorder) (sel : Nat) : Recorder :=
  let r1 := if sel.testBit 0 then { r with a := r.a.emptied, b := r.b.emptied, rate := [] } else r
  if sel.testBit 2 then { r1 with frame := [] } else r1

theorem emptiedRc_clearing (r : Recorder) (sel : Nat) : (emptiedRc r sel).clearing = r.clearing := by
  unfold emptiedRc
  split <;> split <;> rfl

theorem clearRecorder_eq (d : Dev) (sel clearer : Nat) :
    let e : Dev := { d with rc := { emptiedRc d.rc sel with clearing := d.rc.clearing ++ [(sel % 8, clearer)] } }
    let f := if sel.testBit 1 then e.clearRange 0x0BF40000 0x40000 else e
    d.clearRecorder sel clearer = if sel.testBit 2 then f.clearRange 0x0BF80000 0x40000 else f := by
  have hsel : bits sel 2 0 = sel % 8 := bits_zero sel 2
  rw [← emptiedRc_clearing d.rc sel, ← hsel]
  rfl

/-- The machine in which the oldest clear has ended: it is under way no more, and its record is queued. -/
abbrev clearLogged (d : Dev) (sel clearer : Nat) (rest : List (Nat × Nat)) : Dev :=
  ({ d with rc := { d.rc with clearing := rest } } : Dev).recordLogged false 0xB000 4 (toLe 1 sel ++ toLe 1 clearer)

section ClearEnd

variable {sel clearer : Nat} {rest : List (Nat × Nat)}

/-- No seal follows a clear where none waits, or where another clear is under way. -/
theorem clearDone_unsealed (hclear : d.rc.clearing = (sel, clearer) :: rest) (hseal : (clearLogged d sel clearer rest).rc.sealWait = none ∨ rest ≠ []) :
    d.clearDone = clearLogged d sel clearer rest := by
  cases hwait : (clearLogged d sel clearer rest).rc.sealWait with
  | none => simp only [Dev.clearDone, hclear, hwait]
  | some t =>
    obtain ⟨r, rs, rfl⟩ := List.exists_cons_of_ne_nil (hseal.resolve_left (by rw [hwait]; exact Option.some_ne_none t))
    simp only [Dev.clearDone, hclear, hwait]

theorem clearDone_sealed {t : Nat} (hclear : d.rc.clearing = [(sel, clearer)]) (hwait : (clearLogged d sel clearer []).rc.sealWait = some t) :
    let e := clearLogged d sel clearer []
    d.clearDone = ({ e with rc := { e.rc with sealWait := none } } : Dev).snap t := by
  simp only [Dev.clearDone, hclear, hwait]

end ClearEnd

/-! ## The event log (R360, R361) -/

/-- The machine with the oldest log record taken out of the queue. -/
abbrev logTaken (d : Dev) (q : List LogRec) : Dev := { d with rc := { d.rc with logq := q } }

section Log

variable {x : LogRec} {q : List LogRec} (hq : d.rc.logq = x :: q)
include hq

theorem logDurable_lost (hslot : (logTaken d q).logSlot x.sev = none) : d.logDurable = { logTaken d q with rc := { (logTaken d q).rc with lost := satAdd d.rc.lost 1 } } := by
  simp only [Dev.logDurable, hq, hslot]

theorem logDurable_stored {k : Nat} (hslot : (logTaken d q).logSlot x.sev = some k) :
    d.logDurable = { (logTaken d q).put (0x0BF40000 + 64 * k) ((logTaken d q).logBytes x (d.rc.lser + 1)) with rc := { (logTaken d q).rc with lser := d.rc.lser + 1 } } := by
  simp only [Dev.logDurable, hq, hslot, logBase]

end Log

theorem logDurable_empty (hq : d.rc.logq = []) : d.logDurable = d := by
  simp only [Dev.logDurable, hq]

/-- Reading OPT_L latches the high word of OPT. -/
theorem regTouch_optL (d : Dev) : d.regTouch 0x0D000024 = { d with rc := { d.rc with optH := BitVec.ofNat 32 (d.rc.opt / 2 ^ 32 % 2 ^ 32) } } := by
  rw [← bits_eq_div_mod d.rc.opt 63 32]
  rfl

end Recorder

/-- Settles O49: a report, a sample, a request and an end each take the branch that the recorder's flags, its tables and its queue decide. -/
theorem recorderCommands : Obligations.RecorderCommands := by
  unfold Obligations.RecorderCommands
  intro s who src kind det ch v i x q sel rest b c D R w ctl clr trig two cls listed key a old e counted sev new added sampled idle waits E r1 r2 d2 cleared logged lone put P
  refine ⟨?counts, ?enters, ?unlisted, ?swap, ?plain, ?fec, ?cool, ?hot, ?unpowered, ?seals, ?waits, ?skips, ?period, ?noPeriod, ?frameB, ?frameA, ?fields, ?snaps, ?clears, ?notM,
    ?cleared, ?sealed, ?noClear, becomes_of_run rfl rfl, ?opt, ?noRecord, ?record⟩
  case counts => exact fun hlisted hidx hquiet => becomes_counted hlisted (countEvent_listed hidx) hquiet
  case enters =>
    intro hlisted hidx hroom hsev hquiet
    exact becomes_counted hlisted (countEvent_new hidx hroom (hsev.trans_eq (bits_eq_div_mod _ 27 26).symm)) hquiet
  case unlisted => exact fun hno => becomes_of_run rfl ((reportAll_one _).trans (if_neg (Bool.eq_false_iff.1 hno)))
  case swap => exact fun hkey => congrArg (fun f => Host.Outcome.next (s.run f)) (funext fun d => reportAll_swap hkey)
  case plain => exact fun hon h9 h25 => becomes_of_run rfl (measure_plain hon h9 h25)
  case fec => exact fun hon h25 => becomes_of_run rfl (measure_fec hon h25)
  case cool => exact fun hon h9 hv => becomes_of_run rfl (measure_cool hon h9 hv)
  case hot => exact fun hon h9 hv => becomes_of_run rfl (measure_hot hon h9 hv)
  case unpowered => exact fun hoff => becomes_of_run rfl (measure_unpowered hoff)
  case seals => exact fun hmay ⟨hclear, hidle⟩ => becomes_of_allowed rfl hmay (snap_idle hclear hidle _)
  case waits => exact fun hmay ⟨hwriting, hpending⟩ => becomes_of_allowed rfl hmay (snap_waits hwriting hpending _)
  case skips => exact fun hmay hwriting hpending => becomes_of_allowed rfl hmay (snap_skipped hwriting hpending _)
  case period => exact fun ⟨hclear, hidle⟩ hon => becomes_of_run rfl ((if_neg (mt (bits_zero _ 15).symm.trans hon)).trans (snap_idle hclear hidle 3))
  case noPeriod => exact fun hoff => becomes_of_run rfl (if_pos ((bits_zero _ 15).trans hoff))
  case frameB => exact fun hwriting hpending hbuf => becomes_of_run rfl (frameDone_b hwriting hpending hbuf)
  case frameA => exact fun hwriting hpending hbuf => becomes_of_run rfl (frameDone_a hwriting hpending hbuf)
  case fields => exact fun hmay h31 => becomes_of_allowed rfl hmay (writeRcCtl_fields h31)
  case snaps => exact fun hmay h31 ⟨hclear, hidle⟩ => becomes_of_allowed rfl hmay ((writeRcCtl_snap h31).trans (snap_idle (d := E) hclear hidle trig))
  case clears => exact fun hmay hm => becomes_of_allowed rfl hmay ((writeRecorder_clear D who w).trans ((if_pos hm).trans (clearRecorder_eq D w _)))
  case notM => exact fun hmay hm => becomes_of_allowed rfl hmay ((writeRecorder_clear D who w).trans (if_neg (Bool.eq_false_iff.1 hm)))
  case cleared =>
    intro hclear hseal
    exact becomes_of_run rfl ((if_pos (by rw [hclear]; exact List.cons_ne_nil _ _)).trans (congrArg Dev.answerClears (clearDone_unsealed hclear hseal)))
  case sealed =>
    intro hclear g hwait
    exact becomes_of_run rfl ((if_pos (by rw [hclear]; exact List.cons_ne_nil _ _)).trans (congrArg Dev.answerClears (clearDone_sealed hclear hwait)))
  case noClear => exact fun hnone => becomes_of_run rfl (if_neg (not_not_intro hnone))
  case opt => exact fun hmay => becomes_of_run rfl ((if_pos hmay).trans (regTouch_optL D))
  case noRecord => exact fun hnone => becomes_of_run rfl (logDurable_empty hnone)
  case record =>
    intro hq r hslot
    cases r with
    | none => exact becomes_of_run rfl (logDurable_lost hq hslot)
    | some k => exact becomes_of_run rfl (logDurable_stored hq hslot)

end Sys2Proof.Proofs

/-! SUPPORT. The SMBus mailbox: a request that an idle mailbox takes, the form of its arguments, and what each opcode answers (R386, R400). -/

namespace Sys2Proof.Proofs

open Sys2Proof
open Sys2Proof.Machine
open Sys2Proof.Safety

/-! ## Requests taken and answered (R386) -/

/-- The machine whose mailbox has taken a request: busy with its opcode, under its tag. -/
def mailTaken (d : Dev) (op : Nat) (tag : Byte) : Dev := { d with pu := { d.pu with mbox := { state := 1, resp := [], tag := tag.toNat, op := op } } }

/-- An idle mailbox takes a request, which then acts. -/
theorem becomes_of_taken {c : Instr} {s : State} {op : Nat} {tag : Byte} {act : Dev → Dev} {d : Dev} (hc : exec c s = .next (s.run (fun e => e.mboxTake op tag act)))
    (hidle : s.dev.pu.mbox.state = 0) (hd : act (mailTaken s.dev op tag) = d) : Becomes c s d :=
  becomes_of_run hc ((if_pos hidle).trans hd)

/-- A mailbox that is not idle takes no request. -/
theorem becomes_of_not_taken {c : Instr} {s : State} {op : Nat} {tag : Byte} {act : Dev → Dev} (hc : exec c s = .next (s.run (fun e => e.mboxTake op tag act)))
    (hbusy : ¬ s.dev.pu.mbox.state = 0) : Becomes c s s.dev :=
  becomes_of_run hc (if_neg hbusy)

section Mailbox

variable {d e : Dev} {ok : Bool} {act : Dev → Dev}

theorem mboxForm_met (hok : ok = true) (hd : act d = e) : d.mboxForm ok act = e := (if_pos hok).trans hd

/-- Arguments of another form are answered BADREQ. -/
theorem mboxForm_unmet (hok : ¬ ok = true) : d.mboxForm ok act = d.mboxReply 1 [] := if_neg hok

/-! ## Runs and uploads asked for by mail (R377, R385, R410) -/

/-- A slot whose image passes its checks is run; a slot whose image fails them is recorded. -/
theorem runExt_slot {slot : Nat} {args : List Byte} {byMbox : Bool} (hslot : slot < 6) :
    d.runExt slot args byMbox = if d.extGood slot = true then d.startRun slot args byMbox else d.recordBad 3 (8 + slot) := by
  rw [Dev.runExt, if_pos hslot]

theorem store_busy_iff : ¬ (d.pw.imgBusy = false ∧ d.pw.img = none ∧ d.pw.mimg = none) ↔ d.pw.imgBusy = true ∨ d.pw.img.isSome = true ∨ d.pw.mimg.isSome = true := by
  simp only [not_and_or, Bool.not_eq_false, Option.isSome_iff_ne_none, ne_eq]

end Mailbox

/-- Settles O50: an idle mailbox takes the request, its arguments are checked for their form, and the unit it asks for answers. -/
theorem mailboxRequests : Obligations.MailboxRequests := by
  unfold Obligations.MailboxRequests
  intro s tag a op r u D idle taken reply wrong at_ S C P b m no slot k free
  have hrunForm : 1 ≤ a.length → a.length ≤ 17 → slot < 6 → (decide (1 ≤ a.length) && decide (a.length ≤ 17) && decide (slot < 6)) = true := by
    intro hlo hhi hslot
    simp only [Bool.and_eq_true, decide_eq_true_eq]
    exact ⟨⟨hlo, hhi⟩, hslot⟩
  refine ⟨?status, ?rrec, ?rrecForm, ?pdreq, ?pdreqRefused, ?pdstat, ?lkrec, ?stage, ?csign, ?runext, ?runextBusy, ?imgopen, ?imgopenBusy, ?imgdata, ?imgclose, ?imgcloseNone, ?clear, ?reset, ?unknown,
    ?forms, ?busy, ?timeout, ?read, ?readReset⟩
  case status => exact fun hidle => becomes_of_taken rfl hidle (mboxForm_met rfl rfl)
  case rrec =>
    intro hidle hlen hlo hhi hend
    refine becomes_of_taken rfl hidle (mboxForm_met ?_ rfl)
    simp only [Bool.and_eq_true, beq_iff_eq, decide_eq_true_eq]
    exact ⟨⟨⟨hlen, hlo⟩, hhi⟩, hend⟩
  case rrecForm =>
    intro hidle hlen
    refine becomes_of_taken rfl hidle (mboxForm_unmet ?_)
    simp only [Bool.and_eq_true, beq_iff_eq]
    exact fun ⟨⟨⟨hfive, _⟩, _⟩, _⟩ => hlen hfive
  case pdreq =>
    intro hidle hlen hpass
    refine becomes_of_taken rfl hidle (mboxForm_met (beq_iff_eq.2 hlen) ?_)
    dsimp only
    rw [show (mailTaken s.dev 3 tag).pdCheck (leAt a 0 4) = none from hpass]
    rfl
  case pdreqRefused =>
    intro hidle hlen hfail
    refine becomes_of_taken rfl hidle (mboxForm_met (beq_iff_eq.2 hlen) ?_)
    dsimp only
    rw [show (mailTaken s.dev 3 tag).pdCheck (leAt a 0 4) = some r from hfail]
    rfl
  case pdstat => exact fun hidle hlen hdom => becomes_of_taken rfl hidle (mboxForm_met (Bool.and_eq_true_iff.2 ⟨beq_iff_eq.2 hlen, decide_eq_true hdom⟩) rfl)
  case lkrec => exact fun hidle hlen hcore => becomes_of_taken rfl hidle (mboxForm_met (Bool.and_eq_true_iff.2 ⟨beq_iff_eq.2 hlen, decide_eq_true hcore⟩) rfl)
  case stage => exact fun hidle hlen hid => becomes_of_taken rfl hidle (mboxForm_met (Bool.and_eq_true_iff.2 ⟨beq_iff_eq.2 hlen, hid⟩) rfl)
  case csign => exact fun hidle hlen => becomes_of_taken rfl hidle (mboxForm_met (beq_iff_eq.2 hlen) rfl)
  case runext =>
    intro hidle hlo hhi hslot hrun
    have hidleRun : ¬ (mailTaken D 8 tag).pu.run.isSome = true := Option.isSome_iff_ne_none.not.2 (not_not_intro hrun)
    refine becomes_of_taken rfl hidle (mboxForm_met (hrunForm hlo hhi hslot) ((if_neg hidleRun).trans ?_))
    rw [runExt_slot hslot]
    by_cases hgood : D.extGood slot = true
    · exact (if_pos hgood).trans ((if_pos hgood).trans (if_pos hgood).symm)
    · exact (if_neg hgood).trans ((congrArg (fun e : Dev => e.mboxReply 4 []) (if_neg hgood)).trans (if_neg hgood).symm)
  case runextBusy =>
    intro hidle hlo hhi hslot hrun
    exact becomes_of_taken rfl hidle (mboxForm_met (hrunForm hlo hhi hslot) (if_pos (Option.isSome_iff_ne_none.2 hrun)))
  case imgopen =>
    intro hidle hlen hform hfree
    exact becomes_of_taken rfl hidle (mboxForm_met (Bool.and_eq_true_iff.2 ⟨beq_iff_eq.2 hlen, hform⟩) (if_neg fun hbusy => store_busy_iff.2 hbusy hfree))
  case imgopenBusy =>
    intro hidle hlen hform hbusy
    exact becomes_of_taken rfl hidle (mboxForm_met (Bool.and_eq_true_iff.2 ⟨beq_iff_eq.2 hlen, hform⟩) (if_pos (store_busy_iff.1 hbusy)))
  case imgdata =>
    intro hidle hlen hopen
    refine becomes_of_taken rfl hidle (mboxForm_met (decide_eq_true hlen) ?_)
    dsimp only
    rw [show (mailTaken s.dev 0xA tag).pw.mimg = some u from hopen]
    rfl
  case imgclose =>
    intro hidle hopen hbusy
    refine becomes_of_taken rfl hidle (mboxForm_met rfl ?_)
    dsimp only
    rw [show (mailTaken s.dev 0xB tag).pw.mimg = some u from hopen]
    exact if_neg (Bool.eq_false_iff.1 hbusy)
  case imgcloseNone =>
    intro hidle hnone
    refine becomes_of_taken rfl hidle (mboxForm_met rfl ?_)
    dsimp only
    rw [show (mailTaken s.dev 0xB tag).pw.mimg = none from hnone]
    rfl
  case clear => exact fun hidle hlen => becomes_of_taken rfl hidle (mboxForm_met (beq_iff_eq.2 hlen) rfl)
  case reset => exact fun hidle => becomes_of_taken rfl hidle (mboxForm_met rfl rfl)
  case unknown =>
    intro hidle hop
    have hbad : ¬ (1 ≤ op.toNat ∧ op.toNat ≤ 0xD) := by
      rcases hop with rfl | hop
      · decide
      · omega
    exact becomes_of_run rfl ((if_neg hbad).trans (if_pos hidle))
  case forms =>
    intro hidle
    have hwrong : ∀ {i : Instr} {op : Nat} {ok : Bool} {act : Dev → Dev → Dev}, exec i s = .next (s.run (fun e => e.mboxTake op tag (fun g => g.mboxForm ok (act g)))) → ¬ ok = true → wrong i op :=
      fun hc hok => becomes_of_taken hc hidle (mboxForm_unmet hok)
    have hlength : ∀ {k : Nat} {q : Bool}, a.length ≠ k → ¬ (a.length == k && q) = true := fun hlen hok => hlen (beq_iff_eq.1 (Bool.and_eq_true_iff.1 hok).1)
    refine ⟨fun hargs => ⟨hwrong rfl (mt beq_iff_eq.1 hargs), hwrong rfl (mt beq_iff_eq.1 hargs)⟩, fun hlen => hwrong rfl (mt beq_iff_eq.1 hlen),
      fun hlen => ⟨hwrong rfl (hlength hlen), hwrong rfl (hlength hlen), hwrong rfl (mt beq_iff_eq.1 hlen)⟩, fun hform => hwrong rfl ?_, fun hlen => hwrong rfl (mt beq_iff_eq.1 hlen),
      fun hform => hwrong rfl ?_, fun hlen => hwrong rfl (hlength hlen), fun hlen => hwrong rfl (mt of_decide_eq_true (Nat.not_le.2 hlen)), fun hargs => hwrong rfl (mt beq_iff_eq.1 hargs)⟩
    · exact hform.elim hlength fun hid hok => Bool.eq_false_iff.1 hid (Bool.and_eq_true_iff.1 hok).2
    · have hform : a.length = 0 ∨ 17 < a.length ∨ 6 ≤ leAt a 0 1 := hform
      simp only [Bool.and_eq_true, decide_eq_true_eq]
      omega
  case busy =>
    intro hbusy i hi
    simp only [List.mem_cons, List.not_mem_nil, or_false] at hi
    rcases hi with rfl | rfl | rfl | rfl | rfl | rfl | rfl | rfl | rfl | rfl | rfl | rfl | rfl | rfl
    iterate 13 exact becomes_of_not_taken rfl hbusy
    exact becomes_of_run rfl (ite_eq_left_iff.2 fun _ => if_neg hbusy)
  case timeout => exact becomes_of_run rfl rfl
  case read => exact fun hready hstay => becomes_of_run rfl ((if_neg (not_not_intro hready)).trans (if_neg (Bool.eq_false_iff.1 hstay)))
  case readReset => exact fun hready hreset => becomes_of_run rfl ((if_neg (not_not_intro hready)).trans (if_pos hreset))

end Sys2Proof.Proofs

/-! SUPPORT. Pupor running a site extension: one instruction of a run, its loads, stores, pushes and pops, and the ends of a run (R384, R385). -/

namespace Sys2Proof.Proofs

open Sys2Proof
open Sys2Proof.Machine
open Sys2Proof.Safety

/-! ## One instruction -/

/-- The controller past an instruction: PC behind its bytes, and it is counted. -/
def nextInstr (p : Pupor) (bs : List Byte) : Pupor := { p with pc := p.pc + BitVec.ofNat 16 bs.length, count := p.count + 1 }

theorem puDo_met {d : Dev} {bs : List Byte} {act : Dev → Dev} (hat : d.puAt bs = true) : d.puDo bs act = act { d with pu := nextInstr d.pu bs } := if_pos hat

section Instruction

variable {c : Instr} {s : State} {bs : List Byte}

/-- An instruction that the run meets acts on the machine whose PC has moved past it. -/
theorem becomes_of_puDo {act : Dev → Dev} {d : Dev} (hc : exec c s = .next (s.run (fun e => e.puDo bs act))) (hd : act { s.dev with pu := nextInstr s.dev.pu bs } = d)
    (hat : s.dev.puAt bs = true) : Becomes c s d :=
  becomes_of_run hc ((puDo_met hat).trans hd)

/-- An instruction of the registers alone. -/
theorem becomes_of_puReg {f : Pupor → Pupor} {q : Pupor} (hc : exec c s = .next (s.run (fun e => e.puReg bs f))) (hq : f (nextInstr s.dev.pu bs) = q)
    (hat : s.dev.puAt bs = true) : Becomes c s { s.dev with pu := q } :=
  becomes_of_puDo hc (congrArg (fun x => ({ s.dev with pu := x } : Dev)) hq) hat

end Instruction

/-! ## Loads and stores in site mode (R385) -/

/-- An address from which a site extension may load. -/
def Loadable (a : Nat) : Prop := a % 65536 < 0xC000 ∨ 0xE000 ≤ a % 65536

/-- An address to which a site extension may store. -/
def Storable (a : Nat) : Prop := 0xE000 ≤ a % 65536

section Accesses

variable {d : Dev} {a : Nat} {v : Byte}

theorem byte_mod (p : Pupor) (a : Nat) : p.byte (a % 65536) = p.byte a := by
  rw [Pupor.byte, Pupor.byte, Nat.mod_mod]

theorem puLoad_loadable {k : Dev → Byte → Dev} (h : Loadable a) : d.puLoad a k = k d (d.pu.byte a) := by
  rw [← byte_mod]
  exact if_neg fun hout => h.elim (Nat.not_lt.2 hout.1) (Nat.not_le.2 hout.2)

theorem puLoad_aborts {k : Dev → Byte → Dev} (h : ¬ Loadable a) : d.puLoad a k = d.abortRun := by
  obtain ⟨hlo, hhi⟩ := not_or.1 h
  exact if_pos ⟨Nat.not_lt.1 hlo, Nat.not_le.1 hhi⟩

/-- A byte of the RAM changed. -/
def poke (p : Pupor) (a : Nat) (v : Byte) : Pupor := { p with ram := Tab.set p.ram (a % 65536) v }

theorem puStore_storable {k : Dev → Dev} (h : Storable a) : d.puStore a v k = k { d with pu := poke d.pu a v } := if_neg (Nat.not_lt.2 h)

theorem puStore_aborts {k : Dev → Dev} (h : ¬ Storable a) : d.puStore a v k = d.abortRun := if_pos (Nat.not_le.1 h)

theorem puPush_storable {k : Dev → Dev} (h : Storable (d.pu.stk - 1).toNat) :
    d.puPush v k = k { d with pu := { poke d.pu (d.pu.stk - 1).toNat v with stk := d.pu.stk - 1 } } := puStore_storable h

/-- Two bytes pushed, one below the other. -/
theorem puPush_twice {hi lo : Byte} {k : Dev → Dev} (hhi : Storable (d.pu.stk - 1).toNat) (hlo : Storable (d.pu.stk - 1 - 1).toNat) :
    d.puPush hi (fun e => e.puPush lo k)
      = k { d with pu := { poke (poke d.pu (d.pu.stk - 1).toNat hi) (d.pu.stk - 1 - 1).toNat lo with stk := d.pu.stk - 1 - 1 } } :=
  (puPush_storable hhi).trans (puPush_storable hlo)

theorem puPop_loadable {k : Dev → Byte → Dev} (h : Loadable d.pu.stk.toNat) :
    d.puPop k = k { d with pu := { d.pu with stk := d.pu.stk + 1 } } (d.pu.byte d.pu.stk.toNat) := puLoad_loadable h

/-- Two bytes popped, one above the other. -/
theorem puPop_twice {k : Byte → Dev → Byte → Dev} (hlo : Loadable d.pu.stk.toNat) (hhi : Loadable (d.pu.stk + 1).toNat) :
    d.puPop (fun e v => e.puPop (k v))
      = k (d.pu.byte d.pu.stk.toNat) { d with pu := { d.pu with stk := d.pu.stk + 1 + 1 } } (d.pu.byte (d.pu.stk + 1).toNat) :=
  (puPop_loadable hlo).trans (puPop_loadable hhi)

end Accesses

/-- A load instruction whose byte goes to the registers. -/
theorem becomes_of_load {c : Instr} {s : State} {bs : List Byte} {at_ : Dev → Nat} {f : Pupor → Byte → Pupor} {q : Pupor}
    (hc : exec c s = .next (s.run (fun d => d.puDo bs (fun e => e.puLoad (at_ e) (fun g v => g.modPu (fun p => f p v)))))) {a : Nat}
    (ha : at_ { s.dev with pu := nextInstr s.dev.pu bs } = a) (hload : Loadable a) (hq : f (nextInstr s.dev.pu bs) (s.dev.pu.byte a) = q) (hat : s.dev.puAt bs = true) :
    Becomes c s { s.dev with pu := q } := by
  subst ha
  exact becomes_of_puDo hc ((puLoad_loadable hload).trans (congrArg (fun x => ({ s.dev with pu := x } : Dev)) hq)) hat

/-! ## Ports and device accesses (Table 13.13, R385) -/

section Ports

variable {p : Pupor} {n : Nat}

theorem portWrite_da (h : n < 5) : p.portWrite n = some { p with da := Tab.set p.da n p.acc } := if_pos h

theorem portWrite_res (hlo : 0x30 ≤ n) (hhi : n < 0x40) : p.portWrite n = some { p with res := Tab.set p.res (n - 0x30) p.acc } := by
  rw [Pupor.portWrite, if_neg (by omega), if_neg (by omega), if_neg (by omega), if_neg (by omega), if_pos ⟨hlo, hhi⟩]

theorem portWrite_unlisted (h : 0x40 ≤ n) : p.portWrite n = none := by
  rw [Pupor.portWrite, if_neg (by omega), if_neg (by omega), if_neg (by omega), if_neg (by omega), if_neg (by omega)]

/-- Moving past an instruction changes no port. -/
theorem puPort_next (d : Dev) (bs : List Byte) (n : Nat) : ({ d with pu := nextInstr d.pu bs } : Dev).puPort n = d.puPort n := rfl

section In

variable {s : State} {i : Byte} (hat : s.dev.puAt [0x70, i] = true)
include hat

theorem becomes_of_in {v : Nat} (hport : s.dev.puPort i.toNat = some v) :
    let q := nextInstr s.dev.pu [0x70, i]
    Becomes (.puporIn i) s { s.dev with pu := { q with acc := BitVec.ofNat 8 v, ms := if i = 0x40 then BitVec.ofNat 32 s.dev.rc.opt else q.ms } } := by
  refine becomes_of_puDo rfl ?_ hat
  dsimp only
  rw [puPort_next, hport]
  rfl

theorem becomes_of_in_unlisted (hport : s.dev.puPort i.toNat = none) : Becomes (.puporIn i) s ({ s.dev with pu := nextInstr s.dev.pu [0x70, i] } : Dev).abortRun := by
  refine becomes_of_puDo rfl ?_ hat
  dsimp only
  rw [puPort_next, hport]

end In

section Out

variable {s : State} {i : Byte} (hother : i ≠ 0x0A) (hat : s.dev.puAt [0x71, i] = true)
include hother hat

/-- An OUT to a port other than DCTL leaves the controller as the port's write does. -/
theorem becomes_of_out {q : Pupor} (hport : (nextInstr s.dev.pu [0x71, i]).portWrite i.toNat = some q) : Becomes (.puporOut i) s { s.dev with pu := q } := by
  refine becomes_of_run rfl ((if_neg fun h => hother h.1).trans ((puDo_met hat).trans ?_))
  dsimp only
  rw [hport]

theorem becomes_of_out_unlisted (hport : (nextInstr s.dev.pu [0x71, i]).portWrite i.toNat = none) :
    Becomes (.puporOut i) s ({ s.dev with pu := nextInstr s.dev.pu [0x71, i] } : Dev).abortRun := by
  refine becomes_of_run rfl ((if_neg fun h => hother h.1).trans ((puDo_met hat).trans ?_))
  dsimp only
  rw [hport]

end Out

/-- A device access begun. -/
def accessBegun (p : Pupor) (write : Bool) : Pupor := { p with busy := true, refused := false, err := false, dacc := some (write, p.devAddr, p.devData) }

theorem startAccess_read (hfree : p.busy = false) : p.startAccess false = accessBegun p false := if_neg (Bool.eq_false_iff.1 hfree)

theorem startAccess_write (hfree : p.busy = false) (hok : puWriteOk p.devAddr = true) : p.startAccess true = accessBegun p true := by
  simp only [Pupor.startAccess, hfree, hok, Bool.not_true, Bool.and_false, Bool.false_eq_true, if_false, accessBegun]

theorem startAccess_refused (hfree : p.busy = false) (hno : puWriteOk p.devAddr = false) : p.startAccess true = { p with refused := true, err := false } := by
  simp only [Pupor.startAccess, hfree, hno, Bool.not_false, Bool.and_true, Bool.false_eq_true, if_false, if_true]

end Ports

section Ends

variable {d : Dev}

/-- The machine with no device access of the controller under way. -/
abbrev accessFreed (d : Dev) : Dev := { d with pu := { d.pu with busy := false, dacc := none } }

theorem puAccessEnd_made {w : Bool} {a v : Nat} (hacc : d.pu.dacc = some (w, a, v)) (hgood : d.puFault a = false) : d.puAccessEnd false = (accessFreed d).puAccess w a v := by
  simp only [Dev.puAccessEnd, hacc, hgood, Bool.or_self, Bool.false_eq_true, if_false]
  rfl

theorem puAccessEnd_failed {w err : Bool} {a v : Nat} (hacc : d.pu.dacc = some (w, a, v)) (hbad : err = true ∨ d.puFault a = true) :
    d.puAccessEnd err = { d with pu := { d.pu with busy := false, dacc := none, err := true } } := by
  simp only [Dev.puAccessEnd, hacc, Bool.or_eq_true, if_pos hbad]
  rfl

/-! ## The ends of a run (R385) -/

/-- A run that no mailbox request waits for ends with no answer. -/
theorem endRun_site (hsite : d.pu.byMbox = false) (aborted : Bool) : d.endRun aborted = { d with pu := { d.pu with run := none, waiting := 0, aborted := aborted } } := by
  have hkept : ({ d.pu with run := none, waiting := 0, aborted := aborted, byMbox := false } : Pupor) = { d.pu with run := none, waiting := 0, aborted := aborted } := by
    rw [← hsite]
  refine (if_neg fun h => Bool.eq_false_iff.1 hsite h.1).trans ?_
  exact congrArg (fun x => ({ d with pu := x } : Dev)) hkept

/-! ## Lockup recovery (R383) -/

/-- What bars the automatic recovery of a locked core. -/
def Barred (d : Dev) (n : Nat) : Prop :=
  d.pw.lkctl.toNat.testBit 31 = false ∨ ((d.lkRec n).v = true ∧ (d.lkRec n).fail = 1 ∧ d.domState (72 + (d.lkRec n).bank) ≠ 1) ∨ 4 ≤ d.recentLocks n

section Locked

variable {n : Nat} (hlocked : d.coreLocked n = true)
include hlocked

theorem autoRecover_auto (hxv : d.pw.lkctl.toNat.testBit 7 = false) (hfree : ¬ Barred d n) : d.autoRecover n = d.recoverCore n :=
  (if_neg (not_not_intro hlocked)).trans ((if_neg (Bool.eq_false_iff.1 hxv)).trans (if_neg fun h => hfree (h.imp_left Bool.eq_false_iff.2)))

theorem autoRecover_barred (hxv : d.pw.lkctl.toNat.testBit 7 = false) (hbar : Barred d n) : d.autoRecover n = d :=
  (if_neg (not_not_intro hlocked)).trans ((if_neg (Bool.eq_false_iff.1 hxv)).trans (if_pos (hbar.imp_left Bool.eq_false_iff.1)))

/-- Under XV the extension that LK_CTL names is started, its argument the core's number. -/
theorem autoRecover_extension (hxv : d.pw.lkctl.toNat.testBit 7 = true) (hrun : d.pu.run = none) :
    d.autoRecover n = d.runExt (d.pw.lkctl.toNat % 8) [BitVec.ofNat 8 n] false := by
  have hslot : bits d.pw.lkctl.toNat 2 0 = d.pw.lkctl.toNat % 8 := bits_zero _ 2
  rw [← hslot]
  exact (if_neg (not_not_intro hlocked)).trans ((if_pos hxv).trans (if_pos (Option.isNone_iff_eq_none.2 hrun)))

end Locked

end Ends

/-- Settles O51: the run meets each instruction at PC, and its loads, stores, ports and services go on or abort it; the ends look at what is under way. -/
theorem puporInstructions : Obligations.PuporInstructions := by
  unfold Obligations.PuporInstructions
  intro s i r a core err w addr v bs D p nextOp runs stops res sum dif cmp cy to16 ok m at_ poke ram jump st back begins free lk rec_ barred
  refine ⟨?loads, ?stores, ?addresses, ?pair, ?sums, ?differences, ?logic, ?shifts, ?jumps, ?pushes, ?pops, ?reads, ?writes, ?begins, ?access, ?waits, ?ends, ?limit, ?lockup⟩
  case loads => exact ⟨fun hat => becomes_of_puReg rfl rfl hat, fun h hat => becomes_of_load rfl rfl h rfl hat, fun h hat => becomes_of_load rfl rfl h rfl hat, fun h hat => becomes_of_load rfl rfl h rfl hat⟩
  case stores => exact ⟨fun h hat => becomes_of_puDo rfl (puStore_storable h) hat, fun h hat => becomes_of_puDo rfl (puStore_storable h) hat, fun h hat => becomes_of_puDo rfl (puStore_storable h) hat⟩
  case addresses => exact ⟨fun hat => becomes_of_puReg rfl rfl hat, fun hat => becomes_of_puReg rfl rfl hat, fun hlo hhi hat => becomes_of_puDo rfl ((puLoad_loadable hlo).trans (puLoad_loadable hhi)) hat⟩
  case pair => exact ⟨fun hlo hhi hat => becomes_of_puDo rfl ((puStore_storable hlo).trans (puStore_storable hhi)) hat, fun hat => becomes_of_puReg rfl rfl hat, fun hat => becomes_of_puReg rfl rfl hat⟩
  case sums => exact ⟨fun hat => becomes_of_puReg rfl rfl hat, fun hat => becomes_of_puReg rfl rfl hat, fun hat => becomes_of_puReg rfl rfl hat, fun h => ⟨fun hat => becomes_of_load rfl rfl h rfl hat, fun hat => becomes_of_load rfl rfl h rfl hat⟩⟩
  case differences => exact ⟨fun hat => becomes_of_puReg rfl rfl hat, fun h => ⟨fun hat => becomes_of_load rfl rfl h rfl hat, fun hat => becomes_of_load rfl rfl h rfl hat, fun hat => becomes_of_load rfl rfl h rfl hat⟩, fun hat => becomes_of_puReg rfl rfl hat⟩
  case logic => exact ⟨fun hat => becomes_of_puReg rfl rfl hat, fun hat => becomes_of_puReg rfl rfl hat, fun hat => becomes_of_puReg rfl rfl hat⟩
  case shifts => exact ⟨fun hat => becomes_of_puReg rfl rfl hat, fun hat => becomes_of_puReg rfl rfl hat, fun hat => becomes_of_puReg rfl rfl hat, fun hat => becomes_of_puReg rfl rfl hat⟩
  case jumps => exact ⟨fun hat => becomes_of_puReg rfl rfl hat, fun hat => becomes_of_puReg rfl rfl hat, fun hat => becomes_of_puReg rfl rfl hat, fun hat => becomes_of_puReg rfl rfl hat, fun hat => becomes_of_puReg rfl rfl hat, fun hat => becomes_of_puReg rfl rfl hat, fun hat => becomes_of_puReg rfl rfl hat⟩
  case pushes =>
    intro hst
    have hhigh : Storable (p.stk - 1).toNat := by
      unfold Storable
      bv_omega
    have hlow : Storable (p.stk - 1 - 1).toNat := by
      unfold Storable
      bv_omega
    exact ⟨fun hat => becomes_of_puDo rfl (puPush_twice hhigh hlow) hat, fun hat => becomes_of_puDo rfl (puPush_storable hhigh) hat⟩
  case pops =>
    intro hlo hhi
    have hfirst : Loadable p.stk.toNat := by
      unfold Loadable
      bv_omega
    have hsecond : Loadable (p.stk + 1).toNat := by
      unfold Loadable
      bv_omega
    exact ⟨fun hat => becomes_of_puDo rfl (puPop_twice hfirst hsecond) hat, fun hat => becomes_of_puDo rfl (puPop_loadable hfirst) hat⟩
  case reads => exact ⟨fun hport hat => becomes_of_in hat hport, fun hport hat => becomes_of_in_unlisted hat hport⟩
  case writes =>
    have hother : i.toNat ≠ 0x0A → i ≠ 0x0A := mt fun h => h ▸ rfl
    exact ⟨fun hda hat => becomes_of_out (hother (by omega)) hat (portWrite_da hda), fun hlo hhi hat => becomes_of_out (hother (by omega)) hat (portWrite_res hlo hhi),
      fun hno hat => becomes_of_out_unlisted (hother (by omega)) hat (portWrite_unlisted hno)⟩
  case begins =>
    have haccess : ∀ {q : Pupor} {wr : Bool}, (nextInstr p [0x71, 0x0A]).startAccess wr = q → ({ D with pu := (nextInstr p [0x71, 0x0A]).startAccess wr } : Dev) = { D with pu := q } :=
      congrArg fun x => ({ D with pu := x } : Dev)
    exact ⟨fun hacc hfree hat => becomes_of_run rfl ((if_pos hacc).trans ((if_pos hat).trans (haccess (startAccess_read hfree)))),
      fun hacc hfree hok hat => becomes_of_run rfl ((if_pos hacc).trans ((if_pos hat).trans (haccess (startAccess_write hfree hok)))),
      fun hacc hfree hno hat => becomes_of_run rfl ((if_pos hacc).trans ((if_pos hat).trans (haccess (startAccess_refused hfree hno))))⟩
  case access => exact ⟨fun hacc hgood => becomes_of_run rfl (puAccessEnd_made hacc hgood), fun hacc hbad => becomes_of_run rfl (puAccessEnd_failed hacc hbad)⟩
  case waits =>
    exact ⟨fun hat => becomes_of_puDo rfl (if_pos rfl) hat, fun hcode hat => becomes_of_puDo rfl (if_neg hcode) hat, fun hwait => becomes_of_run rfl (if_pos hwait),
      fun hat => becomes_of_puReg rfl rfl hat, fun hwait => becomes_of_run rfl (if_pos hwait)⟩
  case ends =>
    exact ⟨fun hat => becomes_of_puReg rfl rfl hat, fun hsite hat => becomes_of_puDo rfl (endRun_site (d := { D with pu := nextInstr p [0x74] }) hsite false) hat,
      fun hno hat => becomes_of_run rfl ((if_neg (Bool.eq_false_iff.1 hno)).trans (if_pos hat)), fun hout hat => becomes_of_puDo rfl (puStore_aborts hout) hat,
      fun hout hat => becomes_of_puDo rfl (puLoad_aborts hout) hat⟩
  case limit => exact ⟨fun hrun hlimit => becomes_of_run rfl (if_pos ⟨hrun, hlimit⟩), fun hsite => endRun_site hsite true⟩
  case lockup =>
    exact ⟨fun hlocked hxv hfree => becomes_of_run rfl (autoRecover_auto hlocked hxv hfree), fun hlocked hxv hbar => becomes_of_run rfl (autoRecover_barred hlocked hxv hbar),
      fun hlocked hxv hrun => becomes_of_run rfl (autoRecover_extension hlocked hxv hrun)⟩

end Sys2Proof.Proofs
